-- ==== Sys2Proof/Word.lean ====
section
/-!
DEFINITION. Words and the plainest arithmetic on field values: a register value is a natural number below 2^width,
and the two's-complement reading of such a number (R9, R15).
-/

namespace Sys2Proof

/-- A 32-bit bus word (R9). -/
abbrev Word := BitVec 32

/-- A byte of memory. -/
abbrev Byte := BitVec 8

/-- One of the two bridges, bridge A (0) and bridge B (1). -/
abbrev Bridge := Fin 2

/-- One of the twelve gate channels GC0-GC11. -/
abbrev Chan := Fin 12

/-- The lowest `w` bits of `v` read as a two's-complement number (R15). -/
def toSigned (w v : Nat) : Int :=
  if 2 * (v % 2 ^ w) < 2 ^ w then ((v % 2 ^ w : Nat) : Int) else ((v % 2 ^ w : Nat) : Int) - ((2 ^ w : Nat) : Int)

/-- The lowest `w` bits of the two's-complement form of `x` (R15). -/
def ofSigned (w : Nat) (x : Int) : Nat := (x % ((2 ^ w : Nat) : Int)).toNat

/-- Bit `i` of `v`. -/
def natBit (v i : Nat) : Bool := decide (v / 2 ^ i % 2 = 1)

/-- 1 for true, 0 for false: a flag as a one-bit field holds it. -/
def b2n (b : Bool) : Nat := if b then 1 else 0

/-- `n` bits of `v` from bit `lo`. -/
def natField (v lo n : Nat) : Nat := v / 2 ^ lo % 2 ^ n

end Sys2Proof
end

