-- ==== Sys2Proof/Syntax.lean ====
section
/-! DEFINITION. The commands of the module, one constructor per row of the operation and event table (opcode_table.json).
The operands carry what comes from outside the module: who accesses, what a converter measured, which frame arrived,
whether a signature verified. -/

namespace Sys2Proof

/-- The masters of the fabric (R35, Table 1-5, Table 1-7): Truss, the dictionary engine, the spans (a split span is two
masters: hart 0 keeps the name of its span), and the DMA channels 0-15. -/
inductive Master where
  | truss | dict | span0 | span0h1 | span1 | span1h1 | dma (c : Fin 16)
deriving DecidableEq, Repr

/-- The blocks that have a lock bit (R13). -/
inductive LockBlock where
  | analog | pos (p : Fin 2) | engine | modulator (x : Fin 2) | gate | thermal | keystone | collector | safety
  | can (p : Fin 4) | kinak | dictionary | ledger
deriving DecidableEq, Repr

/-- The signatures of the harts of Span0 (a0, a1) and Span1 (b0, b1), as an entry of their domain into retention scrubs them (R338). -/
structure SpanSigs where
  a0 : BitVec 64
  a1 : BitVec 64
  b0 : BitVec 64
  b1 : BitVec 64
deriving DecidableEq, Repr

/-- What a hart gives out in one cycle (R309): nothing, a fetch or data request with its address, byte strobes and write data, a claim or
completion of an interrupt, the wait-for-interrupt indication, or the debug halt acknowledgement. -/
inductive BusOut where
  | none
  | fetch (a : BitVec 32)
  | load (a : BitVec 32) (strobes : BitVec 4)
  | store (a : BitVec 32) (strobes : BitVec 4) (v : BitVec 32)
  | claim
  | complete (src : BitVec 9)
  | wfi
  | haltAck
deriving DecidableEq, Repr

/-- The samples of an asynchronous input by the harts of a target (R325, R328), those of a span in the first two: of one class-0 line in
eight consecutive sampling cycles, or of the timebase. -/
inductive Samples where
  | line (x0 x1 x2 : BitVec 8)
  | time (x0 x1 x2 : BitVec 64)
deriving DecidableEq, Repr

/-- A read of the timebase (R396, R469): of `TB.CNTL`, of `TB.NETL`, or of the CSR `time` or `timeh`, with how many ticks after the
present count each sampler of the target takes its sample (R324). The other reads of a low word that latch its high word take the same command
(log 190): `PIER.KACNTL` (R470), and of the ledger `IMPL`, `EXPL`, `DISL`, `CHGL` (i = 0-3) and `SEQL` (i = 4) (R496). -/
inductive TimeRead where
  | cntl
  | netl
  | kacntl
  | ledger (i : Fin 5)
  | csr (high : Bool) (k0 k1 k2 : BitVec 4)
deriving DecidableEq, Repr

/-- The ownership pages (Table 1-6): 0 CPM, 1 analogue sensing, 2 POS0, 3 POS1, 4 capture, 5 timebase. -/
abbrev Page := Fin 6
/-- The low-voltage supplies beside VKA (R60): VCORE, VANA and VIO, which are supervised (R61), and VREF. -/
inductive Supply where
  | vcore | vana | vio | vref
deriving DecidableEq, Repr

/-- What a group trigger comes from (Table 4-7): a modulator's trigger line, the tick start, or a written SWTRIG. -/
inductive TrigSrc where
  | modulator (x : Fin 2) | tick | software (g : Fin 4)
deriving DecidableEq, Repr

/-- What a calibration slot measures (R121-R124, Table 4-13): whether the pre-shadow difference exceeds 2 LSB, at first and
after the restart; whether the rotating spare passes its own calibration in that restart; the required offset trim
(LSB / 16) and gain trim (ppm), the DNL trim and whether the code widths are within limits; the largest residual (LSB);
the mean post-shadow difference (LSB / 16); whether the hot-standby shadow differs by more than 2 LSB; whether the other
spare then passes its self-calibration. -/
structure CalMeasure where
  pre1     : Bool
  pre2     : Bool
  spareOk  : Bool
  offset   : Int
  gainPpm  : Int
  dnl      : Int
  dnlOk    : Bool
  residual : Nat
  post16   : Int
  hotBad   : Bool
  otherOk  : Bool
deriving DecidableEq, Repr
/-- A sine and cosine result of an excitation period (R148): the excitation phase of its sampling instant as a 22-bit
fraction of the period, the two codes, and whether either entry carries the over-range flag. -/
structure ResSample where
  phase : BitVec 22
  xs    : Int
  xc    : Int
  ovr  : Bool
deriving DecidableEq, Repr

/-- A write to a compare unit that COMPARE_ARM judges (R158): of `CMPVAL`, or of `CMPCTL`. -/
inductive CmpWrite where
  | value (v : Word) | control (v : Word)
deriving DecidableEq, Repr
/-- A write to a modulator that MODE_WRITE judges: of `CTL` or of `DEAD`. -/
inductive ModWrite where
  | ctl (v : Word) | dead (v : Word)
deriving DecidableEq, Repr

/-- A source of tick requests beside the carrier points (R170, R347): `TDIV`, or a delivery to interrupt target 5. -/
inductive TickSrc where
  | tdiv | source (i : Fin 512)
deriving DecidableEq, Repr
/-- The conditions of Table 10-4: a junction at `TJWARN` or `TJSTOP`, an island die at 150 or 165 °C, the controller die at
155 °C. -/
inductive ThermCond where
  | tjWarn (n : Chan)
  | islWarn (n : Chan)
  | tjStop (n : Chan)
  | islStop (n : Chan)
  | dieStop
deriving DecidableEq, Repr

/-- A clear of fault status: a write of 1 bits to `STATUSL` or `STATUSH` by a master, or a write to `0x2801:01`. -/
inductive StatusClear where
  | reg (m : Master) (high : Bool) (v : Word)
  | object (v : BitVec 8)
deriving DecidableEq, Repr

/-- What an ECC check finds: a corrected error, an uncorrectable one in SRAM, or one in flash or MRAM. -/
inductive EccKind where
  | corrected | sram | nonvolatile
deriving DecidableEq, Repr

/-- A CAN frame: its format (0 classical base, 1 classical extended, 2 FD base, 3 FD extended, 4 XL), RTR, BRS, ESI, SEC, VCID,
SDT, priority identifier (XL), identifier or acceptance field, and data. -/
structure CanFrame where
  fmt  : Fin 5
  rtr  : Bool
  brs  : Bool
  esi  : Bool
  sec  : Bool
  vcid : BitVec 8
  sdt  : BitVec 8
  pid  : BitVec 11
  id   : BitVec 32
  data : List (BitVec 8)
deriving DecidableEq, Repr

/-- What a bus error adds under ISO 11898-1: a transmitter's error (TEC + 8), a receiver's error (REC + 1), and a receiver's
error after its own error flag (REC + 8). -/
inductive CanErr where
  | transmit | receive | receiveDominant
deriving DecidableEq, Repr

/-- How an attempt to transmit ends. -/
inductive TxEnd where
  | sent | lost | error
deriving DecidableEq, Repr

/-- A write to a port's configuration: the fields `EN`, `LBK`, `FDEN`, `XLEN` of `CTL`, or a bit-timing register. -/
inductive CanWrite where
  | ctl (v : Word) | nbt (v : Word) | dbt (v : Word) | xbt (v : Word)
deriving DecidableEq, Repr

/-- A command to capture: a write of a channel's `CMDc` bit by a master, or of a mask to `0x3060`. -/
inductive CapCmd where
  | reg (m : Master) (c : Fin 8)
  | object (mask : BitVec 8)
deriving DecidableEq, Repr

/-- The commands and events, in the order of the table, but for SUPPLY_RESTORED, IDLE, SYMBOL_ERROR and PWR_FAIL_N_FALL, which stand with their families (a limit of
Lean's compiler on a constructor with operands past the 244th). -/
inductive Instr where
  /-- A write to a register field that has no behaviour of its own sets RW fields, clears W1C bits, sets W1S bits and applies RWL fields while the lock is 0. (R11) Operands: the writing master, the byte address, the data. -/
  | registerWrite (m : Master) (a d : Word)
  /-- A write of 1 to a block's lock bit first takes any RWL values carried in the same write and then freezes the RWL fields until the domain is reset. (R13) Operands: the writing master, the block whose register with the lock bit is written, the data. -/
  | lockSet (m : Master) (k : LockBlock) (d : Word)
  /-- An access to an unmapped address, to a region in retention or off, or by a forbidden master returns 0 or has no effect, gives a bus error, and is recorded with the bus-protection line raised. (R32) Operands: the master, the byte address, write or read. -/
  | unmappedAccess (m : Master) (a : Word) (write : Bool)
  /-- A write to an owner register's REQ takes an allowed function ID and records the writer in REQBY, or behaves as a forbidden write. (R38) Operands: the master, page, resource and function ID. -/
  | ownerReqWrite (m : Master) (pg : Page) (i : Fin 32) (id : BitVec 8)
  /-- A write of 1 to OWNCMT.CMT judges every request of the committing master on the page and applies all of the claims or none of them. (R39) Operands: the committing master and the page. -/
  | ownershipCommit (m : Master) (pg : Page)
  /-- A write to CPM.DOMCTLn.GATE stops the domain clock, or is refused with REFUSED set while a bridge is active. (R27) Operands: the master, the clock domain and the value of GATE. -/
  | domainGateWrite (m : Master) (n : Fin 9) (v : Bool)
  /-- A change of EFF_THROT takes effect at the next alignment epoch. (R26) Operand: the clock domain. -/
  | throttleChange (n : Fin 9)
  /-- Every 100 µs the monitor oscillator checks the root count and raises the root-clock line when it lies outside ±2%. (R30) Operand: the root cycles counted in 2,000 monitor cycles. -/
  | rootClockCheck (count : Nat)
  /-- VKA rising above 1.8 V resets the whole module including the Pier, clears retention memory and sets POR. (R74) -/
  | powerOnReset
  /-- A supply below its operating minimum for 2 µs raises the supply line. (R61) Operand: the supply. -/
  | supplyUndervoltage (v : Supply)
  /-- A supervised supply that returns above its operating minimum without having caused a reset deasserts the supply line, so it can be cleared. (R61) Operand: the supply. -/
  | supplyRestored (v : Supply)
  /-- A supply below its reset threshold asserts the internal reset of everything except the Pier within 1 µs. (R61) Operand: the supply that fell below its reset threshold. -/
  | supplyReset (v : Supply)
  /-- RESET_N held low for at least 1 µs resets all except the Pier and sets PIN. (R74) -/
  | pinReset
  /-- A Truss write of 0x5EC0_0D1E to LC.SWRST resets all except the Pier and sets SOFT. (R75) Operands: the writing master and the value written to LC.SWRST. -/
  | softwareReset (m : Master) (d : Word)
  /-- Once every supply has been in range for 1 ms in order, the Pier releases the internal reset, and the boot ROM starts, samples BOOT_MODE and reads the OTP. (R60) Operand: BOOT_MODE1:0 at the release. -/
  | internalResetRelease (mode : BitVec 2)
  /-- When the root PLL locks, the clocks switch to the root and the start continues with the key store, the BIST record, image verification and the dictionary restore. (R78) Operands: the persistent objects (index × 256 + sub) with one bad copy and with two bad copies; the copies of the safety parameter set (0 both good and equal, 1 one bad, 2 none usable); and the converters that fail the calibration of R132. -/
  | rootPllLocked (badOne badBoth : List Nat) (sets : Fin 3) (calFailed : List (Fin 34))
  /-- With no root lock 10 ms after reset release, ROOT_FAIL is set and the module stays in INIT, retrying every 100 ms. (R81) -/
  | rootLockTimeout
  /-- Every 100 ms the ROM retries the PLL lock; a lock continues the start at the key-store event. (R81) -/
  | rootLockRetry
  /-- The full BIST at start ends; the start restarts from its first event with the outcome taken from the Pier, or enters LOCKOUT on failure. (R476) Operands: the outcome, the failing partition code and its signature. -/
  | startBistComplete (pass : Bool) (part : BitVec 8) (sig : BitVec 64)
  /-- Resident firmware loads the port and Kinak registers, enables the ports, releases the spans and enters STANDBY. (R414) -/
  | canPortsEvent
  /-- With island links up and the thermal model initialised, the module enters READY, or SAFE, and releases FAULT_N if no fault is uncleared. (R439) -/
  | startSequenceComplete
  /-- LC.FLCTL.CMD 0x1 programs the 16-byte line at FLADDR, or is refused or ignored as an overrun. (R90) Operand: the writing master. -/
  | flashProgram (m : Master)
  /-- LC.FLCTL.CMD 0x2 erases the 8 KiB sector that holds FLADDR. (R90) Operand: the writing master. -/
  | flashEraseSector (m : Master)
  /-- LC.FLCTL.CMD 0x3 erases the bank that holds FLADDR. (R90) Operand: the writing master. -/
  | flashEraseBank (m : Master)
  /-- A flash command ends; BUSY clears and ERR is set if the read-back fails. (R90) Operand: whether the read-back finds what was written. -/
  | flashCommandDone (readBackOk : Bool)
  /-- A read of 0x7010:01 issues a 16-byte nonce for one transition request. (R94) Operand: the nonce drawn. -/
  | lcNonceRead (nonce : BitVec 128)
  /-- A nonce lapses 60 s after it is read. (R94) -/
  | nonceLapse
  /-- A write to 0x7010:05 checks state, transition and signatures, then burns the target state's two fuse words. (R95) Operand: the target state code. -/
  | lcTransitionStart (target : BitVec 8)
  /-- The end of the second fuse-word burn performs a life-cycle transition reset. (R96) Operand: which of the two words of the target state has been burned. -/
  | fuseBurnComplete (word : Fin 2)
  /-- A write to a boot-option object in PROVISION burns the fuses, which take effect at the next reset. (R84) Operands: the sub-index of 0x2010 and the value. -/
  | bootOptionWrite (sub : BitVec 8) (value : BitVec 512)
  /-- The stepped operation 0x7012 adds burned bits to ARB or the revocation bits after a customer-key signature. (R84) Operands: the new floor, the revocation bits to burn, and whether the customer signature verifies. -/
  | arbRaise (arb : Fin 64) (rev0 rev1 : Bool) (custOk : Bool)
  /-- A conversion result is presented to the band unit, to capture, to Q.LASTt and to the ledger in CECLK cycle 41 after its sampling instant. (R116) Operands: slice number and input, the differential input voltage and VREF in nV at the sampling instant, and the ADCCLK cycle of that instant. -/
  | resultPresented (k : Fin 32) (i : Fin 4) (v : Int) (vref : Nat) (n : Nat)
  /-- An entry is written to its result queue in slice order by cycle 72, under the overflow policy. (R116) Operand: the queue. -/
  | queueEntryWrite (q : Fin 8)
  /-- A read of Q.POPq returns the entry at RIDX and advances RIDX, or returns 0xFFFF_FFFF when the queue is empty. (R118) Operands: the reading master and the queue. -/
  | queuePop (m : Master) (q : Fin 8)
  /-- A write to RIDX discards entries forward only, as the distance from RIDX and LEVEL decide. (R509) Operands: the writing master, the queue and the value written to RIDX. -/
  | queueDiscard (m : Master) (q : Fin 8) (v : BitVec 9)
  /-- A write of 1 to OVF clears it and sets LOST to 0. (R119) Operands: the writing master, the queue, and whether an entry of the queue is written in the same cycle. -/
  | queueOvfClear (m : Master) (q : Fin 8) (entry : Bool)
  /-- A write to AS.SLCFGs takes effect only for a master that may claim for the slice's owner. (R109) Operands: the writing master, the slice and the value. -/
  | sliceConfigWrite (m : Master) (k : Fin 32) (v : Word)
  /-- At the first alignment epoch after the write, a new MODE, SMASK or TMASK takes effect on the slice's scan. (R111) Operand: the slice. -/
  | scanModeChange (k : Fin 32)
  /-- A trigger event takes effect at the next alignment epoch and converts the TMASK inputs of every slice of the group. (R112) Operands: what triggers, and the slices whose scan slot starts at the epoch. -/
  | groupTrigger (src : TrigSrc) (atSlot : List (Fin 32))
  /-- A write of 1 to AS.GRPn.SWTRIG triggers the group at the next alignment epoch. (R112) Operands: the writing master and the group. -/
  | groupSwtrig (m : Master) (g : Fin 4)
  /-- Every CALGAP a calibration slot begins and the rotating spare visits and calibrates the next slice number or spare. (R120) Operand: what the slot measures. -/
  | calSlotStart (r : CalMeasure)
  /-- A write of CALNOW, or of object 0x2103:03, requests a visit to the named slice number when the visit in progress ends. (R120) Operands: the master, whether the request comes through object 0x2103:03, and the slice number. -/
  | calnowRequest (m : Master) (obj : Bool) (k : BitVec 8)
  /-- A converter that produces no result within 32 ADCCLK cycles has failed, and a spare replaces it from the next alignment epoch. (R125) Operands: the slice number, and the ADCCLK cycle of the sampling instant that gave no result. -/
  | converterNoResult (k : Fin 32) (n : Nat)
  /-- An accepted quadrature transition moves COUNT, the direction and ANG_M. (R141) Operands: the block, the accepted levels of A and B after the transition, and the CECLK cycle. -/
  | encoderEdge (p : Fin 2) (a b : Bool) (t : Nat)
  /-- An index event captures COUNT, references the block or judges the mismatch, and applies the index policy. (R143) Operands: the block and the accepted level of Z at this accepted count. -/
  | indexEvent (p : Fin 2) (z : Bool)
  /-- A write of CMPVAL with ARM 1, or the setting of ARM, judges the value against the count and sets BEHIND. (R158) Operands: the writing master, the block, the unit and the write. -/
  | compareArm (m : Master) (p : Fin 2) (i : Fin 4) (w : CmpWrite)
  /-- An accepted Hall edge sets the sector and its boundary angle, moves COUNT and issues a commutation event. (R145) Operands: the block, the accepted code 4U + 2V + W, and the CECLK cycle. -/
  | hallEdge (p : Fin 2) (c : BitVec 3) (t : Nat)
  /-- With no Hall edge for 20 ms, ANG_E is set to the centre of the present sector. (R146) Operand: the block. -/
  | hallTimeout (p : Fin 2)
  /-- At the end of an excitation period the block demodulates the sine and cosine results into theta_res and MEAS. (R148) Operands: the block, the results of the period, and the CECLK cycle at its end. -/
  | resolverPeriodEnd (p : Fin 2) (rs : List ResSample) (t : Nat)
  /-- At the end of each speed window SPEED is updated and the speed-window source fires. (R151) Operand: the block. -/
  | speedWindowEnd (p : Fin 2)
  /-- When every fault bit is cleared and no fault persists, the block leaves FAULT for UNREF. (R154) Operand: the block. -/
  | posFaultRecovery (p : Fin 2)
  /-- The emulator steps its outputs one quadrature state, at least MINSP cycles after the last, and sets LAG when it falls behind. (R161) Operand: the block. -/
  | emuTransition (p : Fin 2)
  /-- After CONVN consecutive ticks within INNOVTHR the observer enters LOCKED. (R163) Operand: the block. -/
  | observerLock (p : Fin 2)
  /-- After LOSTN consecutive ticks above INNOVTHR the observer enters LOST and is re-initialised from a healthy sensor. (R163) Operand: the block. -/
  | observerLost (p : Fin 2)
  /-- Sensor and observer angles that differ beyond XTOL for XN ticks set DISAGREE and raise its line. (R163) Operand: the block. -/
  | observerDisagreement (p : Fin 2)
  /-- A tick request takes effect at the next alignment epoch, or is dropped when it would start a tick less than 12.5 µs after the last one. (R170) Operand: the source. -/
  | tickRequest (src : TickSrc)
  /-- A tick snapshots its inputs and runs stages S1–S10 for both bridges, committing the update groups and band parameters. (R171) Operands: whether the commit of bridge A's, and B's, update group falls in its modulator's reload guard (R213). -/
  | tickStart (guardA guardB : Bool)
  /-- With no tick for 250 µs while a bridge is active, LOSS is set and the tick-overrun line is raised. (R170) -/
  | tickLoss
  /-- A torque check not completed before the next tick raises the tick-overrun line and is discarded. (R21) -/
  | tickOverrun
  /-- A write to ROLE takes effect in OFF and IDLE, and otherwise sets ROLEREJ. (R168) Operands: the writing master, the bridge and the role. -/
  | roleWrite (m : Master) (b : Bridge) (v : BitVec 3)
  /-- A start request judges every start condition of the bridge and, if they all hold, raises the STO path test. (R442) Operand: the bridge. -/
  | bridgeStart (b : Bridge)
  /-- A stop request applies an orderly stop to an ACTIVE bridge. (R442) Operand: the bridge. -/
  | bridgeStop (b : Bridge)
  /-- At the end of the 10 µs STO path test, the start is accepted and PRESET follows at the next tick, or PATHF is set. (R370) Operands: the bridge, and whether `GL.BSTATx.STO` followed the test request within 5 µs. -/
  | stoPathTestEnd (b : Bridge) (follows : Bool)
  /-- When the battery timeout expires, the loop-4 limits are replaced by the fallback and BMS_STALE is set. (R180) Operand: the bridge. -/
  | batteryLimitTimeout (b : Bridge)
  /-- A write of START, or of 0x3006:01, starts the test-signal generator at the next tick, or is refused. (R193) Operands: the writing master, whether through the object, and the bridge. -/
  | testStart (m : Master) (obj : Bool) (b : Bridge)
  /-- After LEN ticks the generator stops and TSTATE becomes DONE. (R193) Operand: the bridge. -/
  | testDone (b : Bridge)
  /-- A phase error above 0.1 for 64 formed ticks sets ILV. (R188) Operand: the bridge. -/
  | interleaveLoss (b : Bridge)
  /-- Setting EN starts the carrier counter at the next alignment epoch, at a zero point with frame index 0. (R205) Operand: the modulator. -/
  | carrierStart (x : Bridge)
  /-- At the zero point the ZERO event occurs, the frame index advances, and a reload may take place. (R205) Operand: the modulator. -/
  | carrierZeroPoint (x : Bridge)
  /-- At the period point the PRD event occurs, the down-count begins, and a reload may take place. (R205) Operand: the modulator. -/
  | carrierPeriodPoint (x : Bridge)
  /-- A compare event acts through its prescaler, sets EVSTAT and may pulse the trigger line. (R223) Operands: the modulator, the compare, and whether the counter runs down. -/
  | compareEvent (x : Bridge) (i : Fin 5) (down : Bool)
  /-- A write of GUARD.CMT copies the shadows to pending, under the reload guard. (R211) Operands: the writing master, the modulator, and whether the write completes in the reload guard (R213). -/
  | groupCommit (m : Master) (x : Bridge) (guard : Bool)
  /-- With GRP 0 a fabric write to a group register makes that register pending, under the reload guard. (R212) Operands: the writing master, the modulator, the register (0 `PRD`, 1-5 `CMP0`-`CMP4`, 6 `VA`, 7 `VB`), the value, and whether the write completes in the reload guard. -/
  | groupRegisterWrite (m : Master) (x : Bridge) (r : Fin 8) (v : Word) (guard : Bool)
  /-- A write to MODE, EN or DT while RUN is 1 has no effect and sets MODEREJ. (R201) Operands: the writing master, the modulator and the write. -/
  | modeWrite (m : Master) (x : Bridge) (w : ModWrite)
  /-- After RFMAX of continuous upper conduction on a REFRESH leg, a lower-side refresh pulse is inserted. (R219) Operands: the modulator, the leg, and whether the pulse begins or ends. -/
  | refreshPulse (x : Bridge) (p : Fin 3) (starts : Bool)
  /-- A halt request stops every hart of a target at the same instruction, suspends comparison, and sends running bridges to their safe state. (R332) Operands: the target, and the hart of a split span. -/
  | debugHalt (t : Fin 3) (h : Fin 2)
  /-- Resuming a target restores the held harts from hart 0. (R334) Operands: the target, and the hart of a split span. -/
  | debugResume (t : Fin 3) (h : Fin 2)
  /-- With no modulator heartbeat toggle for 800 ns, the gate link applies that bridge's safe state. (R227) Operand: the modulator. -/
  | heartbeatLoss (x : Bridge)
  /-- Under ASC a positive-going crossing of the slot-0 current updates the safe-state speed estimate. (R242) Operands: the bridge and the CECLK cycle of the crossing. -/
  | ascZeroCrossing (b : Bridge) (t : Nat)
  /-- With no crossing for 50 ms the ASC speed estimate reads 0. (R242) Operand: the bridge. -/
  | ascEstimateTimeout (b : Bridge)
  /-- After LOCKN good ticks the grid PLL enters LOCKED. (R245) Operand: the bridge. -/
  | pllLock (b : Bridge)
  /-- After LOCKN ticks that are not good the PLL enters LOST, and an ACTIVE GRID bridge sets GRIDLOSS and goes to its safe state. (R246) Operand: the bridge. -/
  | pllLost (b : Bridge)
  /-- The LIMP interface takes a sample or measures a period of the pin and judges its validity. (R250) Operand: the measurement in the unit of `RAW`. -/
  | limpMeasurement (v : BitVec 16)
  /-- In duty or frequency mode, no edge for 20 ms makes the measurement invalid. (R251) -/
  | limpEdgeTimeout
  /-- Every 100 µs LVAL is computed from the valid measurements of the last LFILT ms. (R251) -/
  | limpValueUpdate
  /-- After LFILT ms of valid measurements VALID rises. (R251) -/
  | limpValid
  /-- A command object not written for CMDTMO switches an ACTIVE bridge to the LIMP_CMD command and sets ACTA or ACTB. (R252) Operand: the bridge. -/
  | commandTimeout (b : Bridge)
  /-- The island receives an ON symbol and turns its switch on, unless its fault latch is set. (R256) Operand: the channel whose island receives the symbol. -/
  | on (n : Chan)
  /-- The island receives an OFF symbol and turns its switch off. (R256) Operand: the channel whose island receives the symbol. -/
  | off (n : Chan)
  /-- An IDLE symbol, sent after 1 µs without another symbol on an edge path, is received by the island or the gate link and keeps the 4 µs loss watch from expiring. (R256) Operands: the channel, and whether its island receives the symbol (else the gate link). -/
  | idle (n : Chan) (toIsland : Bool)
  /-- A pulse on an edge path whose width matches no symbol is ignored and counted as a symbol error in the island's status. (R256) Operand: the channel whose island ignores the pulse. -/
  | symbolError (n : Chan)
  /-- The gate link receives a GATE_ON report, which updates the leg's interlock state. (R265) Operand: the reporting channel. -/
  | gateOn (n : Chan)
  /-- The gate link receives a GATE_OFF report, which releases a turn-on held by the interlock. (R265) Operand: the reporting channel. -/
  | gateOff (n : Chan)
  /-- The gate link receives a FAULT symbol, commands the leg off and puts the channel in SOFTOFF. (R510) Operand: the reporting channel. -/
  | fault (n : Chan)
  /-- An island with no symbol for 4 µs turns its switch off and sets its fault latch with cause 3. (R257) Operand: the channel. -/
  | islandEdgePathLoss (n : Chan)
  /-- The gate link with no symbol from an island for 4 µs puts the channel in LATCHED with EPLOSS and raises the island-link line. (R257) Operand: the channel. -/
  | edgePathLoss (n : Chan)
  /-- A KEEP frame to the island keeps the service path alive. (R259) Operands: the channel, and the CRC received. -/
  | keep (n : Chan) (c : BitVec 8)
  /-- A WR frame writes an island register, or is reported in the island's status when the register is absent or read-only. (R259) Operands: the channel, the island register, and the CRC received; the value is the gate link's own. -/
  | wr (n : Chan) (a c : BitVec 8)
  /-- An RD frame asks the island for a register, which it answers within 4 µs. (R259) Operands: the channel, the island register, and the CRC received. -/
  | rd (n : Chan) (a c : BitVec 8)
  /-- A CLR frame with 0xC1EA clears the island's fault latch. (R259) Operands: the channel, the data, and the CRC received. -/
  | clr (n : Chan) (v : BitVec 16) (c : BitVec 8)
  /-- A HELLO frame reports the island's revision and capacitor, and the gate link configures the island. (R260) Operands: the channel, the island revision, the reservoir capacitor, and the CRC received. -/
  | hello (n : Chan) (rev : BitVec 8) (cap : Bool) (c : BitVec 8)
  /-- An RDR frame returns an island register for the read-back comparison. (R260) Operands: the channel, the value where the register asked for is the status or a measured one (0x10-0x13), and the CRC received. -/
  | rdr (n : Chan) (v : BitVec 16) (c : BitVec 8)
  /-- When every register reads back equal, the link is up, LINK is 1 and the channel leaves NOLINK. (R260) Operand: the channel. -/
  | linkUp (n : Chan)
  /-- An EDGE frame reports a switching time, which updates CHTIME and the switching loss. (R259) Operands: the channel, and the CRC received; the content is that of the island's oldest measured edge. -/
  | edge (n : Chan) (c : BitVec 8)
  /-- A HEALTH frame reports the island's die temperature, NTC resistance or VPOS. (R259) Operands: the channel, the sub-code, the value, and the CRC received. -/
  | health (n : Chan) (sub : BitVec 8) (v : BitVec 16) (c : BitVec 8)
  /-- A FAULT frame naming a cause sets DS or HS and raises the desaturation or hard-short line. (R510) Operands: the channel, the time since the last ON in ns, and the CRC received; the cause is the oldest that the island has to report. -/
  | faultFrame (n : Chan) (v : BitVec 16) (c : BitVec 8)
  /-- With no FAULT frame naming cause 1 or 2 within 4 µs of the symbol, DS and SPLOSS are set. (R510) Operand: the channel. -/
  | faultFrameTimeout (n : Chan)
  /-- An island with no valid frame for 40 µs keeps its settings and sends HELLO again. (R260) Operand: the channel. -/
  | islandServiceTimeout (n : Chan)
  /-- With no valid frame for 60 µs, or three bad CRCs, SPLOSS is set, the line is raised and the link is rebuilt, or the channel goes to NOLINK. (R260) Operand: the channel. -/
  | servicePathLoss (n : Chan)
  /-- A write to a mirrored gate-link register is sent to the island and checked by read-back. (R261) Operands: the channel, the island register of Table 9-4, and whether the frame arrives. -/
  | islandRegisterSync (n : Chan) (a : Fin 12) (arrives : Bool)
  /-- A write of 1 to EN arms a DISABLED channel whose conditions hold, or sets ENREJ. (R263) Operands: the writing master, whether through the object, and the channel. -/
  | channelEnable (m : Master) (obj : Bool) (n : Chan)
  /-- A write of 0 to EN moves the channel to DISABLED, keeping any latch or running retry wait. (R262) Operands: the writing master, whether through the object, and the channel. -/
  | channelDisable (m : Master) (obj : Bool) (n : Chan)
  /-- At the first alignment epoch after both positions are ARMED, the leg follows its commands again. (R264) Operand: the leg (A.U, A.V, A.W, B.U, B.V, B.W). -/
  | legResume (leg : Fin 6)
  /-- A turn-on that has waited 5 µs for the interlock is dropped, INTLKTMO is set and the channel is LATCHED. (R265) Operand: the channel whose turn-on has waited. -/
  | interlockTimeout (n : Chan)
  /-- The island measures an edge's 10–90% time and moves that edge type's strength by at most one step. (R269) Operands: the channel, whether a turn-off, whether of a soft turn-off, and the 10-90% time in ns (0xFFFF invalid). -/
  | islandEdgeMeasured (n : Chan) (off soft : Bool) (v : BitVec 16)
  /-- VPOS below 12.0 V holds the switch off and puts the channel in UVLO. (R63) Operand: the channel. -/
  | islandUvlo (n : Chan)
  /-- VPOS above 13.0 V returns the channel to its state before UVLO. (R262) Operand: the channel. -/
  | islandUvloRelease (n : Chan)
  /-- A DESAT level above DSTHR after the filter sets the island latch, starts a soft turn-off and launches FAULT. (R272) Operand: the channel. -/
  | desaturation (n : Chan)
  /-- An integrated sense current above HSTHR sets the island latch, starts a soft turn-off and launches FAULT. (R274) Operand: the channel. -/
  | hardShort (n : Chan)
  /-- At the end of a soft turn-off the channel goes to WAIT or LATCHED by its count of recent faults. (R276) Operand: the channel. -/
  | softTurnOffEnd (n : Chan)
  /-- At the end of RWAIT the gate link sends CLR, and the channel returns to ARMED after the read-back. (R276) Operand: the channel. -/
  | retryWaitEnd (n : Chan)
  /-- A write of CLRLATCH, or of 0x3021:01, clears a channel's latch while the bridge engine is OFF, IDLE or HELD. (R278) Operands: the writing master, whether through `0x3021:01`, and the channel. -/
  | clearLatch (m : Master) (obj : Bool) (n : BitVec 8)
  /-- A write of 1 to a cause bit of GL.BSTATx clears it once its condition has gone, and the bridge safe state ends when no cause remains. (R280) Operands: the writing master, the bridge, and the cause bits written 1 (FCOL, HALT, HBEAT, ENGINE, TWOLEG from bit 0). -/
  | bstatCauseClear (m : Master) (x : Bridge) (mask : BitVec 5)
  /-- An island die at 175 °C turns its switch off, enters OTLATCH and raises the island thermal-latch line. (R302) Operand: the channel. -/
  | islandOvertemperature (n : Chan)
  /-- A write of 1 to DSCCTL.REQ starts an active discharge by winding or pin as MODE selects. (R281) Operands: the writing master, and whether through `0x3020:01`. -/
  | dischargeRequest (m : Master) (obj : Bool)
  /-- A write of 0 to REQ ends the discharge, returns the state to IDLE and drives DSC_EN low. (R283) Operands: the writing master, and whether through `0x3020:01`. -/
  | dischargeEnd (m : Master) (obj : Bool)
  /-- Every 100 µs the link voltage is judged, and DONE follows below VTHR. (R282) -/
  | dischargeJudge
  /-- In MODE 2, after 1,500 ms of winding discharge, the method changes to the pin. (R281) -/
  | dischargeFallback
  /-- With no DONE within 2,000 ms the state becomes FAILED, FAIL is set and the discharge line is raised. (R282) -/
  | dischargeTimeout
  /-- Every 1 ms a round latches and converts its channels, applies the broken-sensor rule and publishes the model outputs, derating limits and throttle request. (R288) Operands: the converted values of channels 12-23 in the units of Table 10-1, and the barrier capacitances that islands measured in this round. -/
  | housekeepingRound (conv : Vector Int 12) (caps : List (Chan × Nat))
  /-- A channel beyond THI or TLO for NFILT rounds sets HIA or LOA and raises the housekeeping-limit line. (R291) Operands: the channel, and whether `THI` (else `TLO`). -/
  | thresholdConfirmed (c : Fin 24) (high : Bool)
  /-- A warning or stop condition held for NFILT rounds raises the thermal-warning or thermal-stop line. (R301) Operand: the condition. -/
  | thermalConditionConfirmed (k : ThermCond)
  /-- Every 100 µs each position's ladder steps with the losses accumulated since the last step. (R295) -/
  | junctionModelStep
  /-- With no round for 2 ms while a bridge is active, loop 5 takes DMIN, STALE is set and the housekeeping-stale line is raised. (R292) -/
  | housekeepingStale
  /-- Keystone aligns the three copies of a Truss output and forwards the majority value. (R310) Operands: the copies of harts 0-2. -/
  | trussOutput (c0 c1 c2 : BusOut)
  /-- At each resynchronisation point a 1 ms frame of the resident firmware begins and runs its per-frame safety work. (R335) Operands: the words that a reintegration reads from harts 0-2, their state signatures after it, and the levels of the safety inputs that reader 2 has sampled since the last frame, one every 10 µs. -/
  | trussFrame (w0 w1 w2 : List Word) (g0 g1 g2 : BitVec 64) (levels : List (BitVec 10))
  /-- Every tenth resynchronisation point the targets stop and compare the state signatures of their harts. (R329) Operands: the state signatures of the harts of Truss, Span0 and Span1. -/
  | stateScrub (t0 t1 t2 a0 a1 b0 b1 : BitVec 64)
  /-- A span compares hart 1's output with hart 0's and forwards it when they are equal. (R318) Operands: the span, and the copies of harts 0 and 1. -/
  | spanOutput (sp : Fin 2) (c0 c1 : BusOut)
  /-- Once the release has completed, the span leaves reset and fetches from its entry offset, or is parked. (R318) Operands: the span, its hart if it is split, and which DMA channels had a transfer under way. -/
  | spanResetRelease (sp h : Fin 2) (dma : BitVec 16)
  /-- A Truss write of RESTART resets a span or split hart with cause 4. (R321) Operands: the master that writes 1 to RESTART, and the span. -/
  | spanRestart (m : Master) (sp : Fin 2)
  /-- An AGREE sample that disagrees with the agreed value flags a Truss dissenter, resets a span, or stops a Truss pair. (R328) Operands: the target and the samples of its harts. -/
  | inputDisagreement (t : Fin 3) (x : Samples)
  /-- A write of 0 to 0x4710:03 clears the lock-step-debug flag where the life-cycle state permits it. (R333) Operand: the value written. -/
  | dbglsClear (v : Bool)
  /-- A source's edge or level sets PEND and delivers it to the enabled targets above their threshold. (R343) Operands: the source, and which samplers see the present level of their target's pending line (harts 0-2 of Truss, then the harts of Span0 and Span1; R324); the others still see the level before. -/
  | interruptAssert (i : Fin 512) (seen : BitVec 7)
  /-- A read of CLAIMt returns the highest-priority delivered source and makes it active. (R342) Operands: the reading master, the target, and a source whose enable for the target was cleared at most three FABCLK cycles before (R345). -/
  | claim (m : Master) (t : Fin 6) (late : Option (Fin 512))
  /-- A write of a source number to CLAIMt completes it, or is counted as spurious. (R343) Operands: the writing master, the target whose CLAIM register is written, and the source written. -/
  | interruptComplete (m : Master) (t : Fin 6) (src : BitVec 9)
  /-- A write to INTC.SWSET makes a rising edge on a software source. (R340) Operands: the writing master and the software source. -/
  | intcSwset (m : Master) (src : Fin 64)
  /-- An asserted line is latched into STATUS with its bridge, and the reaction of its class is applied by hardware. (R350) -/
  | faultLineLatch
  /-- A stop not complete within STOPTMO sets STOPTO and sends the bridge to its safe state. (R352) Operand: the bridge. -/
  | orderlyStopTimeout (b : Bridge)
  /-- A write of 1 to a STATUS bit, or of 0x2801:01, clears the line once it is no longer asserted. (R356) Operand: the write. -/
  | faultStatusClear (w : StatusClear)
  /-- A write of a class below the line's minimum has no effect and sets CLSREJ. (R349) Operands: the writing master, the class register and the value. -/
  | classWrite (m : Master) (j : Fin 8) (v : Word)
  /-- A parity error raises line 63 in the collector, or line 58 and stops delivery in the INTC. (R357) Operand: whether in the interrupt controller (else in the collector). -/
  | parityError (intc : Bool)
  /-- An access unanswered for 4,096 FABCLK cycles raises the fabric-timeout line. (R349) Operands: the master and the address of the access. -/
  | fabricTimeout (m : Master) (a : Word)
  /-- An ECC correction or uncorrectable error raises the memory line of its kind. (R349) Operand: what was found. -/
  | eccError (k : EccKind)
  /-- A read of a free semaphore takes it for the reader. (R358) Operands: the reading master and the semaphore. -/
  | semaphoreRead (m : Master) (i : Fin 32)
  /-- A write by the owner releases the semaphore. (R358) Operands: the writing master and the semaphore. -/
  | semaphoreRelease (m : Master) (i : Fin 32)
  /-- A write to FCOL.SWSET asserts the writer's software line for one cycle. (R360) Operands: the writing master and the value. -/
  | fcolSwset (m : Master) (v : BitVec 3)
  /-- A safety input level held for FILT sets or clears its DEM bit. (R364) Operands: the input, and the level that has lasted `FILT` (low demands). -/
  | inputDemandChange (i : Fin 10) (low : Bool)
  /-- DEM bits of a pair that differ for DISC set DISCERR and raise the safety-input line. (R365) Operand: the pair SIN2k, SIN2k+1. -/
  | pairDiscrepancy (k : Fin 4)
  /-- Each test-pulse line pulses low once per 50 ms, and its read-back and the inputs it supplies are judged. (R366) Operands: the line, its read-back sampled every 10 µs from the start of the pulse, and the inputs' levels at the three sampling points. -/
  | testPulse (j : Fin 4) (readBack : List Bool) (pre mid post : BitVec 10)
  /-- 10 µs after an STO request a position not back at GATE_OFF sets GATEF and DIAGLAT. (R370) Operand: the bridge. -/
  | stoGateFeedbackCheck (b : Bridge)
  /-- An SS1 request moves the SS1 to DECEL, starts its timer and clamps an ACTIVE bridge's demand. (R371) Operand: the value written to `0x3040:01`. -/
  | ss1Request (v : BitVec 8)
  /-- At the expiry of SS1T the SS1 becomes DONE and sets its STO source. (R372) Operand: the bridge. -/
  | ss1Expiry (b : Bridge)
  /-- A close request sets DRV at the next frame, unless it is refused. (R373) Operand: the contactor. -/
  | contactorClose (k : Fin 4)
  /-- An open request clears DRV at the next frame. (R373) Operand: the contactor. -/
  | contactorOpen (k : Fin 4)
  /-- Feedback that differs from the expected level for FBTMO sets FBERR and raises the contactor-feedback line. (R375) Operands: the contactor and the level of its feedback. -/
  | contactorFeedbackMismatch (k : Fin 4) (level : Bool)
  /-- At each tick Truss computes the independent torque estimate and judges it and the demand against the envelope. (R376) -/
  | torqueCheck
  /-- TMN consecutive failed ticks set TQERR and raise the torque-monitor line. (R377) Operand: the bridge. -/
  | torqueMonitorTrip (b : Bridge)
  /-- A received Causeway copy is judged against the held copy and accepted, held or discarded. (R381) Operands: the port, the frame, and how many timebase ticks ago its start of frame was (R397). -/
  | causewayCopy (p : Fin 4) (f : CanFrame) (age : Word)
  /-- When the skew window has elapsed with a copy held, it is accepted on one path. (R381) -/
  | causewaySkewExpiry
  /-- With no command accepted for TMO, LOSS is set and LOSSACT applies. (R383) -/
  | causewayLoss
  /-- Every 10 ms the module sends a Causeway status message on both ports. (R380) -/
  | causewayStatus
  /-- A write to the safety parameter set reaches the staging copy, or is refused. (R384) Operands: index, sub-index and value of the write. -/
  | safetyParamWrite (i : BitVec 16) (sub : BitVec 8) (v : Word)
  /-- Stepped operation 0x7020 checks the CRC and ranges and writes the staging set twice into MRAM. (R385) Operand: the CRC written to 0x7020:01. -/
  | safetyActivation (crc : Word)
  /-- Every 10 ms Truss checks the working copy and the locked fields, and raises the safety-parameter line on a difference. (R386) Operand: the bytes of the working copy as Truss SRAM gives them back. -/
  | safetySetCheck (copy : List (BitVec 8))
  /-- A received frame is stamped and passed to the Kinak engine, the ring or forwarding. (R404) Operands: the port, the frame, and how many timebase ticks ago its start of frame was (R397). -/
  | canFrameReceived (p : Fin 4) (f : CanFrame) (age : Word)
  /-- An open transfer with no segment for 100 ms is discarded. (R410) Operands: the port and the key of the transfer. -/
  | segmentTimeout (p : Fin 4) (node : BitVec 14) (svc : BitVec 10) (tag : BitVec 4)
  /-- A bus error updates TEC and REC, and may move the port to warning, passive or bus-off. (R394) Operands: the port and the error. -/
  | canError (p : Fin 4) (e : CanErr)
  /-- The winning pending mailbox or forwarded frame enters arbitration and its data are fetched. (R400) Operand: the port. -/
  | transmitStart (p : Fin 4)
  /-- A sent frame sets DONE, stamps MBTS and fires the source, or is retried or aborted. (R400) Operands: the port, how the attempt ends, how many timebase ticks ago its start of frame was (R397), and the transmitter delay measured before the data phase, in NETCLK cycles (R392). -/
  | transmitComplete (p : Fin 4) (e : TxEnd) (age : Word) (delay : BitVec 8)
  /-- A write of REQ to a free mailbox records the writer and sets PENDING. (R400) Operands: the writing master, the port and the mailbox. -/
  | mailboxRequest (m : Master) (p : Fin 4) (mb : Fin 32)
  /-- A write of ABORT ends a PENDING mailbox at once, or an ACTIVE one at its first loss. (R401) Operands: the writing master, the port and the mailbox. -/
  | mailboxAbort (m : Master) (p : Fin 4) (mb : Fin 32)
  /-- Setting EN puts the port on the bus after 11 recessive bits; a configuration write while enabled sets CFGREJ. (R391) Operands: the writing master, the port and the write. -/
  | portEnable (m : Master) (p : Fin 4) (w : CanWrite)
  /-- A write of CMD.RECOVER, or automatic recovery, starts bus-off recovery. (R395) Operands: the writing master and the port. -/
  | recover (m : Master) (p : Fin 4)
  /-- After 128 × 11 recessive bits the counters clear and the port is error active. (R395) Operand: the port. -/
  | busOffRecoveryComplete (p : Fin 4)
  /-- A write of RD consumes ring entries, and an RD outside the ring empties it. (R403) Operands: the writing master, the port and the value written to RD. -/
  | rxRingRead (m : Master) (p : Fin 4) (v : BitVec 16)
  /-- When the low 32 bits of the timebase wrap, every enabled port's wrap source fires. (R397) -/
  | timestampWrap
  /-- A read of TB.CNTL or TB.NETL latches the upper half. (R396) Operands: the reading master, and what it reads. -/
  | timebaseRead (m : Master) (r : TimeRead)
  /-- A general timer whose CMP equals the timebase raises its source and adds PER, or clears EN. (R398) Operand: the timer. -/
  | timerFire (i : Fin 8)
  /-- Every HBPER ms a heartbeat is sent on every enabled KINAK port that is not bus-off. (R416) -/
  | heartbeat
  /-- Every SYNCPER ms the master sends a sync frame and its follow-up. (R415) -/
  | timeSync
  /-- A slave takes a matching follow-up from TSNODE and sets OFS. (R415) Operands: the port, the sender, the sequence number and bits 55:0 of the master time. -/
  | followUp (p : Fin 4) (node : BitVec 14) (n : BitVec 8) (time : BitVec 56)
  /-- With no valid follow-up for 10 × SYNCPER, TSVALID falls. (R415) -/
  | timeSyncTimeout
  /-- An object request enters the 16-entry queue, or is answered 0x0640 when the queue is full. (R437) -/
  | requestEnqueue
  /-- Operation 0x01 returns the whole value of an object after the checks. (R435) Operand: the random number that a read of `0x7010:01` draws. -/
  | objectRead (nonce : BitVec 128)
  /-- Operation 0x02 checks the request, writes the mirrored register, commits any claim and queues the MRAM store. (R437) Operands: whether a write of the modulator's group falls into a guard window (R213), and the signatures that a request for retention of the spans scrubs (R338). -/
  | objectWrite (guard : Bool) (g : SpanSigs)
  /-- Operation 0x03 returns part of a long value from an offset. (R435) Operand: as that of OBJECT_READ. -/
  | readPart (nonce : BitVec 128)
  /-- Operation 0x04 returns the 32-byte descriptor in every state. (R436) -/
  | describe
  /-- Truss performs the register write of an accepted Truss-only object in its next frame. (R427) -/
  | trussServedWrite
  /-- An accepted MRAM write is stored as a record in each of two copies within 5 ms. (R429) -/
  | persistenceStore
  /-- A write of GO submits a local request served like a Kinak request. (R451) Operands: the writing master, the local target, and the value written to LCTLt. -/
  | localRequest (m : Master) (t : Fin 5) (v : Word)
  /-- An operating-state command STANDBY moves READY or SERVICE to STANDBY and disables every channel. (R440) Operand: from a Kinak message, or by `0x1001:03`. -/
  | stateCommandStandby (kinak : Bool)
  /-- An operating-state command READY moves to READY, or stops the ACTIVE bridges in RUN first. (R440) Operand: from a Kinak message, or by `0x1001:03`. -/
  | stateCommandReady (kinak : Bool)
  /-- An operating-state command RUN moves READY to RUN, or cancels a pending move to READY. (R440) Operand: from a Kinak message, or by `0x1001:03`. -/
  | stateCommandRun (kinak : Bool)
  /-- An operating-state command SERVICE moves READY or STANDBY to SERVICE when no engine is ACTIVE. (R440) Operand: from a Kinak message, or by `0x1001:03`. -/
  | stateCommandService (kinak : Bool)
  /-- A running stepped operation takes a step of at most 50 µs between queued requests. (R443) Operand: the progress in percent at its end. -/
  | step (prog : Fin 101)
  /-- A write to sub-index 0xFE ends a cancellable operation at its next step boundary. (R445) Operand: the operation's index. -/
  | steppedCancel (idx : BitVec 16)
  /-- 0x7001:01 restores the defaults of the MRAM objects of an index, or of all of them. (R447) Operand: the index written. -/
  | restoreDefaults (idx : BitVec 16)
  /-- Option 1 of 0x7002:04 erases the target bank. (R447) Operand: whether the flash reads back as it should. -/
  | imageEraseBank (readBackOk : Bool)
  /-- Option 2 of 0x7002:04 programs the data of 0x7002:03 at the offset. (R447) Operand: the first line whose read-back is wrong. -/
  | imageProgram (fail : Option (Fin 255))
  /-- Option 2 of 0x7004:04 writes data into application SRAM. (R447) -/
  | networkLoadProgram
  /-- Option 1 of 0x7004:04 verifies the loaded image under R86 and starts it. (R447) -/
  | networkImageStart
  /-- A request for a customer object is handed to its server, with CREQ filled and the source fired. (R449) -/
  | customerRequest
  /-- The server's write of CRSPs.DONE answers the requester. (R449) Operands: the writing master, the server less 1, and the value written to CRSPs. -/
  | customerResponse (m : Master) (sv : Fin 4) (v : Word)
  /-- A server that does not respond within CUSTTMO causes a 0x0640 detail 3 answer. (R449) Operand: the server less 1. -/
  | customerTimeout (sv : Fin 4)
  /-- A PDCTLd.REQ of ON for a domain in RET or OFF starts a software wake. (R455) Operands: the writing master and the domain d. -/
  | domainOnRequest (m : Master) (dom : Fin 9)
  /-- A PDCTLd.REQ of RET starts the domain's entry into retention, or is refused. (R456) Operands: the writing master, the domain, and the state signatures of the harts of Span0 and Span1 at the entry scrub. -/
  | domainRetRequest (m : Master) (dom : Fin 9) (a0 a1 b0 b1 : BitVec 64)
  /-- A PDCTLd.REQ of OFF starts the domain's entry into off, or is refused. (R456) Operands: the writing master and the domain. -/
  | domainOffRequest (m : Master) (dom : Fin 9)
  /-- After its blocks quiesce, the domain is isolated, its save list is written and its power is lowered. (R456) Operand: the domain. -/
  | domainQuiesced (dom : Fin 9)
  /-- A wake before isolation aborts the entry, and ABORTED is set. (R456) Operand: the domain. -/
  | entryAbort (dom : Fin 9)
  /-- A WAKE pin event stable for FILT wakes the domains of its DMASK. (R461) Operand: the pin. -/
  | wakePin (k : Fin 4)
  /-- The keep-alive counter reaching KAALM wakes the domains of its DMASK. (R461) -/
  | keepaliveAlarm
  /-- A dominant level held on a CAN RX pin wakes the domains of its DMASK. (R461) Operand: the port. -/
  | canWakeActivity (p : Fin 4)
  /-- With power-good, the domain's clocks start, its save list is restored and it is released. (R463) Operands: the domain, whether its save list is damaged as it is read back, and the converters that fail the calibration of R132. -/
  | wakePowerGood (dom : Fin 9) (damaged : Bool) (calFailed : List (Fin 34))
  /-- A wake in shelf waits for the supplies, powers the fabric, releases reset and runs the start. (R464) Operand: BOOT_MODE1:0 at the release of the internal reset. -/
  | shelfWake (mode : BitVec 2)
  /-- An attempt not ready within WAKE_TMO is recorded and retried, backed off, or ends the episode in WFAIL. (R465) Operands: whether the crystal runs, and whether an attempt on the RC fallback read the OTP equal. -/
  | wakeAttemptTimeout (crystal : Bool) (otp : Bool)
  /-- After BACKOFF the third wake attempt starts. (R465) -/
  | wakeBackoffEnd
  /-- A write of 1 to 0x3050:09 in SERVICE clears WFAIL. (R466) Operand: the value written. -/
  | wfailClear (v : Bool)
  /-- VKA below 2.10 V sets VKALOW. (R470) -/
  | vkaLow
  /-- A read of PIER.LW6410 returns the last wake in the forerunner layout and clears bit 7. (R467) Operand: the reading master. -/
  | lw6410Read (m : Master)
  /-- 0x7030:01 stops the module, tests and re-initialises each domain, writes the pass record and enters shelf. (R471) Operands: the outcome, the failing partition code (0 when passed), the domains passed (bit d - 1), and the duration. -/
  | shutdownWithTest (pass : Bool) (part : BitVec 8) (domains : BitVec 8) (ms : BitVec 32)
  /-- A write of 2 to 0x3050:01 enters shelf 10 ms after the response. (R479) -/
  | enterShelf
  /-- Every 1 ms the accumulators are converted into whole units with the remainder carried. (R481) -/
  | ledgerConversionEpoch
  /-- At each account second the temperature bins and full cycles are counted and a running record store begins. (R484) -/
  | ledgerSecond
  /-- A store closes its interval, writes the wear block, requests the signature and writes the record. (R490) -/
  | ledgerStore
  /-- The signature returns and the record is written, unsigned if the key store is empty. (R489) Operands: the signature returned (r, then s), and whether the record reads back as written. -/
  | recordSigned (sig : BitVec 512) (readBackOk : Bool)
  /-- A Truss write of LG.CMD.STORE requests a store now. (R490) Operand: the master that writes 1 to LG.CMD.STORE. -/
  | store (m : Master)
  /-- 0x7040:01 exports the selected records into 0x7040:04. (R495) Operand: the selection written to 0x7040:01 (an operation that waits since an OBJECT_WRITE takes its own). -/
  | ledgerExport (sel : BitVec 8)
  /-- A write of CFGc.EN starts a run when its segments and claim are valid, or sets CFGERR. (R501) Operands: the writing master, whether through the object, the channel, whether BUFc (else CFGc) is written, and the value. -/
  | captureStart (m : Master) (obj : Bool) (c : Fin 8) (buf : Bool) (v : Word)
  /-- A coded block is written into the segment ring under the stop or overwrite policy. (R500) Operand: the channel. -/
  | captureBlockWrite (c : Fin 8)
  /-- The first trigger records its block and sample and moves the channel to TRIGGERED. (R502) Operand: the trigger source by its TSRC code. -/
  | captureTrigger (n : Fin 8)
  /-- A write of CMDc.SWTRIG, or of 0x3060:01, triggers the channel. (R502) Operand: the command. -/
  | swtrig (w : CapCmd)
  /-- A write of CMDc.STOP, or of 0x3060:02, writes the partial block and stops the channel. (R502) Operand: the command. -/
  | stop (w : CapCmd)
  /-- A write of 0 to CAP.CTL.EN stops every channel. (R502) Operands: the writing master and the value written to CAP.CTL.EN. -/
  | captureStopAll (m : Master) (v : Bool)
  /-- 0x7050:01 gathers a stopped channel's blocks into 0x7050:03. (R504) Operand: the channel written to 0x7050:01 (an operation that waits since an OBJECT_WRITE takes its own). -/
  | captureReadout (c : BitVec 8)
  /-- A falling edge on PWR_FAIL_N raises the power-fail warning and starts the power-fail ledger store. (R62) -/
  | pwrFailNFall
  /-- PWR_FAIL_N rising again deasserts the power-fail warning line and starts no further ledger action, while integration and persistence continue. (R491) -/
  | pwrFailNRise
  /-- A NETWORK entry whose CAN frame in arbitration or on the bus has not ended within 5 ms is refused with block code 8, REFUSED set and the refusal counted. (R457) -/
  | networkQuiesceTimeout
deriving DecidableEq, Repr

end Sys2Proof
end

