-- ==== Sys2Proof/Machine/Field.lean ====
section
/-! DEFINITION. What a register field is (its place, width, access code and reset value), and the reset values that the
spec gives by a table over an index (slots, slices, housekeeping channels, interrupt sources, fault lines, owners). -/

namespace Sys2Proof.Machine

/-- The access codes of Table 0-3 (R11). -/
inductive Acc where
  | ro | rw | w1c | w1s | wo | rwl
deriving DecidableEq, Repr

/-- A register field: byte address of its register, lowest bit, width, access code, reset value, and whether a write
to it has a behaviour of its own (a command of its own row), so that REGISTER_WRITE does not touch it. -/
structure Fld where
  addr  : Nat
  lo    : Nat
  width : Nat
  acc   : Acc
  rst   : Nat
  beh   : Bool
deriving DecidableEq, Repr

/-- The key of a field in the register file. -/
def Fld.key (f : Fld) : Nat := f.addr * 32 + f.lo

/-- Reset `TAG` of input slot n of bridge b (06 Table 6-4; slots 8-11 have none and reset to 0). -/
def slotTagReset (b n : Nat) : Nat :=
  match n with
  | 0 => 0x18 * b
  | 1 => 0x08 + 0x18 * b
  | 2 => 0x10 + 0x18 * b
  | 3 => 0x30
  | 4 => 0x38
  | 5 => 0x40 + 0x0C * b
  | 6 => 0x44 + 0x0C * b
  | 7 => 0x48 + 0x0C * b
  | _ => 0

/-- Default queue of inputs 0 and 1 of slice s (04 Table 4-5). -/
def sliceQueueReset (s : Nat) : Nat :=
  if s ≤ 5 then 0 else if s ≤ 11 then 1 else if s ≤ 15 then 2 else if s ≤ 21 then 3
  else if s ≤ 25 then 4 else if s ≤ 30 then 5 else 6

/-- Default `SMASK` of slice s (04 Table 4-5). -/
def sliceSmaskReset (s : Nat) : Nat := if s ≤ 25 then 1 else if s ≤ 30 then 0 else 3

/-- Default `MODE` of slice s (04 Table 4-5): 2 continuous, 0 off. -/
def sliceModeReset (s : Nat) : Nat := if s ≤ 25 then 2 else if s ≤ 30 then 0 else 2

/-- `THI` at reset of housekeeping channel c (10 Table 10-1). -/
def hkHighReset (c : Nat) : Nat :=
  if c ≤ 11 then 12000 else if c ≤ 15 then 15000 else
  match c with
  | 16 => 824 | 17 => 1890 | 18 => 3630 | 19 => 3600 | 20 => 2510 | 21 => 1215 | 22 => 10 | _ => 1260

/-- `TLO` at reset of housekeeping channel c, as a 16-bit field (10 Table 10-1). -/
def hkLowReset (c : Nat) : Nat :=
  if c ≤ 15 then ofSigned 16 (-4000) else
  match c with
  | 16 => 776 | 17 => 1710 | 18 => 2970 | 19 => 2000 | 20 => 2490 | 21 => 1185 | 22 => ofSigned 16 (-10) | _ => 1240

/-- Is interrupt source i an edge source (12 Table 12-1)? -/
def srcIsEdge (i : Nat) : Bool :=
  if i < 96 then false
  else if i < 128 then i % 16 = 1 || i % 16 = 7
  else if i < 160 then (i % 16 ≤ 5) && (i % 16 ≠ 2)
  else if i < 192 then i % 16 ≤ 6
  else if i < 204 then true
  else if i < 216 then false
  else if i < 219 then true
  else if i < 224 then false
  else if i < 228 then true
  else if i < 240 then false
  else if i ≤ 258 then !([250, 251, 252, 253, 254, 256].contains i)
  else if i < 272 then false
  else if i < 336 then (i % 16 ≤ 11) && !([2, 5, 6, 7].contains (i % 16))
  else if i ≤ 341 then true
  else if i < 352 then false
  else if i ≤ 354 then true
  else if i < 356 then false
  else if i ≤ 365 then i ≠ 364
  else if i < 368 then false
  else if i ≤ 375 then true
  else if i = 376 then false
  else if i ≤ 447 then true
  else false

/-- Reset class of fault line l (12 Table 12-3). -/
def lineClassReset (l : Nat) : Nat :=
  if [4, 19, 40, 54].contains l then 0
  else if [0, 5, 8, 12, 45, 53, 58, 63].contains l then 4
  else if [1, 6, 9, 43, 49, 50, 52, 56, 59].contains l then 2
  else if [17, 21, 26, 44, 46, 47, 48, 51].contains l then 3
  else 1

/-- Minimum class of fault line l (12 Table 12-3). -/
def lineClassMin (l : Nat) : Nat :=
  if [8, 12, 45, 63].contains l then 4
  else if [0, 5, 17, 26, 44, 46, 47, 51, 53, 58].contains l then 3
  else if [9, 21, 43, 48, 49, 50, 52].contains l then 2
  else if [1, 6, 56, 59].contains l then 1
  else 0

/-- `FNEN` of line l at reset (R355): 1 for every line whose reset class is 1 or above. -/
def fnenReset (l : Nat) : Bool := decide (1 ≤ lineClassReset l)

/-- The ownership pages (01 Table 1-6): 0 CPM, 1 analogue sensing, 2 POS0, 3 POS1, 4 capture, 5 timebase. -/
def pageWindow (pg : Nat) : Nat :=
  match pg with
  | 0 => 0x40000000 | 1 => 0x40100000 | 2 => 0x40200000 | 3 => 0x40210000 | 4 => 0x40A10000 | _ => 0x40C00000

/-- Address of owner register 0 of a page (R36). -/
def pageBase (pg : Nat) : Nat := pageWindow pg + 0xF000

/-- Owner at reset of resource i of a page (01 Table 1-6). -/
def ownerReset (pg i : Nat) : Nat :=
  match pg with
  | 0 => if i = 3 then 0x07 else if i = 4 then 0x0C else 0
  | 1 => if i ≤ 25 then 0x03 else if i = 31 then 0x0B else 0
  | _ => 0

/-- Does page pg define owner register i (01 Table 1-6)? -/
def ownerExists (pg i : Nat) : Bool :=
  match pg with
  | 0 => i ≤ 4 || (16 ≤ i && i ≤ 31)
  | 1 => i ≤ 31
  | 2 => i ≤ 3
  | 3 => i ≤ 3
  | 4 => i ≤ 11
  | _ => i ≤ 7

end Sys2Proof.Machine
end

