-- ==== Sys2Proof/Machine/RegMapControl.lean ====
section
/-! DEFINITION. The field descriptors of the control-engine, modulator, gate-link and thermal registers: one definition per field of a register table of the spec,
with its address, lowest bit, width, access code and reset value. -/

namespace Sys2Proof.Machine

/-- `CE.CTL.LOCK` bits 8, W1S (06 Table 6-8, R195). -/
def CE.CTL_LOCK : Fld := ⟨0x40300000, 8, 1, .w1s, 0, true⟩

/-- `CE.CTL.TSRC` bits 5:3, RWL (06 Table 6-8, R195). -/
def CE.CTL_TSRC : Fld := ⟨0x40300000, 3, 3, .rwl, 1, false⟩

/-- `CE.CTL.EN` bits 0, RW (06 Table 6-8, R195). -/
def CE.CTL_EN : Fld := ⟨0x40300000, 0, 1, .rw, 0, false⟩

/-- `CE.TDIV.TDIV` bits 15:0, RWL (06 Table 6-8, R195). -/
def CE.TDIV_TDIV : Fld := ⟨0x40300000 + 0x0004, 0, 16, .rwl, 12500, false⟩

/-- `CE.TSTAT.TICKS` bits 31:16, RO (06 Table 6-8, R195). -/
def CE.TSTAT_TICKS : Fld := ⟨0x40300000 + 0x0008, 16, 16, .ro, 0, false⟩

/-- `CE.TSTAT.LOSS` bits 15, W1C (06 Table 6-8, R195). -/
def CE.TSTAT_LOSS : Fld := ⟨0x40300000 + 0x0008, 15, 1, .w1c, 0, false⟩

/-- `CE.TSTAT.DROP` bits 14, W1C (06 Table 6-8, R195). -/
def CE.TSTAT_DROP : Fld := ⟨0x40300000 + 0x0008, 14, 1, .w1c, 0, false⟩

/-- `CE.TSTAT.LASTDUR` bits 11:0, RO (06 Table 6-8, R195). -/
def CE.TSTAT_LASTDUR : Fld := ⟨0x40300000 + 0x0008, 0, 12, .ro, 0, false⟩

/-- `CE.BCFG.POSSEL` bits 25, RWL (06 Table 6-9, R196). -/
def CE.BCFG_POSSEL (b : Nat) : Fld := ⟨0x40300100 + 0x800*b, 25, 1, .rwl, if b = 0 then 0 else 1, false⟩

/-- `CE.BCFG.CMDMODE` bits 19:18, RW (06 Table 6-9, R196). -/
def CE.BCFG_CMDMODE (b : Nat) : Fld := ⟨0x40300100 + 0x800*b, 18, 2, .rw, 0, false⟩

/-- `CE.BCFG.CMDSRC` bits 17:16, RW (06 Table 6-9, R196). -/
def CE.BCFG_CMDSRC (b : Nat) : Fld := ⟨0x40300100 + 0x800*b, 16, 2, .rw, 0, false⟩

/-- `CE.BCFG.CTRL` bits 9:8, RWL (06 Table 6-9, R196). -/
def CE.BCFG_CTRL (b : Nat) : Fld := ⟨0x40300100 + 0x800*b, 8, 2, .rwl, 0, false⟩

/-- `CE.BCFG.ROLE` bits 2:0, RW (06 Table 6-9, R196). -/
def CE.BCFG_ROLE (b : Nat) : Fld := ⟨0x40300100 + 0x800*b, 0, 3, .rw, 0, true⟩

/-- `CE.BASE.BASEV` bits 31:16, RWL (06 Table 6-9, R196). -/
def CE.BASE_BASEV (b : Nat) : Fld := ⟨0x40300100 + 0x800*b + 0x004, 16, 16, .rwl, 8000, false⟩

/-- `CE.BASE.BASEI` bits 15:0, RWL (06 Table 6-9, R196). -/
def CE.BASE_BASEI (b : Nat) : Fld := ⟨0x40300100 + 0x800*b + 0x004, 0, 16, .rwl, 4000, false⟩

/-- `CE.BASEW.BASETQ` bits 31:16, RWL (06 Table 6-9, R196). -/
def CE.BASEW_BASETQ (b : Nat) : Fld := ⟨0x40300100 + 0x800*b + 0x008, 16, 16, .rwl, 1000, false⟩

/-- `CE.BASEW.BASESPD` bits 15:0, RWL (06 Table 6-9, R196). -/
def CE.BASEW_BASESPD (b : Nat) : Fld := ⟨0x40300100 + 0x800*b + 0x008, 0, 16, .rwl, 3000, false⟩

/-- `CE.INSLOT.EN` bits 31, RW (06 Table 6-9, R196). -/
def CE.INSLOT_EN (b : Nat) (n : Nat) : Fld := ⟨0x40300100 + 0x800*b + 0x040 + 8*n, 31, 1, .rw, if n ≤ 7 then 1 else 0, false⟩

/-- `CE.INSLOT.TAG` bits 22:16, RW (06 Table 6-9, R196). -/
def CE.INSLOT_TAG (b : Nat) (n : Nat) : Fld := ⟨0x40300100 + 0x800*b + 0x040 + 8*n, 16, 7, .rw, slotTagReset b n, false⟩

/-- `CE.INSLOT.OFS` bits 15:0, RW (06 Table 6-9, R196). -/
def CE.INSLOT_OFS (b : Nat) (n : Nat) : Fld := ⟨0x40300100 + 0x800*b + 0x040 + 8*n, 0, 16, .rw, 0, false⟩

/-- `CE.INGAIN.GAIN` bits 31:0, RW (06 Table 6-9, R196). -/
def CE.INGAIN_GAIN (b : Nat) (n : Nat) : Fld := ⟨0x40300100 + 0x800*b + 0x044 + 8*n, 0, 32, .rw, 0x1000000, false⟩

/-- `CE.BANDCTL.FTGT` bits 31:16, RW (06 Table 6-9, R196). -/
def CE.BANDCTL_FTGT (b : Nat) : Fld := ⟨0x40300100 + 0x800*b + 0x100, 16, 16, .rw, 2400, false⟩

/-- `CE.BANDCTL.FSH` bits 15:12, RW (06 Table 6-9, R196). -/
def CE.BANDCTL_FSH (b : Nat) : Fld := ⟨0x40300100 + 0x800*b + 0x100, 12, 4, .rw, 5, false⟩

/-- `CE.BANDCTL.MINPULSE` bits 11:0, RW (06 Table 6-9, R196). -/
def CE.BANDCTL_MINPULSE (b : Nat) : Fld := ⟨0x40300100 + 0x800*b + 0x100, 0, 12, .rw, 80, false⟩

/-- `CE.BANDGAIN.ILGAIN` bits 31:16, RW (06 Table 6-9, R196). -/
def CE.BANDGAIN_ILGAIN (b : Nat) : Fld := ⟨0x40300100 + 0x800*b + 0x104, 16, 16, .rw, 4096, false⟩

/-- `CE.BANDGAIN.AGAIN` bits 15:0, RW (06 Table 6-9, R196). -/
def CE.BANDGAIN_AGAIN (b : Nat) : Fld := ⟨0x40300100 + 0x800*b + 0x104, 0, 16, .rw, 512, false⟩

/-- `CE.BANDLIM.HMAX` bits 31:16, RW (06 Table 6-9, R196). -/
def CE.BANDLIM_HMAX (b : Nat) : Fld := ⟨0x40300100 + 0x800*b + 0x108, 16, 16, .rw, 4000, false⟩

/-- `CE.BANDLIM.HMIN` bits 15:0, RW (06 Table 6-9, R196). -/
def CE.BANDLIM_HMIN (b : Nat) : Fld := ⟨0x40300100 + 0x800*b + 0x108, 0, 16, .rw, 16, false⟩

/-- `CE.BANDINIT.HINIT` bits 15:0, RW (06 Table 6-9, R196). -/
def CE.BANDINIT_HINIT (b : Nat) : Fld := ⟨0x40300100 + 0x800*b + 0x10C, 0, 16, .rw, 400, false⟩

/-- `CE.OCLIM.OCLIM` bits 15:0, RWL (06 Table 6-9, R196). -/
def CE.OCLIM_OCLIM (b : Nat) : Fld := ⟨0x40300100 + 0x800*b + 0x110, 0, 16, .rwl, 28672, false⟩

/-- `CE.BANDST.H` bits 31:16, RO (06 Table 6-9, R196). -/
def CE.BANDST_H (b : Nat) (p : Nat) : Fld := ⟨0x40300100 + 0x800*b + 0x120 + 4*p, 16, 16, .ro, 0, false⟩

/-- `CE.BANDST.FEST` bits 15:0, RO (06 Table 6-9, R196). -/
def CE.BANDST_FEST (b : Nat) (p : Nat) : Fld := ⟨0x40300100 + 0x800*b + 0x120 + 4*p, 0, 16, .ro, 0, false⟩

/-- `CE.BANDEVT.DWELLHOLD` bits 31:16, RO (06 Table 6-9, R196). -/
def CE.BANDEVT_DWELLHOLD (b : Nat) : Fld := ⟨0x40300100 + 0x800*b + 0x12C, 16, 16, .ro, 0, false⟩

/-- `CE.BANDEVT.OC` bits 2, W1C (06 Table 6-9, R196). -/
def CE.BANDEVT_OC (b : Nat) : Fld := ⟨0x40300100 + 0x800*b + 0x12C, 2, 1, .w1c, 0, false⟩

/-- `CE.BANDEVT.HCLAMP` bits 1, W1C (06 Table 6-9, R196). -/
def CE.BANDEVT_HCLAMP (b : Nat) : Fld := ⟨0x40300100 + 0x800*b + 0x12C, 1, 1, .w1c, 0, false⟩

/-- `CE.BANDEVT.ILV` bits 0, W1C (06 Table 6-9, R196). -/
def CE.BANDEVT_ILV (b : Nat) : Fld := ⟨0x40300100 + 0x800*b + 0x12C, 0, 1, .w1c, 0, false⟩

/-- `CE.LKP.KP` bits 31:0, RW (06 Table 6-9, R196). -/
def CE.LKP_KP (b : Nat) (k : Nat) : Fld := ⟨0x40300100 + 0x800*b + 0x200 + 0x20*k, 0, 32, .rw, 0, false⟩

/-- `CE.LKIT.KIT` bits 31:0, RW (06 Table 6-9, R196). -/
def CE.LKIT_KIT (b : Nat) (k : Nat) : Fld := ⟨0x40300100 + 0x800*b + 0x204 + 0x20*k, 0, 32, .rw, 0, false⟩

/-- `CE.LILIM.ILIM` bits 31:0, RW (06 Table 6-9, R196). -/
def CE.LILIM_ILIM (b : Nat) (k : Nat) : Fld := ⟨0x40300100 + 0x800*b + 0x208 + 0x20*k, 0, 32, .rw, 0x10000000, false⟩

/-- `CE.LPARP.LPARP` bits 31:0, RW; k = 5 RO; k = 6 Truss only (06 Table 6-9, R196). -/
def CE.LPARP_LPARP (b : Nat) (k : Nat) : Fld := ⟨0x40300100 + 0x800*b + 0x20C + 0x20*k, 0, 32, .rw, 0, false⟩

/-- `CE.LPARN.LPARN` bits 31:0, as `LPARP` (06 Table 6-9, R196). -/
def CE.LPARN_LPARN (b : Nat) (k : Nat) : Fld := ⟨0x40300100 + 0x800*b + 0x210 + 0x20*k, 0, 32, .rw, 0, false⟩

/-- `CE.CRKP.CRKP` bits 31:0, RW (06 Table 6-9, R196). -/
def CE.CRKP_CRKP (b : Nat) : Fld := ⟨0x40300100 + 0x800*b + 0x340, 0, 32, .rw, 0, false⟩

/-- `CE.CRKIT.CRKIT` bits 31:0, RW (06 Table 6-9, R196). -/
def CE.CRKIT_CRKIT (b : Nat) : Fld := ⟨0x40300100 + 0x800*b + 0x344, 0, 32, .rw, 0, false⟩

/-- `CE.CRLS.CRLS` bits 31:0, RW (06 Table 6-9, R196). -/
def CE.CRLS_CRLS (b : Nat) : Fld := ⟨0x40300100 + 0x800*b + 0x348, 0, 32, .rw, 0, false⟩

/-- `CE.IMAX.IMAX` bits 31:0, RW (06 Table 6-9, R196). -/
def CE.IMAX_IMAX (b : Nat) : Fld := ⟨0x40300100 + 0x800*b + 0x34C, 0, 32, .rw, 0x10000000, false⟩

/-- `CE.VMAX.VMAX` bits 15:0, RW (06 Table 6-9, R196). -/
def CE.VMAX_VMAX (b : Nat) : Fld := ⟨0x40300100 + 0x800*b + 0x350, 0, 16, .rw, 31129, false⟩

/-- `CE.OMFLOOR.OMFLOOR` bits 31:0, RW (06 Table 6-9, R196). -/
def CE.OMFLOOR_OMFLOOR (b : Nat) : Fld := ⟨0x40300100 + 0x800*b + 0x2E0, 0, 32, .rw, 0xcccccd, false⟩

/-- `CE.WIN.CHG` bits 31:24, RO (06 Table 6-9, R196). -/
def CE.WIN_CHG (b : Nat) : Fld := ⟨0x40300100 + 0x800*b + 0x2E4, 24, 8, .ro, 0, false⟩

/-- `CE.WIN.PREV` bits 6:4, RO (06 Table 6-9, R196). -/
def CE.WIN_PREV (b : Nat) : Fld := ⟨0x40300100 + 0x800*b + 0x2E4, 4, 3, .ro, 0, false⟩

/-- `CE.WIN.ENVCLAMP` bits 3, RO (06 Table 6-9, R196). -/
def CE.WIN_ENVCLAMP (b : Nat) : Fld := ⟨0x40300100 + 0x800*b + 0x2E4, 3, 1, .ro, 0, false⟩

/-- `CE.WIN.WIN` bits 2:0, RO (06 Table 6-9, R196). -/
def CE.WIN_WIN (b : Nat) : Fld := ⟨0x40300100 + 0x800*b + 0x2E4, 0, 3, .ro, 0, false⟩

/-- `CE.SAT.SATIE` bits 16, RW (06 Table 6-9, R196). -/
def CE.SAT_SATIE (b : Nat) : Fld := ⟨0x40300100 + 0x800*b + 0x2E8, 16, 1, .rw, 0, false⟩

/-- `CE.SAT.SAT` bits 9:0, W1C (06 Table 6-9, R196). -/
def CE.SAT_SAT (b : Nat) : Fld := ⟨0x40300100 + 0x800*b + 0x2E8, 0, 10, .w1c, 0, false⟩

/-- `CE.DEM.DEM` bits 31:0, RO (06 Table 6-9, R196). -/
def CE.DEM_DEM (b : Nat) : Fld := ⟨0x40300100 + 0x800*b + 0x2EC, 0, 32, .ro, 0, false⟩

/-- `CE.BSTAT.BMS_STALE` bits 7, RO (06 Table 6-9, R196). -/
def CE.BSTAT_BMS_STALE (b : Nat) : Fld := ⟨0x40300100 + 0x800*b + 0x2F0, 7, 1, .ro, 0, false⟩

/-- `CE.BSTAT.INVALID` bits 6, W1C (06 Table 6-9, R196). -/
def CE.BSTAT_INVALID (b : Nat) : Fld := ⟨0x40300100 + 0x800*b + 0x2F0, 6, 1, .w1c, 0, false⟩

/-- `CE.BSTAT.MODEMIS` bits 5, W1C (06 Table 6-9, R196). -/
def CE.BSTAT_MODEMIS (b : Nat) : Fld := ⟨0x40300100 + 0x800*b + 0x2F0, 5, 1, .w1c, 0, false⟩

/-- `CE.BSTAT.ROLEREJ` bits 4, W1C (06 Table 6-9, R196). -/
def CE.BSTAT_ROLEREJ (b : Nat) : Fld := ⟨0x40300100 + 0x800*b + 0x2F0, 4, 1, .w1c, 0, false⟩

/-- `CE.BSTAT.ST` bits 2:0, RO (06 Table 6-9, R196). -/
def CE.BSTAT_ST (b : Nat) : Fld := ⟨0x40300100 + 0x800*b + 0x2F0, 0, 3, .ro, 0, false⟩

/-- `CE.CMDVAL.CMDVAL` bits 31:0, RW (06 Table 6-9, R196). -/
def CE.CMDVAL_CMDVAL (b : Nat) : Fld := ⟨0x40300100 + 0x800*b + 0x300, 0, 32, .rw, 0, false⟩

/-- `CE.RUP.RUP` bits 31:0, RW (06 Table 6-9, R196). -/
def CE.RUP_RUP (b : Nat) (j : Nat) : Fld := ⟨0x40300100 + 0x800*b + 0x310 + 0x10*j, 0, 32, .rw, 0x40000, false⟩

/-- `CE.RDN.RDN` bits 31:0, RW (06 Table 6-9, R196). -/
def CE.RDN_RDN (b : Nat) (j : Nat) : Fld := ⟨0x40300100 + 0x800*b + 0x314 + 0x10*j, 0, 32, .rw, 0x40000, false⟩

/-- `CE.RTGT.RTGT` bits 31:0, RO (06 Table 6-9, R196). -/
def CE.RTGT_RTGT (b : Nat) (j : Nat) : Fld := ⟨0x40300100 + 0x800*b + 0x318 + 0x10*j, 0, 32, .ro, 0, false⟩

/-- `CE.ROUT.ROUT` bits 31:0, RO (06 Table 6-9, R196). -/
def CE.ROUT_ROUT (b : Nat) (j : Nat) : Fld := ⟨0x40300100 + 0x800*b + 0x31C + 0x10*j, 0, 32, .ro, 0, false⟩

/-- `CE.TSTCFG.TSTATE` bits 31:30, RO (06 Table 6-9, R196). -/
def CE.TSTCFG_TSTATE (b : Nat) : Fld := ⟨0x40300100 + 0x800*b + 0x400, 30, 2, .ro, 0, false⟩

/-- `CE.TSTCFG.START` bits 29, WO (06 Table 6-9, R196). -/
def CE.TSTCFG_START (b : Nat) : Fld := ⟨0x40300100 + 0x800*b + 0x400, 29, 1, .wo, 0, true⟩

/-- `CE.TSTCFG.HOLD` bits 19:12, RW (06 Table 6-9, R196). -/
def CE.TSTCFG_HOLD (b : Nat) : Fld := ⟨0x40300100 + 0x800*b + 0x400, 12, 8, .rw, 0, false⟩

/-- `CE.TSTCFG.PRBSN` bits 11:10, RW (06 Table 6-9, R196). -/
def CE.TSTCFG_PRBSN (b : Nat) : Fld := ⟨0x40300100 + 0x800*b + 0x400, 10, 2, .rw, 0, false⟩

/-- `CE.TSTCFG.TYPE` bits 9:8, RW (06 Table 6-9, R196). -/
def CE.TSTCFG_TYPE (b : Nat) : Fld := ⟨0x40300100 + 0x800*b + 0x400, 8, 2, .rw, 0, false⟩

/-- `CE.TSTCFG.POINT` bits 2:0, RW (06 Table 6-9, R196). -/
def CE.TSTCFG_POINT (b : Nat) : Fld := ⟨0x40300100 + 0x800*b + 0x400, 0, 3, .rw, 6, false⟩

/-- `CE.TSTAMP.AMP` bits 31:0, RW (06 Table 6-9, R196). -/
def CE.TSTAMP_AMP (b : Nat) : Fld := ⟨0x40300100 + 0x800*b + 0x404, 0, 32, .rw, 0, false⟩

/-- `CE.TSTF.F1` bits 31:16, RW (06 Table 6-9, R196). -/
def CE.TSTF_F1 (b : Nat) : Fld := ⟨0x40300100 + 0x800*b + 0x408, 16, 16, .rw, 0, false⟩

/-- `CE.TSTF.F0` bits 15:0, RW (06 Table 6-9, R196). -/
def CE.TSTF_F0 (b : Nat) : Fld := ⟨0x40300100 + 0x800*b + 0x408, 0, 16, .rw, 0, false⟩

/-- `CE.TSTLEN.LEN` bits 31:0, RW (06 Table 6-9, R196). -/
def CE.TSTLEN_LEN (b : Nat) : Fld := ⟨0x40300100 + 0x800*b + 0x40C, 0, 32, .rw, 0, false⟩

/-- `CE.MOTKT.KT` bits 31:0, RW (08 Table 8-1, R234). -/
def CE.MOTKT_KT (b : Nat) : Fld := ⟨0x40300100 + 0x800*b + 0x500, 0, 32, .rw, 0x1000000, false⟩

/-- `CE.MOTKR.KR` bits 31:0, RW (08 Table 8-1, R234). -/
def CE.MOTKR_KR (b : Nat) : Fld := ⟨0x40300100 + 0x800*b + 0x504, 0, 32, .rw, 0, false⟩

/-- `CE.MOTPSI.PSI` bits 31:0, RW (08 Table 8-1, R234). -/
def CE.MOTPSI_PSI (b : Nat) : Fld := ⟨0x40300100 + 0x800*b + 0x508, 0, 32, .rw, 0, false⟩

/-- `CE.MOTL.LQ` bits 31:16, RW (08 Table 8-1, R234). -/
def CE.MOTL_LQ (b : Nat) : Fld := ⟨0x40300100 + 0x800*b + 0x50C, 16, 16, .rw, 0, false⟩

/-- `CE.MOTL.LD` bits 15:0, RW (08 Table 8-1, R234). -/
def CE.MOTL_LD (b : Nat) : Fld := ⟨0x40300100 + 0x800*b + 0x50C, 0, 16, .rw, 0, false⟩

/-- `CE.FWCFG.FWEN` bits 31, RW (08 Table 8-1, R234). -/
def CE.FWCFG_FWEN (b : Nat) : Fld := ⟨0x40300100 + 0x800*b + 0x510, 31, 1, .rw, 0, false⟩

/-- `CE.FWCFG.FWTHR` bits 15:0, RW (08 Table 8-1, R234). -/
def CE.FWCFG_FWTHR (b : Nat) : Fld := ⟨0x40300100 + 0x800*b + 0x510, 0, 16, .rw, 31457, false⟩

/-- `CE.FWKI.FWKI` bits 31:0, RW (08 Table 8-1, R234). -/
def CE.FWKI_FWKI (b : Nat) : Fld := ⟨0x40300100 + 0x800*b + 0x514, 0, 32, .rw, 0, false⟩

/-- `CE.FWMAX.IDFWMAX` bits 31:0, RW (08 Table 8-1, R234). -/
def CE.FWMAX_IDFWMAX (b : Nat) : Fld := ⟨0x40300100 + 0x800*b + 0x518, 0, 32, .rw, 0x8000000, false⟩

/-- `CE.FWID.IDFW` bits 31:0, RO (08 Table 8-1, R234). -/
def CE.FWID_IDFW (b : Nat) : Fld := ⟨0x40300100 + 0x800*b + 0x51C, 0, 32, .ro, 0, false⟩

/-- `CE.IDDIS.IDDIS` bits 31:0, RWL (08 Table 8-1, R234). -/
def CE.IDDIS_IDDIS (b : Nat) : Fld := ⟨0x40300100 + 0x800*b + 0x520, 0, 32, .rwl, 0x4000000, false⟩

/-- `CE.SAFE.ASCHYS` bits 31:16, RWL (08 Table 8-5, R243). -/
def CE.SAFE_ASCHYS (b : Nat) : Fld := ⟨0x40300100 + 0x800*b + 0x540, 16, 16, .rwl, 500, false⟩

/-- `CE.SAFE.ASCSPD` bits 15:0, RWL (08 Table 8-5, R243). -/
def CE.SAFE_ASCSPD (b : Nat) : Fld := ⟨0x40300100 + 0x800*b + 0x540, 0, 16, .rwl, 0, false⟩

/-- `CE.SAFECTL.ANGLOSS` bits 10, W1C (08 Table 8-5, R243). -/
def CE.SAFECTL_ANGLOSS (b : Nat) : Fld := ⟨0x40300100 + 0x800*b + 0x544, 10, 1, .w1c, 0, false⟩

/-- `CE.SAFECTL.NOANGLE` bits 9, W1C (08 Table 8-5, R243). -/
def CE.SAFECTL_NOANGLE (b : Nat) : Fld := ⟨0x40300100 + 0x800*b + 0x544, 9, 1, .w1c, 0, false⟩

/-- `CE.SAFECTL.ASCEN` bits 8, RWL (08 Table 8-5, R243). -/
def CE.SAFECTL_ASCEN (b : Nat) : Fld := ⟨0x40300100 + 0x800*b + 0x544, 8, 1, .rwl, 0, false⟩

/-- `CE.SAFECTL.SPDSRC` bits 3:2, RO (08 Table 8-5, R243). -/
def CE.SAFECTL_SPDSRC (b : Nat) : Fld := ⟨0x40300100 + 0x800*b + 0x544, 2, 2, .ro, 3, false⟩

/-- `CE.SAFECTL.SSPAT` bits 0, RO (08 Table 8-5, R243). -/
def CE.SAFECTL_SSPAT (b : Nat) : Fld := ⟨0x40300100 + 0x800*b + 0x544, 0, 1, .ro, 0, false⟩

/-- `CE.SAFESPD.SSPD` bits 31:0, RO (08 Table 8-5, R243). -/
def CE.SAFESPD_SSPD (b : Nat) : Fld := ⟨0x40300100 + 0x800*b + 0x548, 0, 32, .ro, 0, false⟩

/-- `CE.PLLCFG.FNOM` bits 31:16, RW (08 Table 8-7, R247). -/
def CE.PLLCFG_FNOM (b : Nat) : Fld := ⟨0x40300100 + 0x800*b + 0x600, 16, 16, .rw, 5000, false⟩

/-- `CE.PLLCFG.LOCKN` bits 15:8, RW (08 Table 8-7, R247). -/
def CE.PLLCFG_LOCKN (b : Nat) : Fld := ⟨0x40300100 + 0x800*b + 0x600, 8, 8, .rw, 64, false⟩

/-- `CE.PLLCFG.PQPRI` bits 0, RW (08 Table 8-7, R247). -/
def CE.PLLCFG_PQPRI (b : Nat) : Fld := ⟨0x40300100 + 0x800*b + 0x600, 0, 1, .rw, 0, false⟩

/-- `CE.PLLTOL.LOCKTOL` bits 15:0, RW (08 Table 8-7, R247). -/
def CE.PLLTOL_LOCKTOL (b : Nat) : Fld := ⟨0x40300100 + 0x800*b + 0x604, 0, 16, .rw, 572, false⟩

/-- `CE.PLLKP.PLLKP` bits 31:0, RW (08 Table 8-7, R247). -/
def CE.PLLKP_PLLKP (b : Nat) : Fld := ⟨0x40300100 + 0x800*b + 0x608, 0, 32, .rw, 0, false⟩

/-- `CE.PLLKIT.PLLKIT` bits 31:0, RW (08 Table 8-7, R247). -/
def CE.PLLKIT_PLLKIT (b : Nat) : Fld := ⟨0x40300100 + 0x800*b + 0x60C, 0, 32, .rw, 0, false⟩

/-- `CE.PLLLIM.FMAX` bits 31:16, RW (08 Table 8-7, R247). -/
def CE.PLLLIM_FMAX (b : Nat) : Fld := ⟨0x40300100 + 0x800*b + 0x610, 16, 16, .rw, 6500, false⟩

/-- `CE.PLLLIM.FMIN` bits 15:0, RW (08 Table 8-7, R247). -/
def CE.PLLLIM_FMIN (b : Nat) : Fld := ⟨0x40300100 + 0x800*b + 0x610, 0, 16, .rw, 4500, false⟩

/-- `CE.GRIDV.VGMAX` bits 31:16, RW (08 Table 8-7, R247). -/
def CE.GRIDV_VGMAX (b : Nat) : Fld := ⟨0x40300100 + 0x800*b + 0x614, 16, 16, .rw, 4096, false⟩

/-- `CE.GRIDV.VGMIN` bits 15:0, RW (08 Table 8-7, R247). -/
def CE.GRIDV_VGMIN (b : Nat) : Fld := ⟨0x40300100 + 0x800*b + 0x614, 0, 16, .rw, 256, false⟩

/-- `CE.PLLOFS.PLLOFS` bits 21:0, RW (08 Table 8-7, R247). -/
def CE.PLLOFS_PLLOFS (b : Nat) : Fld := ⟨0x40300100 + 0x800*b + 0x618, 0, 22, .rw, 0, false⟩

/-- `CE.PLLST.FREQ` bits 31:16, RO (08 Table 8-7, R247). -/
def CE.PLLST_FREQ (b : Nat) : Fld := ⟨0x40300100 + 0x800*b + 0x61C, 16, 16, .ro, 0, false⟩

/-- `CE.PLLST.PLLNL` bits 3, W1C (08 Table 8-7, R247). -/
def CE.PLLST_PLLNL (b : Nat) : Fld := ⟨0x40300100 + 0x800*b + 0x61C, 3, 1, .w1c, 0, false⟩

/-- `CE.PLLST.GRIDLOSS` bits 2, W1C (08 Table 8-7, R247). -/
def CE.PLLST_GRIDLOSS (b : Nat) : Fld := ⟨0x40300100 + 0x800*b + 0x61C, 2, 1, .w1c, 0, false⟩

/-- `CE.PLLST.PLLST` bits 1:0, RO (08 Table 8-7, R247). -/
def CE.PLLST_PLLST (b : Nat) : Fld := ⟨0x40300100 + 0x800*b + 0x61C, 0, 2, .ro, 0, false⟩

/-- `CE.PLLANG.THGRID` bits 21:0, RO (08 Table 8-7, R247). -/
def CE.PLLANG_THGRID (b : Nat) : Fld := ⟨0x40300100 + 0x800*b + 0x620, 0, 22, .ro, 0, false⟩

/-- `CE.PLLVD.VDG` bits 31:0, RO (08 Table 8-7, R247). -/
def CE.PLLVD_VDG (b : Nat) : Fld := ⟨0x40300100 + 0x800*b + 0x624, 0, 32, .ro, 0, false⟩

/-- `CE.DCDC.VBMAX` bits 31:16, RW (08 Table 8-8, R249). -/
def CE.DCDC_VBMAX (b : Nat) : Fld := ⟨0x40300100 + 0x800*b + 0x680, 16, 16, .rw, 4096, false⟩

/-- `CE.DCDC.VBMIN` bits 15:0, RW (08 Table 8-8, R249). -/
def CE.DCDC_VBMIN (b : Nat) : Fld := ⟨0x40300100 + 0x800*b + 0x680, 0, 16, .rw, 1024, false⟩

/-- `CE.DCDCST.VBOUT` bits 0, W1C (08 Table 8-8, R249). -/
def CE.DCDCST_VBOUT (b : Nat) : Fld := ⟨0x40300100 + 0x800*b + 0x684, 0, 1, .w1c, 0, false⟩

/-- `CE.LIMPCFG.AUTO` bits 31, RWL (08 Table 8-9, R252). -/
def CE.LIMPCFG_AUTO : Fld := ⟨0x40300000 + 0x0080, 31, 1, .rwl, 0, false⟩

/-- `CE.LIMPCFG.LMODE` bits 17:16, RWL (08 Table 8-9, R252). -/
def CE.LIMPCFG_LMODE : Fld := ⟨0x40300000 + 0x0080, 16, 2, .rwl, 0, false⟩

/-- `CE.LIMPCFG.LFILT` bits 7:0, RWL (08 Table 8-9, R252). -/
def CE.LIMPCFG_LFILT : Fld := ⟨0x40300000 + 0x0080, 0, 8, .rwl, 10, false⟩

/-- `CE.LIMPHI.LHI` bits 31:0, RWL (08 Table 8-9, R252). -/
def CE.LIMPHI_LHI : Fld := ⟨0x40300000 + 0x0084, 0, 32, .rwl, 0x10000000, false⟩

/-- `CE.LIMPLO.LLO` bits 31:0, RWL (08 Table 8-9, R252). -/
def CE.LIMPLO_LLO : Fld := ⟨0x40300000 + 0x0088, 0, 32, .rwl, 0, false⟩

/-- `CE.LIMPTMO.CMDTMO` bits 31:0, RW (08 Table 8-9, R252). -/
def CE.LIMPTMO_CMDTMO : Fld := ⟨0x40300000 + 0x008C, 0, 32, .rw, 0, false⟩

/-- `CE.LIMPST.ACTB` bits 19, RO (08 Table 8-9, R252). -/
def CE.LIMPST_ACTB : Fld := ⟨0x40300000 + 0x0090, 19, 1, .ro, 0, false⟩

/-- `CE.LIMPST.ACTA` bits 18, RO (08 Table 8-9, R252). -/
def CE.LIMPST_ACTA : Fld := ⟨0x40300000 + 0x0090, 18, 1, .ro, 0, false⟩

/-- `CE.LIMPST.LIMPFLT` bits 17, W1C (08 Table 8-9, R252). -/
def CE.LIMPST_LIMPFLT : Fld := ⟨0x40300000 + 0x0090, 17, 1, .w1c, 0, false⟩

/-- `CE.LIMPST.VALID` bits 16, RO (08 Table 8-9, R252). -/
def CE.LIMPST_VALID : Fld := ⟨0x40300000 + 0x0090, 16, 1, .ro, 0, false⟩

/-- `CE.LIMPST.RAW` bits 15:0, RO (08 Table 8-9, R252). -/
def CE.LIMPST_RAW : Fld := ⟨0x40300000 + 0x0090, 0, 16, .ro, 0, false⟩

/-- `CE.LIMPVAL.LVAL` bits 31:0, RO (08 Table 8-9, R252). -/
def CE.LIMPVAL_LVAL : Fld := ⟨0x40300000 + 0x0094, 0, 32, .ro, 0, false⟩

/-- `MOD.CTL.LOCK` bits 16, W1S (07 Table 7-6, R228). -/
def MOD.CTL_LOCK (x : Nat) : Fld := ⟨0x40400000 + 0x10000*x, 16, 1, .w1s, 0, true⟩

/-- `MOD.CTL.RUN` bits 11, RO (07 Table 7-6, R228). -/
def MOD.CTL_RUN (x : Nat) : Fld := ⟨0x40400000 + 0x10000*x, 11, 1, .ro, 0, false⟩

/-- `MOD.CTL.OUTEN` bits 10, RW (07 Table 7-6, R228). -/
def MOD.CTL_OUTEN (x : Nat) : Fld := ⟨0x40400000 + 0x10000*x, 10, 1, .rw, 0, false⟩

/-- `MOD.CTL.SV` bits 9, RW (07 Table 7-6, R228). -/
def MOD.CTL_SV (x : Nat) : Fld := ⟨0x40400000 + 0x10000*x, 9, 1, .rw, 0, false⟩

/-- `MOD.CTL.DITH` bits 8, RW (07 Table 7-6, R228). -/
def MOD.CTL_DITH (x : Nat) : Fld := ⟨0x40400000 + 0x10000*x, 8, 1, .rw, 1, false⟩

/-- `MOD.CTL.RATIO` bits 7, RW (07 Table 7-6, R228). -/
def MOD.CTL_RATIO (x : Nat) : Fld := ⟨0x40400000 + 0x10000*x, 7, 1, .rw, 0, false⟩

/-- `MOD.CTL.GRP` bits 6, RW (07 Table 7-6, R228). -/
def MOD.CTL_GRP (x : Nat) : Fld := ⟨0x40400000 + 0x10000*x, 6, 1, .rw, 1, false⟩

/-- `MOD.CTL.RLD` bits 5:4, RW (07 Table 7-6, R228). -/
def MOD.CTL_RLD (x : Nat) : Fld := ⟨0x40400000 + 0x10000*x, 4, 2, .rw, 3, false⟩

/-- `MOD.CTL.SRC` bits 3, RW (07 Table 7-6, R228). -/
def MOD.CTL_SRC (x : Nat) : Fld := ⟨0x40400000 + 0x10000*x, 3, 1, .rw, 0, false⟩

/-- `MOD.CTL.MODE` bits 2:1, RWL (07 Table 7-6, R228). -/
def MOD.CTL_MODE (x : Nat) : Fld := ⟨0x40400000 + 0x10000*x, 1, 2, .rwl, 0, true⟩

/-- `MOD.CTL.EN` bits 0, RW (07 Table 7-6, R228). -/
def MOD.CTL_EN (x : Nat) : Fld := ⟨0x40400000 + 0x10000*x, 0, 1, .rw, 0, true⟩

/-- `MOD.DEAD.DT` bits 8:0, RWL (07 Table 7-6, R228). -/
def MOD.DEAD_DT (x : Nat) : Fld := ⟨0x40400000 + 0x10000*x + 0x0004, 0, 9, .rwl, 50, true⟩

/-- `MOD.PRD.PRD` bits 23:0, RW (07 Table 7-6, R228). -/
def MOD.PRD_PRD (x : Nat) : Fld := ⟨0x40400000 + 0x10000*x + 0x0008, 0, 24, .rw, 0x249f0, true⟩

/-- `MOD.GUARD.LOSTCNT` bits 23:16, RO (07 Table 7-6, R228). -/
def MOD.GUARD_LOSTCNT (x : Nat) : Fld := ⟨0x40400000 + 0x10000*x + 0x000C, 16, 8, .ro, 0, false⟩

/-- `MOD.GUARD.DEFCNT` bits 15:8, RO (07 Table 7-6, R228). -/
def MOD.GUARD_DEFCNT (x : Nat) : Fld := ⟨0x40400000 + 0x10000*x + 0x000C, 8, 8, .ro, 0, false⟩

/-- `MOD.GUARD.GRPLOST` bits 3, W1C (07 Table 7-6, R228). -/
def MOD.GUARD_GRPLOST (x : Nat) : Fld := ⟨0x40400000 + 0x10000*x + 0x000C, 3, 1, .w1c, 0, false⟩

/-- `MOD.GUARD.DEFERRED` bits 2, W1C (07 Table 7-6, R228). -/
def MOD.GUARD_DEFERRED (x : Nat) : Fld := ⟨0x40400000 + 0x10000*x + 0x000C, 2, 1, .w1c, 0, false⟩

/-- `MOD.GUARD.PEND` bits 1, RO (07 Table 7-6, R228). -/
def MOD.GUARD_PEND (x : Nat) : Fld := ⟨0x40400000 + 0x10000*x + 0x000C, 1, 1, .ro, 0, false⟩

/-- `MOD.GUARD.CMT` bits 0, WO (07 Table 7-6, R228). -/
def MOD.GUARD_CMT (x : Nat) : Fld := ⟨0x40400000 + 0x10000*x + 0x000C, 0, 1, .wo, 0, true⟩

/-- `MOD.CMP.CMP` bits 27:0, RW (07 Table 7-6, R228). -/
def MOD.CMP_CMP (x : Nat) (i : Nat) : Fld := ⟨0x40400000 + 0x10000*x + 0x0010 + 4*i, 0, 28, .rw, 0, true⟩

/-- `MOD.CNT.DIR` bits 31, RO (07 Table 7-6, R228). -/
def MOD.CNT_DIR (x : Nat) : Fld := ⟨0x40400000 + 0x10000*x + 0x0030, 31, 1, .ro, 0, false⟩

/-- `MOD.CNT.FRAME` bits 27:24, RO (07 Table 7-6, R228). -/
def MOD.CNT_FRAME (x : Nat) : Fld := ⟨0x40400000 + 0x10000*x + 0x0030, 24, 4, .ro, 0, false⟩

/-- `MOD.CNT.CNT` bits 23:0, RO (07 Table 7-6, R228). -/
def MOD.CNT_CNT (x : Nat) : Fld := ⟨0x40400000 + 0x10000*x + 0x0030, 0, 24, .ro, 0, false⟩

/-- `MOD.STAT.SHOOTCNT` bits 31:24, RO (07 Table 7-6, R228). -/
def MOD.STAT_SHOOTCNT (x : Nat) : Fld := ⟨0x40400000 + 0x10000*x + 0x0034, 24, 8, .ro, 0, false⟩

/-- `MOD.STAT.RFCNT` bits 23:16, RO (07 Table 7-6, R228). -/
def MOD.STAT_RFCNT (x : Nat) : Fld := ⟨0x40400000 + 0x10000*x + 0x0034, 16, 8, .ro, 0, false⟩

/-- `MOD.STAT.DBGHALT` bits 9, W1C (07 Table 7-6, R228). -/
def MOD.STAT_DBGHALT (x : Nat) : Fld := ⟨0x40400000 + 0x10000*x + 0x0034, 9, 1, .w1c, 0, false⟩

/-- `MOD.STAT.PUMPNA` bits 8, W1C (07 Table 7-6, R228). -/
def MOD.STAT_PUMPNA (x : Nat) : Fld := ⟨0x40400000 + 0x10000*x + 0x0034, 8, 1, .w1c, 0, false⟩

/-- `MOD.STAT.SVSAT` bits 7, W1C (07 Table 7-6, R228). -/
def MOD.STAT_SVSAT (x : Nat) : Fld := ⟨0x40400000 + 0x10000*x + 0x0034, 7, 1, .w1c, 0, false⟩

/-- `MOD.STAT.WLIM` bits 6, W1C (07 Table 7-6, R228). -/
def MOD.STAT_WLIM (x : Nat) : Fld := ⟨0x40400000 + 0x10000*x + 0x0034, 6, 1, .w1c, 0, false⟩

/-- `MOD.STAT.WSHIFT` bits 5, W1C (07 Table 7-6, R228). -/
def MOD.STAT_WSHIFT (x : Nat) : Fld := ⟨0x40400000 + 0x10000*x + 0x0034, 5, 1, .w1c, 0, false⟩

/-- `MOD.STAT.MODEREJ` bits 4, W1C (07 Table 7-6, R228). -/
def MOD.STAT_MODEREJ (x : Nat) : Fld := ⟨0x40400000 + 0x10000*x + 0x0034, 4, 1, .w1c, 0, false⟩

/-- `MOD.STAT.SHOOT_REJ` bits 3, W1C (07 Table 7-6, R228). -/
def MOD.STAT_SHOOT_REJ (x : Nat) : Fld := ⟨0x40400000 + 0x10000*x + 0x0034, 3, 1, .w1c, 0, false⟩

/-- `MOD.STAT.RFINS` bits 2, W1C (07 Table 7-6, R228). -/
def MOD.STAT_RFINS (x : Nat) : Fld := ⟨0x40400000 + 0x10000*x + 0x0034, 2, 1, .w1c, 0, false⟩

/-- `MOD.EV.OCC` bits 31:16, RO (07 Table 7-6, R228). -/
def MOD.EV_OCC (x : Nat) (k : Nat) : Fld := ⟨0x40400000 + 0x10000*x + 0x0040 + 4*k, 16, 16, .ro, 0, false⟩

/-- `MOD.EV.EDGE` bits 9:8, RW, RO 0 for k = 0, 1 (07 Table 7-6, R228). -/
def MOD.EV_EDGE (x : Nat) (k : Nat) : Fld := ⟨0x40400000 + 0x10000*x + 0x0040 + 4*k, 8, 2, if k < 2 then .ro else .rw, 0, false⟩

/-- `MOD.EV.TE` bits 5, RW (07 Table 7-6, R228). -/
def MOD.EV_TE (x : Nat) (k : Nat) : Fld := ⟨0x40400000 + 0x10000*x + 0x0040 + 4*k, 5, 1, .rw, if k = 0 then 1 else 0, false⟩

/-- `MOD.EV.IE` bits 4, RW (07 Table 7-6, R228). -/
def MOD.EV_IE (x : Nat) (k : Nat) : Fld := ⟨0x40400000 + 0x10000*x + 0x0040 + 4*k, 4, 1, .rw, 0, false⟩

/-- `MOD.EV.PSC` bits 3:0, RW (07 Table 7-6, R228). -/
def MOD.EV_PSC (x : Nat) (k : Nat) : Fld := ⟨0x40400000 + 0x10000*x + 0x0040 + 4*k, 0, 4, .rw, 0, false⟩

/-- `MOD.EVSTAT.EVF` bits 6:0, W1C (07 Table 7-6, R228). -/
def MOD.EVSTAT_EVF (x : Nat) : Fld := ⟨0x40400000 + 0x10000*x + 0x005C, 0, 7, .w1c, 0, false⟩

/-- `MOD.WIN.WLEN` bits 24:16, RW (07 Table 7-6, R228). -/
def MOD.WIN_WLEN (x : Nat) : Fld := ⟨0x40400000 + 0x10000*x + 0x0060, 16, 9, .rw, 100, false⟩

/-- `MOD.WIN.WSIDE` bits 3:2, RW (07 Table 7-6, R228). -/
def MOD.WIN_WSIDE (x : Nat) : Fld := ⟨0x40400000 + 0x10000*x + 0x0060, 2, 2, .rw, 0, false⟩

/-- `MOD.WIN.WAT` bits 1, RW (07 Table 7-6, R228). -/
def MOD.WIN_WAT (x : Nat) : Fld := ⟨0x40400000 + 0x10000*x + 0x0060, 1, 1, .rw, 0, false⟩

/-- `MOD.WIN.WEN` bits 0, RW (07 Table 7-6, R228). -/
def MOD.WIN_WEN (x : Nat) : Fld := ⟨0x40400000 + 0x10000*x + 0x0060, 0, 1, .rw, 0, false⟩

/-- `MOD.RFSH.RFMAX` bits 31:16, RW (07 Table 7-6, R228). -/
def MOD.RFSH_RFMAX (x : Nat) : Fld := ⟨0x40400000 + 0x10000*x + 0x0064, 16, 16, .rw, 200, false⟩

/-- `MOD.RFSH.RFW` bits 15:8, RW (07 Table 7-6, R228). -/
def MOD.RFSH_RFW (x : Nat) : Fld := ⟨0x40400000 + 0x10000*x + 0x0064, 8, 8, .rw, 50, false⟩

/-- `MOD.RFSH.PUMP` bits 2:0, RW (07 Table 7-6, R228). -/
def MOD.RFSH_PUMP (x : Nat) : Fld := ⟨0x40400000 + 0x10000*x + 0x0064, 0, 3, .rw, 0, false⟩

/-- `MOD.OMASK.OMASK` bits 11:0, RW (07 Table 7-6, R228). -/
def MOD.OMASK_OMASK (x : Nat) : Fld := ⟨0x40400000 + 0x10000*x + 0x0068, 0, 12, .rw, 0, false⟩

/-- `MOD.BLKOFS.BLKOFS` bits 21:0, RWL (07 Table 7-6, R228). -/
def MOD.BLKOFS_BLKOFS (x : Nat) : Fld := ⟨0x40400000 + 0x10000*x + 0x0078, 0, 22, .rwl, 0, false⟩

/-- `MOD.VA` shadow, Q1.23 (07 Table 7-6, R228). -/
def MOD.VA_VA (x : Nat) : Fld := ⟨0x40400000 + 0x10000*x + 0x24, 0, 24, .rw, 0, true⟩

/-- `MOD.VB` shadow, Q1.23 (07 Table 7-6, R228). -/
def MOD.VB_VB (x : Nat) : Fld := ⟨0x40400000 + 0x10000*x + 0x28, 0, 24, .rw, 0, true⟩

/-- Block table, sector 0 (07 Table 7-6, R221). -/
def MOD.BLKTBL0_SECT0 (x : Nat) : Fld := ⟨0x40400000 + 0x10000*x + 0x70, 0, 6, .rwl, 9, false⟩

/-- Block table, sector 1 (07 Table 7-6, R221). -/
def MOD.BLKTBL0_SECT1 (x : Nat) : Fld := ⟨0x40400000 + 0x10000*x + 0x70, 8, 6, .rwl, 33, false⟩

/-- Block table, sector 2 (07 Table 7-6, R221). -/
def MOD.BLKTBL0_SECT2 (x : Nat) : Fld := ⟨0x40400000 + 0x10000*x + 0x70, 16, 6, .rwl, 36, false⟩

/-- Block table, sector 3 (07 Table 7-6, R221). -/
def MOD.BLKTBL0_SECT3 (x : Nat) : Fld := ⟨0x40400000 + 0x10000*x + 0x70, 24, 6, .rwl, 6, false⟩

/-- Block table, sector 4 (07 Table 7-6, R221). -/
def MOD.BLKTBL1_SECT4 (x : Nat) : Fld := ⟨0x40400000 + 0x10000*x + 0x74, 0, 6, .rwl, 18, false⟩

/-- Block table, sector 5 (07 Table 7-6, R221). -/
def MOD.BLKTBL1_SECT5 (x : Nat) : Fld := ⟨0x40400000 + 0x10000*x + 0x74, 8, 6, .rwl, 24, false⟩

/-- `MOD.BLKTBL1.BLKSRC`: 0 Hall events, 1 angle sectors (07 Table 7-6, R221). -/
def MOD.BLKTBL1_BLKSRC (x : Nat) : Fld := ⟨0x40400000 + 0x10000*x + 0x74, 16, 1, .rwl, 0, false⟩

/-- `GL.CTL.LOCK` bits 8, W1S (09 Table 9-8, R284). -/
def GL.CTL_LOCK : Fld := ⟨0x40500000, 8, 1, .w1s, 0, true⟩

/-- `GL.CHCFG.EN` bits 31, RW (09 Table 9-8, R284). -/
def GL.CHCFG_EN (n : Nat) : Fld := ⟨0x40500000 + 0x100 + 0x40*n, 31, 1, .rw, 0, true⟩

/-- `GL.CHCFG.ADAPTON` bits 30, RW (09 Table 9-8, R284). -/
def GL.CHCFG_ADAPTON (n : Nat) : Fld := ⟨0x40500000 + 0x100 + 0x40*n, 30, 1, .rw, 1, false⟩

/-- `GL.CHCFG.ADAPTOFF` bits 29, RW (09 Table 9-8, R284). -/
def GL.CHCFG_ADAPTOFF (n : Nat) : Fld := ⟨0x40500000 + 0x100 + 0x40*n, 29, 1, .rw, 1, false⟩

/-- `GL.CHCFG.TDB` bits 15:8, RW (09 Table 9-8, R284). -/
def GL.CHCFG_TDB (n : Nat) : Fld := ⟨0x40500000 + 0x100 + 0x40*n, 8, 8, .rw, 2, false⟩

/-- `GL.CHBND.SMAXOFF` bits 29:24, RWL (09 Table 9-8, R284). -/
def GL.CHBND_SMAXOFF (n : Nat) : Fld := ⟨0x40500000 + 0x100 + 0x40*n + 0x04, 24, 6, .rwl, 63, false⟩

/-- `GL.CHBND.SMINOFF` bits 21:16, RWL (09 Table 9-8, R284). -/
def GL.CHBND_SMINOFF (n : Nat) : Fld := ⟨0x40500000 + 0x100 + 0x40*n + 0x04, 16, 6, .rwl, 8, false⟩

/-- `GL.CHBND.SMAXON` bits 13:8, RWL (09 Table 9-8, R284). -/
def GL.CHBND_SMAXON (n : Nat) : Fld := ⟨0x40500000 + 0x100 + 0x40*n + 0x04, 8, 6, .rwl, 63, false⟩

/-- `GL.CHBND.SMINON` bits 5:0, RWL (09 Table 9-8, R284). -/
def GL.CHBND_SMINON (n : Nat) : Fld := ⟨0x40500000 + 0x100 + 0x40*n + 0x04, 0, 6, .rwl, 8, false⟩

/-- `GL.CHSTR.STOFF` bits 29:24, RO (09 Table 9-8, R284). -/
def GL.CHSTR_STOFF (n : Nat) : Fld := ⟨0x40500000 + 0x100 + 0x40*n + 0x08, 24, 6, .ro, 32, false⟩

/-- `GL.CHSTR.STON` bits 21:16, RO (09 Table 9-8, R284). -/
def GL.CHSTR_STON (n : Nat) : Fld := ⟨0x40500000 + 0x100 + 0x40*n + 0x08, 16, 6, .ro, 32, false⟩

/-- `GL.CHSTR.INITOFF` bits 13:8, RW (09 Table 9-8, R284). -/
def GL.CHSTR_INITOFF (n : Nat) : Fld := ⟨0x40500000 + 0x100 + 0x40*n + 0x08, 8, 6, .rw, 32, false⟩

/-- `GL.CHSTR.INITON` bits 5:0, RW (09 Table 9-8, R284). -/
def GL.CHSTR_INITON (n : Nat) : Fld := ⟨0x40500000 + 0x100 + 0x40*n + 0x08, 0, 6, .rw, 32, false⟩

/-- `GL.CHTGT.TTOFF` bits 25:16, RW (09 Table 9-8, R284). -/
def GL.CHTGT_TTOFF (n : Nat) : Fld := ⟨0x40500000 + 0x100 + 0x40*n + 0x0C, 16, 10, .rw, 60, false⟩

/-- `GL.CHTGT.TTON` bits 9:0, RW (09 Table 9-8, R284). -/
def GL.CHTGT_TTON (n : Nat) : Fld := ⟨0x40500000 + 0x100 + 0x40*n + 0x0C, 0, 10, .rw, 60, false⟩

/-- `GL.CHDES.HSTHR` bits 31:24, RWL (09 Table 9-8, R284). -/
def GL.CHDES_HSTHR (n : Nat) : Fld := ⟨0x40500000 + 0x100 + 0x40*n + 0x10, 24, 8, .rwl, 40, false⟩

/-- `GL.CHDES.BLANK` bits 23:16, RWL (09 Table 9-8, R284). -/
def GL.CHDES_BLANK (n : Nat) : Fld := ⟨0x40500000 + 0x100 + 0x40*n + 0x10, 16, 8, .rwl, 50, false⟩

/-- `GL.CHDES.HSEN` bits 14, RWL (09 Table 9-8, R284). -/
def GL.CHDES_HSEN (n : Nat) : Fld := ⟨0x40500000 + 0x100 + 0x40*n + 0x10, 14, 1, .rwl, 1, false⟩

/-- `GL.CHDES.DSFILT` bits 13:8, RWL (09 Table 9-8, R284). -/
def GL.CHDES_DSFILT (n : Nat) : Fld := ⟨0x40500000 + 0x100 + 0x40*n + 0x10, 8, 6, .rwl, 16, false⟩

/-- `GL.CHDES.DSTHR` bits 5:0, RWL (09 Table 9-8, R284). -/
def GL.CHDES_DSTHR (n : Nat) : Fld := ⟨0x40500000 + 0x100 + 0x40*n + 0x10, 0, 6, .rwl, 32, false⟩

/-- `GL.CHSTO.STOT1` bits 23:16, RWL (09 Table 9-8, R284). -/
def GL.CHSTO_STOT1 (n : Nat) : Fld := ⟨0x40500000 + 0x100 + 0x40*n + 0x14, 16, 8, .rwl, 50, false⟩

/-- `GL.CHSTO.STOSTR` bits 13:8, RWL (09 Table 9-8, R284). -/
def GL.CHSTO_STOSTR (n : Nat) : Fld := ⟨0x40500000 + 0x100 + 0x40*n + 0x14, 8, 6, .rwl, 8, false⟩

/-- `GL.CHSTO.STOLVL` bits 4:0, RWL (09 Table 9-8, R284). -/
def GL.CHSTO_STOLVL (n : Nat) : Fld := ⟨0x40500000 + 0x100 + 0x40*n + 0x14, 0, 5, .rwl, 20, false⟩

/-- `GL.CHRTY.RETRYN` bits 26:24, RWL (09 Table 9-8, R284). -/
def GL.CHRTY_RETRYN (n : Nat) : Fld := ⟨0x40500000 + 0x100 + 0x40*n + 0x18, 24, 3, .rwl, 3, false⟩

/-- `GL.CHRTY.RWAIT` bits 9:0, RWL (09 Table 9-8, R284). -/
def GL.CHRTY_RWAIT (n : Nat) : Fld := ⟨0x40500000 + 0x100 + 0x40*n + 0x18, 0, 10, .rwl, 10, false⟩

/-- `GL.CHSTAT.FCNT` bits 31:24, RO (09 Table 9-8, R284). -/
def GL.CHSTAT_FCNT (n : Nat) : Fld := ⟨0x40500000 + 0x100 + 0x40*n + 0x1C, 24, 8, .ro, 0, false⟩

/-- `GL.CHSTAT.ST` bits 19:16, RO (09 Table 9-8, R284). -/
def GL.CHSTAT_ST (n : Nat) : Fld := ⟨0x40500000 + 0x100 + 0x40*n + 0x1C, 16, 4, .ro, 0, false⟩

/-- `GL.CHSTAT.LINK` bits 15, RO (09 Table 9-8, R284). -/
def GL.CHSTAT_LINK (n : Nat) : Fld := ⟨0x40500000 + 0x100 + 0x40*n + 0x1C, 15, 1, .ro, 0, false⟩

/-- `GL.CHSTAT.CAPPRES` bits 14, RO (09 Table 9-8, R284). -/
def GL.CHSTAT_CAPPRES (n : Nat) : Fld := ⟨0x40500000 + 0x100 + 0x40*n + 0x1C, 14, 1, .ro, 0, false⟩

/-- `GL.CHSTAT.ENREJ` bits 13, W1C (09 Table 9-8, R284). -/
def GL.CHSTAT_ENREJ (n : Nat) : Fld := ⟨0x40500000 + 0x100 + 0x40*n + 0x1C, 13, 1, .w1c, 0, false⟩

/-- `GL.CHSTAT.INTLKTMO` bits 12, W1C (09 Table 9-8, R284). -/
def GL.CHSTAT_INTLKTMO (n : Nat) : Fld := ⟨0x40500000 + 0x100 + 0x40*n + 0x1C, 12, 1, .w1c, 0, false⟩

/-- `GL.CHSTAT.EPLOSS` bits 11, W1C (09 Table 9-8, R284). -/
def GL.CHSTAT_EPLOSS (n : Nat) : Fld := ⟨0x40500000 + 0x100 + 0x40*n + 0x1C, 11, 1, .w1c, 0, false⟩

/-- `GL.CHSTAT.SPLOSS` bits 10, W1C (09 Table 9-8, R284). -/
def GL.CHSTAT_SPLOSS (n : Nat) : Fld := ⟨0x40500000 + 0x100 + 0x40*n + 0x1C, 10, 1, .w1c, 0, false⟩

/-- `GL.CHSTAT.ATBOUND` bits 8, W1C (09 Table 9-8, R284). -/
def GL.CHSTAT_ATBOUND (n : Nat) : Fld := ⟨0x40500000 + 0x100 + 0x40*n + 0x1C, 8, 1, .w1c, 0, false⟩

/-- `GL.CHSTAT.TINV` bits 7, W1C (09 Table 9-8, R284). -/
def GL.CHSTAT_TINV (n : Nat) : Fld := ⟨0x40500000 + 0x100 + 0x40*n + 0x1C, 7, 1, .w1c, 0, false⟩

/-- `GL.CHSTAT.HS` bits 6, W1C (09 Table 9-8, R284). -/
def GL.CHSTAT_HS (n : Nat) : Fld := ⟨0x40500000 + 0x100 + 0x40*n + 0x1C, 6, 1, .w1c, 0, false⟩

/-- `GL.CHSTAT.DS` bits 5, W1C (09 Table 9-8, R284). -/
def GL.CHSTAT_DS (n : Nat) : Fld := ⟨0x40500000 + 0x100 + 0x40*n + 0x1C, 5, 1, .w1c, 0, false⟩

/-- `GL.CHTIME.TOFFM` bits 31:16, RO (09 Table 9-8, R284). -/
def GL.CHTIME_TOFFM (n : Nat) : Fld := ⟨0x40500000 + 0x100 + 0x40*n + 0x20, 16, 16, .ro, 65535, false⟩

/-- `GL.CHTIME.TONM` bits 15:0, RO (09 Table 9-8, R284). -/
def GL.CHTIME_TONM (n : Nat) : Fld := ⟨0x40500000 + 0x100 + 0x40*n + 0x20, 0, 16, .ro, 65535, false⟩

/-- `GL.CHTEMP.NTC` bits 31:16, RO (09 Table 9-8, R284). -/
def GL.CHTEMP_NTC (n : Nat) : Fld := ⟨0x40500000 + 0x100 + 0x40*n + 0x24, 16, 16, .ro, 0, false⟩

/-- `GL.CHTEMP.TDIE` bits 15:0, RO (09 Table 9-8, R284). -/
def GL.CHTEMP_TDIE (n : Nat) : Fld := ⟨0x40500000 + 0x100 + 0x40*n + 0x24, 0, 16, .ro, 0, false⟩

/-- `GL.CHSUP.INTLKH` bits 31:16, RO (09 Table 9-8, R284). -/
def GL.CHSUP_INTLKH (n : Nat) : Fld := ⟨0x40500000 + 0x100 + 0x40*n + 0x28, 16, 16, .ro, 0, false⟩

/-- `GL.CHSUP.VPOS` bits 15:0, RO (09 Table 9-8, R284). -/
def GL.CHSUP_VPOS (n : Nat) : Fld := ⟨0x40500000 + 0x100 + 0x40*n + 0x28, 0, 16, .ro, 0, false⟩

/-- `GL.CHCTL.CLRLATCH` bits 0, WO (09 Table 9-8, R284). -/
def GL.CHCTL_CLRLATCH (n : Nat) : Fld := ⟨0x40500000 + 0x100 + 0x40*n + 0x2C, 0, 1, .wo, 0, true⟩

/-- `GL.BSTAT.ENTRIES` bits 31:16, RO (09 Table 9-8, R284). -/
def GL.BSTAT_ENTRIES (x : Nat) : Fld := ⟨0x40500000 + 0x0800 + 0x20*x, 16, 16, .ro, 0, false⟩

/-- `GL.BSTAT.NOTARMED` bits 9, W1C (09 Table 9-8, R284). -/
def GL.BSTAT_NOTARMED (x : Nat) : Fld := ⟨0x40500000 + 0x0800 + 0x20*x, 9, 1, .w1c, 0, false⟩

/-- `GL.BSTAT.APPLIED` bits 8, RO (09 Table 9-8, R284). -/
def GL.BSTAT_APPLIED (x : Nat) : Fld := ⟨0x40500000 + 0x0800 + 0x20*x, 8, 1, .ro, 0, false⟩

/-- `GL.BSTAT.PAT` bits 7, RO (09 Table 9-8, R284). -/
def GL.BSTAT_PAT (x : Nat) : Fld := ⟨0x40500000 + 0x0800 + 0x20*x, 7, 1, .ro, 0, false⟩

/-- `GL.BSTAT.STO` bits 6, RO (09 Table 9-8, R284). -/
def GL.BSTAT_STO (x : Nat) : Fld := ⟨0x40500000 + 0x0800 + 0x20*x, 6, 1, .ro, 0, false⟩

/-- `GL.BSTAT.FCOL` cause bit 0 (09 Table 9-8, R280). -/
def GL.BSTAT_FCOL (x : Nat) : Fld := ⟨0x40500000 + 0x0800 + 0x20*x, 0, 1, .w1c, 0, true⟩

/-- `GL.BSTAT.HALT` cause bit 1 (09 Table 9-8, R280). -/
def GL.BSTAT_HALT (x : Nat) : Fld := ⟨0x40500000 + 0x0800 + 0x20*x, 1, 1, .w1c, 0, true⟩

/-- `GL.BSTAT.HBEAT` cause bit 2 (09 Table 9-8, R280). -/
def GL.BSTAT_HBEAT (x : Nat) : Fld := ⟨0x40500000 + 0x0800 + 0x20*x, 2, 1, .w1c, 0, true⟩

/-- `GL.BSTAT.ENGINE` cause bit 3 (09 Table 9-8, R280). -/
def GL.BSTAT_ENGINE (x : Nat) : Fld := ⟨0x40500000 + 0x0800 + 0x20*x, 3, 1, .w1c, 0, true⟩

/-- `GL.BSTAT.TWOLEG` cause bit 4 (09 Table 9-8, R280). -/
def GL.BSTAT_TWOLEG (x : Nat) : Fld := ⟨0x40500000 + 0x0800 + 0x20*x, 4, 1, .w1c, 0, true⟩

/-- `GL.DSCCTL.REQ` bits 31, RW (09 Table 9-8, R284). -/
def GL.DSCCTL_REQ : Fld := ⟨0x40500000 + 0x0900, 31, 1, .rw, 0, true⟩

/-- `GL.DSCCTL.MODE` bits 9:8, RWL (09 Table 9-8, R284). -/
def GL.DSCCTL_MODE : Fld := ⟨0x40500000 + 0x0900, 8, 2, .rwl, 2, false⟩

/-- `GL.DSCCTL.VTHR` bits 7:0, RWL (09 Table 9-8, R284). -/
def GL.DSCCTL_VTHR : Fld := ⟨0x40500000 + 0x0900, 0, 8, .rwl, 60, false⟩

/-- `GL.DSCSTAT.TDSC` bits 31:16, RO (09 Table 9-8, R284). -/
def GL.DSCSTAT_TDSC : Fld := ⟨0x40500000 + 0x0904, 16, 16, .ro, 0, false⟩

/-- `GL.DSCSTAT.FAIL` bits 3, W1C (09 Table 9-8, R284). -/
def GL.DSCSTAT_FAIL : Fld := ⟨0x40500000 + 0x0904, 3, 1, .w1c, 0, false⟩

/-- `GL.DSCSTAT.ST` bits 2:0, RO (09 Table 9-8, R284). -/
def GL.DSCSTAT_ST : Fld := ⟨0x40500000 + 0x0904, 0, 3, .ro, 0, false⟩

/-- `TH.CTL.LOCK` bits 8, W1S (10 Table 10-5, R305). -/
def TH.CTL_LOCK : Fld := ⟨0x40600000, 8, 1, .w1s, 0, true⟩

/-- `TH.CTL.NFILT` bits 7:4, RWL (10 Table 10-5, R305). -/
def TH.CTL_NFILT : Fld := ⟨0x40600000, 4, 4, .rwl, 3, false⟩

/-- `TH.CTL.RFEN` bits 2, RWL (10 Table 10-5, R305). -/
def TH.CTL_RFEN : Fld := ⟨0x40600000, 2, 1, .rwl, 1, false⟩

/-- `TH.CTL.EN` bits 0, RWL (10 Table 10-5, R305). -/
def TH.CTL_EN : Fld := ⟨0x40600000, 0, 1, .rwl, 1, false⟩

/-- `TH.STAT.ROUNDS` bits 31:16, RO (10 Table 10-5, R305). -/
def TH.STAT_ROUNDS : Fld := ⟨0x40600000 + 0x0004, 16, 16, .ro, 0, false⟩

/-- `TH.STAT.DSTAGE` bits 11:10, RO (10 Table 10-5, R305). -/
def TH.STAT_DSTAGE : Fld := ⟨0x40600000 + 0x0004, 10, 2, .ro, 0, false⟩

/-- `TH.STAT.STALE` bits 8, W1C (10 Table 10-5, R305). -/
def TH.STAT_STALE : Fld := ⟨0x40600000 + 0x0004, 8, 1, .w1c, 0, false⟩

/-- `TH.STAT.ISLSTOP` bits 6, W1C (10 Table 10-5, R305). -/
def TH.STAT_ISLSTOP : Fld := ⟨0x40600000 + 0x0004, 6, 1, .w1c, 0, false⟩

/-- `TH.STAT.TJSTOP` bits 5, W1C (10 Table 10-5, R305). -/
def TH.STAT_TJSTOP : Fld := ⟨0x40600000 + 0x0004, 5, 1, .w1c, 0, false⟩

/-- `TH.STAT.DIESTOP` bits 4, W1C (10 Table 10-5, R305). -/
def TH.STAT_DIESTOP : Fld := ⟨0x40600000 + 0x0004, 4, 1, .w1c, 0, false⟩

/-- `TH.STAT.SENSBRK` bits 3, W1C (10 Table 10-5, R305). -/
def TH.STAT_SENSBRK : Fld := ⟨0x40600000 + 0x0004, 3, 1, .w1c, 0, false⟩

/-- `TH.STAT.HI` bits 2, W1C (10 Table 10-5, R305). -/
def TH.STAT_HI : Fld := ⟨0x40600000 + 0x0004, 2, 1, .w1c, 0, false⟩

/-- `TH.STAT.LO` bits 1, W1C (10 Table 10-5, R305). -/
def TH.STAT_LO : Fld := ⟨0x40600000 + 0x0004, 1, 1, .w1c, 0, false⟩

/-- `TH.STAT.WARN` bits 0, W1C (10 Table 10-5, R305). -/
def TH.STAT_WARN : Fld := ⟨0x40600000 + 0x0004, 0, 1, .w1c, 0, false⟩

/-- `TH.LATCH.ISL` bits 11:8, RO (10 Table 10-5, R305). -/
def TH.LATCH_ISL : Fld := ⟨0x40600000 + 0x0008, 8, 4, .ro, 0, false⟩

/-- `TH.LATCH.BARRIER` bits 1, RO (10 Table 10-5, R305). -/
def TH.LATCH_BARRIER : Fld := ⟨0x40600000 + 0x0008, 1, 1, .ro, 0, false⟩

/-- `TH.LATCH.DIE` bits 0, RO (10 Table 10-5, R305). -/
def TH.LATCH_DIE : Fld := ⟨0x40600000 + 0x0008, 0, 1, .ro, 0, false⟩

/-- `TH.DIE.HKSKIP` bits 27:24, RO (10 Table 10-5, R305). -/
def TH.DIE_HKSKIP : Fld := ⟨0x40600000 + 0x000C, 24, 4, .ro, 0, false⟩

/-- `TH.DIE.FSKIP` bits 23:20, RO (10 Table 10-5, R305). -/
def TH.DIE_FSKIP : Fld := ⟨0x40600000 + 0x000C, 20, 4, .ro, 0, false⟩

/-- `TH.DIE.THROT` bits 18:16, RO (10 Table 10-5, R305). -/
def TH.DIE_THROT : Fld := ⟨0x40600000 + 0x000C, 16, 3, .ro, 0, false⟩

/-- `TH.DIE.TDIE` bits 15:0, RO (10 Table 10-5, R305). -/
def TH.DIE_TDIE : Fld := ⟨0x40600000 + 0x000C, 0, 16, .ro, 0, false⟩

/-- `TH.TBRKR.TBRK` bits 15:0, RWL (10 Table 10-5, R305). -/
def TH.TBRKR_TBRK : Fld := ⟨0x40600000 + 0x0010, 0, 16, .rwl, 13000, false⟩

/-- `TH.TCOOL.TCOOL` bits 15:0, RW (10 Table 10-5, R305). -/
def TH.TCOOL_TCOOL (x : Nat) : Fld := ⟨0x40600000 + 0x0014 + 4*x, 0, 16, .rw, 2500, false⟩

/-- `TH.HKTHR.THI` bits 31:16, RWL (10 Table 10-5, R305). -/
def TH.HKTHR_THI (c : Nat) : Fld := ⟨0x40600000 + 0x0100 + 8*c, 16, 16, .rwl, hkHighReset c, false⟩

/-- `TH.HKTHR.TLO` bits 15:0, RWL (10 Table 10-5, R305). -/
def TH.HKTHR_TLO (c : Nat) : Fld := ⟨0x40600000 + 0x0100 + 8*c, 0, 16, .rwl, hkLowReset c, false⟩

/-- `TH.HKVAL.BRK` bits 18, RO (10 Table 10-5, R305). -/
def TH.HKVAL_BRK (c : Nat) : Fld := ⟨0x40600000 + 0x0104 + 8*c, 18, 1, .ro, 0, false⟩

/-- `TH.HKVAL.HIA` bits 17, RO (10 Table 10-5, R305). -/
def TH.HKVAL_HIA (c : Nat) : Fld := ⟨0x40600000 + 0x0104 + 8*c, 17, 1, .ro, 0, false⟩

/-- `TH.HKVAL.LOA` bits 16, RO (10 Table 10-5, R305). -/
def TH.HKVAL_LOA (c : Nat) : Fld := ⟨0x40600000 + 0x0104 + 8*c, 16, 1, .ro, 0, false⟩

/-- `TH.HKVAL.VAL` bits 15:0, RO (10 Table 10-5, R305). -/
def TH.HKVAL_VAL (c : Nat) : Fld := ⟨0x40600000 + 0x0104 + 8*c, 0, 16, .ro, 0, false⟩

/-- `TH.NTC.BETA` bits 31:16, RWL (10 Table 10-5, R305). -/
def TH.NTC_BETA (n : Nat) : Fld := ⟨0x40600000 + 0x0200 + 4*n, 16, 16, .rwl, 3375, false⟩

/-- `TH.NTC.RNOM` bits 15:0, RWL (10 Table 10-5, R305). -/
def TH.NTC_RNOM (n : Nat) : Fld := ⟨0x40600000 + 0x0200 + 4*n, 0, 16, .rwl, 500, false⟩

/-- `TH.PMCFG.REFSRC` bits 31, RWL (10 Table 10-5, R305). -/
def TH.PMCFG_REFSRC (n : Nat) : Fld := ⟨0x40600000 + 0x400 + 0x20*n, 31, 1, .rwl, 0, false⟩

/-- `TH.PMCFG.FIRST` bits 13:8, RWL (10 Table 10-5, R305). -/
def TH.PMCFG_FIRST (n : Nat) : Fld := ⟨0x40600000 + 0x400 + 0x20*n, 8, 6, .rwl, 5*n, false⟩

/-- `TH.PMCFG.NODES` bits 2:0, RWL (10 Table 10-5, R305). -/
def TH.PMCFG_NODES (n : Nat) : Fld := ⟨0x40600000 + 0x400 + 0x20*n, 0, 3, .rwl, 0, false⟩

/-- `TH.PMSW.VON0` bits 31:16, RWL (10 Table 10-5, R305). -/
def TH.PMSW_VON0 (n : Nat) : Fld := ⟨0x40600000 + 0x400 + 0x20*n + 0x04, 16, 16, .rwl, 0, false⟩

/-- `TH.PMSW.RON` bits 15:0, RWL (10 Table 10-5, R305). -/
def TH.PMSW_RON (n : Nat) : Fld := ⟨0x40600000 + 0x400 + 0x20*n + 0x04, 0, 16, .rwl, 2500, false⟩

/-- `TH.PMDI.VD0` bits 31:16, RWL (10 Table 10-5, R305). -/
def TH.PMDI_VD0 (n : Nat) : Fld := ⟨0x40600000 + 0x400 + 0x20*n + 0x08, 16, 16, .rwl, 0, false⟩

/-- `TH.PMDI.RD` bits 15:0, RWL (10 Table 10-5, R305). -/
def TH.PMDI_RD (n : Nat) : Fld := ⟨0x40600000 + 0x400 + 0x20*n + 0x08, 0, 16, .rwl, 2500, false⟩

/-- `TH.PMCOEF.TCR` bits 31:16, RWL (10 Table 10-5, R305). -/
def TH.PMCOEF_TCR (n : Nat) : Fld := ⟨0x40600000 + 0x400 + 0x20*n + 0x0C, 16, 16, .rwl, 4000, false⟩

/-- `TH.PMCOEF.KSWON` bits 15:8, RWL (10 Table 10-5, R305). -/
def TH.PMCOEF_KSWON (n : Nat) : Fld := ⟨0x40600000 + 0x400 + 0x20*n + 0x0C, 8, 8, .rwl, 128, false⟩

/-- `TH.PMCOEF.KSWOFF` bits 7:0, RWL (10 Table 10-5, R305). -/
def TH.PMCOEF_KSWOFF (n : Nat) : Fld := ⟨0x40600000 + 0x400 + 0x20*n + 0x0C, 0, 8, .rwl, 128, false⟩

/-- `TH.PMTJ.PLOSS` bits 31:16, RO (10 Table 10-5, R305). -/
def TH.PMTJ_PLOSS (n : Nat) : Fld := ⟨0x40600000 + 0x400 + 0x20*n + 0x10, 16, 16, .ro, 0, false⟩

/-- `TH.PMTJ.TJ` bits 15:0, RO (10 Table 10-5, R305). -/
def TH.PMTJ_TJ (n : Nat) : Fld := ⟨0x40600000 + 0x400 + 0x20*n + 0x10, 0, 16, .ro, 0, false⟩

/-- `TH.PMTHR.TJSTOP` bits 31:16, RWL (10 Table 10-5, R305). -/
def TH.PMTHR_TJSTOP (n : Nat) : Fld := ⟨0x40600000 + 0x400 + 0x20*n + 0x14, 16, 16, .rwl, 17000, false⟩

/-- `TH.PMTHR.TJWARN` bits 15:0, RWL (10 Table 10-5, R305). -/
def TH.PMTHR_TJWARN (n : Nat) : Fld := ⟨0x40600000 + 0x400 + 0x20*n + 0x14, 0, 16, .rwl, 15000, false⟩

/-- `TH.PMREF.MERR` bits 31, W1C (10 Table 10-5, R305). -/
def TH.PMREF_MERR (n : Nat) : Fld := ⟨0x40600000 + 0x400 + 0x20*n + 0x18, 31, 1, .w1c, 0, false⟩

/-- `TH.PMREF.TREF` bits 15:0, RO (10 Table 10-5, R305). -/
def TH.PMREF_TREF (n : Nat) : Fld := ⟨0x40600000 + 0x400 + 0x20*n + 0x18, 0, 16, .ro, 0, false⟩

/-- `TH.NR.RTH` bits 31:0, RWL (10 Table 10-5, R305). -/
def TH.NR_RTH (k : Nat) : Fld := ⟨0x40600000 + 0x800 + 8*k, 0, 32, .rwl, 0, false⟩

/-- `TH.NC.CTH` bits 31:0, RWL (10 Table 10-5, R305). -/
def TH.NC_CTH (k : Nat) : Fld := ⟨0x40600000 + 0x800 + 8*k + 0x4, 0, 32, .rwl, 0, false⟩

/-- `TH.DERT.TDEND` bits 31:16, RWL (10 Table 10-5, R305). -/
def TH.DERT_TDEND (x : Nat) : Fld := ⟨0x40600000 + 0xA00 + 0x10*x, 16, 16, .rwl, 16000, false⟩

/-- `TH.DERT.TDSTART` bits 15:0, RWL (10 Table 10-5, R305). -/
def TH.DERT_TDSTART (x : Nat) : Fld := ⟨0x40600000 + 0xA00 + 0x10*x, 0, 16, .rwl, 14000, false⟩

/-- `TH.DERMAX.DMAX` bits 31:0, RWL (10 Table 10-5, R305). -/
def TH.DERMAX_DMAX (x : Nat) : Fld := ⟨0x40600000 + 0xA00 + 0x10*x + 0x4, 0, 32, .rwl, 0x18000000, false⟩

/-- `TH.DERMIN.DMIN` bits 31:0, RWL (10 Table 10-5, R305). -/
def TH.DERMIN_DMIN (x : Nat) : Fld := ⟨0x40600000 + 0xA00 + 0x10*x + 0x8, 0, 32, .rwl, 0, false⟩

/-- `TH.DERLIM.DLIM` bits 31:0, RO (10 Table 10-5, R305). -/
def TH.DERLIM_DLIM (x : Nat) : Fld := ⟨0x40600000 + 0xA00 + 0x10*x + 0xC, 0, 32, .ro, 0x18000000, false⟩

end Sys2Proof.Machine
end

