-- ==== Sys2Proof/Machine/RegMapNet.lean ====
section
/-! DEFINITION. The field descriptors of the safety I/O, CAN, Kinak, timebase, dictionary, ledger and capture registers: one definition per field of a register table of the spec,
with its address, lowest bit, width, access code and reset value. -/

namespace Sys2Proof.Machine

/-- `SIO.CTL.LOCK` bits 8, W1S (13 Table 13-5, R387). -/
def SIO.CTL_LOCK : Fld := ⟨0x40700000, 8, 1, .w1s, 0, true⟩

/-- `SIO.CTL.TPEN` bits 3:0, RWL (13 Table 13-5, R387). -/
def SIO.CTL_TPEN : Fld := ⟨0x40700000, 0, 4, .rwl, 15, false⟩

/-- `SIO.INCFG.FILT` bits 25:16, RWL (13 Table 13-5, R387). -/
def SIO.INCFG_FILT (i : Nat) : Fld := ⟨0x40700000 + 0x0010 + 4*i, 16, 10, .rwl, 120, false⟩

/-- `SIO.INCFG.FUNC` bits 11:8, RWL; RO for i ≤ 1 (13 Table 13-5, R387). -/
def SIO.INCFG_FUNC (i : Nat) : Fld := ⟨0x40700000 + 0x0010 + 4*i, 8, 4, .rwl, if i = 0 then 1 else if i = 1 then 2 else 0, false⟩

/-- `SIO.INCFG.PAIR` bits 7, RWL; RO 0 for odd SIN (13 Table 13-5, R387). -/
def SIO.INCFG_PAIR (i : Nat) : Fld := ⟨0x40700000 + 0x0010 + 4*i, 7, 1, .rwl, 0, false⟩

/-- `SIO.INCFG.USE` bits 3, RWL (13 Table 13-5, R387). -/
def SIO.INCFG_USE (i : Nat) : Fld := ⟨0x40700000 + 0x0010 + 4*i, 3, 1, .rwl, if i ≤ 1 then 1 else 0, false⟩

/-- `SIO.INCFG.TPSEL` bits 2:0, RWL (13 Table 13-5, R387). -/
def SIO.INCFG_TPSEL (i : Nat) : Fld := ⟨0x40700000 + 0x0010 + 4*i, 0, 3, .rwl, if i = 0 then 0 else if i = 1 then 1 else 4, false⟩

/-- `SIO.INSTAT.DEM` bits 25:16, RO (13 Table 13-5, R387). -/
def SIO.INSTAT_DEM : Fld := ⟨0x40700000 + 0x0040, 16, 10, .ro, 1023, false⟩

/-- `SIO.INSTAT.LEVEL` bits 9:0, RO (13 Table 13-5, R387). -/
def SIO.INSTAT_LEVEL : Fld := ⟨0x40700000 + 0x0040, 0, 10, .ro, 0, false⟩

/-- `SIO.TPSTAT.DISCERR` bits 23:20, W1C (13 Table 13-5, R387). -/
def SIO.TPSTAT_DISCERR : Fld := ⟨0x40700000 + 0x0044, 20, 4, .w1c, 0, false⟩

/-- `SIO.TPSTAT.TPOERR` bits 19:16, W1C (13 Table 13-5, R387). -/
def SIO.TPSTAT_TPOERR : Fld := ⟨0x40700000 + 0x0044, 16, 4, .w1c, 0, false⟩

/-- `SIO.TPSTAT.TPERR` bits 9:0, W1C (13 Table 13-5, R387). -/
def SIO.TPSTAT_TPERR : Fld := ⟨0x40700000 + 0x0044, 0, 10, .w1c, 0, false⟩

/-- `SIO.TPCFG.DISC` bits 15:8, RWL (13 Table 13-5, R387). -/
def SIO.TPCFG_DISC : Fld := ⟨0x40700000 + 0x0048, 8, 8, .rwl, 20, false⟩

/-- `SIO.TPCFG.TPNERR` bits 1:0, RWL (13 Table 13-5, R387). -/
def SIO.TPCFG_TPNERR : Fld := ⟨0x40700000 + 0x0048, 0, 2, .rwl, 1, false⟩

/-- `SIO.SWREQ.OBJSS1` bits 9:8, RW (13 Table 13-5, R387). -/
def SIO.SWREQ_OBJSS1 : Fld := ⟨0x40700000 + 0x0070, 8, 2, .rw, 0, false⟩

/-- `SIO.SWREQ.CWREQ` bits 3:0, RW (13 Table 13-5, R387). -/
def SIO.SWREQ_CWREQ : Fld := ⟨0x40700000 + 0x0070, 0, 4, .rw, 0, false⟩

/-- `SIO.STO.ENTRIES` bits 31:16, RO (13 Table 13-5, R387). -/
def SIO.STO_ENTRIES (x : Nat) : Fld := ⟨0x40700000 + 0x0080 + 0x10*x, 16, 16, .ro, 0, false⟩

/-- `SIO.STO.DIAGLAT` bits 11, RO (13 Table 13-5, R387). -/
def SIO.STO_DIAGLAT (x : Nat) : Fld := ⟨0x40700000 + 0x0080 + 0x10*x, 11, 1, .ro, 0, false⟩

/-- `SIO.STO.GATEF` bits 10, W1C (13 Table 13-5, R387). -/
def SIO.STO_GATEF (x : Nat) : Fld := ⟨0x40700000 + 0x0080 + 0x10*x, 10, 1, .w1c, 0, false⟩

/-- `SIO.STO.RDDIS` bits 9, W1C (13 Table 13-5, R387). -/
def SIO.STO_RDDIS (x : Nat) : Fld := ⟨0x40700000 + 0x0080 + 0x10*x, 9, 1, .w1c, 0, false⟩

/-- `SIO.STO.PATHF` bits 8, W1C (13 Table 13-5, R387). -/
def SIO.STO_PATHF (x : Nat) : Fld := ⟨0x40700000 + 0x0080 + 0x10*x, 8, 1, .w1c, 0, false⟩

/-- `SIO.STO.SRC` bits 5:1, RO (13 Table 13-5, R387). -/
def SIO.STO_SRC (x : Nat) : Fld := ⟨0x40700000 + 0x0080 + 0x10*x, 1, 5, .ro, 1, false⟩

/-- `SIO.STO.ACT` bits 0, RO (13 Table 13-5, R387). -/
def SIO.STO_ACT (x : Nat) : Fld := ⟨0x40700000 + 0x0080 + 0x10*x, 0, 1, .ro, 1, false⟩

/-- `SIO.SS1.SS1T` bits 31:16, RWL (13 Table 13-5, R387). -/
def SIO.SS1_SS1T (x : Nat) : Fld := ⟨0x40700000 + 0x80 + 0x10*x + 0x4, 16, 16, .rwl, 200, false⟩

/-- `SIO.SS1.ST` bits 1:0, RO (13 Table 13-5, R387). -/
def SIO.SS1_ST (x : Nat) : Fld := ⟨0x40700000 + 0x80 + 0x10*x + 0x4, 0, 2, .ro, 0, false⟩

/-- `SIO.SS1R.REM` bits 31:16, RO (13 Table 13-5, R387). -/
def SIO.SS1R_REM (x : Nat) : Fld := ⟨0x40700000 + 0x80 + 0x10*x + 0x8, 16, 16, .ro, 0, false⟩

/-- `SIO.SS1R.SS1RATE` bits 15:0, RWL (13 Table 13-5, R387). -/
def SIO.SS1R_SS1RATE (x : Nat) : Fld := ⟨0x40700000 + 0x80 + 0x10*x + 0x8, 0, 16, .rwl, 256, false⟩

/-- `SIO.CTRCFG.FBTMO` bits 23:16, RWL (13 Table 13-5, R387). -/
def SIO.CTRCFG_FBTMO (k : Nat) : Fld := ⟨0x40700000 + 0x0100 + 8*k, 16, 8, .rwl, 50, false⟩

/-- `SIO.CTRCFG.OPENON` bits 11:8, RWL (13 Table 13-5, R387). -/
def SIO.CTRCFG_OPENON (k : Nat) : Fld := ⟨0x40700000 + 0x0100 + 8*k, 8, 4, .rwl, 1, false⟩

/-- `SIO.CTRCFG.FBINV` bits 2, RWL (13 Table 13-5, R387). -/
def SIO.CTRCFG_FBINV (k : Nat) : Fld := ⟨0x40700000 + 0x0100 + 8*k, 2, 1, .rwl, 1, false⟩

/-- `SIO.CTRCFG.FBEN` bits 1, RWL (13 Table 13-5, R387). -/
def SIO.CTRCFG_FBEN (k : Nat) : Fld := ⟨0x40700000 + 0x0100 + 8*k, 1, 1, .rwl, 1, false⟩

/-- `SIO.CTRCFG.DRV` bits 0, RW (13 Table 13-5, R387). -/
def SIO.CTRCFG_DRV (k : Nat) : Fld := ⟨0x40700000 + 0x0100 + 8*k, 0, 1, .rw, 0, false⟩

/-- `SIO.CTRSTAT.OPS` bits 31:16, RO (13 Table 13-5, R387). -/
def SIO.CTRSTAT_OPS (k : Nat) : Fld := ⟨0x40700000 + 0x100 + 8*k + 0x4, 16, 16, .ro, 0, false⟩

/-- `SIO.CTRSTAT.FORCED` bits 2, W1C (13 Table 13-5, R387). -/
def SIO.CTRSTAT_FORCED (k : Nat) : Fld := ⟨0x40700000 + 0x100 + 8*k + 0x4, 2, 1, .w1c, 0, false⟩

/-- `SIO.CTRSTAT.FBERR` bits 1, W1C (13 Table 13-5, R387). -/
def SIO.CTRSTAT_FBERR (k : Nat) : Fld := ⟨0x40700000 + 0x100 + 8*k + 0x4, 1, 1, .w1c, 0, false⟩

/-- `SIO.CTRSTAT.FB` bits 0, RO (13 Table 13-5, R387). -/
def SIO.CTRSTAT_FB (k : Nat) : Fld := ⟨0x40700000 + 0x100 + 8*k + 0x4, 0, 1, .ro, 0, false⟩

/-- `SIO.TM.TEST` bits 31:0, RW (13 Table 13-5, R387). -/
def SIO.TM_TEST (x : Nat) : Fld := ⟨0x40700000 + 0x0200 + 0x10*x, 0, 32, .rw, 0, false⟩

/-- `SIO.TMSTAT.TRIPS` bits 31:16, RO (13 Table 13-5, R387). -/
def SIO.TMSTAT_TRIPS (x : Nat) : Fld := ⟨0x40700000 + 0x200 + 0x10*x + 0x4, 16, 16, .ro, 0, false⟩

/-- `SIO.TMSTAT.LOW` bits 3, RO (13 Table 13-5, R387). -/
def SIO.TMSTAT_LOW (x : Nat) : Fld := ⟨0x40700000 + 0x200 + 0x10*x + 0x4, 3, 1, .ro, 0, false⟩

/-- `SIO.TMSTAT.ENVERR` bits 2, W1C (13 Table 13-5, R387). -/
def SIO.TMSTAT_ENVERR (x : Nat) : Fld := ⟨0x40700000 + 0x200 + 0x10*x + 0x4, 2, 1, .w1c, 0, false⟩

/-- `SIO.TMSTAT.TQERR` bits 1, W1C (13 Table 13-5, R387). -/
def SIO.TMSTAT_TQERR (x : Nat) : Fld := ⟨0x40700000 + 0x200 + 0x10*x + 0x4, 1, 1, .w1c, 0, false⟩

/-- `SIO.TMSTAT.TMRUN` bits 0, RO (13 Table 13-5, R387). -/
def SIO.TMSTAT_TMRUN (x : Nat) : Fld := ⟨0x40700000 + 0x200 + 0x10*x + 0x4, 0, 1, .ro, 0, false⟩

/-- `SIO.CWCFG.PORTB` bits 25:24, RWL (13 Table 13-5, R387). -/
def SIO.CWCFG_PORTB : Fld := ⟨0x40700000 + 0x0300, 24, 2, .rwl, 2, false⟩

/-- `SIO.CWCFG.PORTA` bits 17:16, RWL (13 Table 13-5, R387). -/
def SIO.CWCFG_PORTA : Fld := ⟨0x40700000 + 0x0300, 16, 2, .rwl, 0, false⟩

/-- `SIO.CWCFG.LOSSACT` bits 15:14, RWL (13 Table 13-5, R387). -/
def SIO.CWCFG_LOSSACT : Fld := ⟨0x40700000 + 0x0300, 14, 2, .rwl, 2, false⟩

/-- `SIO.CWCFG.SKEW` bits 13:8, RWL (13 Table 13-5, R387). -/
def SIO.CWCFG_SKEW : Fld := ⟨0x40700000 + 0x0300, 8, 6, .rwl, 10, false⟩

/-- `SIO.CWTMO.SRCNODE` bits 29:16, RWL (13 Table 13-5, R387). -/
def SIO.CWTMO_SRCNODE : Fld := ⟨0x40700000 + 0x0304, 16, 14, .rwl, 0, false⟩

/-- `SIO.CWTMO.TMO` bits 15:0, RWL (13 Table 13-5, R387). -/
def SIO.CWTMO_TMO : Fld := ⟨0x40700000 + 0x0304, 0, 16, .rwl, 100, false⟩

/-- `SIO.CWSTAT.LASTSEQ` bits 31:16, RO (13 Table 13-5, R387). -/
def SIO.CWSTAT_LASTSEQ : Fld := ⟨0x40700000 + 0x0308, 16, 16, .ro, 0, false⟩

/-- `SIO.CWSTAT.LOSS` bits 7, W1C (13 Table 13-5, R387). -/
def SIO.CWSTAT_LOSS : Fld := ⟨0x40700000 + 0x0308, 7, 1, .w1c, 0, false⟩

/-- `SIO.CWSTAT.CONTENT` bits 6, W1C (13 Table 13-5, R387). -/
def SIO.CWSTAT_CONTENT : Fld := ⟨0x40700000 + 0x0308, 6, 1, .w1c, 0, false⟩

/-- `SIO.CWSTAT.SKEWERR` bits 5, W1C (13 Table 13-5, R387). -/
def SIO.CWSTAT_SKEWERR : Fld := ⟨0x40700000 + 0x0308, 5, 1, .w1c, 0, false⟩

/-- `SIO.CWSTAT.ONEPATH` bits 4, W1C (13 Table 13-5, R387). -/
def SIO.CWSTAT_ONEPATH : Fld := ⟨0x40700000 + 0x0308, 4, 1, .w1c, 0, false⟩

/-- `SIO.CWSTAT.SEQGAP` bits 3, W1C (13 Table 13-5, R387). -/
def SIO.CWSTAT_SEQGAP : Fld := ⟨0x40700000 + 0x0308, 3, 1, .w1c, 0, false⟩

/-- `SIO.CWCNT.ACCEPTED` bits 31:16, RO (13 Table 13-5, R387). -/
def SIO.CWCNT_ACCEPTED : Fld := ⟨0x40700000 + 0x030C, 16, 16, .ro, 0, false⟩

/-- `SIO.CWCNT.ONEPATHS` bits 15:8, RO (13 Table 13-5, R387). -/
def SIO.CWCNT_ONEPATHS : Fld := ⟨0x40700000 + 0x030C, 8, 8, .ro, 0, false⟩

/-- `SIO.CWCNT.REJECTED` bits 7:0, RO (13 Table 13-5, R387). -/
def SIO.CWCNT_REJECTED : Fld := ⟨0x40700000 + 0x030C, 0, 8, .ro, 0, false⟩

/-- `CAN.CTL.LOCK` bits 16, W1S (14 Table 14-7, R418). -/
def CAN.CTL_LOCK (p : Nat) : Fld := ⟨0x40800000 + 0x10000*p, 16, 1, .w1s, 0, true⟩

/-- `CAN.CTL.KFMT` bits 11:10, RWL (14 Table 14-7, R418). -/
def CAN.CTL_KFMT (p : Nat) : Fld := ⟨0x40800000 + 0x10000*p, 10, 2, .rwl, 1, false⟩

/-- `CAN.CTL.ROLE` bits 9:8, RWL (14 Table 14-7, R418). -/
def CAN.CTL_ROLE (p : Nat) : Fld := ⟨0x40800000 + 0x10000*p, 8, 2, .rwl, 1, false⟩

/-- `CAN.CTL.XLEN` bits 7, RW (14 Table 14-7, R418). -/
def CAN.CTL_XLEN (p : Nat) : Fld := ⟨0x40800000 + 0x10000*p, 7, 1, .rw, 0, true⟩

/-- `CAN.CTL.FDEN` bits 6, RW (14 Table 14-7, R418). -/
def CAN.CTL_FDEN (p : Nat) : Fld := ⟨0x40800000 + 0x10000*p, 6, 1, .rw, 1, true⟩

/-- `CAN.CTL.LBK` bits 3:2, RW (14 Table 14-7, R418). -/
def CAN.CTL_LBK (p : Nat) : Fld := ⟨0x40800000 + 0x10000*p, 2, 2, .rw, 0, true⟩

/-- `CAN.CTL.ABO` bits 1, RW (14 Table 14-7, R418). -/
def CAN.CTL_ABO (p : Nat) : Fld := ⟨0x40800000 + 0x10000*p, 1, 1, .rw, 1, false⟩

/-- `CAN.CTL.EN` bits 0, RW (14 Table 14-7, R418). -/
def CAN.CTL_EN (p : Nat) : Fld := ⟨0x40800000 + 0x10000*p, 0, 1, .rw, 0, true⟩

/-- `CAN.NBT.SJW` bits 31:25, RW (14 Table 14-7, R418). -/
def CAN.NBT_SJW (p : Nat) : Fld := ⟨0x40800000 + 0x10000*p + 0x0004, 25, 7, .rw, 16, true⟩

/-- `CAN.NBT.TSEG1` bits 24:16, RW (14 Table 14-7, R418). -/
def CAN.NBT_TSEG1 (p : Nat) : Fld := ⟨0x40800000 + 0x10000*p + 0x0004, 16, 9, .rw, 63, true⟩

/-- `CAN.NBT.TSEG2` bits 15:9, RW (14 Table 14-7, R418). -/
def CAN.NBT_TSEG2 (p : Nat) : Fld := ⟨0x40800000 + 0x10000*p + 0x0004, 9, 7, .rw, 16, true⟩

/-- `CAN.NBT.BRP` bits 8:0, RW (14 Table 14-7, R418). -/
def CAN.NBT_BRP (p : Nat) : Fld := ⟨0x40800000 + 0x10000*p + 0x0004, 0, 9, .rw, 4, true⟩

/-- `CAN.TDC.TDCEN` bits 16, RW (14 Table 14-7, R418). -/
def CAN.TDC_TDCEN (p : Nat) : Fld := ⟨0x40800000 + 0x10000*p + 0x0010, 16, 1, .rw, 1, false⟩

/-- `CAN.TDC.TDCO` bits 15:8, RW (14 Table 14-7, R418). -/
def CAN.TDC_TDCO (p : Nat) : Fld := ⟨0x40800000 + 0x10000*p + 0x0010, 8, 8, .rw, 64, false⟩

/-- `CAN.TDC.TDCV` bits 7:0, RO (14 Table 14-7, R418). -/
def CAN.TDC_TDCV (p : Nat) : Fld := ⟨0x40800000 + 0x10000*p + 0x0010, 0, 8, .ro, 0, false⟩

/-- `CAN.ERR.EST` bits 25:24, RO (14 Table 14-7, R418). -/
def CAN.ERR_EST (p : Nat) : Fld := ⟨0x40800000 + 0x10000*p + 0x0014, 24, 2, .ro, 0, false⟩

/-- `CAN.ERR.EWARN` bits 23, RO (14 Table 14-7, R418). -/
def CAN.ERR_EWARN (p : Nat) : Fld := ⟨0x40800000 + 0x10000*p + 0x0014, 23, 1, .ro, 0, false⟩

/-- `CAN.ERR.REC` bits 15:8, RO (14 Table 14-7, R418). -/
def CAN.ERR_REC (p : Nat) : Fld := ⟨0x40800000 + 0x10000*p + 0x0014, 8, 8, .ro, 0, false⟩

/-- `CAN.ERR.TEC` bits 7:0, RO (14 Table 14-7, R418). -/
def CAN.ERR_TEC (p : Nat) : Fld := ⟨0x40800000 + 0x10000*p + 0x0014, 0, 8, .ro, 0, false⟩

/-- `CAN.STAT.BOCNT` bits 31:24, RO (14 Table 14-7, R418). -/
def CAN.STAT_BOCNT (p : Nat) : Fld := ⟨0x40800000 + 0x10000*p + 0x0018, 24, 8, .ro, 0, false⟩

/-- `CAN.STAT.TSWRAP` bits 2, W1C (14 Table 14-7, R418). -/
def CAN.STAT_TSWRAP (p : Nat) : Fld := ⟨0x40800000 + 0x10000*p + 0x0018, 2, 1, .w1c, 0, false⟩

/-- `CAN.STAT.RXOVF` bits 1, W1C (14 Table 14-7, R418). -/
def CAN.STAT_RXOVF (p : Nat) : Fld := ⟨0x40800000 + 0x10000*p + 0x0018, 1, 1, .w1c, 0, false⟩

/-- `CAN.STAT.CFGREJ` bits 0, W1C (14 Table 14-7, R418). -/
def CAN.STAT_CFGREJ (p : Nat) : Fld := ⟨0x40800000 + 0x10000*p + 0x0018, 0, 1, .w1c, 0, false⟩

/-- `CAN.CMD.RECOVER` bits 0, WO (14 Table 14-7, R418). -/
def CAN.CMD_RECOVER (p : Nat) : Fld := ⟨0x40800000 + 0x10000*p + 0x001C, 0, 1, .wo, 0, true⟩

/-- `CAN.RXBASE.BASE` bits 31:0, RW (14 Table 14-7, R418). -/
def CAN.RXBASE_BASE (p : Nat) : Fld := ⟨0x40800000 + 0x10000*p + 0x0020, 0, 32, .rw, 0x24000000 + 0x8000*p, false⟩

/-- `CAN.RXCFG.WM` bits 31:16, RW (14 Table 14-7, R418). -/
def CAN.RXCFG_WM (p : Nat) : Fld := ⟨0x40800000 + 0x10000*p + 0x0024, 16, 16, .rw, 1024, false⟩

/-- `CAN.RXCFG.SIZE` bits 15:0, RW (14 Table 14-7, R418). -/
def CAN.RXCFG_SIZE (p : Nat) : Fld := ⟨0x40800000 + 0x10000*p + 0x0024, 0, 16, .rw, 2048, false⟩

/-- `CAN.RXPTR.RD` bits 31:16, RW (14 Table 14-7, R418). -/
def CAN.RXPTR_RD (p : Nat) : Fld := ⟨0x40800000 + 0x10000*p + 0x0028, 16, 16, .rw, 0, true⟩

/-- `CAN.RXPTR.WR` bits 15:0, RO (14 Table 14-7, R418). -/
def CAN.RXPTR_WR (p : Nat) : Fld := ⟨0x40800000 + 0x10000*p + 0x0028, 0, 16, .ro, 0, false⟩

/-- `CAN.RXSTAT.LOST` bits 31:16, RO (14 Table 14-7, R418). -/
def CAN.RXSTAT_LOST (p : Nat) : Fld := ⟨0x40800000 + 0x10000*p + 0x002C, 16, 16, .ro, 0, false⟩

/-- `CAN.RXSTAT.LEVEL` bits 15:0, RO (14 Table 14-7, R418). -/
def CAN.RXSTAT_LEVEL (p : Nat) : Fld := ⟨0x40800000 + 0x10000*p + 0x002C, 0, 16, .ro, 0, false⟩

/-- `CAN.FLTV.EN` bits 31, RW (14 Table 14-7, R418). -/
def CAN.FLTV_EN (p : Nat) (f : Nat) : Fld := ⟨0x40800000 + 0x10000*p + 0x0100 + 8*f, 31, 1, .rw, 0, false⟩

/-- `CAN.FLTV.FSEL` bits 30:29, RW (14 Table 14-7, R418). -/
def CAN.FLTV_FSEL (p : Nat) (f : Nat) : Fld := ⟨0x40800000 + 0x10000*p + 0x0100 + 8*f, 29, 2, .rw, 0, false⟩

/-- `CAN.FLTV.VAL` bits 28:0, RW (14 Table 14-7, R418). -/
def CAN.FLTV_VAL (p : Nat) (f : Nat) : Fld := ⟨0x40800000 + 0x10000*p + 0x0100 + 8*f, 0, 29, .rw, 0, false⟩

/-- `CAN.FLTM.MASK` bits 28:0, RW (14 Table 14-7, R418). -/
def CAN.FLTM_MASK (p : Nat) (f : Nat) : Fld := ⟨0x40800000 + 0x10000*p + 0x0104 + 8*f, 0, 29, .rw, 0, false⟩

/-- `CAN.MBCTL.WRITER` bits 31:24, RO (14 Table 14-7, R418). -/
def CAN.MBCTL_WRITER (p : Nat) (m : Nat) : Fld := ⟨0x40800000 + 0x10000*p + 0x0400 + 0x20*m, 24, 8, .ro, 0, false⟩

/-- `CAN.MBCTL.REQ` bits 23, WO (14 Table 14-7, R418). -/
def CAN.MBCTL_REQ (p : Nat) (m : Nat) : Fld := ⟨0x40800000 + 0x10000*p + 0x0400 + 0x20*m, 23, 1, .wo, 0, true⟩

/-- `CAN.MBCTL.ABORT` bits 22, WO (14 Table 14-7, R418). -/
def CAN.MBCTL_ABORT (p : Nat) (m : Nat) : Fld := ⟨0x40800000 + 0x10000*p + 0x0400 + 0x20*m, 22, 1, .wo, 0, true⟩

/-- `CAN.MBCTL.TXIE` bits 21, RW (14 Table 14-7, R418). -/
def CAN.MBCTL_TXIE (p : Nat) (m : Nat) : Fld := ⟨0x40800000 + 0x10000*p + 0x0400 + 0x20*m, 21, 1, .rw, 0, false⟩

/-- `CAN.MBCTL.STATE` bits 20:18, RO (14 Table 14-7, R418). -/
def CAN.MBCTL_STATE (p : Nat) (m : Nat) : Fld := ⟨0x40800000 + 0x10000*p + 0x0400 + 0x20*m, 18, 3, .ro, 0, false⟩

/-- `CAN.MBCTL.FMT` bits 17:15, RW (14 Table 14-7, R418). -/
def CAN.MBCTL_FMT (p : Nat) (m : Nat) : Fld := ⟨0x40800000 + 0x10000*p + 0x0400 + 0x20*m, 15, 3, .rw, 0, false⟩

/-- `CAN.MBCTL.BRS` bits 14, RW (14 Table 14-7, R418). -/
def CAN.MBCTL_BRS (p : Nat) (m : Nat) : Fld := ⟨0x40800000 + 0x10000*p + 0x0400 + 0x20*m, 14, 1, .rw, 1, false⟩

/-- `CAN.MBCTL.LEN` bits 11:0, RW (14 Table 14-7, R418). -/
def CAN.MBCTL_LEN (p : Nat) (m : Nat) : Fld := ⟨0x40800000 + 0x10000*p + 0x0400 + 0x20*m, 0, 12, .rw, 0, false⟩

/-- `CAN.MBID.ID` bits 31:0, RW (14 Table 14-7, R418). -/
def CAN.MBID_ID (p : Nat) (m : Nat) : Fld := ⟨0x40800000 + 0x10000*p + 0x400 + 0x20*m + 0x04, 0, 32, .rw, 0, false⟩

/-- `CAN.MBADDR.ADDR` bits 31:0, RW (14 Table 14-7, R418). -/
def CAN.MBADDR_ADDR (p : Nat) (m : Nat) : Fld := ⟨0x40800000 + 0x10000*p + 0x400 + 0x20*m + 0x08, 0, 32, .rw, 0x24020000, false⟩

/-- `CAN.MBXL.PID` bits 31:21, RW (14 Table 14-7, R418). -/
def CAN.MBXL_PID (p : Nat) (m : Nat) : Fld := ⟨0x40800000 + 0x10000*p + 0x400 + 0x20*m + 0x0C, 21, 11, .rw, 0, false⟩

/-- `CAN.MBXL.VCID` bits 15:8, RW (14 Table 14-7, R418). -/
def CAN.MBXL_VCID (p : Nat) (m : Nat) : Fld := ⟨0x40800000 + 0x10000*p + 0x400 + 0x20*m + 0x0C, 8, 8, .rw, 0, false⟩

/-- `CAN.MBXL.SDT` bits 7:0, RW (14 Table 14-7, R418). -/
def CAN.MBXL_SDT (p : Nat) (m : Nat) : Fld := ⟨0x40800000 + 0x10000*p + 0x400 + 0x20*m + 0x0C, 0, 8, .rw, 0, false⟩

/-- `CAN.MBTS.TS` bits 31:0, RO (14 Table 14-7, R418). -/
def CAN.MBTS_TS (p : Nat) (m : Nat) : Fld := ⟨0x40800000 + 0x10000*p + 0x400 + 0x20*m + 0x10, 0, 32, .ro, 0, false⟩

/-- `CAN.DBT.SJW` (14 Table 14-7, R418). -/
def CAN.DBT_SJW (p : Nat) : Fld := ⟨0x40800000 + 0x10000*p + 0x8, 24, 5, .rw, 4, true⟩

/-- `CAN.DBT.TSEG1` (14 Table 14-7, R418). -/
def CAN.DBT_TSEG1 (p : Nat) : Fld := ⟨0x40800000 + 0x10000*p + 0x8, 16, 8, .rw, 15, true⟩

/-- `CAN.DBT.TSEG2` (14 Table 14-7, R418). -/
def CAN.DBT_TSEG2 (p : Nat) : Fld := ⟨0x40800000 + 0x10000*p + 0x8, 8, 5, .rw, 4, true⟩

/-- `CAN.DBT.BRP` (14 Table 14-7, R418). -/
def CAN.DBT_BRP (p : Nat) : Fld := ⟨0x40800000 + 0x10000*p + 0x8, 0, 5, .rw, 4, true⟩

/-- `CAN.XBT.SJW` (14 Table 14-7, R418). -/
def CAN.XBT_SJW (p : Nat) : Fld := ⟨0x40800000 + 0x10000*p + 0xC, 24, 5, .rw, 4, true⟩

/-- `CAN.XBT.TSEG1` (14 Table 14-7, R418). -/
def CAN.XBT_TSEG1 (p : Nat) : Fld := ⟨0x40800000 + 0x10000*p + 0xC, 16, 8, .rw, 11, true⟩

/-- `CAN.XBT.TSEG2` (14 Table 14-7, R418). -/
def CAN.XBT_TSEG2 (p : Nat) : Fld := ⟨0x40800000 + 0x10000*p + 0xC, 8, 5, .rw, 4, true⟩

/-- `CAN.XBT.BRP` (14 Table 14-7, R418). -/
def CAN.XBT_BRP (p : Nat) : Fld := ⟨0x40800000 + 0x10000*p + 0xC, 0, 5, .rw, 1, true⟩

/-- `KN.CTL.LOCK` bits 16, W1S (14 Table 14-8, R419). -/
def KN.CTL_LOCK : Fld := ⟨0x40800000 + 0x8000, 16, 1, .w1s, 0, true⟩

/-- `KN.CTL.NODE` bits 13:0, RO (14 Table 14-8, R419). -/
def KN.CTL_NODE : Fld := ⟨0x40800000 + 0x8000, 0, 14, .ro, 1, false⟩

/-- `KN.CFG.HBPER` bits 31:16, RWL (14 Table 14-8, R419). -/
def KN.CFG_HBPER : Fld := ⟨0x40800000 + 0x8004, 16, 16, .rwl, 100, false⟩

/-- `KN.CFG.TSYNC` bits 11:10, RWL (14 Table 14-8, R419). -/
def KN.CFG_TSYNC : Fld := ⟨0x40800000 + 0x8004, 10, 2, .rwl, 0, false⟩

/-- `KN.CFG.TSPORT` bits 9:8, RWL (14 Table 14-8, R419). -/
def KN.CFG_TSPORT : Fld := ⟨0x40800000 + 0x8004, 8, 2, .rwl, 0, false⟩

/-- `KN.CFG.SYNCPER` bits 7:0, RWL (14 Table 14-8, R419). -/
def KN.CFG_SYNCPER : Fld := ⟨0x40800000 + 0x8004, 0, 8, .rwl, 10, false⟩

/-- `KN.XL.SDT` bits 23:16, RWL (14 Table 14-8, R419). -/
def KN.XL_SDT : Fld := ⟨0x40800000 + 0x8008, 16, 8, .rwl, 0, false⟩

/-- `KN.XL.VCID` bits 15:8, RWL (14 Table 14-8, R419). -/
def KN.XL_VCID : Fld := ⟨0x40800000 + 0x8008, 8, 8, .rwl, 0, false⟩

/-- `KN.XL.SLOTAUTO` bits 6, RWL (14 Table 14-8, R419). -/
def KN.XL_SLOTAUTO : Fld := ⟨0x40800000 + 0x8008, 6, 1, .rwl, 1, false⟩

/-- `KN.XL.XLSLOT` bits 5:0, RWL (14 Table 14-8, R419). -/
def KN.XL_XLSLOT : Fld := ⟨0x40800000 + 0x8008, 0, 6, .rwl, 0, false⟩

/-- `KN.STAT.SEGERR` bits 31:24, RO (14 Table 14-8, R419). -/
def KN.STAT_SEGERR : Fld := ⟨0x40800000 + 0x800C, 24, 8, .ro, 0, false⟩

/-- `KN.STAT.UNKSVC` bits 23:16, RO (14 Table 14-8, R419). -/
def KN.STAT_UNKSVC : Fld := ⟨0x40800000 + 0x800C, 16, 8, .ro, 0, false⟩

/-- `KN.STAT.FWDDROP` bits 15:8, RO (14 Table 14-8, R419). -/
def KN.STAT_FWDDROP : Fld := ⟨0x40800000 + 0x800C, 8, 8, .ro, 0, false⟩

/-- `KN.STAT.TSVALID` bits 1, RO (14 Table 14-8, R419). -/
def KN.STAT_TSVALID : Fld := ⟨0x40800000 + 0x800C, 1, 1, .ro, 0, false⟩

/-- `KN.STAT.ADDRCONF` bits 0, W1C (14 Table 14-8, R419). -/
def KN.STAT_ADDRCONF : Fld := ⟨0x40800000 + 0x800C, 0, 1, .w1c, 0, false⟩

/-- `KN.TSNODE.TSNODE` bits 13:0, RWL (14 Table 14-8, R419). -/
def KN.TSNODE_TSNODE : Fld := ⟨0x40800000 + 0x8010, 0, 14, .rwl, 0, false⟩

/-- `KN.FWD.FWDMISS` bits 31:16, RO (14 Table 14-8, R419). -/
def KN.FWD_FWDMISS : Fld := ⟨0x40800000 + 0x8020, 16, 16, .ro, 0, false⟩

/-- `KN.FWD.FWDEN` bits 0, RWL (14 Table 14-8, R419). -/
def KN.FWD_FWDEN : Fld := ⟨0x40800000 + 0x8020, 0, 1, .rwl, 0, false⟩

/-- `KN.LOCAL.HI` bits 29:16, RWL (14 Table 14-8, R419). -/
def KN.LOCAL_HI (p : Nat) : Fld := ⟨0x40800000 + 0x8030 + 4*p, 16, 14, .rwl, 16383, false⟩

/-- `KN.LOCAL.LO` bits 13:0, RWL (14 Table 14-8, R419). -/
def KN.LOCAL_LO (p : Nat) : Fld := ⟨0x40800000 + 0x8030 + 4*p, 0, 14, .rwl, 0, false⟩

/-- `KN.FWDA.EN` bits 31, RWL (14 Table 14-8, R419). -/
def KN.FWDA_EN (e : Nat) : Fld := ⟨0x40800000 + 0xC000 + 8*e, 31, 1, .rwl, 0, false⟩

/-- `KN.FWDA.IN` bits 27:24, RWL (14 Table 14-8, R419). -/
def KN.FWDA_IN (e : Nat) : Fld := ⟨0x40800000 + 0xC000 + 8*e, 24, 4, .rwl, 0, false⟩

/-- `KN.FWDA.OUT` bits 19:16, RWL (14 Table 14-8, R419). -/
def KN.FWDA_OUT (e : Nat) : Fld := ⟨0x40800000 + 0xC000 + 8*e, 16, 4, .rwl, 0, false⟩

/-- `KN.FWDA.KIND` bits 1:0, RWL (14 Table 14-8, R419). -/
def KN.FWDA_KIND (e : Nat) : Fld := ⟨0x40800000 + 0xC000 + 8*e, 0, 2, .rwl, 0, false⟩

/-- `KN.FWDB.HI` bits 29:16, RWL (14 Table 14-8, R419). -/
def KN.FWDB_HI (e : Nat) : Fld := ⟨0x40800000 + 0xC004 + 8*e, 16, 14, .rwl, 0, false⟩

/-- `KN.FWDB.LO` bits 13:0, RWL (14 Table 14-8, R419). -/
def KN.FWDB_LO (e : Nat) : Fld := ⟨0x40800000 + 0xC004 + 8*e, 0, 14, .rwl, 0, false⟩

/-- `KN.OFSL`/`OFSH`: network time offset, 64 bits (14 Table 14-8, R415). -/
def KN.OFS_W : Fld := ⟨0x40808018, 0, 64, .ro, 0, false⟩

/-- `TB.TIMCTL.EN` bits 0, RW (14 Table 14-8, R419). -/
def TB.TIMCTL_EN (i : Nat) : Fld := ⟨0x40C00000 + 0x0100 + 0x10*i, 0, 1, .rw, 0, false⟩

/-- `TB.TIMCMP.CMP` bits 31:0, RW (14 Table 14-8, R419). -/
def TB.TIMCMP_CMP (i : Nat) : Fld := ⟨0x40C00000 + 0x100 + 0x10*i + 0x4, 0, 32, .rw, 0, false⟩

/-- `TB.TIMPER.PER` bits 31:0, RW (14 Table 14-8, R419). -/
def TB.TIMPER_PER (i : Nat) : Fld := ⟨0x40C00000 + 0x100 + 0x10*i + 0x8, 0, 32, .rw, 0, false⟩

/-- The 64-bit timebase (14 R396). -/
def TB.CNT_W : Fld := ⟨0x40C00000, 0, 64, .ro, 0, false⟩

/-- Upper half latched by a read of `TB.CNTL` (14 R396). -/
def TB.CNTH_LATCH : Fld := ⟨0x40C00004, 0, 32, .ro, 0, false⟩

/-- Upper half latched by a read of `TB.NETL` (14 Table 14-8). -/
def TB.NETH_LATCH : Fld := ⟨0x40C0000C, 0, 32, .ro, 0, false⟩

/-- `DE.CTL.LOCK` bits 16, W1S (15 Table 15-15, R450). -/
def DE.CTL_LOCK : Fld := ⟨0x40900000, 16, 1, .w1s, 0, true⟩

/-- `DE.CTL.CUSTTMO` bits 15:8, RWL (15 Table 15-15, R450). -/
def DE.CTL_CUSTTMO : Fld := ⟨0x40900000, 8, 8, .rwl, 10, false⟩

/-- `DE.STAT.NRUN` bits 23:21, RO (15 Table 15-15, R450). -/
def DE.STAT_NRUN : Fld := ⟨0x40900000 + 0x0004, 21, 3, .ro, 0, false⟩

/-- `DE.STAT.QLEVEL` bits 20:16, RO (15 Table 15-15, R450). -/
def DE.STAT_QLEVEL : Fld := ⟨0x40900000 + 0x0004, 16, 5, .ro, 0, false⟩

/-- `DE.STAT.OPSTATE` bits 2:0, RO (15 Table 15-15, R450). -/
def DE.STAT_OPSTATE : Fld := ⟨0x40900000 + 0x0004, 0, 3, .ro, 0, false⟩

/-- `DE.CNT.STREJ` bits 31:16, RO (15 Table 15-15, R450). -/
def DE.CNT_STREJ : Fld := ⟨0x40900000 + 0x0008, 16, 16, .ro, 0, false⟩

/-- `DE.CNT.QFULL` bits 15:0, RO (15 Table 15-15, R450). -/
def DE.CNT_QFULL : Fld := ⟨0x40900000 + 0x0008, 0, 16, .ro, 0, false⟩

/-- `DE.LASTAB.INDEX` bits 31:16, RO (15 Table 15-15, R450). -/
def DE.LASTAB_INDEX : Fld := ⟨0x40900000 + 0x000C, 16, 16, .ro, 0, false⟩

/-- `DE.LASTAB.SUB` bits 15:8, RO (15 Table 15-15, R450). -/
def DE.LASTAB_SUB : Fld := ⟨0x40900000 + 0x000C, 8, 8, .ro, 0, false⟩

/-- `DE.LASTCODE.DETAIL` bits 31:16, RO (15 Table 15-15, R450). -/
def DE.LASTCODE_DETAIL : Fld := ⟨0x40900000 + 0x0010, 16, 16, .ro, 0, false⟩

/-- `DE.LASTCODE.CODE` bits 15:0, RO (15 Table 15-15, R450). -/
def DE.LASTCODE_CODE : Fld := ⟨0x40900000 + 0x0010, 0, 16, .ro, 0, false⟩

/-- `DE.LCTL.GO` bits 31, WO (15 Table 15-15, R450). -/
def DE.LCTL_GO (t : Nat) : Fld := ⟨0x40900000 + 0x100 + 0x10*t, 31, 1, .wo, 0, true⟩

/-- `DE.LCTL.BUSY` bits 30, RO (15 Table 15-15, R450). -/
def DE.LCTL_BUSY (t : Nat) : Fld := ⟨0x40900000 + 0x100 + 0x10*t, 30, 1, .ro, 0, false⟩

/-- `DE.LCTL.DONE` bits 29, W1C (15 Table 15-15, R450). -/
def DE.LCTL_DONE (t : Nat) : Fld := ⟨0x40900000 + 0x100 + 0x10*t, 29, 1, .w1c, 0, false⟩

/-- `DE.LCTL.OP` bits 26:24, RW (15 Table 15-15, R450). -/
def DE.LCTL_OP (t : Nat) : Fld := ⟨0x40900000 + 0x100 + 0x10*t, 24, 3, .rw, 0, false⟩

/-- `DE.LCTL.SUB` bits 23:16, RW (15 Table 15-15, R450). -/
def DE.LCTL_SUB (t : Nat) : Fld := ⟨0x40900000 + 0x100 + 0x10*t, 16, 8, .rw, 0, false⟩

/-- `DE.LCTL.INDEX` bits 15:0, RW (15 Table 15-15, R450). -/
def DE.LCTL_INDEX (t : Nat) : Fld := ⟨0x40900000 + 0x100 + 0x10*t, 0, 16, .rw, 0, false⟩

/-- `DE.LBUF.ADDR` bits 31:0, RW (15 Table 15-15, R450). -/
def DE.LBUF_ADDR (t : Nat) : Fld := ⟨0x40900000 + 0x100 + 0x10*t + 0x4, 0, 32, .rw, 0x20000000, false⟩

/-- `DE.LRSP.CODE` bits 31:16, RO (15 Table 15-15, R450). -/
def DE.LRSP_CODE (t : Nat) : Fld := ⟨0x40900000 + 0x100 + 0x10*t + 0x8, 16, 16, .ro, 0, false⟩

/-- `DE.LRSP.LEN` bits 12:0, RW (15 Table 15-15, R450). -/
def DE.LRSP_LEN (t : Nat) : Fld := ⟨0x40900000 + 0x100 + 0x10*t + 0x8, 0, 13, .rw, 0, false⟩

/-- `DE.LPART.OFFSET` bits 31:0, RW (15 Table 15-15, R450). -/
def DE.LPART_OFFSET (t : Nat) : Fld := ⟨0x40900000 + 0x100 + 0x10*t + 0xC, 0, 32, .rw, 0, false⟩

/-- `DE.CUSTA.EN` bits 31, RW (15 Table 15-15, R450). -/
def DE.CUSTA_EN (k : Nat) : Fld := ⟨0x40900000 + 0x200 + 8*k, 31, 1, .rw, 0, false⟩

/-- `DE.CUSTA.SERVER` bits 18:16, RW (15 Table 15-15, R450). -/
def DE.CUSTA_SERVER (k : Nat) : Fld := ⟨0x40900000 + 0x200 + 8*k, 16, 3, .rw, 0, false⟩

/-- `DE.CUSTA.LO` bits 15:0, RW (15 Table 15-15, R450). -/
def DE.CUSTA_LO (k : Nat) : Fld := ⟨0x40900000 + 0x200 + 8*k, 0, 16, .rw, 36864, false⟩

/-- `DE.CUSTB.HI` bits 15:0, RW (15 Table 15-15, R450). -/
def DE.CUSTB_HI (k : Nat) : Fld := ⟨0x40900000 + 0x200 + 8*k + 0x4, 0, 16, .rw, 36864, false⟩

/-- `DE.CREQ.VALID` bits 31, RO (15 Table 15-15, R450). -/
def DE.CREQ_VALID (s : Nat) : Fld := ⟨0x40900000 + 0x300 + 0x10*s, 31, 1, .ro, 0, false⟩

/-- `DE.CREQ.OP` bits 26:24, RO (15 Table 15-15, R450). -/
def DE.CREQ_OP (s : Nat) : Fld := ⟨0x40900000 + 0x300 + 0x10*s, 24, 3, .ro, 0, false⟩

/-- `DE.CREQ.SUB` bits 23:16, RO (15 Table 15-15, R450). -/
def DE.CREQ_SUB (s : Nat) : Fld := ⟨0x40900000 + 0x300 + 0x10*s, 16, 8, .ro, 0, false⟩

/-- `DE.CREQ.INDEX` bits 15:0, RO (15 Table 15-15, R450). -/
def DE.CREQ_INDEX (s : Nat) : Fld := ⟨0x40900000 + 0x300 + 0x10*s, 0, 16, .ro, 0, false⟩

/-- `DE.CBUF.ADDR` bits 31:0, RW (15 Table 15-15, R450). -/
def DE.CBUF_ADDR (s : Nat) : Fld := ⟨0x40900000 + 0x300 + 0x10*s + 0x4, 0, 32, .rw, 0x20000000, false⟩

/-- `DE.CRSP.DONE` bits 31, WO (15 Table 15-15, R450). -/
def DE.CRSP_DONE (s : Nat) : Fld := ⟨0x40900000 + 0x300 + 0x10*s + 0x8, 31, 1, .wo, 0, true⟩

/-- `DE.CRSP.LEN` bits 28:16, RW (15 Table 15-15, R450). -/
def DE.CRSP_LEN (s : Nat) : Fld := ⟨0x40900000 + 0x300 + 0x10*s + 0x8, 16, 13, .rw, 0, false⟩

/-- `DE.CRSP.CODE` bits 15:0, RW (15 Table 15-15, R450). -/
def DE.CRSP_CODE (s : Nat) : Fld := ⟨0x40900000 + 0x300 + 0x10*s + 0x8, 0, 16, .rw, 0, false⟩

/-- `DE.CINF.CLATE` bits 31:16, RO (15 Table 15-15, R450). -/
def DE.CINF_CLATE (s : Nat) : Fld := ⟨0x40900000 + 0x300 + 0x10*s + 0xC, 16, 16, .ro, 0, false⟩

/-- `DE.CINF.RLEN` bits 12:0, RO (15 Table 15-15, R450). -/
def DE.CINF_RLEN (s : Nat) : Fld := ⟨0x40900000 + 0x300 + 0x10*s + 0xC, 0, 13, .ro, 0, false⟩

/-- `LG.CTL.ACCT` bits 25:24, RO (17 Table 17-4, R496). -/
def LG.CTL_ACCT : Fld := ⟨0x40A00000, 24, 2, .ro, 0, false⟩

/-- `LG.CTL.TCH` bits 23:20, RWL (17 Table 17-4, R496). -/
def LG.CTL_TCH : Fld := ⟨0x40A00000, 20, 4, .rwl, 0, false⟩

/-- `LG.CTL.TSRC` bits 17:16, RWL (17 Table 17-4, R496). -/
def LG.CTL_TSRC : Fld := ⟨0x40A00000, 16, 2, .rwl, 0, false⟩

/-- `LG.CTL.LOCK` bits 8, W1S (17 Table 17-4, R496). -/
def LG.CTL_LOCK : Fld := ⟨0x40A00000, 8, 1, .w1s, 0, true⟩

/-- `LG.CTL.IPOL` bits 1, RWL (17 Table 17-4, R496). -/
def LG.CTL_IPOL : Fld := ⟨0x40A00000, 1, 1, .rwl, 0, false⟩

/-- `LG.CTL.RUN` bits 0, RO (17 Table 17-4, R496). -/
def LG.CTL_RUN : Fld := ⟨0x40A00000, 0, 1, .ro, 0, false⟩

/-- `LG.SRC.ITAG` bits 14:8, RWL (17 Table 17-4, R496). -/
def LG.SRC_ITAG : Fld := ⟨0x40A00000 + 0x0004, 8, 7, .rwl, 125, false⟩

/-- `LG.SRC.VTAG` bits 6:0, RWL (17 Table 17-4, R496). -/
def LG.SRC_VTAG : Fld := ⟨0x40A00000 + 0x0004, 0, 7, .rwl, 124, false⟩

/-- `LG.OFS.OFSI` bits 31:16, RWL (17 Table 17-4, R496). -/
def LG.OFS_OFSI : Fld := ⟨0x40A00000 + 0x0008, 16, 16, .rwl, 0, false⟩

/-- `LG.OFS.OFSV` bits 15:0, RWL (17 Table 17-4, R496). -/
def LG.OFS_OFSV : Fld := ⟨0x40A00000 + 0x0008, 0, 16, .rwl, 0, false⟩

/-- `LG.GAINE.GAINE` bits 31:0, RWL (17 Table 17-4, R496). -/
def LG.GAINE_GAINE : Fld := ⟨0x40A00000 + 0x000C, 0, 32, .rwl, 0x12f684c, false⟩

/-- `LG.GAINA.GAINA` bits 31:0, RWL (17 Table 17-4, R496). -/
def LG.GAINA_GAINA : Fld := ⟨0x40A00000 + 0x0010, 0, 32, .rwl, 0x26d60dce, false⟩

/-- `LG.CAP.CAP` bits 31:0, RWL (17 Table 17-4, R496). -/
def LG.CAP_CAP : Fld := ⟨0x40A00000 + 0x0014, 0, 32, .rwl, 0, false⟩

/-- `LG.HIST.HISTPER` bits 7:0, RWL (17 Table 17-4, R496). -/
def LG.HIST_HISTPER : Fld := ⟨0x40A00000 + 0x0018, 0, 8, .rwl, 24, false⟩

/-- `LG.CMD.STORE` bits 0, WO (17 Table 17-4, R496). -/
def LG.CMD_STORE : Fld := ⟨0x40A00000 + 0x001C, 0, 1, .wo, 0, true⟩

/-- `LG.STAT.FLAGS` bits 25:16, RO (17 Table 17-4, R496). -/
def LG.STAT_FLAGS : Fld := ⟨0x40A00000 + 0x0020, 16, 10, .ro, 0, false⟩

/-- `LG.STAT.STERR` bits 10, W1C (17 Table 17-4, R496). -/
def LG.STAT_STERR : Fld := ⟨0x40A00000 + 0x0020, 10, 1, .w1c, 0, false⟩

/-- `LG.STAT.RESTERR` bits 9, W1C (17 Table 17-4, R496). -/
def LG.STAT_RESTERR : Fld := ⟨0x40A00000 + 0x0020, 9, 1, .w1c, 0, false⟩

/-- `LG.STAT.BUSY` bits 8, RO (17 Table 17-4, R496). -/
def LG.STAT_BUSY : Fld := ⟨0x40A00000 + 0x0020, 8, 1, .ro, 0, false⟩

/-- `LG.STAT.HISTIDX` bits 7:0, RO (17 Table 17-4, R496). -/
def LG.STAT_HISTIDX : Fld := ⟨0x40A00000 + 0x0020, 0, 8, .ro, 0, false⟩

/-- `LG.PWR.PWR` bits 31:0, RO (17 Table 17-4, R496). -/
def LG.PWR_PWR : Fld := ⟨0x40A00000 + 0x0024, 0, 32, .ro, 0, false⟩

/-- `LG.EFC.EFC` bits 31:0, RO (17 Table 17-4, R496). -/
def LG.EFC_EFC : Fld := ⟨0x40A00000 + 0x0050, 0, 32, .ro, 0, false⟩

/-- `LG.IMPL`/`IMPH`, 64 bits (17 Table 17-4). -/
def LG.IMP_W : Fld := ⟨0x40A00000 + 0x30, 0, 64, .ro, 0, false⟩

/-- `LG.EXPL`/`EXPH`, 64 bits (17 Table 17-4). -/
def LG.EXP_W : Fld := ⟨0x40A00000 + 0x38, 0, 64, .ro, 0, false⟩

/-- `LG.DISL`/`DISH`, 64 bits (17 Table 17-4). -/
def LG.DIS_W : Fld := ⟨0x40A00000 + 0x40, 0, 64, .ro, 0, false⟩

/-- `LG.CHGL`/`CHGH`, 64 bits (17 Table 17-4). -/
def LG.CHG_W : Fld := ⟨0x40A00000 + 0x48, 0, 64, .ro, 0, false⟩

/-- `LG.SEQL`/`SEQH`, 64 bits (17 Table 17-4). -/
def LG.SEQ_W : Fld := ⟨0x40A00000 + 0x58, 0, 64, .ro, 0, false⟩

/-- `LG.IMPH`, `EXPH`, `DISH`, `CHGH` (i = 0-3): the high word that the last read of the low one latched (17 Table 17-4, R496). -/
def LG.TOTH_LATCH (i : Nat) : Fld := ⟨0x40A00000 + 0x34 + 8*i, 0, 32, .ro, 0, false⟩

/-- `LG.SEQH`: the high word that the last read of `SEQL` latched (17 Table 17-4, R496). -/
def LG.SEQH_LATCH : Fld := ⟨0x40A00000 + 0x5C, 0, 32, .ro, 0, false⟩

/-- `LG.SECS` (17 Table 17-4). -/
def LG.SECS_V : Fld := ⟨0x40A00000 + 0x60, 0, 32, .ro, 0, false⟩

/-- `LG.GAPS` (17 Table 17-4). -/
def LG.GAPS_V : Fld := ⟨0x40A00000 + 0x64, 0, 32, .ro, 0, false⟩

/-- `LG.ORS` (17 Table 17-4). -/
def LG.ORS_V : Fld := ⟨0x40A00000 + 0x68, 0, 32, .ro, 0, false⟩

/-- `CAP.CTL.EN` bits 0, RW (17 Table 17-6, R503). -/
def CAP.CTL_EN : Fld := ⟨0x40A10000, 0, 1, .rw, 1, true⟩

/-- `CAP.CFG.EN` bits 31, RW (17 Table 17-6, R503). -/
def CAP.CFG_EN (c : Nat) : Fld := ⟨0x40A10000 + 0x100 + 0x20*c, 31, 1, .rw, 0, true⟩

/-- `CAP.CFG.AVG` bits 30, RW (17 Table 17-6, R503). -/
def CAP.CFG_AVG (c : Nat) : Fld := ⟨0x40A10000 + 0x100 + 0x20*c, 30, 1, .rw, 0, true⟩

/-- `CAP.CFG.PORD` bits 29:28, RW (17 Table 17-6, R503). -/
def CAP.CFG_PORD (c : Nat) : Fld := ⟨0x40A10000 + 0x100 + 0x20*c, 28, 2, .rw, 1, true⟩

/-- `CAP.CFG.NEAR` bits 27:24, RW (17 Table 17-6, R503). -/
def CAP.CFG_NEAR (c : Nat) : Fld := ⟨0x40A10000 + 0x100 + 0x20*c, 24, 4, .rw, 0, true⟩

/-- `CAP.CFG.STYPE` bits 23, RW (17 Table 17-6, R503). -/
def CAP.CFG_STYPE (c : Nat) : Fld := ⟨0x40A10000 + 0x100 + 0x20*c, 23, 1, .rw, 0, true⟩

/-- `CAP.CFG.SRC` bits 22:16, RW (17 Table 17-6, R503). -/
def CAP.CFG_SRC (c : Nat) : Fld := ⟨0x40A10000 + 0x100 + 0x20*c, 16, 7, .rw, 0, true⟩

/-- `CAP.CFG.DECM1` bits 15:0, RW (17 Table 17-6, R503). -/
def CAP.CFG_DECM1 (c : Nat) : Fld := ⟨0x40A10000 + 0x100 + 0x20*c, 0, 16, .rw, 0, true⟩

/-- `CAP.BUF.FID` bits 31:24, RW (17 Table 17-6, R503). -/
def CAP.BUF_FID (c : Nat) : Fld := ⟨0x40A10000 + 0x100 + 0x20*c + 0x04, 24, 8, .rw, 0, true⟩

/-- `CAP.BUF.POLICY` bits 23, RW (17 Table 17-6, R503). -/
def CAP.BUF_POLICY (c : Nat) : Fld := ⟨0x40A10000 + 0x100 + 0x20*c + 0x04, 23, 1, .rw, 0, true⟩

/-- `CAP.BUF.TSRC` bits 22:20, RW (17 Table 17-6, R503). -/
def CAP.BUF_TSRC (c : Nat) : Fld := ⟨0x40A10000 + 0x100 + 0x20*c + 0x04, 20, 3, .rw, 0, true⟩

/-- `CAP.BUF.POST` bits 19:12, RW (17 Table 17-6, R503). -/
def CAP.BUF_POST (c : Nat) : Fld := ⟨0x40A10000 + 0x100 + 0x20*c + 0x04, 12, 8, .rw, 0, true⟩

/-- `CAP.BUF.SEGMASK` bits 11:0, RW (17 Table 17-6, R503). -/
def CAP.BUF_SEGMASK (c : Nat) : Fld := ⟨0x40A10000 + 0x100 + 0x20*c + 0x04, 0, 12, .rw, 0, true⟩

/-- `CAP.STAT.ST` bits 31:29, RO (17 Table 17-6, R503). -/
def CAP.STAT_ST (c : Nat) : Fld := ⟨0x40A10000 + 0x100 + 0x20*c + 0x08, 29, 3, .ro, 0, false⟩

/-- `CAP.STAT.CFGERR` bits 19, W1C (17 Table 17-6, R503). -/
def CAP.STAT_CFGERR (c : Nat) : Fld := ⟨0x40A10000 + 0x100 + 0x20*c + 0x08, 19, 1, .w1c, 0, false⟩

/-- `CAP.STAT.OVWR` bits 18, W1C (17 Table 17-6, R503). -/
def CAP.STAT_OVWR (c : Nat) : Fld := ⟨0x40A10000 + 0x100 + 0x20*c + 0x08, 18, 1, .w1c, 0, false⟩

/-- `CAP.STAT.GAPF` bits 17, W1C (17 Table 17-6, R503). -/
def CAP.STAT_GAPF (c : Nat) : Fld := ⟨0x40A10000 + 0x100 + 0x20*c + 0x08, 17, 1, .w1c, 0, false⟩

/-- `CAP.STAT.TRIGF` bits 16, W1C (17 Table 17-6, R503). -/
def CAP.STAT_TRIGF (c : Nat) : Fld := ⟨0x40A10000 + 0x100 + 0x20*c + 0x08, 16, 1, .w1c, 0, false⟩

/-- `CAP.STAT.LOST` bits 15:0, RO (17 Table 17-6, R503). -/
def CAP.STAT_LOST (c : Nat) : Fld := ⟨0x40A10000 + 0x100 + 0x20*c + 0x08, 0, 16, .ro, 0, false⟩

/-- `CAP.WP.WP` bits 19:0, RO (17 Table 17-6, R503). -/
def CAP.WP_WP (c : Nat) : Fld := ⟨0x40A10000 + 0x100 + 0x20*c + 0x0C, 0, 20, .ro, 0, false⟩

/-- `CAP.OLD.OLD` bits 19:0, RO (17 Table 17-6, R503). -/
def CAP.OLD_OLD (c : Nat) : Fld := ⟨0x40A10000 + 0x100 + 0x20*c + 0x10, 0, 20, .ro, 0, false⟩

/-- `CAP.TRG.TIDX` bits 31:23, RO (17 Table 17-6, R503). -/
def CAP.TRG_TIDX (c : Nat) : Fld := ⟨0x40A10000 + 0x100 + 0x20*c + 0x14, 23, 9, .ro, 0, false⟩

/-- `CAP.TRG.TBLK` bits 19:0, RO (17 Table 17-6, R503). -/
def CAP.TRG_TBLK (c : Nat) : Fld := ⟨0x40A10000 + 0x100 + 0x20*c + 0x14, 0, 20, .ro, 0, false⟩

/-- `CAP.CMD.STOP` bits 1, WO (17 Table 17-6, R503). -/
def CAP.CMD_STOP (c : Nat) : Fld := ⟨0x40A10000 + 0x100 + 0x20*c + 0x18, 1, 1, .wo, 0, true⟩

/-- `CAP.CMD.SWTRIG` bits 0, WO (17 Table 17-6, R503). -/
def CAP.CMD_SWTRIG (c : Nat) : Fld := ⟨0x40A10000 + 0x100 + 0x20*c + 0x18, 0, 1, .wo, 0, true⟩

/-- `CAP.BLK.BLOCKS` bits 31:0, RO (17 Table 17-6, R503). -/
def CAP.BLK_BLOCKS (c : Nat) : Fld := ⟨0x40A10000 + 0x100 + 0x20*c + 0x1C, 0, 32, .ro, 0, false⟩

end Sys2Proof.Machine
end

