-- ==== Sys2Proof/Machine/RegMapSense.lean ====
section
/-! DEFINITION. The field descriptors of the analogue-sensing, result-queue and position registers: one definition per field of a register table of the spec,
with its address, lowest bit, width, access code and reset value. -/

namespace Sys2Proof.Machine

/-- `AS.SLCFG.ORFL` bits 25, RW (04 Table 4-6, R110). -/
def AS.SLCFG_ORFL (s : Nat) : Fld := ⟨0x40100100 + 4*s, 25, 1, .rw, 1, true⟩

/-- `AS.SLCFG.CMSEL` bits 24, RW (04 Table 4-6, R110). -/
def AS.SLCFG_CMSEL (s : Nat) : Fld := ⟨0x40100100 + 4*s, 24, 1, .rw, 0, true⟩

/-- `AS.SLCFG.Q3` bits 23:21, RW (04 Table 4-6, R110). -/
def AS.SLCFG_Q3 (s : Nat) : Fld := ⟨0x40100100 + 4*s, 21, 3, .rw, 7, true⟩

/-- `AS.SLCFG.Q2` bits 20:18, RW (04 Table 4-6, R110). -/
def AS.SLCFG_Q2 (s : Nat) : Fld := ⟨0x40100100 + 4*s, 18, 3, .rw, 7, true⟩

/-- `AS.SLCFG.Q1` bits 17:15, RW (04 Table 4-6, R110). -/
def AS.SLCFG_Q1 (s : Nat) : Fld := ⟨0x40100100 + 4*s, 15, 3, .rw, sliceQueueReset s, true⟩

/-- `AS.SLCFG.Q0` bits 14:12, RW (04 Table 4-6, R110). -/
def AS.SLCFG_Q0 (s : Nat) : Fld := ⟨0x40100100 + 4*s, 12, 3, .rw, sliceQueueReset s, true⟩

/-- `AS.SLCFG.SMASK` bits 11:8, RW (04 Table 4-6, R110). -/
def AS.SLCFG_SMASK (s : Nat) : Fld := ⟨0x40100100 + 4*s, 8, 4, .rw, sliceSmaskReset s, true⟩

/-- `AS.SLCFG.TMASK` bits 7:4, RW (04 Table 4-6, R110). -/
def AS.SLCFG_TMASK (s : Nat) : Fld := ⟨0x40100100 + 4*s, 4, 4, .rw, 0, true⟩

/-- `AS.SLCFG.MODE` bits 1:0, RW (04 Table 4-6, R110). -/
def AS.SLCFG_MODE (s : Nat) : Fld := ⟨0x40100100 + 4*s, 0, 2, .rw, sliceModeReset s, true⟩

/-- `AS.GRP.TLOST` bits 31:16, RO (04 Table 4-7, R112). -/
def AS.GRP_TLOST (n : Nat) : Fld := ⟨0x40100010 + 4*n, 16, 16, .ro, 0, false⟩

/-- `AS.GRP.LOSTF` bits 9, W1C (04 Table 4-7, R112). -/
def AS.GRP_LOSTF (n : Nat) : Fld := ⟨0x40100010 + 4*n, 9, 1, .w1c, 0, false⟩

/-- `AS.GRP.SWTRIG` bits 8, WO (04 Table 4-7, R112). -/
def AS.GRP_SWTRIG (n : Nat) : Fld := ⟨0x40100010 + 4*n, 8, 1, .wo, 0, true⟩

/-- `AS.GRP.BUSY` bits 4, RO (04 Table 4-7, R112). -/
def AS.GRP_BUSY (n : Nat) : Fld := ⟨0x40100010 + 4*n, 4, 1, .ro, 0, false⟩

/-- `AS.GRP.TSRC` bits 2:0, RW (04 Table 4-7, R112). -/
def AS.GRP_TSRC (n : Nat) : Fld := ⟨0x40100010 + 4*n, 0, 3, .rw, if n = 0 then 1 else 4, false⟩

/-- `AS.CALCTL.CALEN` bits 31, RWL (04 Table 4-11, R120). -/
def AS.CALCTL_CALEN : Fld := ⟨0x40100020, 31, 1, .rwl, 1, false⟩

/-- `AS.CALCTL.CALNOW_S` bits 20:16, RW (04 Table 4-11, R120). -/
def AS.CALCTL_CALNOW_S : Fld := ⟨0x40100020, 16, 5, .rw, 0, false⟩

/-- `AS.CALCTL.CALNOW` bits 15, W1S (04 Table 4-11, R120). -/
def AS.CALCTL_CALNOW : Fld := ⟨0x40100020, 15, 1, .w1s, 0, true⟩

/-- `AS.CALCTL.CALGAP` bits 10:0, RWL (04 Table 4-11, R120). -/
def AS.CALCTL_CALGAP : Fld := ⟨0x40100020, 0, 11, .rwl, 1400, false⟩

/-- `AS.SPARE.STALLS` bits 31:24, RO (04 Table 4-15, R128). -/
def AS.SPARE_STALLS : Fld := ⟨0x40100024, 24, 8, .ro, 0, false⟩

/-- `AS.SPARE.CHAIN` bits 21:20, RO (04 Table 4-15, R128). -/
def AS.SPARE_CHAIN : Fld := ⟨0x40100024, 20, 2, .ro, 0, false⟩

/-- `AS.SPARE.ROTSP` bits 17, RO (04 Table 4-15, R128). -/
def AS.SPARE_ROTSP : Fld := ⟨0x40100024, 17, 1, .ro, 0, false⟩

/-- `AS.SPARE.CALSTALL` bits 16, W1C (04 Table 4-15, R128). -/
def AS.SPARE_CALSTALL : Fld := ⟨0x40100024, 16, 1, .w1c, 0, false⟩

/-- `AS.SPARE.SP1_FAIL` bits 15, RO (04 Table 4-15, R128). -/
def AS.SPARE_SP1_FAIL : Fld := ⟨0x40100024, 15, 1, .ro, 0, false⟩

/-- `AS.SPARE.SP1_USED` bits 14, RO (04 Table 4-15, R128). -/
def AS.SPARE_SP1_USED : Fld := ⟨0x40100024, 14, 1, .ro, 0, false⟩

/-- `AS.SPARE.SP1_FOR` bits 12:8, RO (04 Table 4-15, R128). -/
def AS.SPARE_SP1_FOR : Fld := ⟨0x40100024, 8, 5, .ro, 0, false⟩

/-- `AS.SPARE.SP0_FAIL` bits 7, RO (04 Table 4-15, R128). -/
def AS.SPARE_SP0_FAIL : Fld := ⟨0x40100024, 7, 1, .ro, 0, false⟩

/-- `AS.SPARE.SP0_USED` bits 6, RO (04 Table 4-15, R128). -/
def AS.SPARE_SP0_USED : Fld := ⟨0x40100024, 6, 1, .ro, 0, false⟩

/-- `AS.SPARE.SP0_FOR` bits 4:0, RO (04 Table 4-15, R128). -/
def AS.SPARE_SP0_FOR : Fld := ⟨0x40100024, 0, 5, .ro, 0, false⟩

/-- `AS.SLST.CHKERR` bits 31:24, RO (04 Table 4-16, R130). -/
def AS.SLST_CHKERR (s : Nat) : Fld := ⟨0x40100200 + 4*s, 24, 8, .ro, 0, false⟩

/-- `AS.SLST.VISITS` bits 23:16, RO (04 Table 4-16, R130). -/
def AS.SLST_VISITS (s : Nat) : Fld := ⟨0x40100200 + 4*s, 16, 8, .ro, 0, false⟩

/-- `AS.SLST.SERVER` bits 11:10, RO (04 Table 4-16, R130). -/
def AS.SLST_SERVER (s : Nat) : Fld := ⟨0x40100200 + 4*s, 10, 2, .ro, 0, false⟩

/-- `AS.SLST.SUBST` bits 9, RO (04 Table 4-16, R130). -/
def AS.SLST_SUBST (s : Nat) : Fld := ⟨0x40100200 + 4*s, 9, 1, .ro, 0, false⟩

/-- `AS.SLST.FAILED` bits 8, RO (04 Table 4-16, R130). -/
def AS.SLST_FAILED (s : Nat) : Fld := ⟨0x40100200 + 4*s, 8, 1, .ro, 0, false⟩

/-- `AS.SLST.CALAGE` bits 3:0, RO (04 Table 4-16, R130). -/
def AS.SLST_CALAGE (s : Nat) : Fld := ⟨0x40100200 + 4*s, 0, 4, .ro, 15, false⟩

/-- `AS.CALSTAT.ROUNDS` bits 31:16, RO (04 Table 4-17, R130). -/
def AS.CALSTAT_ROUNDS : Fld := ⟨0x40100028, 16, 16, .ro, 0, false⟩

/-- `AS.CALSTAT.PHASE` bits 10:8, RO (04 Table 4-17, R130). -/
def AS.CALSTAT_PHASE : Fld := ⟨0x40100028, 8, 3, .ro, 0, false⟩

/-- `AS.CALSTAT.TARGET` bits 5:0, RO (04 Table 4-17, R130). -/
def AS.CALSTAT_TARGET : Fld := ⟨0x40100028, 0, 6, .ro, 0, false⟩

/-- `AS.CTL.LOCK` bits 8, W1S (04 Table 4-18, R131). -/
def AS.CTL_LOCK : Fld := ⟨0x40100000, 8, 1, .w1s, 0, true⟩

/-- `AS.CTL.CHKLVL` bits 5:4, RW (04 Table 4-18, R131). -/
def AS.CTL_CHKLVL : Fld := ⟨0x40100000, 4, 2, .rw, 0, false⟩

/-- `AS.CTL.EN` bits 0, RW (04 Table 4-18, R131). -/
def AS.CTL_EN : Fld := ⟨0x40100000, 0, 1, .rw, 0, false⟩

/-- `Q.QCTL.WMARK` bits 24:16, RW (04 Table 4-10, R118). -/
def Q.QCTL_WMARK (q : Nat) : Fld := ⟨0x40110000 + 0x10*q, 16, 9, .rw, 256, false⟩

/-- `Q.QCTL.POLICY` bits 1, RW (04 Table 4-10, R118). -/
def Q.QCTL_POLICY (q : Nat) : Fld := ⟨0x40110000 + 0x10*q, 1, 1, .rw, 0, false⟩

/-- `Q.QCTL.EN` bits 0, RW (04 Table 4-10, R118). -/
def Q.QCTL_EN (q : Nat) : Fld := ⟨0x40110000 + 0x10*q, 0, 1, .rw, 1, false⟩

/-- `Q.QPTR.RIDX` bits 24:16, RW (04 Table 4-10, R118). -/
def Q.QPTR_RIDX (q : Nat) : Fld := ⟨0x40110000 + 0x10*q + 0x4, 16, 9, .rw, 0, true⟩

/-- `Q.QPTR.WIDX` bits 8:0, RO (04 Table 4-10, R118). -/
def Q.QPTR_WIDX (q : Nat) : Fld := ⟨0x40110000 + 0x10*q + 0x4, 0, 9, .ro, 0, false⟩

/-- `Q.QSTAT.LOST` bits 31:16, RO (04 Table 4-10, R118). -/
def Q.QSTAT_LOST (q : Nat) : Fld := ⟨0x40110000 + 0x10*q + 0x8, 16, 16, .ro, 0, false⟩

/-- `Q.QSTAT.WM` bits 11, W1C (04 Table 4-10, R118). -/
def Q.QSTAT_WM (q : Nat) : Fld := ⟨0x40110000 + 0x10*q + 0x8, 11, 1, .w1c, 0, false⟩

/-- `Q.QSTAT.OVF` bits 10, W1C (04 Table 4-10, R118). -/
def Q.QSTAT_OVF (q : Nat) : Fld := ⟨0x40110000 + 0x10*q + 0x8, 10, 1, .w1c, 0, true⟩

/-- `Q.QSTAT.LEVEL` bits 9:0, RO (04 Table 4-10, R118). -/
def Q.QSTAT_LEVEL (q : Nat) : Fld := ⟨0x40110000 + 0x10*q + 0x8, 0, 10, .ro, 0, false⟩

/-- `Q.POP.ENTRY` bits 31:0, RO (04 Table 4-10, R118). -/
def Q.POP_ENTRY (q : Nat) : Fld := ⟨0x40110000 + 0x10*q + 0xC, 0, 32, .ro, 0, false⟩

/-- `Q.LASTt`: newest entry of tag t (04 R118). -/
def Q.LAST_V (t : Nat) : Fld := ⟨0x40111000 + 4*t, 0, 32, .ro, 0, false⟩

/-- `POS.CTL.LOCK` bits 24, W1S (05 Table 5-2, R137). -/
def POS.CTL_LOCK (p : Nat) : Fld := ⟨0x40200000 + 0x10000*p, 24, 1, .w1s, 0, true⟩

/-- `POS.CTL.IDXPOL` bits 17:16, RWL (05 Table 5-2, R137). -/
def POS.CTL_IDXPOL (p : Nat) : Fld := ⟨0x40200000 + 0x10000*p, 16, 2, .rwl, 0, false⟩

/-- `POS.CTL.FILT` bits 15:8, RWL (05 Table 5-2, R137). -/
def POS.CTL_FILT (p : Nat) : Fld := ⟨0x40200000 + 0x10000*p, 8, 8, .rwl, 8, false⟩

/-- `POS.CTL.DIRINV` bits 7, RWL (05 Table 5-2, R137). -/
def POS.CTL_DIRINV (p : Nat) : Fld := ⟨0x40200000 + 0x10000*p, 7, 1, .rwl, 0, false⟩

/-- `POS.CTL.ANGSRC` bits 6:5, RW (05 Table 5-2, R137). -/
def POS.CTL_ANGSRC (p : Nat) : Fld := ⟨0x40200000 + 0x10000*p, 5, 2, .rw, 2, false⟩

/-- `POS.CTL.LINEAR` bits 4, RWL (05 Table 5-2, R137). -/
def POS.CTL_LINEAR (p : Nat) : Fld := ⟨0x40200000 + 0x10000*p, 4, 1, .rwl, 0, false⟩

/-- `POS.CTL.SENS` bits 3:1, RWL (05 Table 5-2, R137). -/
def POS.CTL_SENS (p : Nat) : Fld := ⟨0x40200000 + 0x10000*p, 1, 3, .rwl, 0, false⟩

/-- `POS.CTL.EN` bits 0, RW (05 Table 5-2, R137). -/
def POS.CTL_EN (p : Nat) : Fld := ⟨0x40200000 + 0x10000*p, 0, 1, .rw, 0, false⟩

/-- `POS.ENCCFG.IDXQ` bits 26:24, RWL (05 Table 5-3, R138). -/
def POS.ENCCFG_IDXQ (p : Nat) : Fld := ⟨0x40200000 + 0x10000*p + 0x0004, 24, 3, .rwl, 0, false⟩

/-- `POS.ENCCFG.IDXTOL` bits 23:16, RWL (05 Table 5-3, R138). -/
def POS.ENCCFG_IDXTOL (p : Nat) : Fld := ⟨0x40200000 + 0x10000*p + 0x0004, 16, 8, .rwl, 4, false⟩

/-- `POS.ENCCFG.LINESM1` bits 15:0, RWL (05 Table 5-3, R138). -/
def POS.ENCCFG_LINESM1 (p : Nat) : Fld := ⟨0x40200000 + 0x10000*p + 0x0004, 0, 16, .rwl, 1023, false⟩

/-- `POS.GEOM.RES_PP` bits 10:8, RWL (05 Table 5-3, R138). -/
def POS.GEOM_RES_PP (p : Nat) : Fld := ⟨0x40200000 + 0x10000*p + 0x0008, 8, 3, .rwl, 0, false⟩

/-- `POS.GEOM.MOT_PP` bits 4:0, RWL (05 Table 5-3, R138). -/
def POS.GEOM_MOT_PP (p : Nat) : Fld := ⟨0x40200000 + 0x10000*p + 0x0008, 0, 5, .rwl, 1, false⟩

/-- `POS.ELOFS.ELOFS` bits 21:0, RW (05 Table 5-3, R138). -/
def POS.ELOFS_ELOFS (p : Nat) : Fld := ⟨0x40200000 + 0x10000*p + 0x000C, 0, 22, .rw, 0, false⟩

/-- `POS.IDXREF.IDXREF` bits 31:0, RWL (05 Table 5-3, R138). -/
def POS.IDXREF_IDXREF (p : Nat) : Fld := ⟨0x40200000 + 0x10000*p + 0x0010, 0, 32, .rwl, 0, false⟩

/-- `POS.COUNT.COUNT` bits 31:0, RO (05 Table 5-3, R138). -/
def POS.COUNT_COUNT (p : Nat) : Fld := ⟨0x40200000 + 0x10000*p + 0x0014, 0, 32, .ro, 0, false⟩

/-- `POS.IDXCAP.IDXCAP` bits 31:0, RO (05 Table 5-3, R138). -/
def POS.IDXCAP_IDXCAP (p : Nat) : Fld := ⟨0x40200000 + 0x10000*p + 0x0018, 0, 32, .ro, 0, false⟩

/-- `POS.ANGLE.ACTSRC` bits 31:30, RO (05 Table 5-3, R138). -/
def POS.ANGLE_ACTSRC (p : Nat) : Fld := ⟨0x40200000 + 0x10000*p + 0x0020, 30, 2, .ro, 2, false⟩

/-- `POS.ANGLE.MVALID` bits 29, RO (05 Table 5-3, R138). -/
def POS.ANGLE_MVALID (p : Nat) : Fld := ⟨0x40200000 + 0x10000*p + 0x0020, 29, 1, .ro, 0, false⟩

/-- `POS.ANGLE.ANG_E` bits 21:0, RO (05 Table 5-3, R138). -/
def POS.ANGLE_ANG_E (p : Nat) : Fld := ⟨0x40200000 + 0x10000*p + 0x0020, 0, 22, .ro, 0, false⟩

/-- `POS.ANGM.ANG_M` bits 21:0, RO (05 Table 5-3, R138). -/
def POS.ANGM_ANG_M (p : Nat) : Fld := ⟨0x40200000 + 0x10000*p + 0x0024, 0, 22, .ro, 0, false⟩

/-- `POS.HALLCFG.HALLTBL` bits 23:0, RWL (05 Table 5-6, R145). -/
def POS.HALLCFG_HALLTBL (p : Nat) : Fld := ⟨0x40200000 + 0x10000*p + 0x0030, 0, 24, .rwl, 0xeec287, false⟩

/-- `POS.HALLANG.HALLANG` bits 21:0, RWL (05 Table 5-6, R145). -/
def POS.HALLANG_HALLANG (p : Nat) : Fld := ⟨0x40200000 + 0x10000*p + 0x0034, 0, 22, .rwl, 0, false⟩

/-- `POS.RESCFG.EXCEN` bits 28, RW (05 Table 5-7, R147). -/
def POS.RESCFG_EXCEN (p : Nat) : Fld := ⟨0x40200000 + 0x10000*p + 0x38, 28, 1, .rw, 0, false⟩

/-- `POS.RESCFG.RESPH` bits 27:16, RWL (05 Table 5-7, R147). -/
def POS.RESCFG_RESPH (p : Nat) : Fld := ⟨0x40200000 + 0x10000*p + 0x38, 16, 12, .rwl, 0, false⟩

/-- `POS.RESCFG.EXCAMP` bits 15:12, RWL (05 Table 5-7, R147). -/
def POS.RESCFG_EXCAMP (p : Nat) : Fld := ⟨0x40200000 + 0x10000*p + 0x38, 12, 4, .rwl, 7, false⟩

/-- `POS.RESCFG.EXCDIV` bits 11:0, RWL (05 Table 5-7, R147). -/
def POS.RESCFG_EXCDIV (p : Nat) : Fld := ⟨0x40200000 + 0x10000*p + 0x38, 0, 12, .rwl, 1000, false⟩

/-- `POS.RESAMP.MEAS` bits 31:16, RO (05 Table 5-7, R147). -/
def POS.RESAMP_MEAS (p : Nat) : Fld := ⟨0x40200000 + 0x10000*p + 0x3C, 16, 16, .ro, 0, false⟩

/-- `POS.RESAMP.NOM` bits 15:0, RW (05 Table 5-7, R147). -/
def POS.RESAMP_NOM (p : Nat) : Fld := ⟨0x40200000 + 0x10000*p + 0x3C, 0, 16, .rw, 13107, false⟩

/-- `POS.SPDCFG.SPDMODE` bits 16, RW (05 Table 5-8, R151). -/
def POS.SPDCFG_SPDMODE (p : Nat) : Fld := ⟨0x40200000 + 0x10000*p + 0x0028, 16, 1, .rw, 1, false⟩

/-- `POS.SPDCFG.WIN` bits 9:0, RW (05 Table 5-8, R151). -/
def POS.SPDCFG_WIN (p : Nat) : Fld := ⟨0x40200000 + 0x10000*p + 0x0028, 0, 10, .rw, 100, false⟩

/-- `POS.SPEED.SPEED` bits 31:0, RO (05 Table 5-8, R151). -/
def POS.SPEED_SPEED (p : Nat) : Fld := ⟨0x40200000 + 0x10000*p + 0x002C, 0, 32, .ro, 0, false⟩

/-- `POS.STAT.IDXMISS` bits 31:24, RO (05 Table 5-9, R153). -/
def POS.STAT_IDXMISS (p : Nat) : Fld := ⟨0x4020001C + 0x10000*p, 24, 8, .ro, 0, false⟩

/-- `POS.STAT.IDXERR` bits 23:16, RO (05 Table 5-9, R153). -/
def POS.STAT_IDXERR (p : Nat) : Fld := ⟨0x4020001C + 0x10000*p, 16, 8, .ro, 0, false⟩

/-- `POS.STAT.OBSST` bits 15:14, RO (05 Table 5-9, R153). -/
def POS.STAT_OBSST (p : Nat) : Fld := ⟨0x4020001C + 0x10000*p, 14, 2, .ro, 0, false⟩

/-- `POS.STAT.POSST` bits 13:12, RO (05 Table 5-9, R153). -/
def POS.STAT_POSST (p : Nat) : Fld := ⟨0x4020001C + 0x10000*p, 12, 2, .ro, 0, false⟩

/-- `POS.STAT.HEALTH` bits 11, RO (05 Table 5-9, R153). -/
def POS.STAT_HEALTH (p : Nat) : Fld := ⟨0x4020001C + 0x10000*p, 11, 1, .ro, 0, false⟩

/-- `POS.STAT.DIR` bits 10, RO (05 Table 5-9, R153). -/
def POS.STAT_DIR (p : Nat) : Fld := ⟨0x4020001C + 0x10000*p, 10, 1, .ro, 0, false⟩

/-- `POS.STAT.LOWSPD` bits 9, RO (05 Table 5-9, R153). -/
def POS.STAT_LOWSPD (p : Nat) : Fld := ⟨0x4020001C + 0x10000*p, 9, 1, .ro, 0, false⟩

/-- `POS.STAT.DISAGREE` bits 8, W1C (05 Table 5-9, R153). -/
def POS.STAT_DISAGREE (p : Nat) : Fld := ⟨0x4020001C + 0x10000*p, 8, 1, .w1c, 0, false⟩

/-- `POS.STAT.OBS_LOST` bits 7, W1C (05 Table 5-9, R153). -/
def POS.STAT_OBS_LOST (p : Nat) : Fld := ⟨0x4020001C + 0x10000*p, 7, 1, .w1c, 0, false⟩

/-- `POS.STAT.CNT_SAT` bits 6, W1C (05 Table 5-9, R153). -/
def POS.STAT_CNT_SAT (p : Nat) : Fld := ⟨0x4020001C + 0x10000*p, 6, 1, .w1c, 0, false⟩

/-- `POS.STAT.RES_AMP` bits 5, W1C (05 Table 5-9, R153). -/
def POS.STAT_RES_AMP (p : Nat) : Fld := ⟨0x4020001C + 0x10000*p, 5, 1, .w1c, 0, false⟩

/-- `POS.STAT.HALL_SEQ` bits 4, W1C (05 Table 5-9, R153). -/
def POS.STAT_HALL_SEQ (p : Nat) : Fld := ⟨0x4020001C + 0x10000*p, 4, 1, .w1c, 0, false⟩

/-- `POS.STAT.HALL_INV` bits 3, W1C (05 Table 5-9, R153). -/
def POS.STAT_HALL_INV (p : Nat) : Fld := ⟨0x4020001C + 0x10000*p, 3, 1, .w1c, 0, false⟩

/-- `POS.STAT.QERR` bits 2, W1C (05 Table 5-9, R153). -/
def POS.STAT_QERR (p : Nat) : Fld := ⟨0x4020001C + 0x10000*p, 2, 1, .w1c, 0, false⟩

/-- `POS.STAT.INDEX_MISMATCH` bits 1, W1C (05 Table 5-9, R153). -/
def POS.STAT_INDEX_MISMATCH (p : Nat) : Fld := ⟨0x4020001C + 0x10000*p, 1, 1, .w1c, 0, false⟩

/-- `POS.STAT.IDXFLT` bits 0, W1C (05 Table 5-9, R153). -/
def POS.STAT_IDXFLT (p : Nat) : Fld := ⟨0x4020001C + 0x10000*p, 0, 1, .w1c, 0, false⟩

/-- `POS.CMPCTL.HITS` bits 31:16, RO (05 Table 5-11, R156). -/
def POS.CMPCTL_HITS (p : Nat) (i : Nat) : Fld := ⟨0x40200100 + 0x10000*p + 0x10*i, 16, 16, .ro, 0, false⟩

/-- `POS.CMPCTL.BEHIND` bits 4, W1C (05 Table 5-11, R156). -/
def POS.CMPCTL_BEHIND (p : Nat) (i : Nat) : Fld := ⟨0x40200100 + 0x10000*p + 0x10*i, 4, 1, .w1c, 0, false⟩

/-- `POS.CMPCTL.HIT` bits 3, W1C (05 Table 5-11, R156). -/
def POS.CMPCTL_HIT (p : Nat) (i : Nat) : Fld := ⟨0x40200100 + 0x10000*p + 0x10*i, 3, 1, .w1c, 0, false⟩

/-- `POS.CMPCTL.CAPT` bits 2, RW (05 Table 5-11, R156). -/
def POS.CMPCTL_CAPT (p : Nat) (i : Nat) : Fld := ⟨0x40200100 + 0x10000*p + 0x10*i, 2, 1, .rw, 0, false⟩

/-- `POS.CMPCTL.DIR` bits 1, RW (05 Table 5-11, R156). -/
def POS.CMPCTL_DIR (p : Nat) (i : Nat) : Fld := ⟨0x40200100 + 0x10000*p + 0x10*i, 1, 1, .rw, 0, false⟩

/-- `POS.CMPCTL.ARM` bits 0, RW (05 Table 5-11, R156). -/
def POS.CMPCTL_ARM (p : Nat) (i : Nat) : Fld := ⟨0x40200100 + 0x10000*p + 0x10*i, 0, 1, .rw, 0, true⟩

/-- `POS.CMPVAL.CMPVAL` bits 31:0, RW (05 Table 5-11, R156). -/
def POS.CMPVAL_CMPVAL (p : Nat) (i : Nat) : Fld := ⟨0x40200100 + 0x10000*p + 0x10*i + 0x4, 0, 32, .rw, 0, true⟩

/-- `POS.CMPSTEP.CMPSTEP` bits 31:0, RW (05 Table 5-11, R156). -/
def POS.CMPSTEP_CMPSTEP (p : Nat) (i : Nat) : Fld := ⟨0x40200100 + 0x10000*p + 0x10*i + 0x8, 0, 32, .rw, 0, false⟩

/-- `POS.CMPTS.CMPTS` bits 31:0, RO (05 Table 5-11, R156). -/
def POS.CMPTS_CMPTS (p : Nat) (i : Nat) : Fld := ⟨0x40200100 + 0x10000*p + 0x10*i + 0xC, 0, 32, .ro, 0, false⟩

/-- `POS.EMUCTL.LINESM1` bits 31:16, RW (05 Table 5-12, R160). -/
def POS.EMUCTL_LINESM1 (p : Nat) : Fld := ⟨0x40200200 + 0x10000*p, 16, 16, .rw, 1023, false⟩

/-- `POS.EMUCTL.MINSP` bits 15:8, RW (05 Table 5-12, R160). -/
def POS.EMUCTL_MINSP (p : Nat) : Fld := ⟨0x40200200 + 0x10000*p, 8, 8, .rw, 40, false⟩

/-- `POS.EMUCTL.JUMP` bits 2, W1C (05 Table 5-12, R160). -/
def POS.EMUCTL_JUMP (p : Nat) : Fld := ⟨0x40200200 + 0x10000*p, 2, 1, .w1c, 0, false⟩

/-- `POS.EMUCTL.LAG` bits 1, W1C (05 Table 5-12, R160). -/
def POS.EMUCTL_LAG (p : Nat) : Fld := ⟨0x40200200 + 0x10000*p, 1, 1, .w1c, 0, false⟩

/-- `POS.EMUCTL.EN` bits 0, RW (05 Table 5-12, R160). -/
def POS.EMUCTL_EN (p : Nat) : Fld := ⟨0x40200200 + 0x10000*p, 0, 1, .rw, 0, false⟩

/-- `POS.OBSCFG.CONVN` bits 31:24, RW (05 Table 5-13, R162). -/
def POS.OBSCFG_CONVN (p : Nat) : Fld := ⟨0x40200000 + 0x10000*p + 0x0300, 24, 8, .rw, 64, false⟩

/-- `POS.OBSCFG.LOSTN` bits 23:16, RW (05 Table 5-13, R162). -/
def POS.OBSCFG_LOSTN (p : Nat) : Fld := ⟨0x40200000 + 0x10000*p + 0x0300, 16, 8, .rw, 32, false⟩

/-- `POS.OBSCFG.XN` bits 15:8, RW (05 Table 5-13, R162). -/
def POS.OBSCFG_XN (p : Nat) : Fld := ⟨0x40200000 + 0x10000*p + 0x0300, 8, 8, .rw, 16, false⟩

/-- `POS.OBSCFG.XTOL` bits 7:0, RW (05 Table 5-13, R162). -/
def POS.OBSCFG_XTOL (p : Nat) : Fld := ⟨0x40200000 + 0x10000*p + 0x0300, 0, 8, .rw, 8, false⟩

/-- `POS.OBSTHR.OBSMIN` bits 31:16, RW (05 Table 5-13, R162). -/
def POS.OBSTHR_OBSMIN (p : Nat) : Fld := ⟨0x40200000 + 0x10000*p + 0x0304, 16, 16, .rw, 200, false⟩

/-- `POS.OBSTHR.INNOVTHR` bits 15:0, RW (05 Table 5-13, R162). -/
def POS.OBSTHR_INNOVTHR (p : Nat) : Fld := ⟨0x40200000 + 0x10000*p + 0x0304, 0, 16, .rw, 4096, false⟩

/-- `POS.OBSRS.RS` bits 31:0, RW (05 Table 5-13, R162). -/
def POS.OBSRS_RS (p : Nat) : Fld := ⟨0x40200000 + 0x10000*p + 0x0308, 0, 32, .rw, 0, false⟩

/-- `POS.OBSLS.LS` bits 31:0, RW (05 Table 5-13, R162). -/
def POS.OBSLS_LS (p : Nat) : Fld := ⟨0x40200000 + 0x10000*p + 0x030C, 0, 32, .rw, 0, false⟩

/-- `POS.OBSPSI.PSI` bits 31:0, RW (05 Table 5-13, R162). -/
def POS.OBSPSI_PSI (p : Nat) : Fld := ⟨0x40200000 + 0x10000*p + 0x0310, 0, 32, .rw, 0, false⟩

/-- `POS.OBSIN.VSRC` bits 0, RW (05 Table 5-13, R162). -/
def POS.OBSIN_VSRC (p : Nat) : Fld := ⟨0x40200000 + 0x10000*p + 0x0314, 0, 1, .rw, 0, false⟩

/-- `POS.OBSANG.THOBS` bits 21:0, RO (05 Table 5-13, R162). -/
def POS.OBSANG_THOBS (p : Nat) : Fld := ⟨0x40200000 + 0x10000*p + 0x0318, 0, 22, .ro, 0, false⟩

/-- `POS.OBSSPD.SPDOBS` bits 31:0, RO (05 Table 5-13, R162). -/
def POS.OBSSPD_SPDOBS (p : Nat) : Fld := ⟨0x40200000 + 0x10000*p + 0x031C, 0, 32, .ro, 0, false⟩

end Sys2Proof.Machine
end

