-- ==== Sys2Proof/Machine/RegMapSystem.lean ====
section
/-! DEFINITION. The field descriptors of the clock and power manager, life cycle, owner, Keystone, interrupt, fault-collector, Pier and BIST registers: one definition per field of a register table of the spec,
with its address, lowest bit, width, access code and reset value. -/

namespace Sys2Proof.Machine

/-- `CPM.DOMCTL.EFF_THROT` bits 23:21, RO (01 Table 1-4, R25). -/
def CPM.DOMCTL_EFF_THROT (n : Nat) : Fld := ⟨0x40000100 + 4*n, 21, 3, .ro, 0, false⟩

/-- `CPM.DOMCTL.ACTIVE` bits 16, RO (01 Table 1-4, R25). -/
def CPM.DOMCTL_ACTIVE (n : Nat) : Fld := ⟨0x40000100 + 4*n, 16, 1, .ro, 1, false⟩

/-- `CPM.DOMCTL.SKIP` bits 15:12, RW (01 Table 1-4, R25). -/
def CPM.DOMCTL_SKIP (n : Nat) : Fld := ⟨0x40000100 + 4*n, 12, 4, .rw, 0, false⟩

/-- `CPM.DOMCTL.REFUSED` bits 8, W1C (01 Table 1-4, R25). -/
def CPM.DOMCTL_REFUSED (n : Nat) : Fld := ⟨0x40000100 + 4*n, 8, 1, .w1c, 0, false⟩

/-- `CPM.DOMCTL.THROT` bits 4:2, RW (01 Table 1-4, R25). -/
def CPM.DOMCTL_THROT (n : Nat) : Fld := ⟨0x40000100 + 4*n, 2, 3, .rw, 0, false⟩

/-- `CPM.DOMCTL.GATE` bits 0, RW (01 Table 1-4, R25). -/
def CPM.DOMCTL_GATE (n : Nat) : Fld := ⟨0x40000100 + 4*n, 0, 1, .rw, 0, true⟩

/-- `LC.RSTCAUSE.COUNT` bits 31:16, RO (03 Table 3-2, R77). -/
def LC.RSTCAUSE_COUNT : Fld := ⟨0x40010004, 16, 16, .ro, 0, false⟩

/-- `LC.RSTCAUSE.VIO_LOW` bits 8, W1C (03 Table 3-2, R77). -/
def LC.RSTCAUSE_VIO_LOW : Fld := ⟨0x40010004, 8, 1, .w1c, 0, false⟩

/-- `LC.RSTCAUSE.VANA_LOW` bits 7, W1C (03 Table 3-2, R77). -/
def LC.RSTCAUSE_VANA_LOW : Fld := ⟨0x40010004, 7, 1, .w1c, 0, false⟩

/-- `LC.RSTCAUSE.VCORE_LOW` bits 6, W1C (03 Table 3-2, R77). -/
def LC.RSTCAUSE_VCORE_LOW : Fld := ⟨0x40010004, 6, 1, .w1c, 0, false⟩

/-- `LC.RSTCAUSE.WAKE` bits 5, W1C (03 Table 3-2, R77). -/
def LC.RSTCAUSE_WAKE : Fld := ⟨0x40010004, 5, 1, .w1c, 0, false⟩

/-- `LC.RSTCAUSE.LCT` bits 4, W1C (03 Table 3-2, R77). -/
def LC.RSTCAUSE_LCT : Fld := ⟨0x40010004, 4, 1, .w1c, 0, false⟩

/-- `LC.RSTCAUSE.SOFT` bits 3, W1C (03 Table 3-2, R77). -/
def LC.RSTCAUSE_SOFT : Fld := ⟨0x40010004, 3, 1, .w1c, 0, false⟩

/-- `LC.RSTCAUSE.PIN` bits 2, W1C (03 Table 3-2, R77). -/
def LC.RSTCAUSE_PIN : Fld := ⟨0x40010004, 2, 1, .w1c, 0, false⟩

/-- `LC.RSTCAUSE.SUPPLY` bits 1, W1C (03 Table 3-2, R77). -/
def LC.RSTCAUSE_SUPPLY : Fld := ⟨0x40010004, 1, 1, .w1c, 0, false⟩

/-- `LC.RSTCAUSE.POR` bits 0, W1C (03 Table 3-2, R77). -/
def LC.RSTCAUSE_POR : Fld := ⟨0x40010004, 0, 1, .w1c, 0, false⟩

/-- `LC.BOOTSTAT.T_READY` bits 31:16, RO (03 Table 3-4, R82). -/
def LC.BOOTSTAT_T_READY : Fld := ⟨0x40010008, 16, 16, .ro, 0, false⟩

/-- `LC.BOOTSTAT.SPLIT1` bits 10, RO (03 Table 3-4, R82). -/
def LC.BOOTSTAT_SPLIT1 : Fld := ⟨0x40010008, 10, 1, .ro, 0, false⟩

/-- `LC.BOOTSTAT.SPLIT0` bits 9, RO (03 Table 3-4, R82). -/
def LC.BOOTSTAT_SPLIT0 : Fld := ⟨0x40010008, 9, 1, .ro, 0, false⟩

/-- `LC.BOOTSTAT.ENC` bits 8, RO (03 Table 3-4, R82). -/
def LC.BOOTSTAT_ENC : Fld := ⟨0x40010008, 8, 1, .ro, 0, false⟩

/-- `LC.BOOTSTAT.FALLBACK` bits 7, RO (03 Table 3-4, R82). -/
def LC.BOOTSTAT_FALLBACK : Fld := ⟨0x40010008, 7, 1, .ro, 0, false⟩

/-- `LC.BOOTSTAT.IMG_BAD` bits 6, RO (03 Table 3-4, R82). -/
def LC.BOOTSTAT_IMG_BAD : Fld := ⟨0x40010008, 6, 1, .ro, 0, false⟩

/-- `LC.BOOTSTAT.IMG_SRC` bits 5:4, RO (03 Table 3-4, R82). -/
def LC.BOOTSTAT_IMG_SRC : Fld := ⟨0x40010008, 4, 2, .ro, 2, false⟩

/-- `LC.BOOTSTAT.ROOT_FAIL` bits 3, RO (03 Table 3-4, R82). -/
def LC.BOOTSTAT_ROOT_FAIL : Fld := ⟨0x40010008, 3, 1, .ro, 0, false⟩

/-- `LC.BOOTSTAT.BIST_FAIL` bits 2, RO (03 Table 3-4, R82). -/
def LC.BOOTSTAT_BIST_FAIL : Fld := ⟨0x40010008, 2, 1, .ro, 0, false⟩

/-- `LC.BOOTSTAT.BIST_RUN` bits 1, RO (03 Table 3-4, R82). -/
def LC.BOOTSTAT_BIST_RUN : Fld := ⟨0x40010008, 1, 1, .ro, 0, false⟩

/-- `LC.BOOTSTAT.QUICK` bits 0, RO (03 Table 3-4, R82). -/
def LC.BOOTSTAT_QUICK : Fld := ⟨0x40010008, 0, 1, .ro, 0, false⟩

/-- `LC.BOOTOPT.ARB` bits 21:16, RO (03 Table 3-6, R84). -/
def LC.BOOTOPT_ARB : Fld := ⟨0x4001000C, 16, 6, .ro, 0, false⟩

/-- `LC.BOOTOPT.KEY1_REV` bits 7, RO (03 Table 3-6, R84). -/
def LC.BOOTOPT_KEY1_REV : Fld := ⟨0x4001000C, 7, 1, .ro, 0, false⟩

/-- `LC.BOOTOPT.KEY0_REV` bits 6, RO (03 Table 3-6, R84). -/
def LC.BOOTOPT_KEY0_REV : Fld := ⟨0x4001000C, 6, 1, .ro, 0, false⟩

/-- `LC.BOOTOPT.BANK_POL` bits 5:4, RO (03 Table 3-6, R84). -/
def LC.BOOTOPT_BANK_POL : Fld := ⟨0x4001000C, 4, 2, .ro, 0, false⟩

/-- `LC.BOOTOPT.NETLOAD_EN` bits 3, RO (03 Table 3-6, R84). -/
def LC.BOOTOPT_NETLOAD_EN : Fld := ⟨0x4001000C, 3, 1, .ro, 0, false⟩

/-- `LC.BOOTOPT.ENC_REQ` bits 2, RO (03 Table 3-6, R84). -/
def LC.BOOTOPT_ENC_REQ : Fld := ⟨0x4001000C, 2, 1, .ro, 0, false⟩

/-- `LC.BOOTOPT.SPLIT1` bits 1, RO (03 Table 3-6, R84). -/
def LC.BOOTOPT_SPLIT1 : Fld := ⟨0x4001000C, 1, 1, .ro, 0, false⟩

/-- `LC.BOOTOPT.SPLIT0` bits 0, RO (03 Table 3-6, R84). -/
def LC.BOOTOPT_SPLIT0 : Fld := ⟨0x4001000C, 0, 1, .ro, 0, false⟩

/-- `LC.FLCTL.OVERRUN` bits 18, W1C (03 Table 3-8, R90). -/
def LC.FLCTL_OVERRUN : Fld := ⟨0x40010400, 18, 1, .w1c, 0, false⟩

/-- `LC.FLCTL.REFUSED` bits 17, W1C (03 Table 3-8, R90). -/
def LC.FLCTL_REFUSED : Fld := ⟨0x40010400, 17, 1, .w1c, 0, false⟩

/-- `LC.FLCTL.ERR` bits 16, W1C (03 Table 3-8, R90). -/
def LC.FLCTL_ERR : Fld := ⟨0x40010400, 16, 1, .w1c, 0, false⟩

/-- `LC.FLCTL.BUSY` bits 8, RO (03 Table 3-8, R90). -/
def LC.FLCTL_BUSY : Fld := ⟨0x40010400, 8, 1, .ro, 0, false⟩

/-- `LC.FLCTL.CMD` bits 3:0, WO (03 Table 3-8, R90). -/
def LC.FLCTL_CMD : Fld := ⟨0x40010400, 0, 4, .wo, 0, true⟩

/-- `LC.LCSTATE.ERASED` bits 10, RO (03 Table 3-9, R92). -/
def LC.LCSTATE_ERASED : Fld := ⟨0x40010000, 10, 1, .ro, 0, false⟩

/-- `LC.LCSTATE.BURN_FIX` bits 9, RO (03 Table 3-9, R92). -/
def LC.LCSTATE_BURN_FIX : Fld := ⟨0x40010000, 9, 1, .ro, 0, false⟩

/-- `LC.LCSTATE.PEND` bits 8, RO (03 Table 3-9, R92). -/
def LC.LCSTATE_PEND : Fld := ⟨0x40010000, 8, 1, .ro, 0, false⟩

/-- `LC.LCSTATE.PEND_TO` bits 7:4, RO (03 Table 3-9, R92). -/
def LC.LCSTATE_PEND_TO : Fld := ⟨0x40010000, 4, 4, .ro, 0, false⟩

/-- `LC.LCSTATE.STATE` bits 3:0, RO (03 Table 3-9, R92). -/
def LC.LCSTATE_STATE : Fld := ⟨0x40010000, 0, 4, .ro, 0, false⟩

/-- `LC.FLADDR` (03 R90). -/
def LC.FLADDR_V : Fld := ⟨0x40010404, 0, 32, .rw, 0, false⟩

/-- `LC.FLDATA0`-`FLDATA3` (03 R90). -/
def LC.FLDATA_V (i : Nat) : Fld := ⟨0x40010410 + 4*i, 0, 32, .rw, 0, false⟩

/-- `LC.SWRST` (03 R75). -/
def LC.SWRST_V : Fld := ⟨0x40010010, 0, 32, .wo, 0, false⟩

/-- Owner register `OWNi` of page pg, CONFL_BY (01 Table 1-7, R37; reset Table 1-6). -/
def OWN.R_CONFL_BY (pg : Nat) (i : Nat) : Fld := ⟨pageBase pg + 4*i, 24, 8, .ro, 0, false⟩

/-- Owner register `OWNi` of page pg, REQBY (01 Table 1-7, R37; reset Table 1-6). -/
def OWN.R_REQBY (pg : Nat) (i : Nat) : Fld := ⟨pageBase pg + 4*i, 17, 3, .ro, 0, false⟩

/-- Owner register `OWNi` of page pg, CONFLICT (01 Table 1-7, R37; reset Table 1-6). -/
def OWN.R_CONFLICT (pg : Nat) (i : Nat) : Fld := ⟨pageBase pg + 4*i, 16, 1, .w1c, 0, false⟩

/-- Owner register `OWNi` of page pg, REQ (01 Table 1-7, R37; reset Table 1-6). -/
def OWN.R_REQ (pg : Nat) (i : Nat) : Fld := ⟨pageBase pg + 4*i, 8, 8, .rw, 0, true⟩

/-- Owner register `OWNi` of page pg, OWNER (01 Table 1-7, R37; reset Table 1-6). -/
def OWN.R_OWNER (pg : Nat) (i : Nat) : Fld := ⟨pageBase pg + 4*i, 0, 8, .ro, ownerReset pg i, false⟩

/-- `OWNCMT.CMT` of page pg (01 R37). -/
def OWN.CMT_CMT (pg : Nat) : Fld := ⟨pageBase pg + 0xFFC, 0, 1, .wo, 0, false⟩

/-- `OWNCMT.PEND` of page pg (01 R37). -/
def OWN.CMT_PEND (pg : Nat) : Fld := ⟨pageBase pg + 0xFFC, 1, 1, .ro, 0, false⟩

/-- `OWNCMT.NCONF` of page pg (01 R37). -/
def OWN.CMT_NCONF (pg : Nat) : Fld := ⟨pageBase pg + 0xFFC, 8, 8, .ro, 0, false⟩

/-- `KS.CTL.LOCK` bits 8, W1S (11 Table 11-8, R336). -/
def KS.CTL_LOCK : Fld := ⟨0x40040000, 8, 1, .w1s, 0, true⟩

/-- `KS.TSTAT.RETIRED` bits 23:21, RO (11 Table 11-8, R336). -/
def KS.TSTAT_RETIRED : Fld := ⟨0x40040000 + 0x0004, 21, 3, .ro, 0, false⟩

/-- `KS.TSTAT.HELDM` bits 20:18, RO (11 Table 11-8, R336). -/
def KS.TSTAT_HELDM : Fld := ⟨0x40040000 + 0x0004, 18, 3, .ro, 0, false⟩

/-- `KS.TSTAT.MODE` bits 17:16, RO (11 Table 11-8, R336). -/
def KS.TSTAT_MODE : Fld := ⟨0x40040000 + 0x0004, 16, 2, .ro, 0, false⟩

/-- `KS.TSTAT.DHART` bits 7:6, RO (11 Table 11-8, R336). -/
def KS.TSTAT_DHART : Fld := ⟨0x40040000 + 0x0004, 6, 2, .ro, 3, false⟩

/-- `KS.TSTAT.DBL` bits 5, RO (11 Table 11-8, R336). -/
def KS.TSTAT_DBL : Fld := ⟨0x40040000 + 0x0004, 5, 1, .ro, 0, false⟩

/-- `KS.TSTAT.RETIRE` bits 4, W1C (11 Table 11-8, R336). -/
def KS.TSTAT_RETIRE : Fld := ⟨0x40040000 + 0x0004, 4, 1, .w1c, 0, false⟩

/-- `KS.TSTAT.LATENT_DIV` bits 3, W1C (11 Table 11-8, R336). -/
def KS.TSTAT_LATENT_DIV : Fld := ⟨0x40040000 + 0x0004, 3, 1, .w1c, 0, false⟩

/-- `KS.TSTAT.DISS` bits 2, W1C (11 Table 11-8, R336). -/
def KS.TSTAT_DISS : Fld := ⟨0x40040000 + 0x0004, 2, 1, .w1c, 0, false⟩

/-- `KS.TCNT.DISSENTS` bits 31:16, RO (11 Table 11-8, R336). -/
def KS.TCNT_DISSENTS : Fld := ⟨0x40040000 + 0x0008, 16, 16, .ro, 0, false⟩

/-- `KS.TCNT.REINT` bits 15:0, RO (11 Table 11-8, R336). -/
def KS.TCNT_REINT : Fld := ⟨0x40040000 + 0x0008, 0, 16, .ro, 0, false⟩

/-- `KS.TLAST.KIND` bits 31:28, RO (11 Table 11-8, R336). -/
def KS.TLAST_KIND : Fld := ⟨0x40040000 + 0x000C, 28, 4, .ro, 0, false⟩

/-- `KS.TLAST.HART` bits 27:26, RO (11 Table 11-8, R336). -/
def KS.TLAST_HART : Fld := ⟨0x40040000 + 0x000C, 26, 2, .ro, 0, false⟩

/-- `KS.TADDR.ADDR` bits 31:0, RO (11 Table 11-8, R336). -/
def KS.TADDR_ADDR : Fld := ⟨0x40040000 + 0x0010, 0, 32, .ro, 0, false⟩

/-- `KS.INCLS.C2` bits 2, RO (11 Table 11-8, R336). -/
def KS.INCLS_C2 (t : Nat) : Fld := ⟨0x40040000 + 0x0020 + 4*t, 2, 1, .ro, 0, false⟩

/-- `KS.INCLS.C1` bits 1, RWL (11 Table 11-8, R336). -/
def KS.INCLS_C1 (t : Nat) : Fld := ⟨0x40040000 + 0x0020 + 4*t, 1, 1, .rwl, if t = 0 then 1 else 0, false⟩

/-- `KS.INCLS.C0` bits 0, RWL (11 Table 11-8, R336). -/
def KS.INCLS_C0 (t : Nat) : Fld := ⟨0x40040000 + 0x0020 + 4*t, 0, 1, .rwl, if t = 0 then 1 else 0, false⟩

/-- `KS.SCRUBST.SCRUBS` bits 31:16, RO (11 Table 11-8, R336). -/
def KS.SCRUBST_SCRUBS : Fld := ⟨0x40040000 + 0x0030, 16, 16, .ro, 0, false⟩

/-- `KS.SCRUBST.LASTDIV` bits 2:0, RO (11 Table 11-8, R336). -/
def KS.SCRUBST_LASTDIV : Fld := ⟨0x40040000 + 0x0030, 0, 3, .ro, 0, false⟩

/-- `KS.SPCTL.HSEL` bits 9, RW (11 Table 11-8, R336). -/
def KS.SPCTL_HSEL (s : Nat) : Fld := ⟨0x40040000 + 0x0100 + 0x20*s, 9, 1, .rw, 0, false⟩

/-- `KS.SPCTL.RESTART` bits 8, WO (11 Table 11-8, R336). -/
def KS.SPCTL_RESTART (s : Nat) : Fld := ⟨0x40040000 + 0x0100 + 0x20*s, 8, 1, .wo, 0, true⟩

/-- `KS.SPCTL.SPRMAX` bits 2:0, RWL (11 Table 11-8, R336). -/
def KS.SPCTL_SPRMAX (s : Nat) : Fld := ⟨0x40040000 + 0x0100 + 0x20*s, 0, 3, .rwl, 4, false⟩

/-- `KS.SPSTAT.RESETS` bits 31:16, RO (11 Table 11-8, R336). -/
def KS.SPSTAT_RESETS (s : Nat) : Fld := ⟨0x40040000 + 0x100 + 0x20*s + 0x04, 16, 16, .ro, 0, false⟩

/-- `KS.SPSTAT.CAUSE` bits 11:8, RO (11 Table 11-8, R336). -/
def KS.SPSTAT_CAUSE (s : Nat) : Fld := ⟨0x40040000 + 0x100 + 0x20*s + 0x04, 8, 4, .ro, 0, false⟩

/-- `KS.SPSTAT.MODE` bits 7:5, RO (11 Table 11-8, R336). -/
def KS.SPSTAT_MODE (s : Nat) : Fld := ⟨0x40040000 + 0x100 + 0x20*s + 0x04, 5, 3, .ro, 0, false⟩

/-- `KS.SPSTAT.PARK` bits 4, W1C (11 Table 11-8, R336). -/
def KS.SPSTAT_PARK (s : Nat) : Fld := ⟨0x40040000 + 0x100 + 0x20*s + 0x04, 4, 1, .w1c, 0, false⟩

/-- `KS.SPSTAT.LATENT_DIV` bits 3, W1C (11 Table 11-8, R336). -/
def KS.SPSTAT_LATENT_DIV (s : Nat) : Fld := ⟨0x40040000 + 0x100 + 0x20*s + 0x04, 3, 1, .w1c, 0, false⟩

/-- `KS.SPSTAT.MISMATCH` bits 2, W1C (11 Table 11-8, R336). -/
def KS.SPSTAT_MISMATCH (s : Nat) : Fld := ⟨0x40040000 + 0x100 + 0x20*s + 0x04, 2, 1, .w1c, 0, false⟩

/-- `KS.SPADDR.ADDR` bits 31:0, RO (11 Table 11-8, R336). -/
def KS.SPADDR_ADDR (s : Nat) : Fld := ⟨0x40040000 + 0x100 + 0x20*s + 0x08, 0, 32, .ro, 0, false⟩

/-- `KS.DBG.DBGCNT` bits 31:16, RO (11 Table 11-8, R336). -/
def KS.DBG_DBGCNT : Fld := ⟨0x40040000 + 0x0200, 16, 16, .ro, 0, false⟩

/-- `KS.DBG.TGT` bits 3:1, RO (11 Table 11-8, R336). -/
def KS.DBG_TGT : Fld := ⟨0x40040000 + 0x0200, 1, 3, .ro, 0, false⟩

/-- `KS.DBG.DBGLS` bits 0, RO (11 Table 11-8, R336). -/
def KS.DBG_DBGLS : Fld := ⟨0x40040000 + 0x0200, 0, 1, .ro, 0, false⟩

/-- `INTC.SPUR.SPURCNT` bits 31:16, RO (12 Table 12-2, R347). -/
def INTC.SPUR_SPURCNT : Fld := ⟨0x40020000 + 0x0004, 16, 16, .ro, 0, false⟩

/-- `INTC.SPUR.SPURTGT` bits 11:9, RO (12 Table 12-2, R347). -/
def INTC.SPUR_SPURTGT : Fld := ⟨0x40020000 + 0x0004, 9, 3, .ro, 0, false⟩

/-- `INTC.SPUR.SPURSRC` bits 8:0, RO (12 Table 12-2, R347). -/
def INTC.SPUR_SPURSRC : Fld := ⟨0x40020000 + 0x0004, 0, 9, .ro, 0, false⟩

/-- `INTC.SWSET.SRC` bits 5:0, WO (12 Table 12-2, R347). -/
def INTC.SWSET_SRC : Fld := ⟨0x40020000 + 0x0008, 0, 6, .wo, 0, true⟩

/-- `INTC.SRCCFG.ACTIVE` bits 10, RO (12 Table 12-2, R347). -/
def INTC.SRCCFG_ACTIVE (i : Nat) : Fld := ⟨0x40020000 + 0x1000 + 4*i, 10, 1, .ro, 0, false⟩

/-- `INTC.SRCCFG.PEND` bits 9, RO (12 Table 12-2, R347). -/
def INTC.SRCCFG_PEND (i : Nat) : Fld := ⟨0x40020000 + 0x1000 + 4*i, 9, 1, .ro, 0, false⟩

/-- `INTC.SRCCFG.TYPE` bits 8, RO (12 Table 12-2, R347). -/
def INTC.SRCCFG_TYPE (i : Nat) : Fld := ⟨0x40020000 + 0x1000 + 4*i, 8, 1, .ro, if srcIsEdge i then 1 else 0, false⟩

/-- `INTC.SRCCFG.PRIO` bits 3:0, RW (12 Table 12-2, R347). -/
def INTC.SRCCFG_PRIO (i : Nat) : Fld := ⟨0x40020000 + 0x1000 + 4*i, 0, 4, .rw, 0, false⟩

/-- `INTC.THR.TICKEN` bits 8, RW (12 Table 12-2, R347). -/
def INTC.THR_TICKEN (t : Nat) : Fld := ⟨0x40020000 + 0x3000 + 0x10*t, 8, 1, .rw, 0, false⟩

/-- `INTC.THR.THR` bits 3:0, RW (12 Table 12-2, R347). -/
def INTC.THR_THR (t : Nat) : Fld := ⟨0x40020000 + 0x3000 + 0x10*t, 0, 4, .rw, 0, false⟩

/-- `INTC.CLAIM.VALID` bits 31, RO (12 Table 12-2, R347). -/
def INTC.CLAIM_VALID (t : Nat) : Fld := ⟨0x40020000 + 0x3000 + 0x10*t + 0x4, 31, 1, .ro, 0, false⟩

/-- `INTC.CLAIM.SRC` bits 8:0, RW (12 Table 12-2, R347). -/
def INTC.CLAIM_SRC (t : Nat) : Fld := ⟨0x40020000 + 0x3000 + 0x10*t + 0x4, 0, 9, .rw, 0, true⟩

/-- Source i enabled for target t (12 Table 12-2). -/
def INTC.EN_E (t : Nat) (i : Nat) : Fld := ⟨0x40022000 + 0x40*t + 4*(i / 32), i % 32, 1, .rw, 0, false⟩

/-- `FCOL.CTL.LOCK` bits 8, W1S (12 Table 12-6, R360). -/
def FCOL.CTL_LOCK : Fld := ⟨0x40030000, 8, 1, .w1s, 0, true⟩

/-- `FCOL.CTL.CLSREJ` bits 0, W1C (12 Table 12-6, R360). -/
def FCOL.CTL_CLSREJ : Fld := ⟨0x40030000, 0, 1, .w1c, 0, false⟩

/-- `FCOL.FIRST.FVALID` bits 8, RO (12 Table 12-6, R360). -/
def FCOL.FIRST_FVALID : Fld := ⟨0x40030000 + 0x0060, 8, 1, .ro, 0, false⟩

/-- `FCOL.FIRST.LINE` bits 5:0, RO (12 Table 12-6, R360). -/
def FCOL.FIRST_LINE : Fld := ⟨0x40030000 + 0x0060, 0, 6, .ro, 0, false⟩

/-- `FCOL.FIRSTTS.TS` bits 31:0, RO (12 Table 12-6, R360). -/
def FCOL.FIRSTTS_TS : Fld := ⟨0x40030000 + 0x0064, 0, 32, .ro, 0, false⟩

/-- `FCOL.REACT.PARERR` bits 16, RO (12 Table 12-6, R360). -/
def FCOL.REACT_PARERR : Fld := ⟨0x40030000 + 0x0068, 16, 1, .ro, 0, false⟩

/-- `FCOL.REACT.STREJB` bits 13, W1C (12 Table 12-6, R360). -/
def FCOL.REACT_STREJB : Fld := ⟨0x40030000 + 0x0068, 13, 1, .w1c, 0, false⟩

/-- `FCOL.REACT.STREJA` bits 12, W1C (12 Table 12-6, R360). -/
def FCOL.REACT_STREJA : Fld := ⟨0x40030000 + 0x0068, 12, 1, .w1c, 0, false⟩

/-- `FCOL.REACT.STOPTO` bits 11, W1C (12 Table 12-6, R360). -/
def FCOL.REACT_STOPTO : Fld := ⟨0x40030000 + 0x0068, 11, 1, .w1c, 0, false⟩

/-- `FCOL.REACT.STOPB` bits 10, RO (12 Table 12-6, R360). -/
def FCOL.REACT_STOPB : Fld := ⟨0x40030000 + 0x0068, 10, 1, .ro, 0, false⟩

/-- `FCOL.REACT.STOPA` bits 9, RO (12 Table 12-6, R360). -/
def FCOL.REACT_STOPA : Fld := ⟨0x40030000 + 0x0068, 9, 1, .ro, 0, false⟩

/-- `FCOL.REACT.MSS` bits 8, RO (12 Table 12-6, R360). -/
def FCOL.REACT_MSS : Fld := ⟨0x40030000 + 0x0068, 8, 1, .ro, 0, false⟩

/-- `FCOL.REACT.CLASSB` bits 6:4, RO (12 Table 12-6, R360). -/
def FCOL.REACT_CLASSB : Fld := ⟨0x40030000 + 0x0068, 4, 3, .ro, 0, false⟩

/-- `FCOL.REACT.CLASSA` bits 2:0, RO (12 Table 12-6, R360). -/
def FCOL.REACT_CLASSA : Fld := ⟨0x40030000 + 0x0068, 0, 3, .ro, 0, false⟩

/-- `FCOL.STOPCFG.STOPRATE` bits 31:16, RWL (12 Table 12-6, R360). -/
def FCOL.STOPCFG_STOPRATE : Fld := ⟨0x40030000 + 0x0070, 16, 16, .rwl, 64, false⟩

/-- `FCOL.STOPCFG.STOPTMO` bits 15:0, RWL (12 Table 12-6, R360). -/
def FCOL.STOPCFG_STOPTMO : Fld := ⟨0x40030000 + 0x0070, 0, 16, .rwl, 500, false⟩

/-- `FCOL.SWSET.SET` bits 2:0, WO (12 Table 12-6, R360). -/
def FCOL.SWSET_SET : Fld := ⟨0x40030000 + 0x0078, 0, 3, .wo, 0, true⟩

/-- `FCOL.SEM.TAKEN` bits 8, RO (12 Table 12-6, R360). -/
def FCOL.SEM_TAKEN (i : Nat) : Fld := ⟨0x40030000 + 0x0100 + 4*i, 8, 1, .ro, 0, false⟩

/-- `FCOL.SEM.OWNER` bits 7:0, RO (12 Table 12-6, R360). -/
def FCOL.SEM_OWNER (i : Nat) : Fld := ⟨0x40030000 + 0x0100 + 4*i, 0, 8, .ro, 0, false⟩

/-- `FCOL.RELSTAT.SEMREL` bits 31:24, RO (12 Table 12-6, R360). -/
def FCOL.RELSTAT_SEMREL : Fld := ⟨0x40030000 + 0x0200, 24, 8, .ro, 0, false⟩

/-- `FCOL.RELSTAT.DMAABT` bits 23:16, RO (12 Table 12-6, R360). -/
def FCOL.RELSTAT_DMAABT : Fld := ⟨0x40030000 + 0x0200, 16, 8, .ro, 0, false⟩

/-- `FCOL.RELSTAT.CANFLUSH` bits 15:0, RO (12 Table 12-6, R360). -/
def FCOL.RELSTAT_CANFLUSH : Fld := ⟨0x40030000 + 0x0200, 0, 16, .ro, 0, false⟩

/-- `FCOL.STATUS` of line l (12 Table 12-6, R360). -/
def FCOL.STATUS_L (l : Nat) : Fld := ⟨0x40030000 + 0x10 + 4*(l / 32), l % 32, 1, .w1c, 0, true⟩

/-- `FCOL.RAW` of line l (12 Table 12-6, R360). -/
def FCOL.RAW_L (l : Nat) : Fld := ⟨0x40030000 + 0x18 + 4*(l / 32), l % 32, 1, .ro, 0, false⟩

/-- `FCOL.BRA` of line l (12 Table 12-6, R360). -/
def FCOL.BRA_L (l : Nat) : Fld := ⟨0x40030000 + 0x20 + 4*(l / 32), l % 32, 1, .ro, 0, false⟩

/-- `FCOL.BRB` of line l (12 Table 12-6, R360). -/
def FCOL.BRB_L (l : Nat) : Fld := ⟨0x40030000 + 0x28 + 4*(l / 32), l % 32, 1, .ro, 0, false⟩

/-- `FCOL.FNEN` of line l (12 Table 12-6, R360). -/
def FCOL.FNEN_L (l : Nat) : Fld := ⟨0x40030000 + 0x30 + 4*(l / 32), l % 32, 1, .rwl, if fnenReset l then 1 else 0, false⟩

/-- Class of line l (12 Table 12-6, R360; reset Table 12-3). -/
def FCOL.CLS_C (l : Nat) : Fld := ⟨0x40030040 + 4*(l / 8), 4*(l % 8), 3, .rwl, lineClassReset l, true⟩

/-- `PIER.PDCTL.ST` bits 9:8, RO (16 Table 16-12, R477). -/
def PIER.PDCTL_ST (d : Nat) : Fld := ⟨0x40000000 + 0x0200 + 4*d, 8, 2, .ro, 0, false⟩

/-- `PIER.PDCTL.REQ` bits 5:4, RW (16 Table 16-12, R477). -/
def PIER.PDCTL_REQ (d : Nat) : Fld := ⟨0x40000000 + 0x0200 + 4*d, 4, 2, .rw, 0, true⟩

/-- `PIER.PDCTL.ABORTED` bits 1, W1C (16 Table 16-12, R477). -/
def PIER.PDCTL_ABORTED (d : Nat) : Fld := ⟨0x40000000 + 0x0200 + 4*d, 1, 1, .w1c, 0, false⟩

/-- `PIER.PDCTL.REFUSED` bits 0, W1C (16 Table 16-12, R477). -/
def PIER.PDCTL_REFUSED (d : Nat) : Fld := ⟨0x40000000 + 0x0200 + 4*d, 0, 1, .w1c, 0, false⟩

/-- `PIER.CTL.WFAIL` bits 31, RO (16 Table 16-12, R477). -/
def PIER.CTL_WFAIL : Fld := ⟨0x40000000 + 0x0800, 31, 1, .ro, 0, false⟩

/-- `PIER.CTL.VKALOW` bits 30, W1C (16 Table 16-12, R477). -/
def PIER.CTL_VKALOW : Fld := ⟨0x40000000 + 0x0800, 30, 1, .w1c, 0, false⟩

/-- `PIER.CTL.BACKOFF` bits 23:16, RW (16 Table 16-12, R477). -/
def PIER.CTL_BACKOFF : Fld := ⟨0x40000000 + 0x0800, 16, 8, .rw, 10, false⟩

/-- `PIER.CTL.WAKE_TMO` bits 15:8, RW (16 Table 16-12, R477). -/
def PIER.CTL_WAKE_TMO : Fld := ⟨0x40000000 + 0x0800, 8, 8, .rw, 20, false⟩

/-- `PIER.CTL.RCFB` bits 0, RW (16 Table 16-12, R477). -/
def PIER.CTL_RCFB : Fld := ⟨0x40000000 + 0x0800, 0, 1, .rw, 1, false⟩

/-- `PIER.WCFG.EN` bits 31, RW (16 Table 16-12, R477). -/
def PIER.WCFG_EN (s : Nat) : Fld := ⟨0x40000000 + 0x0810 + 4*(s - 1), 31, 1, .rw, if s = 1 then 1 else 0, false⟩

/-- `PIER.WCFG.DMASK` bits 16:8, RW (16 Table 16-12, R477). -/
def PIER.WCFG_DMASK (s : Nat) : Fld := ⟨0x40000000 + 0x0810 + 4*(s - 1), 8, 9, .rw, 510, false⟩

/-- `PIER.WCFG.MODE` bits 5:4, RW (16 Table 16-12, R477). -/
def PIER.WCFG_MODE (s : Nat) : Fld := ⟨0x40000000 + 0x0810 + 4*(s - 1), 4, 2, .rw, 0, false⟩

/-- `PIER.WCFG.FILT` bits 3:0, RW (16 Table 16-12, R477). -/
def PIER.WCFG_FILT (s : Nat) : Fld := ⟨0x40000000 + 0x0810 + 4*(s - 1), 0, 4, .rw, if s ≤ 4 then 4 else 0, false⟩

/-- `PIER.WSTAT.PEND` bits 25:16, RO (16 Table 16-12, R477). -/
def PIER.WSTAT_PEND : Fld := ⟨0x40000000 + 0x0840, 16, 10, .ro, 0, false⟩

/-- `PIER.WSTAT.LASTSRC` bits 15:12, RO (16 Table 16-12, R477). -/
def PIER.WSTAT_LASTSRC : Fld := ⟨0x40000000 + 0x0840, 12, 4, .ro, 0, false⟩

/-- `PIER.WSTAT.ATTEMPT` bits 9:8, RO (16 Table 16-12, R477). -/
def PIER.WSTAT_ATTEMPT : Fld := ⟨0x40000000 + 0x0840, 8, 2, .ro, 0, false⟩

/-- `PIER.WSTAT.WSTATE` bits 3:0, RO (16 Table 16-12, R477). -/
def PIER.WSTAT_WSTATE : Fld := ⟨0x40000000 + 0x0840, 0, 4, .ro, 0, false⟩

/-- `PIER.WFAILR.EPISODES` bits 31:24, RO (16 Table 16-12, R477). -/
def PIER.WFAILR_EPISODES : Fld := ⟨0x40000000 + 0x0844, 24, 8, .ro, 0, false⟩

/-- `PIER.WFAILR.CAUSE3` bits 15:12, RO (16 Table 16-12, R477). -/
def PIER.WFAILR_CAUSE3 : Fld := ⟨0x40000000 + 0x0844, 12, 4, .ro, 0, false⟩

/-- `PIER.WFAILR.CAUSE2` bits 11:8, RO (16 Table 16-12, R477). -/
def PIER.WFAILR_CAUSE2 : Fld := ⟨0x40000000 + 0x0844, 8, 4, .ro, 0, false⟩

/-- `PIER.WFAILR.CAUSE1` bits 7:4, RO (16 Table 16-12, R477). -/
def PIER.WFAILR_CAUSE1 : Fld := ⟨0x40000000 + 0x0844, 4, 4, .ro, 0, false⟩

/-- `PIER.WFAILR.RCDIAG` bits 3:0, RO (16 Table 16-12, R477). -/
def PIER.WFAILR_RCDIAG : Fld := ⟨0x40000000 + 0x0844, 0, 4, .ro, 0, false⟩

/-- `PIER.LW6410.SRC6410` bits 7:0, RO (16 Table 16-12, R477). -/
def PIER.LW6410_SRC6410 : Fld := ⟨0x40000000 + 0x0848, 0, 8, .ro, 0, false⟩

/-- `PIER.REF.BLOCK` bits 31:28, RO (16 Table 16-12, R477). -/
def PIER.REF_BLOCK (d : Nat) : Fld := ⟨0x40000000 + 0x0860 + 4*(d - 1), 28, 4, .ro, 0, false⟩

/-- `PIER.REF.ABTCNT` bits 23:16, RO (16 Table 16-12, R477). -/
def PIER.REF_ABTCNT (d : Nat) : Fld := ⟨0x40000000 + 0x0860 + 4*(d - 1), 16, 8, .ro, 0, false⟩

/-- `PIER.REF.REFCNT` bits 15:0, RO (16 Table 16-12, R477). -/
def PIER.REF_REFCNT (d : Nat) : Fld := ⟨0x40000000 + 0x0860 + 4*(d - 1), 0, 16, .ro, 0, false⟩

/-- `PIER.TSTAT.TIMEGAP` bits 4, W1C (16 Table 16-12, R477). -/
def PIER.TSTAT_TIMEGAP : Fld := ⟨0x40000000 + 0x0898, 4, 1, .w1c, 0, false⟩

/-- `PIER.TSTAT.TFRAC` bits 3:0, RO (16 Table 16-12, R477). -/
def PIER.TSTAT_TFRAC : Fld := ⟨0x40000000 + 0x0898, 0, 4, .ro, 0, false⟩

/-- `PIER.RMCHK.CRCERR` bits 8:1, W1C (16 Table 16-12, R477). -/
def PIER.RMCHK_CRCERR : Fld := ⟨0x40000000 + 0x089C, 1, 8, .w1c, 0, false⟩

/-- The 64-bit keep-alive counter (16 R470). -/
def PIER.KACNT_W : Fld := ⟨0x40000880, 0, 64, .ro, 0, false⟩

/-- Upper half latched by a read of `KACNTL` (16 R470). -/
def PIER.KACNTH_LATCH : Fld := ⟨0x40000884, 0, 32, .ro, 0, false⟩

/-- Alarm count, low half (16 Table 16-12). -/
def PIER.KAALML_V : Fld := ⟨0x40000888, 0, 32, .rw, 0xFFFFFFFF, false⟩

/-- Alarm count, high half (16 Table 16-12). -/
def PIER.KAALMH_V : Fld := ⟨0x4000088C, 0, 32, .rw, 0xFFFFFFFF, false⟩

/-- K1 - K0 of the last correction (16 R468). -/
def PIER.GAP_W : Fld := ⟨0x40000890, 0, 64, .ro, 0, false⟩

/-- `BIST.STAT.PHASE` (16 R478). -/
def BIST.STAT_PHASE : Fld := ⟨0x40B00000, 0, 3, .ro, 0, false⟩

/-- `BIST.STAT.DOM` (16 R478). -/
def BIST.STAT_DOM : Fld := ⟨0x40B00000, 8, 4, .ro, 0, false⟩

/-- `BIST.STAT.PASS` (16 R478). -/
def BIST.STAT_PASS : Fld := ⟨0x40B00000, 16, 8, .ro, 0, false⟩

/-- `BIST.STAT.FAILPART` (16 R478). -/
def BIST.STAT_FAILPART : Fld := ⟨0x40B00000, 24, 8, .ro, 0, false⟩

/-- `BIST.SIGL` (16 R478). -/
def BIST.SIGL_V : Fld := ⟨0x40B00008, 0, 32, .ro, 0, false⟩

/-- `BIST.SIGH` (16 R478). -/
def BIST.SIGH_V : Fld := ⟨0x40B0000C, 0, 32, .ro, 0, false⟩

end Sys2Proof.Machine
end

