-- ==== Sys2Proof/Machine/RegTable.lean ====
section
/-! DEFINITION. The register tables of the spec by address: for every 64 KiB window, its registers (a run of `count`
registers `stride` bytes apart, with the fields of each), and the register that an address names. -/

namespace Sys2Proof.Machine

/-- A run of like registers: the first address, the distance to the next, how many, and the fields of the i-th. -/
structure RegRun where
  first  : Nat
  stride : Nat
  count  : Nat
  fields : Nat → List Fld

/-- The registers of the window 0x4000_0000. -/
def regs4000 : List RegRun :=
  [ ⟨0x40000100, 0x4, 9, fun i => [CPM.DOMCTL_EFF_THROT i, CPM.DOMCTL_ACTIVE i, CPM.DOMCTL_SKIP i, CPM.DOMCTL_REFUSED i, CPM.DOMCTL_THROT i, CPM.DOMCTL_GATE i]⟩,
    ⟨0x40000204, 0x4, 8, fun i => [PIER.PDCTL_ST (i + 1), PIER.PDCTL_REQ (i + 1), PIER.PDCTL_ABORTED (i + 1), PIER.PDCTL_REFUSED (i + 1)]⟩,
    ⟨0x40000800, 0x4, 1, fun _ => [PIER.CTL_WFAIL, PIER.CTL_VKALOW, PIER.CTL_BACKOFF, PIER.CTL_WAKE_TMO, PIER.CTL_RCFB]⟩,
    ⟨0x40000810, 0x4, 9, fun i => [PIER.WCFG_EN (i + 1), PIER.WCFG_DMASK (i + 1), PIER.WCFG_MODE (i + 1), PIER.WCFG_FILT (i + 1)]⟩,
    ⟨0x40000840, 0x4, 1, fun _ => [PIER.WSTAT_PEND, PIER.WSTAT_LASTSRC, PIER.WSTAT_ATTEMPT, PIER.WSTAT_WSTATE]⟩,
    ⟨0x40000844, 0x4, 1, fun _ => [PIER.WFAILR_EPISODES, PIER.WFAILR_CAUSE3, PIER.WFAILR_CAUSE2, PIER.WFAILR_CAUSE1, PIER.WFAILR_RCDIAG]⟩,
    ⟨0x40000848, 0x4, 1, fun _ => [PIER.LW6410_SRC6410]⟩,
    ⟨0x40000860, 0x4, 8, fun i => [PIER.REF_BLOCK (i + 1), PIER.REF_ABTCNT (i + 1), PIER.REF_REFCNT (i + 1)]⟩,
    ⟨0x40000884, 0x4, 1, fun _ => [PIER.KACNTH_LATCH]⟩,
    ⟨0x40000888, 0x4, 1, fun _ => [PIER.KAALML_V]⟩,
    ⟨0x4000088c, 0x4, 1, fun _ => [PIER.KAALMH_V]⟩,
    ⟨0x40000898, 0x4, 1, fun _ => [PIER.TSTAT_TIMEGAP, PIER.TSTAT_TFRAC]⟩,
    ⟨0x4000089c, 0x4, 1, fun _ => [PIER.RMCHK_CRCERR]⟩,
    ⟨0x4000f000, 0x4, 5, fun i => [OWN.R_CONFL_BY 0 i, OWN.R_REQBY 0 i, OWN.R_CONFLICT 0 i, OWN.R_REQ 0 i, OWN.R_OWNER 0 i]⟩,
    ⟨0x4000f040, 0x4, 16, fun i => [OWN.R_CONFL_BY 0 (i + 16), OWN.R_REQBY 0 (i + 16), OWN.R_CONFLICT 0 (i + 16), OWN.R_REQ 0 (i + 16), OWN.R_OWNER 0 (i + 16)]⟩,
    ⟨0x4000fffc, 0x4, 1, fun _ => [OWN.CMT_CMT 0, OWN.CMT_PEND 0, OWN.CMT_NCONF 0]⟩ ]

/-- The registers of the window 0x4001_0000. -/
def regs4001 : List RegRun :=
  [ ⟨0x40010000, 0x4, 1, fun _ => [LC.LCSTATE_ERASED, LC.LCSTATE_BURN_FIX, LC.LCSTATE_PEND, LC.LCSTATE_PEND_TO, LC.LCSTATE_STATE]⟩,
    ⟨0x40010004, 0x4, 1, fun _ => [LC.RSTCAUSE_COUNT, LC.RSTCAUSE_VIO_LOW, LC.RSTCAUSE_VANA_LOW, LC.RSTCAUSE_VCORE_LOW, LC.RSTCAUSE_WAKE, LC.RSTCAUSE_LCT, LC.RSTCAUSE_SOFT, LC.RSTCAUSE_PIN, LC.RSTCAUSE_SUPPLY, LC.RSTCAUSE_POR]⟩,
    ⟨0x40010008, 0x4, 1, fun _ => [LC.BOOTSTAT_T_READY, LC.BOOTSTAT_SPLIT1, LC.BOOTSTAT_SPLIT0, LC.BOOTSTAT_ENC, LC.BOOTSTAT_FALLBACK, LC.BOOTSTAT_IMG_BAD, LC.BOOTSTAT_IMG_SRC, LC.BOOTSTAT_ROOT_FAIL, LC.BOOTSTAT_BIST_FAIL, LC.BOOTSTAT_BIST_RUN, LC.BOOTSTAT_QUICK]⟩,
    ⟨0x4001000c, 0x4, 1, fun _ => [LC.BOOTOPT_ARB, LC.BOOTOPT_KEY1_REV, LC.BOOTOPT_KEY0_REV, LC.BOOTOPT_BANK_POL, LC.BOOTOPT_NETLOAD_EN, LC.BOOTOPT_ENC_REQ, LC.BOOTOPT_SPLIT1, LC.BOOTOPT_SPLIT0]⟩,
    ⟨0x40010010, 0x4, 1, fun _ => [LC.SWRST_V]⟩,
    ⟨0x40010400, 0x4, 1, fun _ => [LC.FLCTL_OVERRUN, LC.FLCTL_REFUSED, LC.FLCTL_ERR, LC.FLCTL_BUSY, LC.FLCTL_CMD]⟩,
    ⟨0x40010404, 0x4, 1, fun _ => [LC.FLADDR_V]⟩,
    ⟨0x40010410, 0x4, 4, fun i => [LC.FLDATA_V i]⟩ ]

/-- The registers of the window 0x4002_0000. -/
def regs4002 : List RegRun :=
  [ ⟨0x40020004, 0x4, 1, fun _ => [INTC.SPUR_SPURCNT, INTC.SPUR_SPURTGT, INTC.SPUR_SPURSRC]⟩,
    ⟨0x40020008, 0x4, 1, fun _ => [INTC.SWSET_SRC]⟩,
    ⟨0x40021000, 0x4, 512, fun i => [INTC.SRCCFG_ACTIVE i, INTC.SRCCFG_PEND i, INTC.SRCCFG_TYPE i, INTC.SRCCFG_PRIO i]⟩,
    ⟨0x40022000, 0x4, 16, fun i => (List.range 32).map fun j => INTC.EN_E 0 (32 * i + j)⟩,
    ⟨0x40022040, 0x4, 16, fun i => (List.range 32).map fun j => INTC.EN_E 1 (32 * i + j)⟩,
    ⟨0x40022080, 0x4, 16, fun i => (List.range 32).map fun j => INTC.EN_E 2 (32 * i + j)⟩,
    ⟨0x400220c0, 0x4, 16, fun i => (List.range 32).map fun j => INTC.EN_E 3 (32 * i + j)⟩,
    ⟨0x40022100, 0x4, 16, fun i => (List.range 32).map fun j => INTC.EN_E 4 (32 * i + j)⟩,
    ⟨0x40022140, 0x4, 16, fun i => (List.range 32).map fun j => INTC.EN_E 5 (32 * i + j)⟩,
    ⟨0x40023000, 0x10, 6, fun i => [INTC.THR_TICKEN i, INTC.THR_THR i]⟩,
    ⟨0x40023004, 0x10, 6, fun i => [INTC.CLAIM_VALID i, INTC.CLAIM_SRC i]⟩ ]

/-- The registers of the window 0x4003_0000. -/
def regs4003 : List RegRun :=
  [ ⟨0x40030000, 0x4, 1, fun _ => [FCOL.CTL_LOCK, FCOL.CTL_CLSREJ]⟩,
    ⟨0x40030010, 0x4, 2, fun i => (List.range 32).map fun j => FCOL.STATUS_L (32 * i + j)⟩,
    ⟨0x40030018, 0x4, 2, fun i => (List.range 32).map fun j => FCOL.RAW_L (32 * i + j)⟩,
    ⟨0x40030020, 0x4, 2, fun i => (List.range 32).map fun j => FCOL.BRA_L (32 * i + j)⟩,
    ⟨0x40030028, 0x4, 2, fun i => (List.range 32).map fun j => FCOL.BRB_L (32 * i + j)⟩,
    ⟨0x40030030, 0x4, 2, fun i => (List.range 32).map fun j => FCOL.FNEN_L (32 * i + j)⟩,
    ⟨0x40030040, 0x4, 8, fun i => (List.range 8).map fun j => FCOL.CLS_C (8 * i + j)⟩,
    ⟨0x40030060, 0x4, 1, fun _ => [FCOL.FIRST_FVALID, FCOL.FIRST_LINE]⟩,
    ⟨0x40030064, 0x4, 1, fun _ => [FCOL.FIRSTTS_TS]⟩,
    ⟨0x40030068, 0x4, 1, fun _ => [FCOL.REACT_PARERR, FCOL.REACT_STREJB, FCOL.REACT_STREJA, FCOL.REACT_STOPTO, FCOL.REACT_STOPB, FCOL.REACT_STOPA, FCOL.REACT_MSS, FCOL.REACT_CLASSB, FCOL.REACT_CLASSA]⟩,
    ⟨0x40030070, 0x4, 1, fun _ => [FCOL.STOPCFG_STOPRATE, FCOL.STOPCFG_STOPTMO]⟩,
    ⟨0x40030078, 0x4, 1, fun _ => [FCOL.SWSET_SET]⟩,
    ⟨0x40030100, 0x4, 32, fun i => [FCOL.SEM_TAKEN i, FCOL.SEM_OWNER i]⟩,
    ⟨0x40030200, 0x4, 1, fun _ => [FCOL.RELSTAT_SEMREL, FCOL.RELSTAT_DMAABT, FCOL.RELSTAT_CANFLUSH]⟩ ]

/-- The registers of the window 0x4004_0000. -/
def regs4004 : List RegRun :=
  [ ⟨0x40040000, 0x4, 1, fun _ => [KS.CTL_LOCK]⟩,
    ⟨0x40040004, 0x4, 1, fun _ => [KS.TSTAT_RETIRED, KS.TSTAT_HELDM, KS.TSTAT_MODE, KS.TSTAT_DHART, KS.TSTAT_DBL, KS.TSTAT_RETIRE, KS.TSTAT_LATENT_DIV, KS.TSTAT_DISS]⟩,
    ⟨0x40040008, 0x4, 1, fun _ => [KS.TCNT_DISSENTS, KS.TCNT_REINT]⟩,
    ⟨0x4004000c, 0x4, 1, fun _ => [KS.TLAST_KIND, KS.TLAST_HART]⟩,
    ⟨0x40040010, 0x4, 1, fun _ => [KS.TADDR_ADDR]⟩,
    ⟨0x40040020, 0x4, 3, fun i => [KS.INCLS_C2 i, KS.INCLS_C1 i, KS.INCLS_C0 i]⟩,
    ⟨0x40040030, 0x4, 1, fun _ => [KS.SCRUBST_SCRUBS, KS.SCRUBST_LASTDIV]⟩,
    ⟨0x40040100, 0x20, 2, fun i => [KS.SPCTL_HSEL i, KS.SPCTL_RESTART i, KS.SPCTL_SPRMAX i]⟩,
    ⟨0x40040104, 0x20, 2, fun i => [KS.SPSTAT_RESETS i, KS.SPSTAT_CAUSE i, KS.SPSTAT_MODE i, KS.SPSTAT_PARK i, KS.SPSTAT_LATENT_DIV i, KS.SPSTAT_MISMATCH i]⟩,
    ⟨0x40040108, 0x20, 2, fun i => [KS.SPADDR_ADDR i]⟩,
    ⟨0x40040200, 0x4, 1, fun _ => [KS.DBG_DBGCNT, KS.DBG_TGT, KS.DBG_DBGLS]⟩ ]

/-- The registers of the window 0x4010_0000. -/
def regs4010 : List RegRun :=
  [ ⟨0x40100000, 0x4, 1, fun _ => [AS.CTL_LOCK, AS.CTL_CHKLVL, AS.CTL_EN]⟩,
    ⟨0x40100010, 0x4, 4, fun i => [AS.GRP_TLOST i, AS.GRP_LOSTF i, AS.GRP_SWTRIG i, AS.GRP_BUSY i, AS.GRP_TSRC i]⟩,
    ⟨0x40100020, 0x4, 1, fun _ => [AS.CALCTL_CALEN, AS.CALCTL_CALNOW_S, AS.CALCTL_CALNOW, AS.CALCTL_CALGAP]⟩,
    ⟨0x40100024, 0x4, 1, fun _ => [AS.SPARE_STALLS, AS.SPARE_CHAIN, AS.SPARE_ROTSP, AS.SPARE_CALSTALL, AS.SPARE_SP1_FAIL, AS.SPARE_SP1_USED, AS.SPARE_SP1_FOR, AS.SPARE_SP0_FAIL, AS.SPARE_SP0_USED, AS.SPARE_SP0_FOR]⟩,
    ⟨0x40100028, 0x4, 1, fun _ => [AS.CALSTAT_ROUNDS, AS.CALSTAT_PHASE, AS.CALSTAT_TARGET]⟩,
    ⟨0x40100100, 0x4, 32, fun i => [AS.SLCFG_ORFL i, AS.SLCFG_CMSEL i, AS.SLCFG_Q3 i, AS.SLCFG_Q2 i, AS.SLCFG_Q1 i, AS.SLCFG_Q0 i, AS.SLCFG_SMASK i, AS.SLCFG_TMASK i, AS.SLCFG_MODE i]⟩,
    ⟨0x40100200, 0x4, 34, fun i => [AS.SLST_CHKERR i, AS.SLST_VISITS i, AS.SLST_SERVER i, AS.SLST_SUBST i, AS.SLST_FAILED i, AS.SLST_CALAGE i]⟩,
    ⟨0x4010f000, 0x4, 32, fun i => [OWN.R_CONFL_BY 1 i, OWN.R_REQBY 1 i, OWN.R_CONFLICT 1 i, OWN.R_REQ 1 i, OWN.R_OWNER 1 i]⟩,
    ⟨0x4010fffc, 0x4, 1, fun _ => [OWN.CMT_CMT 1, OWN.CMT_PEND 1, OWN.CMT_NCONF 1]⟩ ]

/-- The registers of the window 0x4011_0000. -/
def regs4011 : List RegRun :=
  [ ⟨0x40110000, 0x10, 8, fun i => [Q.QCTL_WMARK i, Q.QCTL_POLICY i, Q.QCTL_EN i]⟩,
    ⟨0x40110004, 0x10, 8, fun i => [Q.QPTR_RIDX i, Q.QPTR_WIDX i]⟩,
    ⟨0x40110008, 0x10, 8, fun i => [Q.QSTAT_LOST i, Q.QSTAT_WM i, Q.QSTAT_OVF i, Q.QSTAT_LEVEL i]⟩,
    ⟨0x4011000c, 0x10, 8, fun i => [Q.POP_ENTRY i]⟩,
    ⟨0x40111000, 0x4, 128, fun i => [Q.LAST_V i]⟩ ]

/-- The registers of the window 0x4020_0000. -/
def regs4020 : List RegRun :=
  [ ⟨0x40200000, 0x4, 1, fun _ => [POS.CTL_LOCK 0, POS.CTL_IDXPOL 0, POS.CTL_FILT 0, POS.CTL_DIRINV 0, POS.CTL_ANGSRC 0, POS.CTL_LINEAR 0, POS.CTL_SENS 0, POS.CTL_EN 0]⟩,
    ⟨0x40200004, 0x4, 1, fun _ => [POS.ENCCFG_IDXQ 0, POS.ENCCFG_IDXTOL 0, POS.ENCCFG_LINESM1 0]⟩,
    ⟨0x40200008, 0x4, 1, fun _ => [POS.GEOM_RES_PP 0, POS.GEOM_MOT_PP 0]⟩,
    ⟨0x4020000c, 0x4, 1, fun _ => [POS.ELOFS_ELOFS 0]⟩,
    ⟨0x40200010, 0x4, 1, fun _ => [POS.IDXREF_IDXREF 0]⟩,
    ⟨0x40200014, 0x4, 1, fun _ => [POS.COUNT_COUNT 0]⟩,
    ⟨0x40200018, 0x4, 1, fun _ => [POS.IDXCAP_IDXCAP 0]⟩,
    ⟨0x4020001c, 0x4, 1, fun _ => [POS.STAT_IDXMISS 0, POS.STAT_IDXERR 0, POS.STAT_OBSST 0, POS.STAT_POSST 0, POS.STAT_HEALTH 0, POS.STAT_DIR 0, POS.STAT_LOWSPD 0, POS.STAT_DISAGREE 0, POS.STAT_OBS_LOST 0, POS.STAT_CNT_SAT 0, POS.STAT_RES_AMP 0, POS.STAT_HALL_SEQ 0, POS.STAT_HALL_INV 0, POS.STAT_QERR 0, POS.STAT_INDEX_MISMATCH 0, POS.STAT_IDXFLT 0]⟩,
    ⟨0x40200020, 0x4, 1, fun _ => [POS.ANGLE_ACTSRC 0, POS.ANGLE_MVALID 0, POS.ANGLE_ANG_E 0]⟩,
    ⟨0x40200024, 0x4, 1, fun _ => [POS.ANGM_ANG_M 0]⟩,
    ⟨0x40200028, 0x4, 1, fun _ => [POS.SPDCFG_SPDMODE 0, POS.SPDCFG_WIN 0]⟩,
    ⟨0x4020002c, 0x4, 1, fun _ => [POS.SPEED_SPEED 0]⟩,
    ⟨0x40200030, 0x4, 1, fun _ => [POS.HALLCFG_HALLTBL 0]⟩,
    ⟨0x40200034, 0x4, 1, fun _ => [POS.HALLANG_HALLANG 0]⟩,
    ⟨0x40200038, 0x4, 1, fun _ => [POS.RESCFG_EXCEN 0, POS.RESCFG_RESPH 0, POS.RESCFG_EXCAMP 0, POS.RESCFG_EXCDIV 0]⟩,
    ⟨0x4020003c, 0x4, 1, fun _ => [POS.RESAMP_MEAS 0, POS.RESAMP_NOM 0]⟩,
    ⟨0x40200100, 0x10, 4, fun i => [POS.CMPCTL_HITS 0 i, POS.CMPCTL_BEHIND 0 i, POS.CMPCTL_HIT 0 i, POS.CMPCTL_CAPT 0 i, POS.CMPCTL_DIR 0 i, POS.CMPCTL_ARM 0 i]⟩,
    ⟨0x40200104, 0x10, 4, fun i => [POS.CMPVAL_CMPVAL 0 i]⟩,
    ⟨0x40200108, 0x10, 4, fun i => [POS.CMPSTEP_CMPSTEP 0 i]⟩,
    ⟨0x4020010c, 0x10, 4, fun i => [POS.CMPTS_CMPTS 0 i]⟩,
    ⟨0x40200200, 0x4, 1, fun _ => [POS.EMUCTL_LINESM1 0, POS.EMUCTL_MINSP 0, POS.EMUCTL_JUMP 0, POS.EMUCTL_LAG 0, POS.EMUCTL_EN 0]⟩,
    ⟨0x40200300, 0x4, 1, fun _ => [POS.OBSCFG_CONVN 0, POS.OBSCFG_LOSTN 0, POS.OBSCFG_XN 0, POS.OBSCFG_XTOL 0]⟩,
    ⟨0x40200304, 0x4, 1, fun _ => [POS.OBSTHR_OBSMIN 0, POS.OBSTHR_INNOVTHR 0]⟩,
    ⟨0x40200308, 0x4, 1, fun _ => [POS.OBSRS_RS 0]⟩ ]
  ++ [ ⟨0x4020030c, 0x4, 1, fun _ => [POS.OBSLS_LS 0]⟩,
    ⟨0x40200310, 0x4, 1, fun _ => [POS.OBSPSI_PSI 0]⟩,
    ⟨0x40200314, 0x4, 1, fun _ => [POS.OBSIN_VSRC 0]⟩,
    ⟨0x40200318, 0x4, 1, fun _ => [POS.OBSANG_THOBS 0]⟩,
    ⟨0x4020031c, 0x4, 1, fun _ => [POS.OBSSPD_SPDOBS 0]⟩,
    ⟨0x4020f000, 0x4, 4, fun i => [OWN.R_CONFL_BY 2 i, OWN.R_REQBY 2 i, OWN.R_CONFLICT 2 i, OWN.R_REQ 2 i, OWN.R_OWNER 2 i]⟩,
    ⟨0x4020fffc, 0x4, 1, fun _ => [OWN.CMT_CMT 2, OWN.CMT_PEND 2, OWN.CMT_NCONF 2]⟩ ]

/-- The registers of the window 0x4021_0000. -/
def regs4021 : List RegRun :=
  [ ⟨0x40210000, 0x4, 1, fun _ => [POS.CTL_LOCK 1, POS.CTL_IDXPOL 1, POS.CTL_FILT 1, POS.CTL_DIRINV 1, POS.CTL_ANGSRC 1, POS.CTL_LINEAR 1, POS.CTL_SENS 1, POS.CTL_EN 1]⟩,
    ⟨0x40210004, 0x4, 1, fun _ => [POS.ENCCFG_IDXQ 1, POS.ENCCFG_IDXTOL 1, POS.ENCCFG_LINESM1 1]⟩,
    ⟨0x40210008, 0x4, 1, fun _ => [POS.GEOM_RES_PP 1, POS.GEOM_MOT_PP 1]⟩,
    ⟨0x4021000c, 0x4, 1, fun _ => [POS.ELOFS_ELOFS 1]⟩,
    ⟨0x40210010, 0x4, 1, fun _ => [POS.IDXREF_IDXREF 1]⟩,
    ⟨0x40210014, 0x4, 1, fun _ => [POS.COUNT_COUNT 1]⟩,
    ⟨0x40210018, 0x4, 1, fun _ => [POS.IDXCAP_IDXCAP 1]⟩,
    ⟨0x4021001c, 0x4, 1, fun _ => [POS.STAT_IDXMISS 1, POS.STAT_IDXERR 1, POS.STAT_OBSST 1, POS.STAT_POSST 1, POS.STAT_HEALTH 1, POS.STAT_DIR 1, POS.STAT_LOWSPD 1, POS.STAT_DISAGREE 1, POS.STAT_OBS_LOST 1, POS.STAT_CNT_SAT 1, POS.STAT_RES_AMP 1, POS.STAT_HALL_SEQ 1, POS.STAT_HALL_INV 1, POS.STAT_QERR 1, POS.STAT_INDEX_MISMATCH 1, POS.STAT_IDXFLT 1]⟩,
    ⟨0x40210020, 0x4, 1, fun _ => [POS.ANGLE_ACTSRC 1, POS.ANGLE_MVALID 1, POS.ANGLE_ANG_E 1]⟩,
    ⟨0x40210024, 0x4, 1, fun _ => [POS.ANGM_ANG_M 1]⟩,
    ⟨0x40210028, 0x4, 1, fun _ => [POS.SPDCFG_SPDMODE 1, POS.SPDCFG_WIN 1]⟩,
    ⟨0x4021002c, 0x4, 1, fun _ => [POS.SPEED_SPEED 1]⟩,
    ⟨0x40210030, 0x4, 1, fun _ => [POS.HALLCFG_HALLTBL 1]⟩,
    ⟨0x40210034, 0x4, 1, fun _ => [POS.HALLANG_HALLANG 1]⟩,
    ⟨0x40210038, 0x4, 1, fun _ => [POS.RESCFG_EXCEN 1, POS.RESCFG_RESPH 1, POS.RESCFG_EXCAMP 1, POS.RESCFG_EXCDIV 1]⟩,
    ⟨0x4021003c, 0x4, 1, fun _ => [POS.RESAMP_MEAS 1, POS.RESAMP_NOM 1]⟩,
    ⟨0x40210100, 0x10, 4, fun i => [POS.CMPCTL_HITS 1 i, POS.CMPCTL_BEHIND 1 i, POS.CMPCTL_HIT 1 i, POS.CMPCTL_CAPT 1 i, POS.CMPCTL_DIR 1 i, POS.CMPCTL_ARM 1 i]⟩,
    ⟨0x40210104, 0x10, 4, fun i => [POS.CMPVAL_CMPVAL 1 i]⟩,
    ⟨0x40210108, 0x10, 4, fun i => [POS.CMPSTEP_CMPSTEP 1 i]⟩,
    ⟨0x4021010c, 0x10, 4, fun i => [POS.CMPTS_CMPTS 1 i]⟩,
    ⟨0x40210200, 0x4, 1, fun _ => [POS.EMUCTL_LINESM1 1, POS.EMUCTL_MINSP 1, POS.EMUCTL_JUMP 1, POS.EMUCTL_LAG 1, POS.EMUCTL_EN 1]⟩,
    ⟨0x40210300, 0x4, 1, fun _ => [POS.OBSCFG_CONVN 1, POS.OBSCFG_LOSTN 1, POS.OBSCFG_XN 1, POS.OBSCFG_XTOL 1]⟩,
    ⟨0x40210304, 0x4, 1, fun _ => [POS.OBSTHR_OBSMIN 1, POS.OBSTHR_INNOVTHR 1]⟩,
    ⟨0x40210308, 0x4, 1, fun _ => [POS.OBSRS_RS 1]⟩ ]
  ++ [ ⟨0x4021030c, 0x4, 1, fun _ => [POS.OBSLS_LS 1]⟩,
    ⟨0x40210310, 0x4, 1, fun _ => [POS.OBSPSI_PSI 1]⟩,
    ⟨0x40210314, 0x4, 1, fun _ => [POS.OBSIN_VSRC 1]⟩,
    ⟨0x40210318, 0x4, 1, fun _ => [POS.OBSANG_THOBS 1]⟩,
    ⟨0x4021031c, 0x4, 1, fun _ => [POS.OBSSPD_SPDOBS 1]⟩,
    ⟨0x4021f000, 0x4, 4, fun i => [OWN.R_CONFL_BY 3 i, OWN.R_REQBY 3 i, OWN.R_CONFLICT 3 i, OWN.R_REQ 3 i, OWN.R_OWNER 3 i]⟩,
    ⟨0x4021fffc, 0x4, 1, fun _ => [OWN.CMT_CMT 3, OWN.CMT_PEND 3, OWN.CMT_NCONF 3]⟩ ]

/-- The registers of the window 0x4030_0000. -/
def regs4030 : List RegRun :=
  [ ⟨0x40300000, 0x4, 1, fun _ => [CE.CTL_LOCK, CE.CTL_TSRC, CE.CTL_EN]⟩,
    ⟨0x40300004, 0x4, 1, fun _ => [CE.TDIV_TDIV]⟩,
    ⟨0x40300008, 0x4, 1, fun _ => [CE.TSTAT_TICKS, CE.TSTAT_LOSS, CE.TSTAT_DROP, CE.TSTAT_LASTDUR]⟩,
    ⟨0x40300080, 0x4, 1, fun _ => [CE.LIMPCFG_AUTO, CE.LIMPCFG_LMODE, CE.LIMPCFG_LFILT]⟩,
    ⟨0x40300084, 0x4, 1, fun _ => [CE.LIMPHI_LHI]⟩,
    ⟨0x40300088, 0x4, 1, fun _ => [CE.LIMPLO_LLO]⟩,
    ⟨0x4030008c, 0x4, 1, fun _ => [CE.LIMPTMO_CMDTMO]⟩,
    ⟨0x40300090, 0x4, 1, fun _ => [CE.LIMPST_ACTB, CE.LIMPST_ACTA, CE.LIMPST_LIMPFLT, CE.LIMPST_VALID, CE.LIMPST_RAW]⟩,
    ⟨0x40300094, 0x4, 1, fun _ => [CE.LIMPVAL_LVAL]⟩,
    ⟨0x40300100, 0x800, 2, fun i => [CE.BCFG_POSSEL i, CE.BCFG_CMDMODE i, CE.BCFG_CMDSRC i, CE.BCFG_CTRL i, CE.BCFG_ROLE i]⟩,
    ⟨0x40300104, 0x800, 2, fun i => [CE.BASE_BASEV i, CE.BASE_BASEI i]⟩,
    ⟨0x40300108, 0x800, 2, fun i => [CE.BASEW_BASETQ i, CE.BASEW_BASESPD i]⟩,
    ⟨0x40300140, 0x8, 12, fun i => [CE.INSLOT_EN 0 i, CE.INSLOT_TAG 0 i, CE.INSLOT_OFS 0 i]⟩,
    ⟨0x40300144, 0x8, 12, fun i => [CE.INGAIN_GAIN 0 i]⟩,
    ⟨0x40300200, 0x800, 2, fun i => [CE.BANDCTL_FTGT i, CE.BANDCTL_FSH i, CE.BANDCTL_MINPULSE i]⟩,
    ⟨0x40300204, 0x800, 2, fun i => [CE.BANDGAIN_ILGAIN i, CE.BANDGAIN_AGAIN i]⟩,
    ⟨0x40300208, 0x800, 2, fun i => [CE.BANDLIM_HMAX i, CE.BANDLIM_HMIN i]⟩,
    ⟨0x4030020c, 0x800, 2, fun i => [CE.BANDINIT_HINIT i]⟩,
    ⟨0x40300210, 0x800, 2, fun i => [CE.OCLIM_OCLIM i]⟩,
    ⟨0x40300220, 0x4, 3, fun i => [CE.BANDST_H 0 i, CE.BANDST_FEST 0 i]⟩,
    ⟨0x4030022c, 0x800, 2, fun i => [CE.BANDEVT_DWELLHOLD i, CE.BANDEVT_OC i, CE.BANDEVT_HCLAMP i, CE.BANDEVT_ILV i]⟩,
    ⟨0x40300300, 0x20, 7, fun i => [CE.LKP_KP 0 i]⟩,
    ⟨0x40300304, 0x20, 7, fun i => [CE.LKIT_KIT 0 i]⟩,
    ⟨0x40300308, 0x20, 7, fun i => [CE.LILIM_ILIM 0 i]⟩ ]
  ++ [ ⟨0x4030030c, 0x20, 7, fun i => [CE.LPARP_LPARP 0 i]⟩,
    ⟨0x40300310, 0x20, 7, fun i => [CE.LPARN_LPARN 0 i]⟩,
    ⟨0x403003e0, 0x800, 2, fun i => [CE.OMFLOOR_OMFLOOR i]⟩,
    ⟨0x403003e4, 0x800, 2, fun i => [CE.WIN_CHG i, CE.WIN_PREV i, CE.WIN_ENVCLAMP i, CE.WIN_WIN i]⟩,
    ⟨0x403003e8, 0x800, 2, fun i => [CE.SAT_SATIE i, CE.SAT_SAT i]⟩,
    ⟨0x403003ec, 0x800, 2, fun i => [CE.DEM_DEM i]⟩,
    ⟨0x403003f0, 0x800, 2, fun i => [CE.BSTAT_BMS_STALE i, CE.BSTAT_INVALID i, CE.BSTAT_MODEMIS i, CE.BSTAT_ROLEREJ i, CE.BSTAT_ST i]⟩,
    ⟨0x40300400, 0x800, 2, fun i => [CE.CMDVAL_CMDVAL i]⟩,
    ⟨0x40300410, 0x10, 2, fun i => [CE.RUP_RUP 0 i]⟩,
    ⟨0x40300414, 0x10, 2, fun i => [CE.RDN_RDN 0 i]⟩,
    ⟨0x40300418, 0x10, 2, fun i => [CE.RTGT_RTGT 0 i]⟩,
    ⟨0x4030041c, 0x10, 2, fun i => [CE.ROUT_ROUT 0 i]⟩,
    ⟨0x40300440, 0x800, 2, fun i => [CE.CRKP_CRKP i]⟩,
    ⟨0x40300444, 0x800, 2, fun i => [CE.CRKIT_CRKIT i]⟩,
    ⟨0x40300448, 0x800, 2, fun i => [CE.CRLS_CRLS i]⟩,
    ⟨0x4030044c, 0x800, 2, fun i => [CE.IMAX_IMAX i]⟩,
    ⟨0x40300450, 0x800, 2, fun i => [CE.VMAX_VMAX i]⟩,
    ⟨0x40300500, 0x800, 2, fun i => [CE.TSTCFG_TSTATE i, CE.TSTCFG_START i, CE.TSTCFG_HOLD i, CE.TSTCFG_PRBSN i, CE.TSTCFG_TYPE i, CE.TSTCFG_POINT i]⟩,
    ⟨0x40300504, 0x800, 2, fun i => [CE.TSTAMP_AMP i]⟩,
    ⟨0x40300508, 0x800, 2, fun i => [CE.TSTF_F1 i, CE.TSTF_F0 i]⟩,
    ⟨0x4030050c, 0x800, 2, fun i => [CE.TSTLEN_LEN i]⟩,
    ⟨0x40300600, 0x800, 2, fun i => [CE.MOTKT_KT i]⟩,
    ⟨0x40300604, 0x800, 2, fun i => [CE.MOTKR_KR i]⟩,
    ⟨0x40300608, 0x800, 2, fun i => [CE.MOTPSI_PSI i]⟩ ]
  ++ [ ⟨0x4030060c, 0x800, 2, fun i => [CE.MOTL_LQ i, CE.MOTL_LD i]⟩,
    ⟨0x40300610, 0x800, 2, fun i => [CE.FWCFG_FWEN i, CE.FWCFG_FWTHR i]⟩,
    ⟨0x40300614, 0x800, 2, fun i => [CE.FWKI_FWKI i]⟩,
    ⟨0x40300618, 0x800, 2, fun i => [CE.FWMAX_IDFWMAX i]⟩,
    ⟨0x4030061c, 0x800, 2, fun i => [CE.FWID_IDFW i]⟩,
    ⟨0x40300620, 0x800, 2, fun i => [CE.IDDIS_IDDIS i]⟩,
    ⟨0x40300640, 0x800, 2, fun i => [CE.SAFE_ASCHYS i, CE.SAFE_ASCSPD i]⟩,
    ⟨0x40300644, 0x800, 2, fun i => [CE.SAFECTL_ANGLOSS i, CE.SAFECTL_NOANGLE i, CE.SAFECTL_ASCEN i, CE.SAFECTL_SPDSRC i, CE.SAFECTL_SSPAT i]⟩,
    ⟨0x40300648, 0x800, 2, fun i => [CE.SAFESPD_SSPD i]⟩,
    ⟨0x40300700, 0x800, 2, fun i => [CE.PLLCFG_FNOM i, CE.PLLCFG_LOCKN i, CE.PLLCFG_PQPRI i]⟩,
    ⟨0x40300704, 0x800, 2, fun i => [CE.PLLTOL_LOCKTOL i]⟩,
    ⟨0x40300708, 0x800, 2, fun i => [CE.PLLKP_PLLKP i]⟩,
    ⟨0x4030070c, 0x800, 2, fun i => [CE.PLLKIT_PLLKIT i]⟩,
    ⟨0x40300710, 0x800, 2, fun i => [CE.PLLLIM_FMAX i, CE.PLLLIM_FMIN i]⟩,
    ⟨0x40300714, 0x800, 2, fun i => [CE.GRIDV_VGMAX i, CE.GRIDV_VGMIN i]⟩,
    ⟨0x40300718, 0x800, 2, fun i => [CE.PLLOFS_PLLOFS i]⟩,
    ⟨0x4030071c, 0x800, 2, fun i => [CE.PLLST_FREQ i, CE.PLLST_PLLNL i, CE.PLLST_GRIDLOSS i, CE.PLLST_PLLST i]⟩,
    ⟨0x40300720, 0x800, 2, fun i => [CE.PLLANG_THGRID i]⟩,
    ⟨0x40300724, 0x800, 2, fun i => [CE.PLLVD_VDG i]⟩,
    ⟨0x40300780, 0x800, 2, fun i => [CE.DCDC_VBMAX i, CE.DCDC_VBMIN i]⟩,
    ⟨0x40300784, 0x800, 2, fun i => [CE.DCDCST_VBOUT i]⟩,
    ⟨0x40300940, 0x8, 12, fun i => [CE.INSLOT_EN 1 i, CE.INSLOT_TAG 1 i, CE.INSLOT_OFS 1 i]⟩,
    ⟨0x40300944, 0x8, 12, fun i => [CE.INGAIN_GAIN 1 i]⟩,
    ⟨0x40300a20, 0x4, 3, fun i => [CE.BANDST_H 1 i, CE.BANDST_FEST 1 i]⟩ ]
  ++ [ ⟨0x40300b00, 0x20, 7, fun i => [CE.LKP_KP 1 i]⟩,
    ⟨0x40300b04, 0x20, 7, fun i => [CE.LKIT_KIT 1 i]⟩,
    ⟨0x40300b08, 0x20, 7, fun i => [CE.LILIM_ILIM 1 i]⟩,
    ⟨0x40300b0c, 0x20, 7, fun i => [CE.LPARP_LPARP 1 i]⟩,
    ⟨0x40300b10, 0x20, 7, fun i => [CE.LPARN_LPARN 1 i]⟩,
    ⟨0x40300c10, 0x10, 2, fun i => [CE.RUP_RUP 1 i]⟩,
    ⟨0x40300c14, 0x10, 2, fun i => [CE.RDN_RDN 1 i]⟩,
    ⟨0x40300c18, 0x10, 2, fun i => [CE.RTGT_RTGT 1 i]⟩,
    ⟨0x40300c1c, 0x10, 2, fun i => [CE.ROUT_ROUT 1 i]⟩ ]

/-- The registers of the window 0x4040_0000. -/
def regs4040 : List RegRun :=
  [ ⟨0x40400000, 0x4, 1, fun _ => [ MOD.CTL_LOCK 0, MOD.CTL_RUN 0, MOD.CTL_OUTEN 0, MOD.CTL_SV 0, MOD.CTL_DITH 0, MOD.CTL_RATIO 0, MOD.CTL_GRP 0, MOD.CTL_RLD 0, MOD.CTL_SRC 0, MOD.CTL_MODE 0, MOD.CTL_EN 0]⟩,
    ⟨0x40400004, 0x4, 1, fun _ => [ MOD.DEAD_DT 0]⟩,
    ⟨0x40400008, 0x4, 1, fun _ => [ MOD.PRD_PRD 0]⟩,
    ⟨0x4040000c, 0x4, 1, fun _ => [ MOD.GUARD_LOSTCNT 0, MOD.GUARD_DEFCNT 0, MOD.GUARD_GRPLOST 0, MOD.GUARD_DEFERRED 0, MOD.GUARD_PEND 0, MOD.GUARD_CMT 0]⟩,
    ⟨0x40400010, 0x4, 5, fun i => [ MOD.CMP_CMP 0 i]⟩,
    ⟨0x40400024, 0x4, 1, fun _ => [ MOD.VA_VA 0]⟩,
    ⟨0x40400028, 0x4, 1, fun _ => [ MOD.VB_VB 0]⟩,
    ⟨0x40400030, 0x4, 1, fun _ => [ MOD.CNT_DIR 0, MOD.CNT_FRAME 0, MOD.CNT_CNT 0]⟩,
    ⟨0x40400034, 0x4, 1, fun _ => [ MOD.STAT_SHOOTCNT 0, MOD.STAT_RFCNT 0, MOD.STAT_DBGHALT 0, MOD.STAT_PUMPNA 0, MOD.STAT_SVSAT 0, MOD.STAT_WLIM 0, MOD.STAT_WSHIFT 0, MOD.STAT_MODEREJ 0, MOD.STAT_SHOOT_REJ 0, MOD.STAT_RFINS 0]⟩,
    ⟨0x40400040, 0x4, 7, fun i => [ MOD.EV_OCC 0 i, MOD.EV_EDGE 0 i, MOD.EV_TE 0 i, MOD.EV_IE 0 i, MOD.EV_PSC 0 i]⟩,
    ⟨0x4040005c, 0x4, 1, fun _ => [ MOD.EVSTAT_EVF 0]⟩,
    ⟨0x40400060, 0x4, 1, fun _ => [ MOD.WIN_WLEN 0, MOD.WIN_WSIDE 0, MOD.WIN_WAT 0, MOD.WIN_WEN 0]⟩,
    ⟨0x40400064, 0x4, 1, fun _ => [ MOD.RFSH_RFMAX 0, MOD.RFSH_RFW 0, MOD.RFSH_PUMP 0]⟩,
    ⟨0x40400068, 0x4, 1, fun _ => [ MOD.OMASK_OMASK 0]⟩,
    ⟨0x40400070, 0x4, 1, fun _ => [ MOD.BLKTBL0_SECT0 0, MOD.BLKTBL0_SECT1 0, MOD.BLKTBL0_SECT2 0, MOD.BLKTBL0_SECT3 0]⟩,
    ⟨0x40400074, 0x4, 1, fun _ => [ MOD.BLKTBL1_SECT4 0, MOD.BLKTBL1_SECT5 0, MOD.BLKTBL1_BLKSRC 0]⟩,
    ⟨0x40400078, 0x4, 1, fun _ => [ MOD.BLKOFS_BLKOFS 0]⟩ ]

/-- The registers of the window 0x4041_0000. -/
def regs4041 : List RegRun :=
  [ ⟨0x40410000, 0x4, 1, fun _ => [ MOD.CTL_LOCK 1, MOD.CTL_RUN 1, MOD.CTL_OUTEN 1, MOD.CTL_SV 1, MOD.CTL_DITH 1, MOD.CTL_RATIO 1, MOD.CTL_GRP 1, MOD.CTL_RLD 1, MOD.CTL_SRC 1, MOD.CTL_MODE 1, MOD.CTL_EN 1]⟩,
    ⟨0x40410004, 0x4, 1, fun _ => [ MOD.DEAD_DT 1]⟩,
    ⟨0x40410008, 0x4, 1, fun _ => [ MOD.PRD_PRD 1]⟩,
    ⟨0x4041000c, 0x4, 1, fun _ => [ MOD.GUARD_LOSTCNT 1, MOD.GUARD_DEFCNT 1, MOD.GUARD_GRPLOST 1, MOD.GUARD_DEFERRED 1, MOD.GUARD_PEND 1, MOD.GUARD_CMT 1]⟩,
    ⟨0x40410010, 0x4, 5, fun i => [ MOD.CMP_CMP 1 i]⟩,
    ⟨0x40410024, 0x4, 1, fun _ => [ MOD.VA_VA 1]⟩,
    ⟨0x40410028, 0x4, 1, fun _ => [ MOD.VB_VB 1]⟩,
    ⟨0x40410030, 0x4, 1, fun _ => [ MOD.CNT_DIR 1, MOD.CNT_FRAME 1, MOD.CNT_CNT 1]⟩,
    ⟨0x40410034, 0x4, 1, fun _ => [ MOD.STAT_SHOOTCNT 1, MOD.STAT_RFCNT 1, MOD.STAT_DBGHALT 1, MOD.STAT_PUMPNA 1, MOD.STAT_SVSAT 1, MOD.STAT_WLIM 1, MOD.STAT_WSHIFT 1, MOD.STAT_MODEREJ 1, MOD.STAT_SHOOT_REJ 1, MOD.STAT_RFINS 1]⟩,
    ⟨0x40410040, 0x4, 7, fun i => [ MOD.EV_OCC 1 i, MOD.EV_EDGE 1 i, MOD.EV_TE 1 i, MOD.EV_IE 1 i, MOD.EV_PSC 1 i]⟩,
    ⟨0x4041005c, 0x4, 1, fun _ => [ MOD.EVSTAT_EVF 1]⟩,
    ⟨0x40410060, 0x4, 1, fun _ => [ MOD.WIN_WLEN 1, MOD.WIN_WSIDE 1, MOD.WIN_WAT 1, MOD.WIN_WEN 1]⟩,
    ⟨0x40410064, 0x4, 1, fun _ => [ MOD.RFSH_RFMAX 1, MOD.RFSH_RFW 1, MOD.RFSH_PUMP 1]⟩,
    ⟨0x40410068, 0x4, 1, fun _ => [ MOD.OMASK_OMASK 1]⟩,
    ⟨0x40410070, 0x4, 1, fun _ => [ MOD.BLKTBL0_SECT0 1, MOD.BLKTBL0_SECT1 1, MOD.BLKTBL0_SECT2 1, MOD.BLKTBL0_SECT3 1]⟩,
    ⟨0x40410074, 0x4, 1, fun _ => [ MOD.BLKTBL1_SECT4 1, MOD.BLKTBL1_SECT5 1, MOD.BLKTBL1_BLKSRC 1]⟩,
    ⟨0x40410078, 0x4, 1, fun _ => [ MOD.BLKOFS_BLKOFS 1]⟩ ]

/-- The registers of the window 0x4050_0000. -/
def regs4050 : List RegRun :=
  [ ⟨0x40500000, 0x4, 1, fun _ => [GL.CTL_LOCK]⟩,
    ⟨0x40500100, 0x40, 12, fun i => [GL.CHCFG_EN i, GL.CHCFG_ADAPTON i, GL.CHCFG_ADAPTOFF i, GL.CHCFG_TDB i]⟩,
    ⟨0x40500104, 0x40, 12, fun i => [GL.CHBND_SMAXOFF i, GL.CHBND_SMINOFF i, GL.CHBND_SMAXON i, GL.CHBND_SMINON i]⟩,
    ⟨0x40500108, 0x40, 12, fun i => [GL.CHSTR_STOFF i, GL.CHSTR_STON i, GL.CHSTR_INITOFF i, GL.CHSTR_INITON i]⟩,
    ⟨0x4050010c, 0x40, 12, fun i => [GL.CHTGT_TTOFF i, GL.CHTGT_TTON i]⟩,
    ⟨0x40500110, 0x40, 12, fun i => [GL.CHDES_HSTHR i, GL.CHDES_BLANK i, GL.CHDES_HSEN i, GL.CHDES_DSFILT i, GL.CHDES_DSTHR i]⟩,
    ⟨0x40500114, 0x40, 12, fun i => [GL.CHSTO_STOT1 i, GL.CHSTO_STOSTR i, GL.CHSTO_STOLVL i]⟩,
    ⟨0x40500118, 0x40, 12, fun i => [GL.CHRTY_RETRYN i, GL.CHRTY_RWAIT i]⟩,
    ⟨0x4050011c, 0x40, 12, fun i => [GL.CHSTAT_FCNT i, GL.CHSTAT_ST i, GL.CHSTAT_LINK i, GL.CHSTAT_CAPPRES i, GL.CHSTAT_ENREJ i, GL.CHSTAT_INTLKTMO i, GL.CHSTAT_EPLOSS i, GL.CHSTAT_SPLOSS i, GL.CHSTAT_ATBOUND i, GL.CHSTAT_TINV i, GL.CHSTAT_HS i, GL.CHSTAT_DS i]⟩,
    ⟨0x40500120, 0x40, 12, fun i => [GL.CHTIME_TOFFM i, GL.CHTIME_TONM i]⟩,
    ⟨0x40500124, 0x40, 12, fun i => [GL.CHTEMP_NTC i, GL.CHTEMP_TDIE i]⟩,
    ⟨0x40500128, 0x40, 12, fun i => [GL.CHSUP_INTLKH i, GL.CHSUP_VPOS i]⟩,
    ⟨0x4050012c, 0x40, 12, fun i => [GL.CHCTL_CLRLATCH i]⟩,
    ⟨0x40500800, 0x20, 2, fun i => [GL.BSTAT_ENTRIES i, GL.BSTAT_NOTARMED i, GL.BSTAT_APPLIED i, GL.BSTAT_PAT i, GL.BSTAT_STO i, GL.BSTAT_FCOL i, GL.BSTAT_HALT i, GL.BSTAT_HBEAT i, GL.BSTAT_ENGINE i, GL.BSTAT_TWOLEG i]⟩,
    ⟨0x40500900, 0x4, 1, fun _ => [GL.DSCCTL_REQ, GL.DSCCTL_MODE, GL.DSCCTL_VTHR]⟩,
    ⟨0x40500904, 0x4, 1, fun _ => [GL.DSCSTAT_TDSC, GL.DSCSTAT_FAIL, GL.DSCSTAT_ST]⟩ ]

/-- The registers of the window 0x4060_0000. -/
def regs4060 : List RegRun :=
  [ ⟨0x40600000, 0x4, 1, fun _ => [TH.CTL_LOCK, TH.CTL_NFILT, TH.CTL_RFEN, TH.CTL_EN]⟩,
    ⟨0x40600004, 0x4, 1, fun _ => [TH.STAT_ROUNDS, TH.STAT_DSTAGE, TH.STAT_STALE, TH.STAT_ISLSTOP, TH.STAT_TJSTOP, TH.STAT_DIESTOP, TH.STAT_SENSBRK, TH.STAT_HI, TH.STAT_LO, TH.STAT_WARN]⟩,
    ⟨0x40600008, 0x4, 1, fun _ => [TH.LATCH_ISL, TH.LATCH_BARRIER, TH.LATCH_DIE]⟩,
    ⟨0x4060000c, 0x4, 1, fun _ => [TH.DIE_HKSKIP, TH.DIE_FSKIP, TH.DIE_THROT, TH.DIE_TDIE]⟩,
    ⟨0x40600010, 0x4, 1, fun _ => [TH.TBRKR_TBRK]⟩,
    ⟨0x40600014, 0x4, 2, fun i => [TH.TCOOL_TCOOL i]⟩,
    ⟨0x40600100, 0x8, 24, fun i => [TH.HKTHR_THI i, TH.HKTHR_TLO i]⟩,
    ⟨0x40600104, 0x8, 24, fun i => [TH.HKVAL_BRK i, TH.HKVAL_HIA i, TH.HKVAL_LOA i, TH.HKVAL_VAL i]⟩,
    ⟨0x40600200, 0x4, 12, fun i => [TH.NTC_BETA i, TH.NTC_RNOM i]⟩,
    ⟨0x40600400, 0x20, 12, fun i => [TH.PMCFG_REFSRC i, TH.PMCFG_FIRST i, TH.PMCFG_NODES i]⟩,
    ⟨0x40600404, 0x20, 12, fun i => [TH.PMSW_VON0 i, TH.PMSW_RON i]⟩,
    ⟨0x40600408, 0x20, 12, fun i => [TH.PMDI_VD0 i, TH.PMDI_RD i]⟩,
    ⟨0x4060040c, 0x20, 12, fun i => [TH.PMCOEF_TCR i, TH.PMCOEF_KSWON i, TH.PMCOEF_KSWOFF i]⟩,
    ⟨0x40600410, 0x20, 12, fun i => [TH.PMTJ_PLOSS i, TH.PMTJ_TJ i]⟩,
    ⟨0x40600414, 0x20, 12, fun i => [TH.PMTHR_TJSTOP i, TH.PMTHR_TJWARN i]⟩,
    ⟨0x40600418, 0x20, 12, fun i => [TH.PMREF_MERR i, TH.PMREF_TREF i]⟩,
    ⟨0x40600800, 0x8, 64, fun i => [TH.NR_RTH i]⟩,
    ⟨0x40600804, 0x8, 64, fun i => [TH.NC_CTH i]⟩,
    ⟨0x40600a00, 0x10, 2, fun i => [TH.DERT_TDEND i, TH.DERT_TDSTART i]⟩,
    ⟨0x40600a04, 0x10, 2, fun i => [TH.DERMAX_DMAX i]⟩,
    ⟨0x40600a08, 0x10, 2, fun i => [TH.DERMIN_DMIN i]⟩,
    ⟨0x40600a0c, 0x10, 2, fun i => [TH.DERLIM_DLIM i]⟩ ]

/-- The registers of the window 0x4070_0000. -/
def regs4070 : List RegRun :=
  [ ⟨0x40700000, 0x4, 1, fun _ => [SIO.CTL_LOCK, SIO.CTL_TPEN]⟩,
    ⟨0x40700010, 0x4, 10, fun i => [SIO.INCFG_FILT i, SIO.INCFG_FUNC i, SIO.INCFG_PAIR i, SIO.INCFG_USE i, SIO.INCFG_TPSEL i]⟩,
    ⟨0x40700040, 0x4, 1, fun _ => [SIO.INSTAT_DEM, SIO.INSTAT_LEVEL]⟩,
    ⟨0x40700044, 0x4, 1, fun _ => [SIO.TPSTAT_DISCERR, SIO.TPSTAT_TPOERR, SIO.TPSTAT_TPERR]⟩,
    ⟨0x40700048, 0x4, 1, fun _ => [SIO.TPCFG_DISC, SIO.TPCFG_TPNERR]⟩,
    ⟨0x40700070, 0x4, 1, fun _ => [SIO.SWREQ_OBJSS1, SIO.SWREQ_CWREQ]⟩,
    ⟨0x40700080, 0x10, 2, fun i => [SIO.STO_ENTRIES i, SIO.STO_DIAGLAT i, SIO.STO_GATEF i, SIO.STO_RDDIS i, SIO.STO_PATHF i, SIO.STO_SRC i, SIO.STO_ACT i]⟩,
    ⟨0x40700084, 0x10, 2, fun i => [SIO.SS1_SS1T i, SIO.SS1_ST i]⟩,
    ⟨0x40700088, 0x10, 2, fun i => [SIO.SS1R_REM i, SIO.SS1R_SS1RATE i]⟩,
    ⟨0x40700100, 0x8, 4, fun i => [SIO.CTRCFG_FBTMO i, SIO.CTRCFG_OPENON i, SIO.CTRCFG_FBINV i, SIO.CTRCFG_FBEN i, SIO.CTRCFG_DRV i]⟩,
    ⟨0x40700104, 0x8, 4, fun i => [SIO.CTRSTAT_OPS i, SIO.CTRSTAT_FORCED i, SIO.CTRSTAT_FBERR i, SIO.CTRSTAT_FB i]⟩,
    ⟨0x40700200, 0x10, 2, fun i => [SIO.TM_TEST i]⟩,
    ⟨0x40700204, 0x10, 2, fun i => [SIO.TMSTAT_TRIPS i, SIO.TMSTAT_LOW i, SIO.TMSTAT_ENVERR i, SIO.TMSTAT_TQERR i, SIO.TMSTAT_TMRUN i]⟩,
    ⟨0x40700300, 0x4, 1, fun _ => [SIO.CWCFG_PORTB, SIO.CWCFG_PORTA, SIO.CWCFG_LOSSACT, SIO.CWCFG_SKEW]⟩,
    ⟨0x40700304, 0x4, 1, fun _ => [SIO.CWTMO_SRCNODE, SIO.CWTMO_TMO]⟩,
    ⟨0x40700308, 0x4, 1, fun _ => [SIO.CWSTAT_LASTSEQ, SIO.CWSTAT_LOSS, SIO.CWSTAT_CONTENT, SIO.CWSTAT_SKEWERR, SIO.CWSTAT_ONEPATH, SIO.CWSTAT_SEQGAP]⟩,
    ⟨0x4070030c, 0x4, 1, fun _ => [SIO.CWCNT_ACCEPTED, SIO.CWCNT_ONEPATHS, SIO.CWCNT_REJECTED]⟩ ]

/-- The registers of the window 0x4080_0000. -/
def regs4080 : List RegRun :=
  [ ⟨0x40800000, 0x4, 1, fun _ => [CAN.CTL_LOCK 0, CAN.CTL_KFMT 0, CAN.CTL_ROLE 0, CAN.CTL_XLEN 0, CAN.CTL_FDEN 0, CAN.CTL_LBK 0, CAN.CTL_ABO 0, CAN.CTL_EN 0]⟩,
    ⟨0x40800004, 0x4, 1, fun _ => [CAN.NBT_SJW 0, CAN.NBT_TSEG1 0, CAN.NBT_TSEG2 0, CAN.NBT_BRP 0]⟩,
    ⟨0x40800008, 0x4, 1, fun _ => [CAN.DBT_SJW 0, CAN.DBT_TSEG1 0, CAN.DBT_TSEG2 0, CAN.DBT_BRP 0]⟩,
    ⟨0x4080000c, 0x4, 1, fun _ => [CAN.XBT_SJW 0, CAN.XBT_TSEG1 0, CAN.XBT_TSEG2 0, CAN.XBT_BRP 0]⟩,
    ⟨0x40800010, 0x4, 1, fun _ => [CAN.TDC_TDCEN 0, CAN.TDC_TDCO 0, CAN.TDC_TDCV 0]⟩,
    ⟨0x40800014, 0x4, 1, fun _ => [CAN.ERR_EST 0, CAN.ERR_EWARN 0, CAN.ERR_REC 0, CAN.ERR_TEC 0]⟩,
    ⟨0x40800018, 0x4, 1, fun _ => [CAN.STAT_BOCNT 0, CAN.STAT_TSWRAP 0, CAN.STAT_RXOVF 0, CAN.STAT_CFGREJ 0]⟩,
    ⟨0x4080001c, 0x4, 1, fun _ => [CAN.CMD_RECOVER 0]⟩,
    ⟨0x40800020, 0x4, 1, fun _ => [CAN.RXBASE_BASE 0]⟩,
    ⟨0x40800024, 0x4, 1, fun _ => [CAN.RXCFG_WM 0, CAN.RXCFG_SIZE 0]⟩,
    ⟨0x40800028, 0x4, 1, fun _ => [CAN.RXPTR_RD 0, CAN.RXPTR_WR 0]⟩,
    ⟨0x4080002c, 0x4, 1, fun _ => [CAN.RXSTAT_LOST 0, CAN.RXSTAT_LEVEL 0]⟩,
    ⟨0x40800100, 0x8, 16, fun i => [CAN.FLTV_EN 0 i, CAN.FLTV_FSEL 0 i, CAN.FLTV_VAL 0 i]⟩,
    ⟨0x40800104, 0x8, 16, fun i => [CAN.FLTM_MASK 0 i]⟩,
    ⟨0x40800400, 0x20, 32, fun i => [CAN.MBCTL_WRITER 0 i, CAN.MBCTL_REQ 0 i, CAN.MBCTL_ABORT 0 i, CAN.MBCTL_TXIE 0 i, CAN.MBCTL_STATE 0 i, CAN.MBCTL_FMT 0 i, CAN.MBCTL_BRS 0 i, CAN.MBCTL_LEN 0 i]⟩,
    ⟨0x40800404, 0x20, 32, fun i => [CAN.MBID_ID 0 i]⟩,
    ⟨0x40800408, 0x20, 32, fun i => [CAN.MBADDR_ADDR 0 i]⟩,
    ⟨0x4080040c, 0x20, 32, fun i => [CAN.MBXL_PID 0 i, CAN.MBXL_VCID 0 i, CAN.MBXL_SDT 0 i]⟩,
    ⟨0x40800410, 0x20, 32, fun i => [CAN.MBTS_TS 0 i]⟩,
    ⟨0x40808000, 0x4, 1, fun _ => [KN.CTL_LOCK, KN.CTL_NODE]⟩,
    ⟨0x40808004, 0x4, 1, fun _ => [KN.CFG_HBPER, KN.CFG_TSYNC, KN.CFG_TSPORT, KN.CFG_SYNCPER]⟩,
    ⟨0x40808008, 0x4, 1, fun _ => [KN.XL_SDT, KN.XL_VCID, KN.XL_SLOTAUTO, KN.XL_XLSLOT]⟩,
    ⟨0x4080800c, 0x4, 1, fun _ => [KN.STAT_SEGERR, KN.STAT_UNKSVC, KN.STAT_FWDDROP, KN.STAT_TSVALID, KN.STAT_ADDRCONF]⟩,
    ⟨0x40808010, 0x4, 1, fun _ => [KN.TSNODE_TSNODE]⟩ ]
  ++ [ ⟨0x40808020, 0x4, 1, fun _ => [KN.FWD_FWDMISS, KN.FWD_FWDEN]⟩,
    ⟨0x40808030, 0x4, 4, fun i => [KN.LOCAL_HI i, KN.LOCAL_LO i]⟩,
    ⟨0x4080c000, 0x8, 256, fun i => [KN.FWDA_EN i, KN.FWDA_IN i, KN.FWDA_OUT i, KN.FWDA_KIND i]⟩,
    ⟨0x4080c004, 0x8, 256, fun i => [KN.FWDB_HI i, KN.FWDB_LO i]⟩ ]

/-- The registers of the window 0x4081_0000. -/
def regs4081 : List RegRun :=
  [ ⟨0x40810000, 0x4, 1, fun _ => [CAN.CTL_LOCK 1, CAN.CTL_KFMT 1, CAN.CTL_ROLE 1, CAN.CTL_XLEN 1, CAN.CTL_FDEN 1, CAN.CTL_LBK 1, CAN.CTL_ABO 1, CAN.CTL_EN 1]⟩,
    ⟨0x40810004, 0x4, 1, fun _ => [CAN.NBT_SJW 1, CAN.NBT_TSEG1 1, CAN.NBT_TSEG2 1, CAN.NBT_BRP 1]⟩,
    ⟨0x40810008, 0x4, 1, fun _ => [CAN.DBT_SJW 1, CAN.DBT_TSEG1 1, CAN.DBT_TSEG2 1, CAN.DBT_BRP 1]⟩,
    ⟨0x4081000c, 0x4, 1, fun _ => [CAN.XBT_SJW 1, CAN.XBT_TSEG1 1, CAN.XBT_TSEG2 1, CAN.XBT_BRP 1]⟩,
    ⟨0x40810010, 0x4, 1, fun _ => [CAN.TDC_TDCEN 1, CAN.TDC_TDCO 1, CAN.TDC_TDCV 1]⟩,
    ⟨0x40810014, 0x4, 1, fun _ => [CAN.ERR_EST 1, CAN.ERR_EWARN 1, CAN.ERR_REC 1, CAN.ERR_TEC 1]⟩,
    ⟨0x40810018, 0x4, 1, fun _ => [CAN.STAT_BOCNT 1, CAN.STAT_TSWRAP 1, CAN.STAT_RXOVF 1, CAN.STAT_CFGREJ 1]⟩,
    ⟨0x4081001c, 0x4, 1, fun _ => [CAN.CMD_RECOVER 1]⟩,
    ⟨0x40810020, 0x4, 1, fun _ => [CAN.RXBASE_BASE 1]⟩,
    ⟨0x40810024, 0x4, 1, fun _ => [CAN.RXCFG_WM 1, CAN.RXCFG_SIZE 1]⟩,
    ⟨0x40810028, 0x4, 1, fun _ => [CAN.RXPTR_RD 1, CAN.RXPTR_WR 1]⟩,
    ⟨0x4081002c, 0x4, 1, fun _ => [CAN.RXSTAT_LOST 1, CAN.RXSTAT_LEVEL 1]⟩,
    ⟨0x40810100, 0x8, 16, fun i => [CAN.FLTV_EN 1 i, CAN.FLTV_FSEL 1 i, CAN.FLTV_VAL 1 i]⟩,
    ⟨0x40810104, 0x8, 16, fun i => [CAN.FLTM_MASK 1 i]⟩,
    ⟨0x40810400, 0x20, 32, fun i => [CAN.MBCTL_WRITER 1 i, CAN.MBCTL_REQ 1 i, CAN.MBCTL_ABORT 1 i, CAN.MBCTL_TXIE 1 i, CAN.MBCTL_STATE 1 i, CAN.MBCTL_FMT 1 i, CAN.MBCTL_BRS 1 i, CAN.MBCTL_LEN 1 i]⟩,
    ⟨0x40810404, 0x20, 32, fun i => [CAN.MBID_ID 1 i]⟩,
    ⟨0x40810408, 0x20, 32, fun i => [CAN.MBADDR_ADDR 1 i]⟩,
    ⟨0x4081040c, 0x20, 32, fun i => [CAN.MBXL_PID 1 i, CAN.MBXL_VCID 1 i, CAN.MBXL_SDT 1 i]⟩,
    ⟨0x40810410, 0x20, 32, fun i => [CAN.MBTS_TS 1 i]⟩ ]

/-- The registers of the window 0x4082_0000. -/
def regs4082 : List RegRun :=
  [ ⟨0x40820000, 0x4, 1, fun _ => [CAN.CTL_LOCK 2, CAN.CTL_KFMT 2, CAN.CTL_ROLE 2, CAN.CTL_XLEN 2, CAN.CTL_FDEN 2, CAN.CTL_LBK 2, CAN.CTL_ABO 2, CAN.CTL_EN 2]⟩,
    ⟨0x40820004, 0x4, 1, fun _ => [CAN.NBT_SJW 2, CAN.NBT_TSEG1 2, CAN.NBT_TSEG2 2, CAN.NBT_BRP 2]⟩,
    ⟨0x40820008, 0x4, 1, fun _ => [CAN.DBT_SJW 2, CAN.DBT_TSEG1 2, CAN.DBT_TSEG2 2, CAN.DBT_BRP 2]⟩,
    ⟨0x4082000c, 0x4, 1, fun _ => [CAN.XBT_SJW 2, CAN.XBT_TSEG1 2, CAN.XBT_TSEG2 2, CAN.XBT_BRP 2]⟩,
    ⟨0x40820010, 0x4, 1, fun _ => [CAN.TDC_TDCEN 2, CAN.TDC_TDCO 2, CAN.TDC_TDCV 2]⟩,
    ⟨0x40820014, 0x4, 1, fun _ => [CAN.ERR_EST 2, CAN.ERR_EWARN 2, CAN.ERR_REC 2, CAN.ERR_TEC 2]⟩,
    ⟨0x40820018, 0x4, 1, fun _ => [CAN.STAT_BOCNT 2, CAN.STAT_TSWRAP 2, CAN.STAT_RXOVF 2, CAN.STAT_CFGREJ 2]⟩,
    ⟨0x4082001c, 0x4, 1, fun _ => [CAN.CMD_RECOVER 2]⟩,
    ⟨0x40820020, 0x4, 1, fun _ => [CAN.RXBASE_BASE 2]⟩,
    ⟨0x40820024, 0x4, 1, fun _ => [CAN.RXCFG_WM 2, CAN.RXCFG_SIZE 2]⟩,
    ⟨0x40820028, 0x4, 1, fun _ => [CAN.RXPTR_RD 2, CAN.RXPTR_WR 2]⟩,
    ⟨0x4082002c, 0x4, 1, fun _ => [CAN.RXSTAT_LOST 2, CAN.RXSTAT_LEVEL 2]⟩,
    ⟨0x40820100, 0x8, 16, fun i => [CAN.FLTV_EN 2 i, CAN.FLTV_FSEL 2 i, CAN.FLTV_VAL 2 i]⟩,
    ⟨0x40820104, 0x8, 16, fun i => [CAN.FLTM_MASK 2 i]⟩,
    ⟨0x40820400, 0x20, 32, fun i => [CAN.MBCTL_WRITER 2 i, CAN.MBCTL_REQ 2 i, CAN.MBCTL_ABORT 2 i, CAN.MBCTL_TXIE 2 i, CAN.MBCTL_STATE 2 i, CAN.MBCTL_FMT 2 i, CAN.MBCTL_BRS 2 i, CAN.MBCTL_LEN 2 i]⟩,
    ⟨0x40820404, 0x20, 32, fun i => [CAN.MBID_ID 2 i]⟩,
    ⟨0x40820408, 0x20, 32, fun i => [CAN.MBADDR_ADDR 2 i]⟩,
    ⟨0x4082040c, 0x20, 32, fun i => [CAN.MBXL_PID 2 i, CAN.MBXL_VCID 2 i, CAN.MBXL_SDT 2 i]⟩,
    ⟨0x40820410, 0x20, 32, fun i => [CAN.MBTS_TS 2 i]⟩ ]

/-- The registers of the window 0x4083_0000. -/
def regs4083 : List RegRun :=
  [ ⟨0x40830000, 0x4, 1, fun _ => [CAN.CTL_LOCK 3, CAN.CTL_KFMT 3, CAN.CTL_ROLE 3, CAN.CTL_XLEN 3, CAN.CTL_FDEN 3, CAN.CTL_LBK 3, CAN.CTL_ABO 3, CAN.CTL_EN 3]⟩,
    ⟨0x40830004, 0x4, 1, fun _ => [CAN.NBT_SJW 3, CAN.NBT_TSEG1 3, CAN.NBT_TSEG2 3, CAN.NBT_BRP 3]⟩,
    ⟨0x40830008, 0x4, 1, fun _ => [CAN.DBT_SJW 3, CAN.DBT_TSEG1 3, CAN.DBT_TSEG2 3, CAN.DBT_BRP 3]⟩,
    ⟨0x4083000c, 0x4, 1, fun _ => [CAN.XBT_SJW 3, CAN.XBT_TSEG1 3, CAN.XBT_TSEG2 3, CAN.XBT_BRP 3]⟩,
    ⟨0x40830010, 0x4, 1, fun _ => [CAN.TDC_TDCEN 3, CAN.TDC_TDCO 3, CAN.TDC_TDCV 3]⟩,
    ⟨0x40830014, 0x4, 1, fun _ => [CAN.ERR_EST 3, CAN.ERR_EWARN 3, CAN.ERR_REC 3, CAN.ERR_TEC 3]⟩,
    ⟨0x40830018, 0x4, 1, fun _ => [CAN.STAT_BOCNT 3, CAN.STAT_TSWRAP 3, CAN.STAT_RXOVF 3, CAN.STAT_CFGREJ 3]⟩,
    ⟨0x4083001c, 0x4, 1, fun _ => [CAN.CMD_RECOVER 3]⟩,
    ⟨0x40830020, 0x4, 1, fun _ => [CAN.RXBASE_BASE 3]⟩,
    ⟨0x40830024, 0x4, 1, fun _ => [CAN.RXCFG_WM 3, CAN.RXCFG_SIZE 3]⟩,
    ⟨0x40830028, 0x4, 1, fun _ => [CAN.RXPTR_RD 3, CAN.RXPTR_WR 3]⟩,
    ⟨0x4083002c, 0x4, 1, fun _ => [CAN.RXSTAT_LOST 3, CAN.RXSTAT_LEVEL 3]⟩,
    ⟨0x40830100, 0x8, 16, fun i => [CAN.FLTV_EN 3 i, CAN.FLTV_FSEL 3 i, CAN.FLTV_VAL 3 i]⟩,
    ⟨0x40830104, 0x8, 16, fun i => [CAN.FLTM_MASK 3 i]⟩,
    ⟨0x40830400, 0x20, 32, fun i => [CAN.MBCTL_WRITER 3 i, CAN.MBCTL_REQ 3 i, CAN.MBCTL_ABORT 3 i, CAN.MBCTL_TXIE 3 i, CAN.MBCTL_STATE 3 i, CAN.MBCTL_FMT 3 i, CAN.MBCTL_BRS 3 i, CAN.MBCTL_LEN 3 i]⟩,
    ⟨0x40830404, 0x20, 32, fun i => [CAN.MBID_ID 3 i]⟩,
    ⟨0x40830408, 0x20, 32, fun i => [CAN.MBADDR_ADDR 3 i]⟩,
    ⟨0x4083040c, 0x20, 32, fun i => [CAN.MBXL_PID 3 i, CAN.MBXL_VCID 3 i, CAN.MBXL_SDT 3 i]⟩,
    ⟨0x40830410, 0x20, 32, fun i => [CAN.MBTS_TS 3 i]⟩ ]

/-- The registers of the window 0x4090_0000. -/
def regs4090 : List RegRun :=
  [ ⟨0x40900000, 0x4, 1, fun _ => [DE.CTL_LOCK, DE.CTL_CUSTTMO]⟩,
    ⟨0x40900004, 0x4, 1, fun _ => [DE.STAT_NRUN, DE.STAT_QLEVEL, DE.STAT_OPSTATE]⟩,
    ⟨0x40900008, 0x4, 1, fun _ => [DE.CNT_STREJ, DE.CNT_QFULL]⟩,
    ⟨0x4090000c, 0x4, 1, fun _ => [DE.LASTAB_INDEX, DE.LASTAB_SUB]⟩,
    ⟨0x40900010, 0x4, 1, fun _ => [DE.LASTCODE_DETAIL, DE.LASTCODE_CODE]⟩,
    ⟨0x40900100, 0x10, 5, fun i => [DE.LCTL_GO i, DE.LCTL_BUSY i, DE.LCTL_DONE i, DE.LCTL_OP i, DE.LCTL_SUB i, DE.LCTL_INDEX i]⟩,
    ⟨0x40900104, 0x10, 5, fun i => [DE.LBUF_ADDR i]⟩,
    ⟨0x40900108, 0x10, 5, fun i => [DE.LRSP_CODE i, DE.LRSP_LEN i]⟩,
    ⟨0x4090010c, 0x10, 5, fun i => [DE.LPART_OFFSET i]⟩,
    ⟨0x40900200, 0x8, 8, fun i => [DE.CUSTA_EN i, DE.CUSTA_SERVER i, DE.CUSTA_LO i]⟩,
    ⟨0x40900204, 0x8, 8, fun i => [DE.CUSTB_HI i]⟩,
    ⟨0x40900310, 0x10, 4, fun i => [DE.CREQ_VALID (i + 1), DE.CREQ_OP (i + 1), DE.CREQ_SUB (i + 1), DE.CREQ_INDEX (i + 1)]⟩,
    ⟨0x40900314, 0x10, 4, fun i => [DE.CBUF_ADDR (i + 1)]⟩,
    ⟨0x40900318, 0x10, 4, fun i => [DE.CRSP_DONE (i + 1), DE.CRSP_LEN (i + 1), DE.CRSP_CODE (i + 1)]⟩,
    ⟨0x4090031c, 0x10, 4, fun i => [DE.CINF_CLATE (i + 1), DE.CINF_RLEN (i + 1)]⟩ ]

/-- The registers of the window 0x40A0_0000. -/
def regs40A0 : List RegRun :=
  [ ⟨0x40a00000, 0x4, 1, fun _ => [LG.CTL_ACCT, LG.CTL_TCH, LG.CTL_TSRC, LG.CTL_LOCK, LG.CTL_IPOL, LG.CTL_RUN]⟩,
    ⟨0x40a00004, 0x4, 1, fun _ => [LG.SRC_ITAG, LG.SRC_VTAG]⟩,
    ⟨0x40a00008, 0x4, 1, fun _ => [LG.OFS_OFSI, LG.OFS_OFSV]⟩,
    ⟨0x40a0000c, 0x4, 1, fun _ => [LG.GAINE_GAINE]⟩,
    ⟨0x40a00010, 0x4, 1, fun _ => [LG.GAINA_GAINA]⟩,
    ⟨0x40a00014, 0x4, 1, fun _ => [LG.CAP_CAP]⟩,
    ⟨0x40a00018, 0x4, 1, fun _ => [LG.HIST_HISTPER]⟩,
    ⟨0x40a0001c, 0x4, 1, fun _ => [LG.CMD_STORE]⟩,
    ⟨0x40a00020, 0x4, 1, fun _ => [LG.STAT_FLAGS, LG.STAT_STERR, LG.STAT_RESTERR, LG.STAT_BUSY, LG.STAT_HISTIDX]⟩,
    ⟨0x40a00024, 0x4, 1, fun _ => [LG.PWR_PWR]⟩,
    ⟨0x40a00034, 0x8, 4, fun i => [LG.TOTH_LATCH i]⟩,
    ⟨0x40a00050, 0x4, 1, fun _ => [LG.EFC_EFC]⟩,
    ⟨0x40a0005c, 0x4, 1, fun _ => [LG.SEQH_LATCH]⟩,
    ⟨0x40a00060, 0x4, 1, fun _ => [LG.SECS_V]⟩,
    ⟨0x40a00064, 0x4, 1, fun _ => [LG.GAPS_V]⟩,
    ⟨0x40a00068, 0x4, 1, fun _ => [LG.ORS_V]⟩ ]

/-- The registers of the window 0x40A1_0000. -/
def regs40A1 : List RegRun :=
  [ ⟨0x40a10000, 0x4, 1, fun _ => [CAP.CTL_EN]⟩,
    ⟨0x40a10100, 0x20, 8, fun i => [CAP.CFG_EN i, CAP.CFG_AVG i, CAP.CFG_PORD i, CAP.CFG_NEAR i, CAP.CFG_STYPE i, CAP.CFG_SRC i, CAP.CFG_DECM1 i]⟩,
    ⟨0x40a10104, 0x20, 8, fun i => [CAP.BUF_FID i, CAP.BUF_POLICY i, CAP.BUF_TSRC i, CAP.BUF_POST i, CAP.BUF_SEGMASK i]⟩,
    ⟨0x40a10108, 0x20, 8, fun i => [CAP.STAT_ST i, CAP.STAT_CFGERR i, CAP.STAT_OVWR i, CAP.STAT_GAPF i, CAP.STAT_TRIGF i, CAP.STAT_LOST i]⟩,
    ⟨0x40a1010c, 0x20, 8, fun i => [CAP.WP_WP i]⟩,
    ⟨0x40a10110, 0x20, 8, fun i => [CAP.OLD_OLD i]⟩,
    ⟨0x40a10114, 0x20, 8, fun i => [CAP.TRG_TIDX i, CAP.TRG_TBLK i]⟩,
    ⟨0x40a10118, 0x20, 8, fun i => [CAP.CMD_STOP i, CAP.CMD_SWTRIG i]⟩,
    ⟨0x40a1011c, 0x20, 8, fun i => [CAP.BLK_BLOCKS i]⟩,
    ⟨0x40a1f000, 0x4, 12, fun i => [OWN.R_CONFL_BY 4 i, OWN.R_REQBY 4 i, OWN.R_CONFLICT 4 i, OWN.R_REQ 4 i, OWN.R_OWNER 4 i]⟩,
    ⟨0x40a1fffc, 0x4, 1, fun _ => [OWN.CMT_CMT 4, OWN.CMT_PEND 4, OWN.CMT_NCONF 4]⟩ ]

/-- The registers of the window 0x40B0_0000. -/
def regs40B0 : List RegRun :=
  [ ⟨0x40b00000, 0x4, 1, fun _ => [BIST.STAT_PHASE, BIST.STAT_DOM, BIST.STAT_PASS, BIST.STAT_FAILPART]⟩,
    ⟨0x40b00008, 0x4, 1, fun _ => [BIST.SIGL_V]⟩,
    ⟨0x40b0000c, 0x4, 1, fun _ => [BIST.SIGH_V]⟩ ]

/-- The registers of the window 0x40C0_0000. -/
def regs40C0 : List RegRun :=
  [ ⟨0x40c00004, 0x4, 1, fun _ => [TB.CNTH_LATCH]⟩,
    ⟨0x40c0000c, 0x4, 1, fun _ => [TB.NETH_LATCH]⟩,
    ⟨0x40c00100, 0x10, 8, fun i => [TB.TIMCTL_EN i]⟩,
    ⟨0x40c00104, 0x10, 8, fun i => [TB.TIMCMP_CMP i]⟩,
    ⟨0x40c00108, 0x10, 8, fun i => [TB.TIMPER_PER i]⟩,
    ⟨0x40c0f000, 0x4, 8, fun i => [OWN.R_CONFL_BY 5 i, OWN.R_REQBY 5 i, OWN.R_CONFLICT 5 i, OWN.R_REQ 5 i, OWN.R_OWNER 5 i]⟩,
    ⟨0x40c0fffc, 0x4, 1, fun _ => [OWN.CMT_CMT 5, OWN.CMT_PEND 5, OWN.CMT_NCONF 5]⟩ ]

/-- The register runs of a window, by its number (address / 0x1_0000), Table 1-1. -/
def windowRegs (w : Nat) : List RegRun :=
  match w with
  | 0x4000 => regs4000
  | 0x4001 => regs4001
  | 0x4002 => regs4002
  | 0x4003 => regs4003
  | 0x4004 => regs4004
  | 0x4010 => regs4010
  | 0x4011 => regs4011
  | 0x4020 => regs4020
  | 0x4021 => regs4021
  | 0x4030 => regs4030
  | 0x4040 => regs4040
  | 0x4041 => regs4041
  | 0x4050 => regs4050
  | 0x4060 => regs4060
  | 0x4070 => regs4070
  | 0x4080 => regs4080
  | 0x4081 => regs4081
  | 0x4082 => regs4082
  | 0x4083 => regs4083
  | 0x4090 => regs4090
  | 0x40A0 => regs40A0
  | 0x40A1 => regs40A1
  | 0x40B0 => regs40B0
  | 0x40C0 => regs40C0
  | _ => []

/-- Is `a` the address of a register of the run? -/
def RegRun.hit (r : RegRun) (a : Nat) : Bool :=
  decide (r.first ≤ a) && decide ((a - r.first) % r.stride = 0) && decide ((a - r.first) / r.stride < r.count)

/-- The fields of the first run that holds address `a` (none: a reserved offset, R31). -/
def fieldsIn : List RegRun → Nat → Option (List Fld)
  | [], _ => none
  | r :: t, a => if r.hit a then some (r.fields ((a - r.first) / r.stride)) else fieldsIn t a

/-- The fields of the register at address `a`, if a chapter defines one there. -/
def regFields (a : Nat) : Option (List Fld) := fieldsIn (windowRegs (a / 0x10000)) a

end Sys2Proof.Machine
end

