-- ==== Sys2Proof/Config.lean ====
section
/-! DEFINITION. What the spec leaves open: constants without a body, so that nothing can be proved of their values. -/

namespace Sys2Proof

/-- FREE VALUE (log 2). The n-th value that the spec leaves open: the model applies it to the counter `Dev.free`, which a
step that needs an open value reads and advances. -/
opaque Config.freeNat : Nat → Nat

/-- FREE VALUE (log 2). An open signed value, as `Config.freeNat`. -/
opaque Config.freeInt : Nat → Int

/-- FREE VALUE (log 1). The phase of KACLK to the release of the power-on reset, in millionths of a KACLK period (R470
leaves it undefined). -/
opaque Config.kaPhase : Nat

/-- FREE VALUE (log 64). The factory values to which the spec gives no number (serial number, identity, keys), by object: the
chip's own. -/
opaque Config.factory : Nat → Nat

/-- FREE VALUE (log 90). The customer firmware key of this chip, as the number its 32 bytes spell, most significant byte first: no object of the
spec writes it. -/
opaque Config.fwKey : Nat

/-- FREE VALUE (log 191). Where copy c (0 or 1) of the record of the object with key k lies in the persistence region, in records of 16 bytes: the
argument is 2 k + c. The spec gives the region no layout. -/
opaque Config.recordAt : Nat → Nat

/-- FREE VALUE (log 178). What a write of an object of 0xF000-0xFFFF clears, by its key: 1 the failed-converter record (R129), 2 the retired-hart
record (R315); the spec prints no table of the maker objects. -/
opaque Config.makerClears : Nat → Nat

/-- FREE VALUE (log 180). The hash of the maker's public key, which the chip burns on its way to MAKER (Table 3-11). -/
opaque Config.makerHash : Nat

end Sys2Proof
end

