-- ==== Sys2Proof/Machine/State.lean ====
section
/-! DEFINITION. The state of the module as plain data: the register file, the memory, the queue of waiting commands, and
the internal state of every block that the spec gives it beyond its registers. -/

namespace Sys2Proof.Machine

/-- No command of this model ends in a fault: the constructor is raised by nobody and stands for a state that no rule of
the spec describes (safe). -/
inductive Fault where
  /-- Raised by no command (safe). -/
  | undescribed
deriving DecidableEq, Repr

/-- Refusals. -/
inductive Refusal where
  /-- The command's meaning is not in the model yet; raised by `exec` alone (safe). -/
  | notModelled (mnemonic : String)
deriving DecidableEq, Repr

/-- The register file: for each field that does not hold its reset value, its key (`Fld.key`) and its value, keys rising. -/
abbrev RegFile := List (Nat × Nat)

/-- The memory of Table 1-5: the bytes that differ from what an unlisted address reads as, addresses strictly rising. -/
abbrev Mem := List Host.Cell

/-- An access as the fabric records it (R32). -/
structure Access where
  addr   : Nat
  master : Master
  write  : Bool
deriving DecidableEq, Repr

/-- What the commanding master sees of its last access: a bus error, or the data read (R31, R32; the model's own output). -/
structure BusResp where
  error : Bool
  data  : Nat
deriving DecidableEq, Repr

/-- The answer to the last object request (R431): abort code (0: accepted), detail, and the data with its length in bytes
(the model's own output, log 4). -/
structure Resp where
  code   : Nat
  detail : Nat
  data   : Nat
  len    : Nat
deriving DecidableEq, Repr

/-- The phases of a start (Table 3-3). -/
inductive StartPhase where
  | held      -- internal reset held
  | rc        -- boot ROM running on the RC oscillator, OTP read (0.2 ms)
  | bist      -- full BIST running (R79)
  | restored  -- dictionary restored, owners claimed (18.0 ms)
  | ports     -- CAN ports on, spans released, STANDBY (19.0 ms)
  | complete  -- start sequence complete (50.0 ms)
  | stopped   -- stopped after the dictionary restore (R80)
deriving DecidableEq, Repr

/-- The OTP fuses (R84, R96, R99, R101): the two words of each life-cycle state from MAKER (1) to END (6), the boot-option
bits in the layout of Table 3-6 without ARB, the anti-rollback thermometer, the key slot hashes, the maker key hash (0 before
it is burned), and the hardware unique key (true: all burned to 1). -/
structure Fuses where
  word1    : Vector Bool 7
  word2    : Vector Bool 7
  opt      : Nat
  arb      : Nat
  slot0    : Nat
  slot1    : Nat
  maker    : Nat
  hukGone  : Bool
deriving DecidableEq, Repr

/-- A flash command in progress (R90): its code, its address, and the line to program. -/
structure FlashCmd where
  code : Nat
  addr : Nat
  line : Nat
deriving DecidableEq, Repr

/-- An outstanding nonce of 0x7010:01 (R94) and when it was read. -/
structure Nonce where
  value  : Nat
  readAt : Nat
deriving DecidableEq, Repr

/-- A fuse burn in progress (R96): the target state and the word being burned. -/
structure Burn where
  target : Nat
  word   : Nat
deriving DecidableEq, Repr

/-- The causes of a reset (Table 3-1). -/
inductive RstCause where
  | por | supply (v : Supply) | pin | soft | lct | wake
deriving DecidableEq, Repr

/-- The volatile key store (R99): whether it holds the device key, the customer firmware key, and the hashes of the key slots. -/
structure KeyStore where
  device : Bool
  fw     : Option Nat
  slots  : Option (Nat × Nat)
deriving DecidableEq, Repr

/-- The cleared store (R100). -/
def KeyStore.empty : KeyStore := { device := false, fw := none, slots := none }

/-- What reset, boot and life cycle hold beside their registers (chapter 03): the entry offsets of the running image (Table 3-7) among it. -/
structure StartState where
  phase      : StartPhase
  releasedAt : Nat
  bootMode   : Nat
  keys       : KeyStore
  custAuth   : Bool
  makerAuth  : Bool
  nonce      : Option Nonce
  burn       : Option Burn
  flash      : Option FlashCmd
  runBank    : Option (Fin 2)
  entry      : Vector Nat 2
  bistAt     : Nat          -- when the self-test of this start began (R478)
  otpSlots   : Nat × Nat    -- the key slots as the OTP was read at this start (R84)
deriving DecidableEq, Repr

def StartState.reset : StartState :=
  { phase := .held, releasedAt := 0, bootMode := 0, keys := KeyStore.empty, custAuth := false, makerAuth := false,
    nonce := none, burn := none, flash := none, runBank := none, entry := .replicate 2 0, bistAt := 0, otpSlots := (0, 0) }

/-! ### Analogue sensing (chapter 04) -/

/-- The scan of a slice: `MODE`, `SMASK` and `TMASK` in force (R111), the input being converted or due, the triggered inputs
still to convert, the scan input to convert after them (R113), the input whose conversion was complete or goes on to its end when
the scan changes and whose result is still to be presented (R111, R113), and whether results are missing after a failure (R125). -/
structure SliceScan where
  mode   : Nat
  smask  : Nat
  tmask  : Nat
  cur    : Nat
  todo   : List Nat
  resume : Option Nat
  late   : Option Nat
  gap    : Bool
deriving DecidableEq, Repr

/-- The trims of a converter (Table 4-12): offset in LSB / 16, gain in ppm, DNL. -/
structure Trim where
  offset : Int
  gain   : Int
  dnl    : Int
deriving DecidableEq, Repr

/-- An entry that waits to be written (R116): its queue, the ADCCLK cycle of its sampling instant, its tag, and its 32 bits. -/
structure QItem where
  q     : Nat
  n     : Nat
  tag   : Nat
  entry : Nat
deriving DecidableEq, Repr

/-- What stood before the work of a calibration slot (R128, R133): the values of `AS.SPARE` and of the status registers of the slice number
and of both spares (`calFields`), all trims and the epochs of the last passed checks, the failed-converter record, the count of failovers, and
whether lines 19 and 20 had an assertion that was not sampled yet. -/
structure CalUndo where
  vals   : List Nat
  trims  : Vector Trim 34
  passed : Vector (Option Nat) 34
  record : Nat
  count  : Nat
  line19 : Bool
  line20 : Bool
deriving DecidableEq, Repr

/-- The last calibration slot that had work (Table 4-12): its number, its first ADCCLK cycle (60 an epoch), whether it restarted
(R122), the cycle in which the rotating spare is released, whether a check failed at cycle 10,008, the self-calibration of the other
spare after it (R124), whether results carried `SUBST` 1 before it, what it measures, and what stood before it. -/
structure CalVisit where
  slot    : Nat
  start   : Nat
  restart : Bool
  fin     : Nat
  early   : Bool
  tail    : Nat
  before  : Bool
  meas    : CalMeasure
  undo    : CalUndo
deriving DecidableEq, Repr

/-- Analogue sensing beside its registers: the scans, software triggers awaiting their epoch, `SEQ` of each queue (R117),
entries generated and not yet written, the trims of slices 0-31, SP0 (32) and SP1 (33), the next
calibration slot, the slices already visited in this round through CALNOW, the epoch of each converter's last
passed check (none: not since reset), the last slot with work, and the last failure of R125 that took the last spare (the ADCCLK
cycle missed, the slice number, the spare). -/
structure AnaState where
  scan     : Vector SliceScan 32
  trigPend : Vector Bool 4
  seq      : Vector Nat 8
  waiting  : List QItem
  trims    : Vector Trim 34
  calNext  : Nat
  calDone  : List Nat
  passed   : Vector (Option Nat) 34
  visit    : Option CalVisit
  lastFail : Option (Nat × Fin 32 × Nat)
deriving DecidableEq, Repr

/-- The scan of slice s at reset (Table 4-5). -/
def SliceScan.reset (s : Nat) : SliceScan :=
  { mode := sliceModeReset s, smask := sliceSmaskReset s, tmask := 0, cur := 0, todo := [], resume := none, late := none, gap := false }

def AnaState.reset : AnaState :=
  { scan := .ofFn fun i => SliceScan.reset i, trigPend := .replicate 4 false, seq := .replicate 8 0, waiting := [],
    trims := .replicate 34 { offset := 0, gain := 0, dnl := 0 }, calNext := 0, calDone := [],
    passed := .replicate 34 none, visit := none, lastFail := none }

/-! ### Position and speed (chapter 05) -/

/-- A position block beside its registers: the accepted encoder levels; the Hall code, sector, angle set by the last edge,
its direction, its CECLK cycle, the cycles of the last sector, and whether the angle stands at the sector's centre; the
reference count of the index (none after the block enters UNREF); the speed window (signed transitions, their number, the
first transition's step, its cycle and the last one's); the resolver (last two demodulated angles with the cycles of their
middles, cycle counter, consecutive periods out of amplitude and discarded, and in the speed window the unfolded angle
change, the angles' number and the first and last cycle); the emulator's output position; the observer (stator flux in
2^-40 Wb, angle in 2^-32 turns, speed in 2^-32 turns per second, tick counters, and whether it is loaded at the next tick). -/
structure PosState where
  a : Bool
  b : Bool
  z : Bool
  hallCode   : Option Nat
  hallSector : Option Nat
  hallAngle  : Nat
  hallFwd    : Bool
  hallT      : Nat
  hallRate   : Option Nat
  ref        : Option Int
  winSum     : Int
  winN       : Nat
  winStep1   : Int
  winT0 : Nat
  winT1 : Nat
  theta      : Option (Nat × Nat)
  thetaPrev  : Option (Nat × Nat)
  cycle      : Nat
  badAmp     : Nat
  dropped    : Nat
  thSum      : Int
  thN        : Nat
  thT0 : Nat
  thT1 : Nat
  emu        : Option Nat
  psiA : Int
  psiB : Int
  th         : Int
  w          : Int
  innov      : Int
  lockN : Nat
  lostN : Nat
  xN : Nat
  reinit     : Bool
deriving DecidableEq, Repr

def PosState.reset : PosState :=
  { a := false, b := false, z := false, hallCode := none, hallSector := none, hallAngle := 0, hallFwd := true, hallT := 0,
    hallRate := none, ref := none, winSum := 0, winN := 0, winStep1 := 0, winT0 := 0, winT1 := 0, theta := none,
    thetaPrev := none, cycle := 0, badAmp := 0, dropped := 0, thSum := 0, thN := 0, thT0 := 0, thT1 := 0, emu := none,
    psiA := 0, psiB := 0, th := 0, w := 0, innov := 0, lockN := 0, lostN := 0, xN := 0, reinit := false }

/-! ### The control engine (chapters 06, 08) -/

/-- An orderly clamp of the demand (R352, R371): its present value c, its fall per tick, both in 2^-28 pu, whether it has
begun, and the consecutive ticks with c = 0 and low currents. -/
structure Clamp where
  c     : Int
  rate  : Int
  begun : Bool
  low   : Nat
deriving DecidableEq, Repr

/-- The test-signal generator beside its registers (R191-R193): a start awaiting the next tick, the tick of the run, the
chirp's phase in 2^-32 turns, the shift register, and the value injected at the last tick. -/
structure TestGen where
  start : Bool
  tick  : Nat
  phase : Nat
  lfsr  : Nat
  value : Int
deriving DecidableEq, Repr

/-- The engine's part of one bridge beside its registers: last valid slot values and currents of the tick (Q4.28), with the last voltages in the stator frame; direction,
last winner, integrators of loops 0-4 and of the current regulators (R177, R178, R190); band unit: centre, slope and
curvature per CECLK cycle in codes with 32 and 48 and 64 fraction bits, band (Q16.16), rate estimate (10 Hz, 16 fraction
bits), turn-ons counted, leg state (0 off, 1 low, 2 high), cycle of its last change, the load cycle (R183-R187);
interleave: last turn-ons, period of U, consecutive ticks out (R188); the clamps of an orderly stop (0) and of SS1 (1);
test generator; field weakening and last iq* (R232); the ASC estimate: last crossing and
estimate (R242); grid PLL: angle in 2^-22 turns times 1024, frequency and integral in Hz (Q16.16), consecutive good
and bad ticks (R244, R245); the STO path test running, and a start accepted (R370). -/
structure EngState where
  x        : Vector Int 12
  id       : Int
  iq       : Int
  idRef    : Int
  iqRef    : Int
  vd       : Int
  vq       : Int
  alpha    : Int
  beta     : Int
  dir      : Int
  win      : Nat
  integ    : Vector Int 5
  piD      : Int
  piQ      : Int
  cen      : Vector Int 3
  slp      : Vector Int 3
  crv      : Vector Int 3
  h        : Vector Int 3
  fest     : Vector Int 3
  ncount   : Vector Nat 3
  leg      : Vector Nat 3
  tchg     : Vector Nat 3
  tload    : Nat
  ton      : Vector (Option Nat) 3
  tU       : Option Nat
  ilvN     : Vector Nat 3
  stop     : Option Clamp
  ss1      : Option Clamp
  test     : TestGen
  idfw     : Int
  iqPrev   : Int
  ascX     : Nat
  ascLast  : Option Nat
  ascEst   : Option Int
  th       : Nat
  f        : Int
  pllI     : Int
  pllGood  : Nat
  pllBad   : Nat
  pathTest : Bool
  starting : Bool
deriving DecidableEq, Repr

def EngState.reset : EngState :=
  { x := .replicate 12 0, id := 0, iq := 0, idRef := 0, iqRef := 0, vd := 0, vq := 0, alpha := 0, beta := 0, dir := 1,
    win := 0, integ := .replicate 5 0, piD := 0, piQ := 0, cen := .replicate 3 0, slp := .replicate 3 0,
    crv := .replicate 3 0, h := .replicate 3 0, fest := .replicate 3 0, ncount := .replicate 3 0, leg := .replicate 3 0,
    tchg := .replicate 3 0, tload := 0, ton := .replicate 3 none, tU := none, ilvN := .replicate 3 0,
    stop := none, ss1 := none,
    test := { start := false, tick := 0, phase := 0, lfsr := 0, value := 0 }, idfw := 0, iqPrev := 0, 
    ascX := 0, ascLast := none, ascEst := none, th := 0, f := 0, pllI := 0, pllGood := 0, pllBad := 0,
    pathTest := false, starting := false }

/-- The configuration of a bridge that the band unit uses between ticks, as the last snapshot took it (R172): `CTRL`, `OCLIM`, `MINPULSE`, the
tags of slots 0-2, and `LEN` of the test generator and `LOCKN`, which judge what came about at the tick. -/
structure EngSnap where
  ctrl     : Nat
  oclim    : Nat
  minPulse : Nat
  tstLen   : Nat
  lockN    : Nat
  tags     : Vector Nat 3
deriving DecidableEq, Repr

/-- What both bridges share: a tick request waiting for its epoch, a tick start that no trigger epoch has taken yet (Table 4-7), the cycle of the last tick start (none after `EN` is set),
whether the nominal period applies to the next tick (R508), t_tick of the last tick in CECLK cycles, the interrupt sources that requested the next tick (R347),
the valid LIMP measurements with their epochs, newest first, and the epoch of the first one since the last invalid one (R250, R251), and the configuration as the last snapshot took it. -/
structure EngShared where
  tickPend : Bool
  tickTrig : Bool
  lastTick : Option Nat
  nominal  : Bool
  tickSrcs : List Nat
  limp     : List (Nat × Nat)
  limpFrom : Option Nat
  len      : Nat
  snap     : Vector EngSnap 2
deriving DecidableEq, Repr

/-- The reset values of Tables 6-4 and 6-9. -/
def EngSnap.reset (b : Nat) : EngSnap :=
  { ctrl := 0, oclim := 28672, minPulse := 80, tstLen := 0, lockN := 64, tags := .ofFn fun p => 24 * b + 8 * p.val }

def EngShared.reset : EngShared :=
  { tickPend := false, tickTrig := false, lastTick := none, nominal := true, tickSrcs := [], limp := [], limpFrom := none, len := 0,
    snap := .ofFn fun b => EngSnap.reset b.val }

/-! ### The modulators (chapter 07) -/

/-- One copy of the group registers (R210); `rn`: how many of CMP0-CMP2 hold ratios whatever `RATIO` says, because the modulator formed them
(R209: 3) or the engine wrote a chopping ratio (R222: 1). -/
structure ModGroup where
  prd : Nat
  cmp : Vector Nat 5
  va  : Nat
  vb  : Nat
  rn  : Nat
deriving DecidableEq, Repr

def ModGroup.reset : ModGroup := { prd := 150000, cmp := .replicate 5 0, va := 0, vb := 0, rn := 0 }

/-- A modulator beside its registers: the counter running, pending copy, which registers of it wait (`PRD`, `CMP0`-`CMP4`, `VA`, `VB` as 0-7)
and which wait for the end of a guard window (R213), active copy, half period in force, the cycle of the last zero or period point, the compares in
force, the inner pulses that the window rule moved (per phase, the cycles at which they begin and end), prescaler counts (occurrences until the
event acts), a pulse of the trigger line that no epoch has taken yet (R224), the leg commands of the source stage (0 off, 1 low, 2 high), refresh
pulses running, interlock conflicts, and the block sector. Cycles are of PWMCLK, 600 to an alignment epoch. -/
structure ModState where
  running  : Bool
  pend     : ModGroup
  waits    : List Nat
  deferred : List Nat
  act      : ModGroup
  half     : Nat
  base     : Nat
  k        : Vector Nat 5
  moved    : Vector (Option (Nat × Nat)) 3
  psc      : Vector Nat 7
  trig     : Bool
  leg      : Vector Nat 3
  refresh  : Vector Bool 3
  conflict : Vector Bool 3
  sector   : Nat
deriving DecidableEq, Repr

def ModState.reset : ModState :=
  { running := false, pend := ModGroup.reset, waits := [], deferred := [], act := ModGroup.reset, half := 75000, base := 0,
    k := .replicate 5 0, moved := .replicate 3 none, psc := .replicate 7 0, trig := false, leg := .replicate 3 0, refresh := .replicate 3 false,
    conflict := .replicate 3 false, sector := 0 }

/-! ### The gate channels (chapter 09) -/

/-- An EDGE frame in an island's transmit queue (R259): whether of a turn-off, the strength used, the time in ns (0xFFFF invalid), and the code of
the phase current that was latched when that edge was launched (R294). -/
structure EdgeFrame where
  off  : Bool
  str  : Nat
  time : Nat
  code : Int
deriving DecidableEq, Repr

/-- A gate channel beside its registers. The island: switch (0 off, 1 on, 2 soft turn-off), cause of its fault latch (0
none), supply in range, die latch, its registers 0x00-0x0B of Table 9-4, those of 0x06-0x0A in force (R261), symbol errors and a refused `WR` in its status, its link
set up since its supply came (R64), and what it has still to send: answers to `RD`, EDGE frames, causes of FAULT frames (R259).
The gate link: ON launched, a turn-on held by the interlock, the last gate report (true: on), an ON launched since it, a
kept latch, the epochs of recent faults, a retry wait running, the state before UVLO, the edge and
the service path of the island lost, consecutive frames with a wrong CRC (R260), and the island registers still to be sent or read back. -/
structure GateState where
  sw       : Nat
  islLatch : Nat
  supplied : Bool
  dieLatch : Bool
  regs     : Vector Nat 12
  prot     : Vector Nat 5
  symErr   : Nat
  badWr    : Bool
  linked   : Bool
  rd       : List Nat
  edges    : List EdgeFrame
  faultQ   : List Nat
  launched : Bool
  waitOn   : Bool
  rep      : Option Bool
  onSince  : Bool
  kept     : Bool
  faults   : List Nat
  retry    : Bool
  before   : Nat
  epDown   : Bool
  spDown   : Bool
  badCrc   : Nat
  sync     : List Nat
  fresh    : Bool   -- a HEALTH frame with the NTC has come since link-up and the last housekeeping round
  hello    : Bool   -- the island sends HELLO (R260)
  greeted  : Bool   -- the gate link has received a HELLO since its reset or NOLINK (R260)
  clrDue   : Bool   -- a retry wait has ended while no CLR could pass (R276)
  frameDue : Bool   -- a FAULT symbol awaits its frame (R510)
  edgeCode : Int    -- the phase current's code latched at the last launch (R294)
deriving DecidableEq, Repr

def GateState.reset : GateState :=
  { sw := 0, islLatch := 0, supplied := false, dieLatch := false, regs := .replicate 12 0, prot := .replicate 5 0, symErr := 0,
    badWr := false, linked := false, rd := [], edges := [], faultQ := [],
    launched := false, waitOn := false, rep := none, onSince := false, kept := false, faults := [], retry := false,
    before := 0, epDown := true, spDown := true, badCrc := 0, sync := List.range 12, fresh := false,
    hello := true, greeted := false, clrDue := false, frameDue := false, edgeCode := 0 }

/-- The gate link beside its registers, with stage 6 of both modulators before it: since which PWMCLK cycle each position is commanded on, and the
latest such cycle judged (R217); legs held off until an epoch (R264), the cycle of the last change of each leg's output, the pattern delivered for each bridge (R243), positions held off after a safe state until the outputs are started
anew (R280), and the discharge: its begin, whether the pin method is in force, and whether 1,500 ms of winding discharge have passed (R281). -/
structure GateLink where
  ch      : Vector GateState 12
  since   : Vector (Option Nat) 12
  pwm     : Nat
  legHeld : Vector Bool 6
  legT    : Vector Nat 6
  pat     : Vector Bool 2
  block   : Vector Bool 2
  dscFrom : Nat
  dscPin  : Bool
  dscFell : Bool
deriving DecidableEq, Repr

def GateLink.reset : GateLink :=
  { ch := .replicate 12 GateState.reset, since := .replicate 12 none, pwm := 0, legHeld := .replicate 6 true, legT := .replicate 6 0, pat := .replicate 2 false,
    block := .replicate 2 false, dscFrom := 0, dscPin := false, dscFell := false }
/-! ### Thermal (chapter 10) -/

/-- A switch position's thermal model: node temperatures in 1e-9 °C, whether it has started and with which node set, the
energies not yet stepped in 1e-24 J, the sum of the losses of this round's steps in 1e-9 W with their number, and the rainflow
count: turning points newest first, direction, and running extreme in 0.01 °C (R293-R298). -/
structure ThermPos where
  t       : Vector Int 5
  started : Bool
  cfg     : List Nat
  eCond   : Int
  eSw     : Int
  pSum    : Int
  steps   : Nat
  rf      : List Int
  rfDir   : Int
  rfExt   : Option Int
deriving DecidableEq, Repr

def ThermPos.reset : ThermPos :=
  { t := .replicate 5 0, started := false, cfg := [], eCond := 0, eSw := 0, pSum := 0, steps := 0, rf := [], rfDir := 0,
    rfExt := none }

/-- The thermal block beside its registers: positions, the cycle of the last result of each phase (R293), consecutive rounds
beyond the thresholds (R291) and in the conditions of Table 10-4 (junction and island warnings, junction and island stops,
controller die), barrier failures and missing measurements (R303), and the wear counters (R298). -/
structure ThermState where
  pos     : Vector ThermPos 12
  lastRes : Vector (Option Nat) 6
  hiN     : Vector Nat 24
  loN     : Vector Nat 24
  tjWarnN : Vector Nat 12
  islWarnN : Vector Nat 12
  tjStopN : Vector Nat 12
  islStopN : Vector Nat 12
  dieN    : Nat
  barBad  : Vector Nat 12
  barMiss : Vector Nat 12
  wear    : Vector (Vector Nat 32) 12
deriving DecidableEq, Repr

def ThermState.reset : ThermState :=
  { pos := .replicate 12 ThermPos.reset, lastRes := .replicate 6 none, hiN := .replicate 24 0, loN := .replicate 24 0,
    tjWarnN := .replicate 12 0, islWarnN := .replicate 12 0, tjStopN := .replicate 12 0, islStopN := .replicate 12 0,
    dieN := 0, barBad := .replicate 12 0, barMiss := .replicate 12 0, wear := .replicate 12 (.replicate 32 0) }
/-! ### Safety functions (chapter 13) -/

/-- A Causeway copy held by the resident firmware (R381): its path, sequence number, command data and stamp. -/
structure CwCopy where
  copy  : Bool
  seq   : Nat
  data  : Nat
  stamp : Nat
deriving DecidableEq, Repr

/-- The torque monitor of a bridge (R376, R377): the flux estimate in 2^-40 pu, its angle at the last tick, the last powers
(newest first), consecutive failed ticks, and the envelope that Truss wrote. -/
structure TqState where
  psA   : Int
  psB   : Int
  ang   : Option Nat
  hist  : List Int
  bad   : Nat
  wrote : Option (Int × Int)
deriving DecidableEq, Repr

/-- Safety beside the registers: test-pulse errors of the running period and consecutive periods with one (R367), the level of
STO_A and STO_B of reader 2 as Truss filters it, with how many samples in a row have shown the other level, and the frames in which the
readers disagreed (R370), epochs at which an SS1 started (R371) and became DONE, contactor requests for the next
frame, the Causeway copy held, the data last accepted, the command for the next frame, the envelope limits of the last command,
whether `LOSSACT` applies, the sequence number of the next status, the torque monitors, the safety set in force and the staging
copy (index × 256 + sub-index), and whether no set may be used (R386). -/
structure SafeState where
  errThis : Vector Bool 10
  errN    : Vector Nat 10
  rd2     : Vector (Bool × Nat) 2
  rdN     : Vector Nat 2
  ss1From : Vector Nat 2
  ss1Done : Vector Nat 2
  ctr     : Vector (Option Bool) 4
  held    : Option CwCopy
  accData : Nat
  cmd     : Option Nat
  envP    : Nat
  envN    : Nat
  loss    : Bool
  statSeq : Nat
  tq      : Vector TqState 2
  set     : RegFile
  staging : RegFile
  noSet   : Bool
deriving DecidableEq, Repr

def SafeState.reset : SafeState :=
  { errThis := .replicate 10 false, errN := .replicate 10 0, rd2 := .replicate 2 (false, 0), rdN := .replicate 2 0, ss1From := .replicate 2 0, ss1Done := .replicate 2 0,
    ctr := .replicate 4 none, held := none, accData := 0, cmd := none, envP := 65535, envN := 65535, loss := false, statSeq := 0,
    tq := .replicate 2 { psA := 0, psB := 0, ang := none, hist := [], bad := 0, wrote := none },
    set := [], staging := [], noSet := false }
/-! ### CAN ports and Kinak (chapter 14) -/

/-- An open transfer of a segmented message (R410). -/
structure Transfer where
  node : Nat
  svc  : Nat
  tag  : Nat
  prio : Nat
  len  : Nat
  seq  : Nat
  got  : List (BitVec 8)
deriving DecidableEq, Repr

/-- A whole addressed message for the dictionary engine: its port, sender, service, priority, tag and body. -/
structure KMsg where
  port : Fin 4
  node : Nat
  svc  : Nat
  prio : Nat
  tag  : Nat
  body : List (BitVec 8)
deriving DecidableEq, Repr

/-- A CAN port beside its registers: data of the mailboxes that the Kinak engine and the resident firmware fill (log 33), frames
of the Kinak engine that wait for a mailbox, the forwarding queue, what is in arbitration or on the bus (a mailbox below 32, or
32 + the place in the forwarding queue) with an abort written meanwhile, bus-off recovery running, and open transfers. -/
structure CanPort where
  mbData    : List (Nat × List (BitVec 8))
  kq        : List CanFrame
  fwdq      : List CanFrame
  cur       : Option (Nat × CanFrame)
  curAbort  : Bool
  recovering : Bool
  transfers : List Transfer
deriving DecidableEq, Repr

def CanPort.reset : CanPort :=
  { mbData := [], kq := [], fwdq := [], cur := none, curAbort := false, recovering := false, transfers := [] }

/-- The network block beside its registers: the ports, messages for the dictionary engine, heartbeat count, last report of each
fault line and its epoch (R417), time-sync sequence number, and the last sync received with its local start of frame (R415). -/
structure NetState where
  port    : Vector CanPort 4
  inbox   : List KMsg
  hbCount : Nat
  reports : List (Nat × Nat)
  syncN   : Nat
  lastSync : Option (Nat × Nat)
deriving DecidableEq, Repr

def NetState.reset : NetState :=
  { port := .replicate 4 CanPort.reset, inbox := [], hbCount := 0, reports := [], syncN := 0, lastSync := none }
/-! ### Interrupts and fault collection (chapter 12) -/

/-- The interrupt controller beside its registers: which target claimed each active source (source, target), whether it
delivers nothing after a parity error (R357), and the enables cleared just now (target, source, epoch; R345). -/
structure FltState where
  claims : List (Nat × Nat)
  dead   : Bool
  masked : List (Nat × Nat × Nat)
deriving DecidableEq, Repr

def FltState.reset : FltState := { claims := [], dead := false, masked := [] }
/-! ### Truss, spans and the Keystone voter (chapter 11) -/

/-- Keystone beside its registers: per hart of Truss the epochs at which it was flagged in the last second (R315), per span those
of its counted resets (R320), per hart of the spans the cause of the reset in progress (index 2s + hart; lock-step: 2s), the modes of
`INCLSt` in force (class 0, class 1; true: AGREE) (R326), the output that each target gives to the fabric (R310, R318), the pending line of
interrupts as the harts of targets 0-4 take it (R325), the non-maskable request of the collector as they take it (R324), which harts of split
spans the debugger has halted (R334), the epochs in which the resets in progress began (R319), the epoch and the hart of the last dissent by a
signature of the scrub (R314, R317), and the epoch of the last reintegration (R329). -/
structure KsState where
  flags   : Vector (List Nat) 3
  resets  : Vector (List Nat) 2
  pending : Vector (Option Nat) 4
  incls   : Vector (Bool × Bool) 3
  out     : Vector BusOut 3
  irq     : Vector Bool 5
  nmi     : Vector Bool 5
  halted  : Vector Bool 4
  began   : Vector Nat 4
  signed  : Option (Nat × Fin 3)
  reint   : Option Nat
deriving DecidableEq, Repr

def KsState.reset : KsState :=
  { flags := .replicate 3 [], resets := .replicate 2 [], pending := .replicate 4 none,
    incls := .ofFn fun t => (decide (t = 0), decide (t = 0)),
    out := .replicate 3 .none, irq := .replicate 5 false, nmi := .replicate 5 false, halted := .replicate 4 false,
    began := .replicate 4 0, signed := none, reint := none }

/-! ### The object dictionary (chapter 15) -/

/-- Where an object request came from (R437, R451): a Kinak port, with node, priority and tag; a local target; or a requester
that has gone (R451). -/
inductive ReqSrc where
  | kinak (p : Fin 4) (node prio tag : Nat)
  | local (t : Fin 5)
  | gone
deriving DecidableEq, Repr

/-- An object request (Table 15-6): source, operation, index, sub-index, the length or requested length, offset and data. -/
structure Req where
  src  : ReqSrc
  op   : Nat
  idx  : Nat
  sub  : Nat
  n    : Nat
  off  : Nat
  data : List (BitVec 8)
deriving DecidableEq, Repr

/-- The dictionary engine beside its registers: the queue (R437), running stepped operations in the order of their next step, with
whether a cancel waits (R443, R445), the handles (by index, R444), values of DOMAIN objects (index × 256 + sub-index), accepted
writes that wait for Truss (R427) and for their MRAM records (R429), the request in progress of each customer server 1-4 (R449),
whether a command READY waits for the stops (R440), when `0x6010:01` was last written (R484), and
whether resident firmware has set the lock bits since the last start (R458), and the bridge start that waits for its path test (R442). -/
structure DictState where
  queue   : List Req
  ops     : List (Nat × Bool)
  handles : RegFile
  dom     : List (Nat × List (BitVec 8))
  truss   : List (Nat × Nat)
  stores  : List (Nat × Nat)
  cust    : Vector (Option Req) 4
  readyAsked : Bool
  tempAt  : Option Nat
  locked  : Bool
  start   : Option Req
  onWake  : List (Nat × Nat) -- accepted values for a domain in retention or off, by object (R452)
deriving DecidableEq, Repr

def DictState.reset : DictState :=
  { queue := [], ops := [], handles := [], dom := [], truss := [], stores := [], cust := .replicate 4 none, readyAsked := false,
    tempAt := none, locked := false, start := none, onWake := [] }

/-! ### Ledger and capture (chapter 17) -/

/-- A store in progress (Table 17-3): the kind of its record (0 running, 1 history, 2 event), its reason, the address it goes to, the first
192 bytes as fixed, and the flags of the interval that it closed. -/
structure LgStore where
  kind   : Nat
  reason : Nat
  addr   : Nat
  body   : List (BitVec 8)
  flags  : Nat
  cal    : List Nat
  calN   : Nat
deriving DecidableEq, Repr

/-- The ledger beside its registers: last voltage, ADCCLK cycle of the last pair, the 96-bit accumulators (import, export,
discharge, charge) and their remainders (R481), gap cycles not yet reported, whether this second was over range, the remainder of the
full cycles and the discharge at the last second (R484), temperature bins, the calibration count
(R488), requested stores (kind, reason), the store in progress, and the slots that the next store writes (false: A). -/
structure LedgerState where
  lastV   : Option Int
  lastN   : Option Nat
  acc     : Vector Nat 4
  rem     : Vector Nat 4
  gap     : Nat
  ovr    : Bool
  efcRem  : Nat
  disAt   : Nat
  bins    : Vector Nat 9
  calN    : Nat
  reqs    : List (Nat × Nat)
  store   : Option LgStore
  slotB   : Bool
  wslotB  : Bool
  epoch   : Int
deriving DecidableEq, Repr

def LedgerState.reset : LedgerState :=
  { lastV := none, lastN := none, acc := .replicate 4 0, rem := .replicate 4 0, gap := 0, ovr := false, efcRem := 0, disAt := 0,
    bins := .replicate 9 0, calN := 0, reqs := [], store := none, slotB := false, wslotB := false, epoch := 0 }

/-- A capture channel beside its registers: samples taken in the present decimation group and their sum (R497), kept samples with the low
timebase word of their arrival (R503), whether samples were lost before the next block, the place of the trigger sample among the
kept ones (R502), blocks written since the trigger block (none before it), and the stored blocks, oldest first (offset, length)
(R500). -/
structure CapChan where
  decN   : Nat
  decSum : Int
  fifo   : List (Int × Nat)
  gap    : Bool
  trigAt : Option Nat
  after  : Option Nat
  blocks : List (Nat × Nat)
deriving DecidableEq, Repr

def CapChan.reset : CapChan :=
  { decN := 0, decSum := 0, fifo := [], gap := false, trigAt := none, after := none, blocks := [] }

/-- The internal state of every block that a reset returns to its start (R74). -/
structure Vol where
  start : StartState
  ana   : AnaState
  pos   : Vector PosState 2
  eng   : Vector EngState 2
  ce    : EngShared
  mod   : Vector ModState 2
  gl    : GateLink
  objs  : RegFile   -- object values in force that no register mirrors (index × 256 + sub-index)
  stopTimed : Vector Bool 2 -- `FCOL` set by a timed-out orderly stop (R352)
  th    : ThermState
  safe  : SafeState
  net   : NetState
  flt   : FltState
  ks    : KsState
  dict  : DictState
  lg    : LedgerState
  cap   : Vector CapChan 8
deriving DecidableEq, Repr

def Vol.reset : Vol :=
  { start := StartState.reset, ana := AnaState.reset, pos := .replicate 2 PosState.reset,
    eng := .replicate 2 EngState.reset, ce := EngShared.reset, mod := .replicate 2 ModState.reset, gl := GateLink.reset,
    objs := [], stopTimed := .replicate 2 false,
    th := ThermState.reset,
    safe := SafeState.reset,
    net := NetState.reset,
    flt := FltState.reset,
    ks := KsState.reset,
    dict := DictState.reset, lg := LedgerState.reset, cap := .replicate 8 CapChan.reset,
  }

/-- What no reset touches: fuses, the contents of the MRAM that the dictionary and the records hold, and the pending
reset of R76. -/
structure NonVol where
  fuses      : Fuses
  devKey     : Bool   -- device key, wrapped, in OTP (created in BLANK → MAKER)
  fwKey      : Option Nat -- the customer firmware key, wrapped, in OTP
  objs       : RegFile -- stored values of MRAM, factory and OTP objects (index × 256 + sub)
  convRecord : Nat     -- failed-converter record 0x4101:02 (R129)
  failovers  : Nat     -- 0x4101:03
  barrier    : Vector Nat 12 -- barrier capacitances recorded in MAKER (R303), 0 none
  wear       : Vector (Vector Nat 32) 12 -- stored wear counters (R298)
  thLatch    : Nat     -- 0x4602:04, the last thermal latch
  faultHist  : List Nat -- 0x4801: the last 16 lines of class 1 or above, newest first
  retired    : Nat     -- 0x4710:01, bits 2:0 (R315)
  lifeDissents : Nat   -- 0x4710:02
  dbgls      : Bool    -- 0x4710:03 (R333)
  dbgCount   : Nat     -- 0x4710:04
  lgCal      : List Nat -- the ledger calibration in force at the last record (R488)
deriving DecidableEq, Repr

def NonVol.reset : NonVol :=
  { fuses := { word1 := .replicate 7 false, word2 := .replicate 7 false, opt := 0, arb := 0, slot0 := 0, slot1 := 0,
               maker := 0, hukGone := false }
    devKey := false, fwKey := none, objs := [], convRecord := 0, failovers := 0,
    barrier := .replicate 12 0, wear := .replicate 12 (.replicate 32 0), thLatch := 0,
    faultHist := [],
    retired := 0, lifeDissents := 0, dbgls := false, dbgCount := 0,
    lgCal := [],
  }

/-- The world at the lands as far as commands have told it (log 4): the supplies that have come into their range since VKA rose, in that order (R60). -/
structure Lands where
  rise     : List Supply
  failN    : Bool          -- PWR_FAIL_N high
  resetPending : List RstCause  -- resets that wait for a fuse word's burn (R76)
deriving DecidableEq, Repr

def Lands.reset : Lands := { rise := [.vio, .vana, .vref, .vcore], failN := true, resetPending := [] }

/-- What the Pier keeps beside its registers (chapter 16): per domain the state it is entering (1 RET, 2 OFF) and from which, whether it is
waking and from what, its save copy (R458); the domains of the wake episode; the BIST outcome over a restart (R476);
FAULT_N held low in shelf after a failed test (R475); whether attempts run on the RC fallback (R465); a shelf asked for and not yet
entered. -/
structure PierState where
  entering : Vector (Option Nat) 9
  enterFrom : Vector Nat 9   -- the state that a domain left for the one it is entering
  waking   : Vector (Option Bool) 9
  saves    : Vector (Option RegFile) 9
  episode  : List (Fin 9)
  bist     : Option Bool
  faultLow : Bool
  rcTried  : Bool
  shutdown : Bool
  dbgSeen  : Bool   -- a lock-step target was halted in this power-on period (R333)
  shelfWake : Bool   -- the start in progress is a wake from shelf (R464)
  served   : Nat     -- bits of the sources that the wake in progress serves
  laterPend : Nat    -- bits of the sources that came after its power switches had closed, for a second wake (R462)
  later    : List (Fin 9) -- the domains of that second wake
  causes   : List Nat -- causes of the attempts of the episode, first first (R465)
  sigFails : Nat     -- failed signature checks since power-on (R95)
deriving DecidableEq, Repr

def PierState.reset : PierState :=
  { entering := .replicate 9 none, enterFrom := .replicate 9 0, waking := .replicate 9 none, saves := .replicate 9 none, episode := [], bist := none,
    faultLow := false, rcTried := false, shutdown := false
    , dbgSeen := false
    , shelfWake := false, served := 0, laterPend := 0, later := [], causes := []
    , sigFails := 0
  }

/-- What became of a DMA channel's transfer: stopped by a bus error (R32), or aborted for a reset span (R359). -/
structure DmaChan where
  err     : Bool
  aborted : Bool
deriving DecidableEq, Repr

/-- The device without its memory and its queue of commands. -/
structure Dev where
  regs     : RegFile
  now      : Nat              -- alignment epochs since the model's start (R23)
  free     : Nat              -- how many open values have been taken (log 2)
  bus      : BusResp
  access   : Option Access    -- the access of the last bus error (R32)
  raised   : List (Nat × Nat) -- fault-line assertions not yet sampled: line, bridges (1 A, 2 B) (R350)
  edges    : List Nat         -- interrupt sources fired and not yet asserted (R343)
  lands    : Lands
  pier     : PierState
  resp     : Resp
  capTrig  : List Nat      -- capture triggers fired and not yet taken, by source code (R502)
  dma      : Vector DmaChan 16
  nv       : NonVol
  vol      : Vol
deriving DecidableEq, Repr

/-- The module: the device, its memory, and the commands that wait, first in, first out. -/
structure State where
  dev     : Dev
  mem     : Mem
  pending : List Instr
deriving DecidableEq, Repr

/-- The device right after a power-on reset: every register at its reset value, `LC.RSTCAUSE.POR` set, and the internal
reset held (R74, R77, R60). -/
def Dev.reset : Dev :=
  { regs := [(Fld.key LC.RSTCAUSE_POR, 1)], now := 0, free := 0, bus := { error := false, data := 0 }, access := none,
    raised := [], edges := [], lands := Lands.reset, pier := PierState.reset, resp := { code := 0, detail := 0, data := 0, len := 0 }, capTrig := [],
    dma := .replicate 16 { err := false, aborted := false },
    nv := NonVol.reset, vol := Vol.reset }

/-- The machine right after reset: no memory cell listed, no command waiting. -/
def State.reset : State := { dev := Dev.reset, mem := [], pending := [] }

end Sys2Proof.Machine
end

