-- ==== Sys2Proof/Machine/Ops.lean ====
section
/-! DEFINITION. The named operations over the register file, the memory, the open values, the fault lines and the
interrupt edges, which every meaning goes through. -/

namespace Sys2Proof

/-! ### Arrays of a fixed length -/

/-- Element i of a fixed-length array. -/
def vget {α : Type} {n : Nat} (v : Vector α n) (i : Fin n) : α := v[i.val]

/-- The array with element i replaced. -/
def vset {α : Type} {n : Nat} (v : Vector α n) (i : Fin n) (x : α) : Vector α n := v.set i.val x i.isLt

namespace Machine

/-! ### The register file -/

/-- The value listed for a key. -/
def rfFind : RegFile → Nat → Option Nat
  | [], _ => none
  | (k, v) :: t, q => if k = q then some v else rfFind t q

/-- The file without a key. -/
def rfErase : RegFile → Nat → RegFile
  | [], _ => []
  | (k, v) :: t, q => if k = q then rfErase t q else (k, v) :: rfErase t q

/-- The file with a key put in its place, keys rising. -/
def rfInsert : RegFile → Nat → Nat → RegFile
  | [], q, x => [(q, x)]
  | (k, v) :: t, q, x => if q < k then (q, x) :: (k, v) :: t else (k, v) :: rfInsert t q x

/-- The file with key q holding x, where d is what an unlisted key holds. -/
def rfSet (rf : RegFile) (q d x : Nat) : RegFile :=
  if x = d then rfErase rf q else rfInsert (rfErase rf q) q x

/-- What key q holds, where d is what an unlisted key holds. -/
def rfGet (rf : RegFile) (q d : Nat) : Nat := (rfFind rf q).getD d

/-- The value of a field (R11). -/
def Dev.get (d : Dev) (f : Fld) : Nat := rfGet d.regs f.key f.rst

/-- The device with a field set by hardware; the value's low bits fit the field (R15). -/
def Dev.set (d : Dev) (f : Fld) (v : Nat) : Dev := { d with regs := rfSet d.regs f.key f.rst (v % 2 ^ f.width) }

/-- Is a one-bit field set? -/
def Dev.bit (d : Dev) (f : Fld) : Bool := decide (d.get f = 1)

/-- Set or clear a one-bit field. -/
def Dev.setBit (d : Dev) (f : Fld) (b : Bool) : Dev := d.set f (b2n b)

/-- A field as a two's-complement number (R15). -/
def Dev.sget (d : Dev) (f : Fld) : Int := toSigned f.width (d.get f)

/-- Set a field to a two's-complement number (R15). -/
def Dev.sset (d : Dev) (f : Fld) (x : Int) : Dev := d.set f (ofSigned f.width x)

/-- Count one more, stopping at the field's largest value. -/
def Dev.countSat (d : Dev) (f : Fld) : Dev :=
  if d.get f + 1 < 2 ^ f.width then d.set f (d.get f + 1) else d

/-- Count one more, wrapping. -/
def Dev.countWrap (d : Dev) (f : Fld) : Dev := d.set f (d.get f + 1)

/-- Count n more, stopping at the field's largest value. -/
def Dev.countBySat (d : Dev) (f : Fld) (n : Nat) : Dev := d.set f (min (d.get f + n) (2 ^ f.width - 1))

/-- Set several fields. -/
def Dev.setAll (d : Dev) : List (Fld × Nat) → Dev
  | [] => d
  | (f, v) :: t => (d.set f v).setAll t

/-- Apply an operation for each element of a list, in order. -/
def Dev.each {α : Type} (d : Dev) : List α → (Dev → α → Dev) → Dev
  | [], _ => d
  | x :: t, f => (f d x).each t f

/-- The fields of a register take their bits of a written word. -/
def Dev.writeFields (d : Dev) (fs : List Fld) (v : Nat) : Dev := d.each fs fun d f => d.set f (v / 2 ^ f.lo)

/-- Apply an operation if a condition holds. -/
def Dev.when (d : Dev) (c : Bool) (f : Dev → Dev) : Dev := if c then f d else d

/-- The registers whose address satisfies p return to their reset values. -/
def Dev.resetRegs (d : Dev) (p : Nat → Bool) : Dev := { d with regs := d.regs.filter fun kv => !p (kv.1 / 32) }

/-! ### Open values -/

/-- An open value of w bits, and the device with the counter of open values advanced (log 2). -/
def Dev.draw (d : Dev) (w : Nat) : Nat × Dev := (Config.freeNat d.free % 2 ^ w, { d with free := d.free + 1 })

/-- An open number between lo and hi (log 2). -/
def Dev.drawBetween (d : Dev) (lo hi : Int) : Int × Dev :=
  (max lo (min hi (Config.freeInt d.free)), { d with free := d.free + 1 })

/-! ### Fault lines, interrupt sources and bus errors -/

/-- Bridge b as a bit of an assertion's bridge mask (1 A, 2 B). -/
def brMask (b : Bridge) : Nat := 2 ^ b.val

/-- An assertion of line l for the bridges of a mask (0: attributed to the module) arrives at the collector (R350). -/
def Dev.assertLine (d : Dev) (l br : Nat) : Dev :=
  if d.raised.contains (l, br) then d else { d with raised := d.raised ++ [(l, br)] }

/-- An edge source fires (R343). -/
def Dev.edge (d : Dev) (i : Nat) : Dev :=
  if d.edges.contains i then d else { d with edges := d.edges ++ [i] }

/-- A capture trigger of source code n fires (R502). -/
def Dev.fireCapture (d : Dev) (n : Nat) : Dev :=
  if d.capTrig.contains n then d else { d with capTrig := d.capTrig ++ [n] }

/-- Is domain p powered and reachable? It is on, or it is on its way into another state and not yet isolated (R33, R456). -/
def Dev.domainUp (d : Dev) (p : Fin 9) : Bool :=
  decide (p = 0) || decide (d.get (PIER.PDCTL_ST p) = 0) ||
    (decide (d.get (PIER.PDCTL_ST p) = 3) && (vget d.pier.entering p).isSome && decide (vget d.pier.enterFrom p = 0))

/-- Is the module out of its internal reset (R60, R74)? -/
def Dev.running (d : Dev) : Bool := decide (d.vol.start.phase ≠ .held)

/-- A block works when the module is out of reset, its power domain is up and its clock runs (R25, R454). -/
def Dev.works (d : Dev) (p clk : Fin 9) : Bool :=
  d.running && d.domainUp p && d.bit (CPM.DOMCTL_ACTIVE clk)

/-- Have the spans been released to host firmware (Table 3-3)? -/
def Dev.spansOut (d : Dev) : Bool := decide (d.vol.start.phase = .ports) || decide (d.vol.start.phase = .complete)

/-- Does the hart of index i of the spans run: its span is released, powered and clocked, neither stopped for a reset nor parked (R318, R320), and the
hart is not one of a split span that the debugger has halted (R334)? -/
def Dev.spanRuns (d : Dev) (sp : Fin 2) (i : Fin 4) : Bool :=
  d.works 2 1 && d.spansOut && (vget d.vol.ks.pending i).isNone && !vget d.vol.ks.halted i && decide (d.get (KS.SPSTAT_MODE sp) ≠ 1) && decide (d.get (KS.SPSTAT_MODE sp) ≠ 2)

/-- Is master m one of the module's masters now? Nothing is one before the internal reset is released; a stopped Truss forwards nothing
(R316); hart 1 of a span is a master of its own only when the span is split (R308, R322). -/
def Dev.masterExists (d : Dev) (m : Master) : Bool :=
  d.running &&
    match m with
    | .truss => decide (d.get KS.TSTAT_MODE ≠ 3)
    | .span0 => d.spanRuns 0 0
    | .span0h1 => d.bit LC.BOOTSTAT_SPLIT0 && d.spanRuns 0 1
    | .span1 => d.spanRuns 1 2
    | .span1h1 => d.bit LC.BOOTSTAT_SPLIT1 && d.spanRuns 1 3
    | _ => true

/-- An access that R32-R35 forbid: nothing changes at the target, the master sees a bus error, the address and the master
are recorded, and the bus-protection line (3) is raised; a DMA channel stops with its error status set. -/
def Dev.busFault (d : Dev) (m : Master) (a : Nat) (w : Bool) : Dev :=
  { d with bus := { error := true, data := 0 }, access := some { addr := a, master := m, write := w },
           dma := match m with | .dma c => vset d.dma c { vget d.dma c with err := true } | _ => d.dma }.assertLine 3 0

/-- An access that is not allowed: forbidden to a master that is there; without one, no access (R308, R316). -/
def Dev.busError (d : Dev) (m : Master) (a : Nat) (w : Bool) : Dev := if d.masterExists m then d.busFault m a w else d

/-- An access that was carried out. -/
def Dev.busOk (d : Dev) (v : Nat) : Dev := { d with bus := { error := false, data := v } }

/-- An accepted object request, with what it returns (R431). -/
def Dev.answer (d : Dev) (data len : Nat) : Dev := { d with resp := { code := 0, detail := 0, data := data, len := len } }

/-- The detail that goes with an abort code: the operating state, the life-cycle state, or a cause given (Table 15-5). -/
def Dev.abortDetail (d : Dev) (code cause : Nat) : Nat :=
  if code = 0x0622 then d.get DE.STAT_OPSTATE else if code = 0x0630 then d.get LC.LCSTATE_STATE else cause

/-- An object request to index i, sub-index s is refused with an abort code of Table 15-5: the answer, the latest abort, and
for 0x0622 the count and the source of state rejections (R431, R433). -/
def Dev.abort (d : Dev) (i s code cause : Nat) : Dev :=
  let det := d.abortDetail code cause
  let d1 := ((((({ d with resp := { code := code, detail := det, data := 0, len := 0 } } : Dev).set DE.LASTAB_INDEX i).set
    DE.LASTAB_SUB s).set DE.LASTCODE_CODE code).set DE.LASTCODE_DETAIL det)
  d1.when (decide (code = 0x0622)) fun d => (d.countSat DE.CNT_STREJ).edge 339

/-! ### Supplies -/

/-- Is a supply within its range (R61)? -/
def Dev.supplyUp (d : Dev) (v : Supply) : Bool := d.lands.rise.contains v

/-- Are all supplies within their ranges, and have they come into them in the order VKA, VIO, VANA, VREF, VCORE (R60)? -/
def Dev.suppliesUp (d : Dev) : Bool := decide (d.lands.rise = [.vio, .vana, .vref, .vcore])

/-- Is a supply supervised (R61)? VREF is awaited (R60, R464) and watched by nothing. -/
def supplyWatched (v : Supply) : Bool := decide (v ≠ .vref)

/-! ### Memory -/

/-- What a byte of memory that nothing has written reads as: erased flash (0xFF), zero elsewhere (log 6). -/
def memDefault (a : Nat) : Byte := if 0x08000000 ≤ a ∧ a ≤ 0x08FFFFFF then 0xFF#8 else 0#8

/-- The byte at an address. -/
def Mem.read : Mem → Nat → Byte
  | [], a => memDefault a
  | (k, b) :: t, a => if k = a then b else Mem.read t a

/-- The list with the byte put at its address. -/
def Mem.insert : Mem → Nat → Byte → Mem
  | [], a, x => [(a, x)]
  | (k, b) :: t, a, x => if a < k then (a, x) :: (k, b) :: t else if a = k then (a, x) :: t else (k, b) :: Mem.insert t a x

/-- The list without an address. -/
def Mem.erase : Mem → Nat → Mem
  | [], _ => []
  | (k, b) :: t, a => if k = a then t else (k, b) :: Mem.erase t a

/-- Write one byte, keeping the canonical form. -/
def Mem.write (m : Mem) (a : Nat) (x : Byte) : Mem := if x = memDefault a then m.erase a else m.insert a x

/-- Write bytes at rising addresses. -/
def Mem.writeBytes (m : Mem) (a : Nat) : List Byte → Mem
  | [] => m
  | x :: t => (m.write a x).writeBytes (a + 1) t

/-- n bytes of a number, least significant first (R9). -/
def leBytes : Nat → Nat → List Byte
  | 0, _ => []
  | n + 1, v => BitVec.ofNat 8 v :: leBytes n (v / 256)

/-- Write an n-byte little-endian number. -/
def Mem.writeLE (m : Mem) (a n v : Nat) : Mem := m.writeBytes a (leBytes n v)

/-- Write a 32-bit word. -/
def Mem.writeWord (m : Mem) (a v : Nat) : Mem := m.writeLE a 4 v

/-- Read n bytes from an address. -/
def Mem.readBytes (m : Mem) (a : Nat) : Nat → List Byte
  | 0 => []
  | n + 1 => m.read a :: m.readBytes (a + 1) n

/-- The number that bytes spell, least significant first. -/
def ofLeBytes : List Byte → Nat
  | [] => 0
  | b :: t => b.toNat + 256 * ofLeBytes t

/-- Read an n-byte little-endian number. -/
def Mem.readLE (m : Mem) (a n : Nat) : Nat := ofLeBytes (m.readBytes a n)

/-- The bytes from lo up to, not including, hi return to what unwritten memory reads as. -/
def Mem.clearRange (m : Mem) (lo hi : Nat) : Mem := m.filter fun c => !(decide (lo ≤ c.1) && decide (c.1 < hi))

/-- Addresses strictly rising, and every one above `lo`. -/
def Mem.risingFrom : Nat → Mem → Bool
  | _, [] => true
  | lo, (k, _) :: t => decide (lo ≤ k) && Mem.risingFrom (k + 1) t

/-- The canonical form: addresses strictly rising, and no entry equal to what an unlisted address reads as. -/
def Mem.wf (m : Mem) : Bool := Mem.risingFrom 0 m && m.all fun c => decide (c.2 ≠ memDefault c.1)

/-! ### Lifting to the whole state -/

/-- A command that leaves the memory alone. -/
def State.lift (s : State) (f : Dev → Dev) : Host.Outcome State Fault Refusal := .next { s with dev := f s.dev }

/-- A command that reads or writes the memory. -/
def State.liftMem (s : State) (f : Dev → Mem → Dev × Mem) : Host.Outcome State Fault Refusal :=
  .next { s with dev := (f s.dev s.mem).1, mem := (f s.dev s.mem).2 }

end Machine
end Sys2Proof
end

