-- ==== Sys2Proof/Machine/Fixed.lean ====
section
/-! DEFINITION. Fixed-point arithmetic: rounding (R507), saturation (R174), sine and cosine (R136), arctangent (R148),
square root and logarithm. Values are integers with an agreed number of fraction bits. -/

namespace Sys2Proof.Machine

/-- x / y rounded to the nearest integer, an exact tie away from zero (R507); 0 where y is 0. -/
def roundDiv (x : Int) (y : Nat) : Int :=
  if y = 0 then 0 else if 0 ≤ x then (2 * x + y) / (2 * y) else -((2 * -x + y) / (2 * y))

/-- x / y for signed y, rounded as `roundDiv`. -/
def roundDivI (x y : Int) : Int := if 0 ≤ y then roundDiv x y.toNat else roundDiv (-x) (-y).toNat

/-- x kept between lo and hi. -/
def clampInt (lo hi x : Int) : Int := max lo (min hi x)

/-- Saturation at the bounds of an n-bit two's-complement format (R174). -/
def satBits (n : Nat) (x : Int) : Int := clampInt (-((2 ^ (n - 1) : Nat) : Int)) (((2 ^ (n - 1) : Nat) : Int) - 1) x

/-- Saturation at the bounds of a 32-bit format such as Q4.28, Q8.24 or Q16.16 (R174). -/
def sat32 (x : Int) : Int := satBits 32 x

/-- The product of two values with f fraction bits to be dropped from it, rounded (R507). -/
def mulQ (f : Nat) (a b : Int) : Int := roundDiv (a * b) (2 ^ f)

/-- One in Q4.28. -/
def one28 : Int := 268435456

/-- Integer square root, rounded down: `fuel` bits of the root are tried from the highest. -/
def isqrtFrom : Nat → Nat → Nat → Nat
  | 0, _, r => r
  | f + 1, n, r => if (r + 2 ^ f) * (r + 2 ^ f) ≤ n then isqrtFrom f n (r + 2 ^ f) else isqrtFrom f n r

/-- Square root of a number below 2^160, rounded down. -/
def isqrt (n : Nat) : Nat := isqrtFrom 80 n 0

/-- Square root rounded to the nearest integer (R507; the root of an integer is never a tie). -/
def isqrtNear (n : Nat) : Nat := if isqrt n * isqrt n + isqrt n < n then isqrt n + 1 else isqrt n

/-- The angles atan(2^-i) in 2^-32 turns, i = 0, 1, ... -/
def cordicAngles : List Int := [536870912, 316933406, 167458907, 85004756, 42667331, 21354465, 10679838, 5340245, 2670163, 1335087, 667544, 333772, 166886, 83443, 41722, 20861, 10430, 5215, 2608, 1304, 652, 326, 163, 81, 41, 20, 10, 5]

/-- CORDIC rotation: from (x, y) by the angle z, the i-th step first. -/
def cordicRotate : List Int → Nat → Int → Int → Int → Int × Int
  | [], _, x, y, _ => (x, y)
  | a :: t, i, x, y, z =>
    if 0 ≤ z then cordicRotate t (i + 1) (x - y / 2 ^ i) (y + x / 2 ^ i) (z - a)
    else cordicRotate t (i + 1) (x + y / 2 ^ i) (y - x / 2 ^ i) (z + a)

/-- CORDIC vectoring: the angle of (x, y), x ≥ 0, added to z. -/
def cordicVector : List Int → Nat → Int → Int → Int → Int
  | [], _, _, _, z => z
  | a :: t, i, x, y, z =>
    if y < 0 then cordicVector t (i + 1) (x - y / 2 ^ i) (y + x / 2 ^ i) (z - a)
    else cordicVector t (i + 1) (x + y / 2 ^ i) (y - x / 2 ^ i) (z + a)

/-- Cosine and sine with 30 fraction bits of an angle in 2^-32 turns. -/
def cosSin30 (a : Nat) : Int × Int :=
  let z : Int := toSigned 32 a
  if z > 1073741824 then
    let r := cordicRotate cordicAngles 0 652032874 0 (z - 2147483648); (-r.1, -r.2)
  else if z < -1073741824 then
    let r := cordicRotate cordicAngles 0 652032874 0 (z + 2147483648); (-r.1, -r.2)
  else cordicRotate cordicAngles 0 652032874 0 z

/-- The angles atan(2^-i) in 2^-64 turns, i = 0, 1, ... -/
def cordicAngles64 : List Int :=
  [2305843009213693952, 1361218612134873190, 719230530580881038, 365092647525521947, 183254791493294829, 91716730292036216, 45869556482713130,
   22936177926750895, 11468263948075831, 5734153847876408, 2867079658191483, 1433540170878135, 716770128161890, 358385069421298, 179192535378193,
   89596267772540, 44798133896700, 22399066949654, 11199533474990, 5599766737515] ++
  [2799883368760, 1399941684380, 699970842190, 349985421095, 174992710548, 87496355274, 43748177637, 21874088818, 10937044409, 5468522205,
   2734261102, 1367130551, 683565276, 341782638, 170891319, 85445659, 42722830, 21361415, 10680707, 5340354] ++
  [2670177, 1335088, 667544, 333772, 166886, 83443, 41722, 20861, 10430, 5215, 2608, 1304, 652, 326, 163, 81, 41, 20, 10, 5, 3, 1]

/-- Cosine and sine with 60 fraction bits of an angle in 2^-32 turns: exact at the quarter turns, elsewhere with an error far below 2^-40. -/
def cosSin60 (a : Nat) : Int × Int :=
  let rot := cordicRotate cordicAngles64 0 700114967507363238 0
  match a % 4294967296 / 1073741824, a % 1073741824 with
  | 0, 0 => (2 ^ 60, 0)
  | 1, 0 => (0, 2 ^ 60)
  | 2, 0 => (-(2 ^ 60), 0)
  | 3, 0 => (0, -(2 ^ 60))
  | _, _ =>
    let z : Int := toSigned 32 a
    if z > 1073741824 then (-(rot ((z - 2147483648) * 4294967296)).1, -(rot ((z - 2147483648) * 4294967296)).2)
    else if z < -1073741824 then (-(rot ((z + 2147483648) * 4294967296)).1, -(rot ((z + 2147483648) * 4294967296)).2)
    else rot (z * 4294967296)

/-- The least and the greatest multiple of n at most b away from x, in units of n. -/
def bandAround (x b : Int) (n : Nat) : Int × Int := (-((b - x) / n), (x + b) / n)

/-- The open value z between two bounds. -/
def openIn (r : Int × Int) (z : Int) : Int := clampInt r.1 r.2 z

/-- Cosine and sine in Q1.23 of an angle in 2^-32 turns: the spec bounds their error by 2^-20 and does not state them (R136), so that each is
an open value no further from the true one (log 7). -/
def cosSinOpen (ang : Nat) (z1 z2 : Int) : Int × Int :=
  let r := cosSin60 ang
  let q := fun x z => clampInt (-8388608) 8388607 (openIn (bandAround x (2 ^ 40) (2 ^ 37)) z)
  (q r.1 z1, q r.2 z2)

/-- The angle of (x, y), not the zero vector, in 2^-64 turns, 0 to 2^64: exact at the eighths of a turn, elsewhere with an error far below
2^-40 turns. -/
def atanTurns (y x : Int) : Int :=
  if x.natAbs = y.natAbs then (if 0 < x then (if 0 < y then 2 ^ 61 else 7 * 2 ^ 61) else if 0 < y then 3 * 2 ^ 61 else 5 * 2 ^ 61)
  else if y = 0 then (if 0 < x then 0 else 2 ^ 63)
  else if x = 0 then (if 0 < y then 2 ^ 62 else 3 * 2 ^ 62)
  else if 0 < x then cordicVector cordicAngles64 0 (x * 2 ^ 62) (y * 2 ^ 62) 0
  else cordicVector cordicAngles64 0 (-x * 2 ^ 62) (-y * 2 ^ 62) (2 ^ 63)

/-- The 22-bit angles at most 2^-20 turn (4 LSB) away from that of (x, y), before they are taken modulo a turn (R148; log 7); of the zero vector,
which has none, every angle. -/
def atanBand (y x : Int) : Int × Int :=
  if x = 0 ∧ y = 0 then (0, 4194303) else bandAround (atanTurns y x) (2 ^ 44) (2 ^ 42)

/-- The angle of (x, y) as a 22-bit angle, an open value of its band. -/
def Dev.atan2 (d : Dev) (y x : Int) : Nat × Dev :=
  let e := d.drawBetween (atanBand y x).1 (atanBand y x).2
  (ofSigned 22 e.1, e.2)

/-- The shortest signed distance from angle b to angle a, 22 bits. -/
def angDiff (a b : Nat) : Int := toSigned 22 (a + 4194304 - b % 4194304)

end Sys2Proof.Machine
end

