-- ==== Sys2Proof/Machine/Access.lean ====
section
/-! DEFINITION. The address map and who may reach it (R17, R31-R35), the power domain and the clock behind each window
(Tables 1-1, 1-3, 16-1), and when a bridge is active. -/

namespace Sys2Proof.Machine

/-- The power domain of a peripheral window (Tables 1-1 and 16-1); the Pier registers of the CPM window are always on. -/
def windowDomain (a : Nat) : Option (Fin 9) :=
  match a / 0x10000 with
  | 0x4000 => if 0x40000800 ≤ a ∧ a < 0x400008A0 then some 0 else some 1
  | 0x4001 | 0x4002 | 0x4003 | 0x4004 | 0x4070 | 0x4090 | 0x40B0 => some 1
  | 0x4010 | 0x4011 => some 3
  | 0x4020 | 0x4021 | 0x4030 | 0x4040 | 0x4041 | 0x40A0 => some 4
  | 0x4050 => some 5
  | 0x4060 => some 6
  | 0x4080 | 0x4081 | 0x4082 | 0x4083 | 0x40C0 => some 7
  | 0x40A1 => some 8
  | _ => none

/-- A memory region of Table 1-5: its bounds, its power domain, and who reads and who writes it. -/
structure Region where
  base  : Nat
  last  : Nat
  dom   : Fin 9
  read  : Master → Bool
  write : Master → Bool

/-- Masters by name: T Truss, S a span or a hart of a split span, D DMA, E the dictionary engine. -/
def mset (t s d e : Bool) : Master → Bool
  | .truss => t
  | .dict => e
  | .dma _ => d
  | _ => s

/-- Table 1-5. -/
def regions : List Region := [
  ⟨0x00000000, 0x0000FFFF, 1, mset true true false false, mset false false false false⟩,
  ⟨0x08000000, 0x087FFFFF, 1, mset true true true true, mset false false false false⟩,
  ⟨0x08800000, 0x08FFFFFF, 1, mset true true true true, mset false false false false⟩,
  ⟨0x10000000, 0x101DFFFF, 1, mset true true true true, mset true true true false⟩,
  ⟨0x101E0000, 0x101EFFFF, 1, mset true true false true, mset false false false true⟩,
  ⟨0x101F0000, 0x101FFFFF, 1, mset true true true true, mset false false false false⟩,
  ⟨0x20000000, 0x201FFFFF, 2, mset true true true true, mset false true true true⟩,
  ⟨0x21000000, 0x210BFFFF, 1, mset true false false false, mset true false false false⟩,
  ⟨0x22000000, 0x2203BFFF, 4, mset true true true true, mset false false false false⟩,
  ⟨0x2203C000, 0x2203FFFF, 4, mset true true true true, mset false false false false⟩,
  ⟨0x23000000, 0x230BFFFF, 8, mset true true true true, mset false false false false⟩,
  ⟨0x24000000, 0x2403FFFF, 7, mset true true true true, mset true true true true⟩,
  ⟨0x30000000, 0x30000FFF, 0, mset true true false false, mset true false false false⟩ ]

/-- The region of an address. -/
def regionOf (a : Nat) : Option Region := regions.find? fun r => decide (r.base ≤ a) && decide (a ≤ r.last)

/-- Is m a span or a hart of a split span? -/
def isSpan : Master → Bool
  | .span0 | .span0h1 | .span1 | .span1h1 => true
  | _ => false

/-- Is m a DMA channel? -/
def isDma : Master → Bool
  | .dma _ => true
  | _ => false

/-- Truss or the dictionary engine. -/
def isTrussOrDict : Master → Bool
  | .truss | .dict => true
  | _ => false

/-- The windows and registers that Truss alone writes: safety I/O, the reaction classes, `FNEN` and `STOPCFG` of the
collector (R35, R360), the Keystone window (R336), `LC.SWRST` (R75) (R75). -/
def trussOnly (a : Nat) : Bool :=
  decide (a / 0x10000 = 0x4070) || decide (a / 0x10000 = 0x4004) ||
  (decide (0x40030040 ≤ a) && decide (a < 0x40030060)) ||
  (decide (0x40030030 ≤ a) && decide (a < 0x40030038)) || decide (a = 0x40030070) ||
  decide (a = 0x40010010)

/-- A field that the chapters make read-only in some of its instances: the limits of loop 5 (Table 6-9), `SKIP` of the domains
and `THROT` of those that R26 does not throttle (Table 1-3), `TICKEN` of targets 0-4 (Table 12-2), `MODE` and `FILT` of wake sources 5-9 (Table 16-12),
`FNEN` of lines 8, 12, 45 and 63 (R355), the function of the STO pins and the pair bit of odd safety inputs (Table 13-5). -/
def fieldFixed (f : Fld) : Bool :=
  ([0, 1].any fun b => decide (f = CE.LPARP_LPARP b 5) || decide (f = CE.LPARN_LPARN b 5)) ||
  ([5, 6, 7, 8, 9].any fun s => decide (f = PIER.WCFG_MODE s) || decide (f = PIER.WCFG_FILT s)) ||
  ([0, 2, 3, 4, 5, 6, 8].any fun n => decide (f = CPM.DOMCTL_THROT n)) ||
  ([0, 1, 2, 3, 5, 6, 7].any fun n => decide (f = CPM.DOMCTL_SKIP n)) ||
  ([0, 1, 2, 3, 4].any fun t => decide (f = INTC.THR_TICKEN t)) ||
  ([8, 12, 45, 63].any fun l => decide (f = FCOL.FNEN_L l)) ||
  ([0, 1].any fun i => decide (f = SIO.INCFG_FUNC i)) || ([3, 5, 7, 9].any fun i => decide (f = SIO.INCFG_PAIR i))

end Sys2Proof.Machine
end

