-- ==== Sys2Proof/Machine/System.lean ====
section
/-! DEFINITION. The commands of chapter 01: forbidden accesses, ownership, clock gating, throttle and the root monitor. -/

namespace Sys2Proof.Machine

/-! ### Bridges -/

/-- Is bridge b active: its role is not OFF (4-7 act as OFF, Table 6-1), or any of its gate channels is enabled (text of Table 1-3)? -/
def Dev.bridgeActive (d : Dev) (b : Bridge) : Bool :=
  (decide (1 ≤ d.get (CE.BCFG_ROLE b)) && decide (d.get (CE.BCFG_ROLE b) ≤ 3)) || [0, 1, 2, 3, 4, 5].any fun k => d.bit (GL.CHCFG_EN (6 * b + k))

/-- Is either bridge active? -/
def Dev.anyBridgeActive (d : Dev) : Bool := d.bridgeActive 0 || d.bridgeActive 1

/-! ### Accesses that are turned away -/

/-- May master m make the access now (R31-R35)? Peripheral windows: DMA reads the queue and capture windows only and writes
none; the Truss-only registers are written by Truss only. -/
def Dev.accessAllowed (d : Dev) (m : Master) (a : Nat) (w : Bool) : Bool :=
  d.masterExists m &&
  match windowDomain a with
  | some p =>
    d.domainUp p &&
    (match m with
     | .dma _ => !w && (decide (a / 0x10000 = 0x4011) || decide (a / 0x10000 = 0x40A1))
     | .truss => true
     | _ => !(w && trussOnly a))
  | none =>
    match regionOf a with
    | some r => d.domainUp r.dom && (if w then r.write m else r.read m)
    | none => false

/-- UNMAPPED_ACCESS (R32-R35). An access that the map does not allow gives a bus error; one that it allows is not this
command and changes nothing (log 8). -/
def execUnmappedAccess (m : Master) (a : Word) (write : Bool) (s : State) : Host.Outcome State Fault Refusal :=
  s.lift fun d => if d.accessAllowed m a.toNat write then d else d.busError m a.toNat write

/-! ### Ownership -/

/-- The code of a master in `REQBY` (Table 1-7). -/
def reqbyCode : Master → Nat
  | .truss => 1 | .dict => 2 | .span0 => 3 | .span0h1 => 4 | .span1 => 5 | .span1h1 => 6 | .dma _ => 7

/-- May master m claim for function ID f (Table 1-8)? A split span's harts have half of its range each. -/
def Dev.mayClaimId (d : Dev) (m : Master) (f : Nat) : Bool :=
  match m with
  | .truss => decide (1 ≤ f) && decide (f ≤ 0x0D) && decide (f ≠ 0x0A)
  | .dict => (decide (0x03 ≤ f) && decide (f ≤ 0x0A)) || decide (f = 0x0D) || (decide (0x20 ≤ f) && decide (f ≤ 0x3F))
  | .span0 => decide (0x40 ≤ f) && decide (f ≤ if d.bit LC.BOOTSTAT_SPLIT0 then 0x5F else 0x7F)
  | .span0h1 => d.bit LC.BOOTSTAT_SPLIT0 && decide (0x60 ≤ f) && decide (f ≤ 0x7F)
  | .span1 => decide (0x80 ≤ f) && decide (f ≤ if d.bit LC.BOOTSTAT_SPLIT1 then 0x9F else 0xBF)
  | .span1h1 => d.bit LC.BOOTSTAT_SPLIT1 && decide (0xA0 ≤ f) && decide (f ≤ 0xBF)
  | .dma _ => false

/-- May master m write registers of the ownership page pg now (R33, R35)? -/
def Dev.pageWritable (d : Dev) (m : Master) (pg : Nat) : Bool := d.accessAllowed m (pageBase pg) true

/-- A write of REQ by master m that R38 allows or turns away. -/
def Dev.reqWrite (d : Dev) (m : Master) (pg i id : Nat) : Dev :=
  if !d.pageWritable m pg then d.busError m (pageBase pg + 4 * i) true
  else if !ownerExists pg i then d.busOk 0
  else if id = 0 || d.mayClaimId m id then
    ((d.set (OWN.R_REQ pg i) id).set (OWN.R_REQBY pg i) (reqbyCode m)).busOk 0
  else d.busError m (pageBase pg + 4 * i) true

/-- OWNER_REQ_WRITE (R37, R38). -/
def execOwnerReqWrite (m : Master) (pg : Page) (i : Fin 32) (id : BitVec 8) (s : State) :
    Host.Outcome State Fault Refusal :=
  s.lift fun d => d.reqWrite m pg i id.toNat

/-- The resources of a page whose request the commit of master m carries: `REQ` differs from `OWNER` and `REQBY` names m
(R39). -/
def Dev.commitSet (d : Dev) (m : Master) (pg : Nat) : List Nat :=
  (List.range 32).filter fun i => ownerExists pg i && decide (d.get (OWN.R_REQ pg i) ≠ d.get (OWN.R_OWNER pg i)) &&
    decide (d.get (OWN.R_REQBY pg i) = reqbyCode m)

/-- Does the claim or release on resource i succeed (R39)? -/
def Dev.claimOk (d : Dev) (m : Master) (pg i : Nat) : Bool :=
  decide (d.get (OWN.R_OWNER pg i) = 0) ||
    (decide (d.get (OWN.R_REQ pg i) = 0) && d.mayClaimId m (d.get (OWN.R_OWNER pg i)))

/-- The fields of `AS.SLCFGs` (Table 4-6). -/
def slcfgFields (s : Nat) : List Fld :=
  [AS.SLCFG_ORFL s, AS.SLCFG_CMSEL s, AS.SLCFG_Q3 s, AS.SLCFG_Q2 s, AS.SLCFG_Q1 s, AS.SLCFG_Q0 s, AS.SLCFG_SMASK s,
   AS.SLCFG_TMASK s, AS.SLCFG_MODE s]

/-- Is one of the emulation pins owned by the function of position block p (R160)? -/
def Dev.emuPinOf (d : Dev) (p : Fin 2) : Bool := [0, 1, 2].any fun i => decide (d.get (OWN.R_OWNER 0 i) = 8 + p.val)

/-! ### The LIMP_CMD pin -/

/-- Is the module in SECOND_LIFE (Table 3-10)? -/
def Dev.secondLife (d : Dev) : Bool := decide (d.get LC.LCSTATE_STATE = 4)

/-- Does function 0x07 own the pin (R250)? -/
def Dev.limpOwned (d : Dev) : Bool := decide (d.get (OWN.R_OWNER 0 3) = 7)

/-- Does bridge b take its command from the pin: by `CMDSRC` or by a timeout (R252)? -/
def Dev.limpDriven (d : Dev) (b : Fin 2) : Bool :=
  (decide (d.get (CE.BCFG_CMDSRC b) = 1) && !d.secondLife) || d.bit (if b = 0 then CE.LIMPST_ACTA else CE.LIMPST_ACTB)

/-- The measurement is invalid, or none is made because another function owns the pin (R250, R251): `VALID` and `LVAL` fall, `LIMPFLT` is set, and
the limp-input line (29) is raised for each bridge that the pin commands. -/
def Dev.limpInvalid (d : Dev) : Dev :=
  let d1 := (({ d with vol := { d.vol with ce := { d.vol.ce with limp := [], limpFrom := none } } }.set CE.LIMPST_VALID 0).set
    CE.LIMPVAL_LVAL 0).set CE.LIMPST_LIMPFLT 1
  (d1.when (d.limpDriven 0) fun d => d.assertLine 29 1).when (d.limpDriven 1) fun d => d.assertLine 29 2

/-- What follows a change of owner: `AS.SLCFGs` returns to its reset value (R109); an emulator that has lost its pins forgets its output
(R160); LIMP_CMD in other hands has no valid value (R250). -/
def Dev.ownerChanged (d : Dev) (pg i : Nat) : Dev :=
  if pg = 1 then d.each (slcfgFields i) fun d f => d.set f f.rst
  else if pg = 0 ∧ i ≤ 2 then
    let pos : Vector PosState 2 := .ofFn fun p => if d.emuPinOf p then vget d.vol.pos p else { vget d.vol.pos p with emu := none }
    { d with vol := { d.vol with pos := pos } }
  else if pg = 0 ∧ i = 3 ∧ d.limpOwned = false ∧ d.works 4 3 = true then d.limpInvalid
  else d

/-- A committed resource takes its new owner, and its request is closed (R40). -/
def Dev.commitOne (d : Dev) (pg i : Nat) : Dev :=
  ((d.set (OWN.R_OWNER pg i) (d.get (OWN.R_REQ pg i))).set (OWN.R_REQBY pg i) 0).ownerChanged pg i

/-- A failed resource is flagged (R40). -/
def Dev.commitFail (d : Dev) (pg i : Nat) : Dev :=
  (d.set (OWN.R_CONFLICT pg i) 1).set (OWN.R_CONFL_BY pg i) (d.get (OWN.R_REQ pg i))

/-- A request of a failed commit is closed: `REQ` returns to `OWNER`, `REQBY` to 0 (R40). -/
def Dev.commitClose (d : Dev) (pg i : Nat) : Dev :=
  (d.set (OWN.R_REQ pg i) (d.get (OWN.R_OWNER pg i))).set (OWN.R_REQBY pg i) 0

/-- The resources that fail a commit of master m (R39). -/
def Dev.commitFailing (d : Dev) (m : Master) (pg : Nat) : List Nat :=
  (d.commitSet m pg).filter fun i => !d.claimOk m pg i

/-- A page commit: all of its claims or none (R39, R40). -/
def Dev.commitPage (d : Dev) (m : Master) (pg : Nat) : Dev :=
  if (d.commitFailing m pg).isEmpty then
    (d.each (d.commitSet m pg) fun d i => d.commitOne pg i).set (OWN.CMT_NCONF pg) 0
  else
    ((d.each (d.commitFailing m pg) fun d' i => d'.commitFail pg i).each (d.commitSet m pg)
      fun d' i => d'.commitClose pg i).set (OWN.CMT_NCONF pg) (d.commitFailing m pg).length

/-- OWNERSHIP_COMMIT (R39-R41). -/
def execOwnershipCommit (m : Master) (pg : Page) (s : State) : Host.Outcome State Fault Refusal :=
  s.lift fun d =>
    if d.pageWritable m pg then (d.commitPage m pg).busOk 0 else d.busError m (pageBase pg + 0xFFC) true

/-! ### Clocks -/

/-- Does NETCLK run: the NETWORK domain is up and its clock is not gated? -/
def Dev.netclkRuns (d : Dev) : Bool := d.works 7 7

/-- The Pier latches the timebase T0 and the keep-alive count K0 at one KACLK edge (R468), in the Pier area of the retention
memory (Table 16-5). -/
def latchTime (d : Dev) (mem : Mem) : Mem :=
  (mem.writeLE 0x30000040 8 (d.get TB.CNT_W)).writeLE 0x30000048 8 (d.get PIER.KACNT_W)

/-- The SRAM of a domain that loses its power without an entry, and its directory word: OFF is its state, and the copy of SPAN or NETWORK, or of a
domain without a save area, is none (R458, R459). -/
def offWord (mem : Mem) (p : Fin 9) : Mem :=
  let a := 0x30000000 + 4 * (p.val - 1)
  let e := mem.readLE a 4
  mem.writeWord a (if p = 1 ∨ p = 2 ∨ p = 7 then 0x200 else e / 1024 * 1024 + 0x200 + e % 256)

/-- The timebase is corrected by the keep-alive gap when NETCLK runs again (R468). -/
def Dev.loadTime (d : Dev) (mem : Mem) : Dev :=
  let gap := (d.get PIER.KACNT_W + 2 ^ 64 - mem.readLE 0x30000048 8) % 2 ^ 64
  let n := gap * 78125 + d.get PIER.TSTAT_TFRAC
  ((((d.set TB.CNT_W (mem.readLE 0x30000040 8 + n / 16)).set PIER.TSTAT_TFRAC (n % 16)).set PIER.GAP_W gap).set PIER.TSTAT_TIMEGAP 1)

/-- The correction with its source 382. -/
def Dev.correctTime (d : Dev) (mem : Mem) : Dev := (d.loadTime mem).edge 382

/-- The power domain of a clock domain (Table 16-1). -/
def clockDomain (n : Fin 9) : Fin 9 :=
  match n with
  | 0 | 3 => 4 | 1 => 2 | 2 | 4 => 1 | 5 => 3 | 6 => 5 | 7 => 7 | _ => 6

/-- DOMAIN_GATE_WRITE (R27): TRUSSCLK and FABCLK are never gated; PWMCLK, CECLK, ADCCLK and GLCLK not while a bridge is
active. Gating NETCLK latches the time, ungating it corrects the timebase (R468). -/
def execDomainGateWrite (m : Master) (n : Fin 9) (v : Bool) (s : State) : Host.Outcome State Fault Refusal :=
  s.liftMem fun d mem =>
    if !d.accessAllowed m (0x40000100 + 4 * n) true then (d.busError m (0x40000100 + 4 * n) true, mem)
    else if n = 2 ∨ n = 4 then (d.busOk 0, mem)
    else if v && (decide (n = 0) || decide (n = 3) || decide (n = 5) || decide (n = 6)) && d.anyBridgeActive then
      ((d.set (CPM.DOMCTL_REFUSED n) 1).busOk 0, mem)
    else
      let d' := ((d.setBit (CPM.DOMCTL_GATE n) v).setBit (CPM.DOMCTL_ACTIVE n) (!v && d.domainUp (clockDomain n))).busOk 0
      if d.netclkRuns && !d'.netclkRuns then (d', latchTime d mem)
      else if !d.netclkRuns && d'.netclkRuns then (d'.correctTime mem, mem)
      else (d', mem)

/-- THROTTLE_CHANGE (R26, R300): at an alignment epoch the code in force of APPCLK or NETCLK becomes the larger of `THROT`
and the thermal request; interrupt source 377 on a change. The other domains are not throttled (R28, Table 1-3). -/
def execThrottleChange (n : Fin 9) (s : State) : Host.Outcome State Fault Refusal :=
  s.lift fun d =>
    if n = 1 ∨ n = 7 then
      if d.get (CPM.DOMCTL_EFF_THROT n) = max (d.get (CPM.DOMCTL_THROT n)) (d.get TH.DIE_THROT) then d
      else (d.set (CPM.DOMCTL_EFF_THROT n) (max (d.get (CPM.DOMCTL_THROT n)) (d.get TH.DIE_THROT))).edge 377
    else d

/-- The division that a throttle code selects (R26). -/
def throttleDivision (code : Nat) : Nat :=
  match code with
  | 0 => 1 | 1 => 2 | 2 => 4 | 3 => 5 | 4 => 8 | _ => 10

/-- Is the root monitor armed (Table 3-3): since the clocks of this start switched to the root? -/
def Dev.monitorArmed (d : Dev) : Bool := decide (d.vol.start.phase ≠ .held) && decide (d.vol.start.phase ≠ .rc)

end Sys2Proof.Machine
end

