-- ==== Sys2Proof/Machine/Analog.lean ====
section
/-! DEFINITION. Chapter 04: results and their entries, the result queues, slice configuration and triggers, background
calibration, failover and the spare chain. (RESULT_PRESENTED, which also reaches the band unit, the ledger, capture and
the thermal sums, is put together in Result.lean.) -/

namespace Sys2Proof.Machine

/-- Change the analogue-sensing state. -/
def Dev.modAna (d : Dev) (f : AnaState → AnaState) : Dev := { d with vol := { d.vol with ana := f d.vol.ana } }

/-- Does analogue sensing work: domain up, ADCCLK running? -/
def Dev.anaWorks (d : Dev) : Bool := d.works 3 5

/-! ### Results and entries -/

/-- The 16-bit code of a differential voltage against VREF (R105). -/
def convCode (v : Int) (vref : Nat) : Int := clampInt (-32768) 32767 (roundDiv (v * 32768) vref)

/-- The over-range flag (R106): certainly set beyond 102.5 % of full scale, certainly clear up to 101.5 %, and open between
(the comparator's threshold is 102 % ± 0.5 %). -/
def Dev.overRange (d : Dev) (v : Int) (vref : Nat) : Bool × Dev :=
  if 1000 * v.natAbs > 1025 * vref then (true, d)
  else if 1000 * v.natAbs ≤ 1015 * vref then (false, d)
  else (decide ((d.draw 1).1 = 1), (d.draw 1).2)

/-- The code of the check source at a level of `AS.CTL.CHKLVL` (Table 4-3). -/
def checkCode (lvl : Nat) : Int := match lvl with | 1 => 16384 | 2 => -16384 | 3 => 31130 | _ => 0

/-- The code that an entry carries: with the over-range flag, an end of the range (R106). -/
def entryCode (v : Int) (vref : Nat) (ovr : Bool) : Int :=
  if ovr then (if v < 0 then -32768 else 32767) else convCode v vref

/-- The queue that input i of slice k is routed to (`Qi`, Table 4-6). -/
def Dev.queueOf (d : Dev) (k i : Nat) : Nat :=
  match i with
  | 0 => d.get (AS.SLCFG_Q0 k) | 1 => d.get (AS.SLCFG_Q1 k) | 2 => d.get (AS.SLCFG_Q2 k) | _ => d.get (AS.SLCFG_Q3 k)

/-- An entry in the format of Table 4-9. -/
def mkEntry (k i : Nat) (ovr subst : Bool) (seq : Nat) (code : Int) : Nat :=
  k * 2 ^ 27 + i * 2 ^ 25 + b2n ovr * 2 ^ 24 + b2n subst * 2 ^ 23 + seq % 128 * 2 ^ 16 + ofSigned 16 code

/-- The inputs of a mask, ascending. -/
def maskInputs (m : Nat) : List Nat := [0, 1, 2, 3].filter fun i => natBit m i

/-- The next input after i that a mask enables, wrapping to its lowest (R111). -/
def nextInput (m i : Nat) : Nat :=
  match (maskInputs m).find? fun j => decide (i < j) with
  | some j => j
  | none => (maskInputs m).headD 0

/-- Is input i the one whose result comes next (R108, R111, R113, R114)? After a failure it is any that the scan still has to convert: how many
of its results are missing the failure does not say (R125). -/
def SliceScan.expects (c : SliceScan) (i : Nat) : Bool :=
  decide (c.late = some i) ||
  (if c.gap then c.todo.contains i || (decide (c.mode = 2) && natBit c.smask i)
   else match c.todo with
     | t :: _ => decide (t = i)
     | [] => decide (c.mode = 2) && decide (c.cur = i) && natBit c.smask i)

/-- The triggered inputs that are left; after the last one the continuous scan resumes (R114). -/
def SliceScan.left (c : SliceScan) (rest : List Nat) : SliceScan :=
  if rest.isEmpty then { c with todo := [], cur := c.resume.getD c.cur, resume := none, gap := false }
  else { c with todo := rest, gap := false }

/-- The scan after the result of input i: a triggered input is done, or the continuous scan goes on (R111, R114). The result of a
conversion that was complete at the trigger comes before those of its set. -/
def SliceScan.advance (c : SliceScan) (i : Nat) : SliceScan :=
  if c.late = some i then { c with late := none }
  else if c.todo.contains i then c.left ((c.todo.dropWhile fun t => decide (t ≠ i)).drop 1)
  else { c with todo := [], resume := none, gap := false, cur := nextInput c.smask i }

/-- A scan whose conversions have stopped: nothing triggered is left (R125, R131). -/
def SliceScan.stopped (c : SliceScan) : SliceScan := { c with todo := [], resume := none, late := none, gap := false }

/-- A scan that starts at an epoch, with the lowest input of its mask (R111). -/
def SliceScan.restart (c : SliceScan) : SliceScan := { c.stopped with cur := (maskInputs c.smask).headD 0 }

/-- Is a slice of group g still converting a triggered set? DESIGN CHOICE (log 193): a slice that waits for its replacement within one (R125) converts
nothing, and is not counted. -/
def Dev.groupBusy (d : Dev) (g : Nat) : Bool :=
  (List.finRange 32).any fun k =>
    decide (k.val / 8 = g) && !(vget d.vol.ana.scan k).todo.isEmpty && !(vget d.vol.ana.scan k).gap

/-- `BUSY` follows the triggered sets. -/
def Dev.showBusy (d : Dev) : Dev := d.each [0, 1, 2, 3] fun d g => d.setBit (AS.GRP_BUSY g) (d.groupBusy g)

/-- Does slice number k deliver results: conversions run, and a converter serves it (R125, R131)? -/
def Dev.sliceLive (d : Dev) (k : Nat) : Bool :=
  d.anaWorks && d.bit AS.CTL_EN && decide (d.get (AS.SLST_SERVER k) ≠ 3)

/-- Does a spare serve slice number k (Table 4-16)? -/
def Dev.servedBySpare (d : Dev) (k : Nat) : Bool := decide (d.get (AS.SLST_SERVER k) = 1) || decide (d.get (AS.SLST_SERVER k) = 2)

/-- The ADCCLK cycle from which the steps of Table 4-12 count: a restart takes 10,008 cycles (R122). -/
def CalVisit.from0 (v : CalVisit) : Nat := v.start + 10008 * b2n v.restart

/-- Does a result sampled at ADCCLK cycle n carry `SUBST` 1 (R121, R124)? `served`: a spare serves the slice number for good. -/
def CalVisit.subst (v : CalVisit) (n : Nat) (served : Bool) : Bool :=
  if n < v.from0 + 408 then v.before else decide (n < v.from0 + v.fin) || served

/-- `SUBST` of the result of slice number k sampled at ADCCLK cycle n. -/
def Dev.substAt (d : Dev) (k n : Nat) : Bool :=
  match d.vol.ana.visit with
  | some v => if v.slot = k then v.subst n (d.servedBySpare k) else d.servedBySpare k
  | none => d.servedBySpare k

/-- The entry with the next order number (R117). -/
def QItem.next (w : QItem) : QItem :=
  let seq := w.entry / 2 ^ 16 % 128
  { w with entry := w.entry - seq * 2 ^ 16 + (seq + 1) % 128 * 2 ^ 16 }

/-- Does entry w come after the one of tag t sampled in the same cycle for the same queue (R116: ascending slice number)? -/
def QItem.follows (w : QItem) (q n tag : Nat) : Bool := decide (w.q = q) && decide (w.n = n) && decide (tag / 4 < w.tag / 4)

/-- The waiting entries with a new one in its place: before those of its cycle with a higher slice number, whose order numbers rise by
one (R116, R117). -/
def insertWaiting (x : QItem) : List QItem → List QItem
  | [] => [x]
  | w :: t =>
    if w.follows x.q x.n x.tag then x :: (w :: t).map fun w => if w.follows x.q x.n x.tag then w.next else w
    else w :: insertWaiting x t

/-- A result as it is presented: its tag, code, over-range flag and entry. -/
structure Presented where
  tag   : Nat
  code  : Int
  ovr  : Bool
  entry : Nat

/-- The flag and the code of a result (R105, R106): those of the check source for input 2, whatever the voltage told. -/
def Dev.resultCode (d : Dev) (i : Fin 4) (v : Int) (vref : Nat) : (Bool × Int) × Dev :=
  if i = 2 then ((false, checkCode (d.get AS.CTL_CHKLVL)), d)
  else (((d.overRange v vref).1, entryCode v vref (d.overRange v vref).1), (d.overRange v vref).2)

/-- A new entry among the waiting ones, `Q.LASTt` of those whose order number it moves following (R116-R118). -/
def Dev.queueUp (d : Dev) (x : QItem) : Dev :=
  let d1 := d.each (d.vol.ana.waiting.filter fun w => w.follows x.q x.n x.tag) fun d w =>
    if d.get (Q.LAST_V w.tag) = w.entry then d.set (Q.LAST_V w.tag) w.next.entry else d
  d1.modAna fun a => { a with waiting := insertWaiting x a.waiting }

/-- The result of input i of slice k sampled at ADCCLK cycle n: its flag, code and `SEQ`; the entry waits for its queue, `Q.LASTt` takes
it, and the over-range line (18) is raised where `ORFL` is 1 (R105, R106, R116-R118). -/
def Dev.present (d : Dev) (k : Fin 32) (i : Fin 4) (v : Int) (vref n : Nat) : Presented × Dev :=
  let ovr := (d.resultCode i v vref).1.1
  let code := (d.resultCode i v vref).1.2
  let d0 := (d.resultCode i v vref).2
  let q : Fin 8 := ⟨d0.queueOf k i % 8, Nat.mod_lt _ (by decide)⟩
  let after := (d0.vol.ana.waiting.filter fun w => w.follows q n (4 * k + i)).length
  let entry := mkEntry k i ovr (d0.substAt k n) (vget d0.vol.ana.seq q + 128 - after % 128) code
  let d1 := (d0.queueUp { q := q, n := n, tag := 4 * k + i, entry := entry }).modAna fun a =>
    { a with seq := vset a.seq q ((vget a.seq q + 1) % 128), scan := vset a.scan k ((vget a.scan k).advance i) }
  let d2 := (d1.set (Q.LAST_V (4 * k + i)) entry).showBusy
  ({ tag := 4 * k + i, code := code, ovr := ovr, entry := entry },
   d2.when (ovr && d2.bit (AS.SLCFG_ORFL k)) fun d => d.assertLine 18 0)

/-! ### Result queues -/

/-- The memory address of entry j of queue q (R115). -/
def queueAddr (q j : Nat) : Nat := 0x2203C000 + q * 0x800 + 4 * (j % 512)

/-- The watermark of queue q: 0 acts as 1 (Table 4-10). -/
def Dev.watermark (d : Dev) (q : Nat) : Nat := max 1 (d.get (Q.QCTL_WMARK q))

/-- An entry at a full queue (R119): `OVF` and `LOST` count it; under overwrite it replaces the oldest, under drop it is
not stored. -/
def Dev.queueOverflow (d : Dev) (mem : Mem) (q e : Nat) : Dev × Mem :=
  let d1 := (d.set (Q.QSTAT_OVF q) 1).countSat (Q.QSTAT_LOST q)
  if d.bit (Q.QCTL_POLICY q) then (d1, mem)
  else ((d1.set (Q.QPTR_WIDX q) (d.get (Q.QPTR_WIDX q) + 1)).set (Q.QPTR_RIDX q) (d.get (Q.QPTR_RIDX q) + 1),
        mem.writeWord (queueAddr q (d.get (Q.QPTR_WIDX q))) e)

/-- An entry is stored in its queue (R116, R118, R119); with `EN` 0 it is discarded without counting as lost. -/
def Dev.queueStore (d : Dev) (mem : Mem) (q e : Nat) : Dev × Mem :=
  if !d.bit (Q.QCTL_EN q) then (d, mem)
  else if d.get (Q.QSTAT_LEVEL q) = 512 then d.queueOverflow mem q e
  else
    let d1 := (d.set (Q.QPTR_WIDX q) (d.get (Q.QPTR_WIDX q) + 1)).set (Q.QSTAT_LEVEL q) (d.get (Q.QSTAT_LEVEL q) + 1)
    (d1.when (decide (d.get (Q.QSTAT_LEVEL q) + 1 = d.watermark q)) fun d => d.set (Q.QSTAT_WM q) 1,
     mem.writeWord (queueAddr q (d.get (Q.QPTR_WIDX q))) e)

/-- The oldest waiting entry of queue q, and the entries that go on waiting. -/
def takeWaiting : List QItem → Nat → Option Nat × List QItem
  | [], _ => (none, [])
  | w :: t, q => if w.q = q then (some w.entry, t) else ((takeWaiting t q).1, w :: (takeWaiting t q).2)

/-- The oldest waiting entry of queue q is written. -/
def Dev.queueWriteNext (d : Dev) (mem : Mem) (q : Nat) : Dev × Mem :=
  match takeWaiting d.vol.ana.waiting q with
  | (none, _) => (d, mem)
  | (some e, rest) => (d.modAna fun a => { a with waiting := rest }).queueStore mem q e

/-- QUEUE_ENTRY_WRITE (R115-R119): the queues lie in the engine's SRAM and run at CECLK. -/
def execQueueEntryWrite (q : Fin 8) (s : State) : Host.Outcome State Fault Refusal :=
  s.liftMem fun d mem => if d.anaWorks then d.queueWriteNext mem q else (d, mem)

/-- QUEUE_POP (R118): the entry at `RIDX`, which then advances; 0xFFFF_FFFF from an empty queue. -/
def execQueuePop (m : Master) (q : Fin 8) (s : State) : Host.Outcome State Fault Refusal :=
  s.lift fun d =>
    if !d.accessAllowed m (0x4011000C + 0x10 * q) false then d.busError m (0x4011000C + 0x10 * q) false
    else if d.get (Q.QSTAT_LEVEL q) = 0 then d.busOk 0xFFFFFFFF
    else
      ((d.set (Q.QPTR_RIDX q) (d.get (Q.QPTR_RIDX q) + 1)).set (Q.QSTAT_LEVEL q) (d.get (Q.QSTAT_LEVEL q) - 1)).busOk
        (s.mem.readLE (queueAddr q (d.get (Q.QPTR_RIDX q))) 4)

/-- A write of v to `RIDX` of queue q (R509). -/
def Dev.discardTo (d : Dev) (q v : Nat) : Dev :=
  let dist := (v + 512 - d.get (Q.QPTR_RIDX q)) % 512
  if dist = 0 then d
  else if dist ≤ d.get (Q.QSTAT_LEVEL q) then
    (d.set (Q.QPTR_RIDX q) v).set (Q.QSTAT_LEVEL q) (d.get (Q.QSTAT_LEVEL q) - dist)
  else (d.set (Q.QPTR_RIDX q) (d.get (Q.QPTR_WIDX q))).set (Q.QSTAT_LEVEL q) 0

/-- QUEUE_DISCARD (R509). -/
def execQueueDiscard (m : Master) (q : Fin 8) (v : BitVec 9) (s : State) : Host.Outcome State Fault Refusal :=
  s.lift fun d =>
    if d.accessAllowed m (0x40110004 + 0x10 * q) true then (d.discardTo q v.toNat).busOk 0
    else d.busError m (0x40110004 + 0x10 * q) true

/-- QUEUE_OVF_CLEAR (R119): `OVF` and `LOST` are cleared; an entry lost in the same cycle sets `OVF` again with `LOST` 1
(R12). -/
def execQueueOvfClear (m : Master) (q : Fin 8) (entry : Bool) (s : State) : Host.Outcome State Fault Refusal :=
  s.liftMem fun d mem =>
    if d.accessAllowed m (0x40110008 + 0x10 * q) true then
      let d1 := ((d.set (Q.QSTAT_OVF q) 0).set (Q.QSTAT_LOST q) 0).busOk 0
      if entry then d1.queueWriteNext mem q else (d1, mem)
    else (d.busError m (0x40110008 + 0x10 * q) true, mem)

/-! ### Configuration and triggers -/

/-- SLICE_CONFIG_WRITE (R109, R110): only a master that may claim for the slice's owner; a free slice has no such master. -/
def execSliceConfigWrite (m : Master) (k : Fin 32) (v : Word) (s : State) : Host.Outcome State Fault Refusal :=
  s.lift fun d =>
    if d.accessAllowed m (0x40100100 + 4 * k) true && d.mayClaimId m (d.get (OWN.R_OWNER 1 k)) then
      (d.writeFields (slcfgFields k) v.toNat).busOk 0
    else d.busError m (0x40100100 + 4 * k) true

/-- The first of the inputs from i on, ascending and wrapping, that a mask enables. -/
def dueInput (m i : Nat) : Nat := if natBit m i then i else nextInput m i

/-- The conversion of the continuous scan in progress, if there is one. -/
def SliceScan.converting (c : SliceScan) : Option Nat :=
  if c.mode = 2 ∧ c.todo = [] ∧ natBit c.smask c.cur = true then some c.cur else none

/-- The scan under the configuration that takes effect at an epoch (R111): the conversion in progress delivers its result, and a triggered
set in progress runs to its end. -/
def SliceScan.reconfigure (c : SliceScan) (mode smask tmask : Nat) : SliceScan :=
  let mode := if mode = 3 then 0 else mode
  let low := (maskInputs smask).headD 0
  let c' := { c with mode := mode, smask := smask, tmask := tmask, late := match c.converting with | some i => some i | none => c.late }
  if mode = 2 then
    if c.mode = 2 then
      { c' with cur := (match c.converting with | some i => nextInput smask i | none => low), resume := c.resume.map (dueInput smask) }
    else { c' with cur := low, resume := if c.todo.isEmpty then none else some low }
  else { c' with resume := none }

/-- SCAN_MODE_CHANGE (R111). -/
def execScanModeChange (k : Fin 32) (s : State) : Host.Outcome State Fault Refusal :=
  s.lift fun d =>
    if d.anaWorks then
      d.modAna fun a => { a with scan := vset a.scan k ((vget a.scan k).reconfigure (d.get (AS.SLCFG_MODE k))
        (d.get (AS.SLCFG_SMASK k)) (d.get (AS.SLCFG_TMASK k))) }
    else d

/-- Is group g triggered directly by the source (Table 4-7)? -/
def Dev.groupHit (d : Dev) (src : TrigSrc) (g : Nat) : Bool :=
  match src with
  | .modulator x => decide (d.get (AS.GRP_TSRC g) = 1 + x.val) && (vget d.vol.mod x).trig
  | .tick => decide (d.get (AS.GRP_TSRC g) = 3) && d.vol.ce.tickTrig
  | .software n => decide (n.val = g) && vget d.vol.ana.trigPend n

/-- The groups that a trigger reaches: those it triggers directly, and with GA those whose source is 4 (Table 4-7). -/
def Dev.groupsHit (d : Dev) (src : TrigSrc) : List Nat :=
  [0, 1, 2, 3].filter fun g =>
    d.groupHit src g || (decide (g ≠ 0) && decide (d.get (AS.GRP_TSRC g) = 4) && d.groupHit src 0)

/-- The scan of a slice when a triggered set starts (R113, R114): a continuous slice converts the abandoned input, or the
one due at the epoch, after the set; a slice whose `TMASK` is 0 takes no part. -/
def SliceScan.trigger (c : SliceScan) (atSlot : Bool) : SliceScan :=
  if c.tmask = 0 then c
  else if c.mode = 1 then { c with todo := maskInputs c.tmask, resume := none, gap := false }
  else if c.mode = 2 then
    match c.converting with
    | some i =>
      { c with todo := maskInputs c.tmask, resume := some (if atSlot then nextInput c.smask i else i),
               late := if atSlot then some i else none, gap := false }
    | none => { c with todo := maskInputs c.tmask, gap := false }
  else c

/-- A trigger of group g takes effect, or is dropped while the previous set is still converting (R113). -/
def Dev.triggerGroup (d : Dev) (g : Nat) (atSlot : List (Fin 32)) : Dev :=
  if d.groupBusy g then (d.set (AS.GRP_LOSTF g) 1).countSat (AS.GRP_TLOST g)
  else
    (d.modAna fun a => { a with scan := .ofFn fun k =>
      if k.val / 8 = g then (vget a.scan k).trigger (atSlot.contains k) else vget a.scan k }).showBusy

/-- The epoch takes the trigger events of a source: the pulse of a modulator's trigger line (R224), a tick start. -/
def Dev.takeTrigger (d : Dev) (src : TrigSrc) : Dev :=
  match src with
  | .modulator x => { d with vol := { d.vol with mod := vset d.vol.mod x { vget d.vol.mod x with trig := false } } }
  | .tick => { d with vol := { d.vol with ce := { d.vol.ce with tickTrig := false } } }
  | .software _ => d

/-- GROUP_TRIGGER (R112-R114): conversions run only while `AS.CTL.EN` is 1 (R131). DESIGN CHOICE (log 135): a software trigger written while
nothing converts (`AS.CTL.EN` 0, the clock gated) is kept, and the next GROUP_TRIGGER at which slices convert takes it. -/
def execGroupTrigger (src : TrigSrc) (atSlot : List (Fin 32)) (s : State) : Host.Outcome State Fault Refusal :=
  s.lift fun d =>
    if d.anaWorks && d.bit AS.CTL_EN then
      let d1 := d.each (d.groupsHit src) fun d g => d.triggerGroup g atSlot
      match src with
      | .software n => d1.modAna fun a => { a with trigPend := vset a.trigPend n false }
      | _ => d1.takeTrigger src
    else d.takeTrigger src

/-- GROUP_SWTRIG (R112): Truss and the dictionary engine only; taken at the next epoch by GROUP_TRIGGER. -/
def execGroupSwtrig (m : Master) (g : Fin 4) (s : State) : Host.Outcome State Fault Refusal :=
  s.lift fun d =>
    if d.accessAllowed m (0x40100010 + 4 * g) true && isTrussOrDict m then
      (d.modAna fun a => { a with trigPend := vset a.trigPend g true }).busOk 0
    else d.busError m (0x40100010 + 4 * g) true

/-! ### The spare chain -/

/-- The registers of a spare in `AS.SPARE` (Table 4-15): SP0 (0) or SP1 (1). -/
def spareFail (p : Nat) : Fld := if p = 0 then AS.SPARE_SP0_FAIL else AS.SPARE_SP1_FAIL
def spareUsed (p : Nat) : Fld := if p = 0 then AS.SPARE_SP0_USED else AS.SPARE_SP1_USED
def spareFor (p : Nat) : Fld := if p = 0 then AS.SPARE_SP0_FOR else AS.SPARE_SP1_FOR

/-- The code of a spare in `SERVER` (Table 4-16): 1 SP1, 2 SP0. -/
def spareServer (p : Nat) : Nat := if p = 0 then 2 else 1

/-- The rotating spare. -/
def Dev.rotSpare (d : Dev) : Nat := d.get AS.SPARE_ROTSP

/-- The failed-converter record `0x4101:02` as the status registers now stand (R129, Table 4-19). -/
def Dev.convRecordNow (d : Dev) : Nat :=
  (List.range 34).foldl (fun n k => n + d.get (AS.SLST_FAILED k) * 2 ^ k) 0 +
  (if d.bit AS.SPARE_SP0_USED then d.get AS.SPARE_SP0_FOR * 2 ^ 40 + 2 ^ 46 else 0) +
  (if d.bit AS.SPARE_SP1_USED then d.get AS.SPARE_SP1_FOR * 2 ^ 48 + 2 ^ 54 else 0)

/-- Keep the record in MRAM (R129). -/
def Dev.keepConvRecord (d : Dev) : Dev := { d with nv := { d.nv with convRecord := d.convRecordNow } }

/-- The physical converter that serves slice number k is marked failed: its own slice, or the spare in its place. -/
def Dev.failServer (d : Dev) (k : Nat) : Dev :=
  match d.get (AS.SLST_SERVER k) with
  | 0 => d.set (AS.SLST_FAILED k) 1
  | 1 => ((d.set (AS.SLST_FAILED 33) 1).set (spareFail 1) 1).set (spareUsed 1) 0
  | 2 => ((d.set (AS.SLST_FAILED 32) 1).set (spareFail 0) 1).set (spareUsed 0) 0
  | _ => d

/-- Spare p serves slice number k from now on; the failover is counted and its line (19) raised (R124-R126). -/
def Dev.serveBy (d : Dev) (p k : Nat) : Dev :=
  let d1 := ((((d.set (spareUsed p) 1).set (spareFor p) k).set (AS.SLST_SERVER k) (spareServer p)).set
    (AS.SLST_SUBST k) 1).assertLine 19 0
  { d1 with nv := { d1.nv with failovers := min 65535 (d1.nv.failovers + 1) } }

/-- A spare fails its own calibration. -/
def Dev.failSpare (d : Dev) (p : Nat) : Dev := (d.set (spareFail p) 1).set (AS.SLST_FAILED (32 + p)) 1

/-- Entry into a state of Table 4-14; states 2 and 3 stop the rotation, set `CALSTALL` and raise the converter-degraded
line (20) (R126, R127). -/
def Dev.enterChain (d : Dev) (n : Nat) : Dev :=
  if d.get AS.SPARE_CHAIN = n then d
  else
    (d.set AS.SPARE_CHAIN n).when (decide (2 ≤ n)) fun d =>
      ((d.assertLine 20 0).set AS.SPARE_CALSTALL 1).set AS.CALSTAT_PHASE 5

/-- A stall of the calibration (R128). -/
def Dev.calStall (d : Dev) : Dev := (d.countSat AS.SPARE_STALLS).set AS.SPARE_CALSTALL 1

/-- The converter serving slice number k fails while no visit can say which spare is better: the hot-standby spare replaces
it in state 0, the rotating spare in state 1, nothing in state 2 or 3 (R124, R125, R127). -/
def Dev.replaceServer (d : Dev) (k : Nat) : Dev :=
  let d1 := d.failServer k
  match d.get AS.SPARE_CHAIN with
  | 0 => ((d1.serveBy (1 - d.rotSpare) k).enterChain 1).keepConvRecord
  | 1 => ((d1.serveBy d.rotSpare k).enterChain 2).keepConvRecord
  | _ => (((d1.set (AS.SLST_SERVER k) 3).set (AS.SLST_SUBST k) 0).enterChain 3).keepConvRecord

/-- A converter's check passed: trims taken over, residual recorded, its age restarted (R121, R123, Table 4-16). -/
def Dev.trimmed (d : Dev) (c : Fin 34) (t : Trim) (res : Nat) : Dev :=
  ((d.modAna fun a => { a with trims := vset a.trims c t, passed := vset a.passed c (some d.now) }).set (AS.SLST_CHKERR c)
    (min 255 res)).set (AS.SLST_CALAGE c) 0

/-- The check of a visit passed: the visit is counted as well. -/
def Dev.checkPassed (d : Dev) (c : Fin 34) (r : CalMeasure) : Dev :=
  (d.trimmed c ⟨r.offset, r.gainPpm, r.dnl⟩ r.residual).countWrap (AS.SLST_VISITS c)

/-- A calibration that passes with trims and a residual of which nothing is told: open, within the limits of Table 4-13 (log 2). -/
def Dev.trimOpen (d : Dev) (c : Fin 34) : Dev :=
  let o := d.drawBetween (-4096) 4096
  let g := o.2.drawBetween (-10000) 10000
  let n := g.2.drawBetween (-8) 8
  let r := n.2.drawBetween 0 2
  r.2.trimmed c ⟨o.1, g.1, n.1⟩ r.1.toNat

/-- The index of spare p among the converters. -/
def spareIndex (p : Nat) : Fin 34 := if p = 0 then 32 else 33

/-- Spare p calibrates itself within a visit (R122, R124): passed, its trims open; failed, its residual open. -/
def Dev.spareSelf (d : Dev) (p : Nat) (ok : Bool) : Dev :=
  if ok then (d.trimOpen (spareIndex p)).countWrap (AS.SLST_VISITS (spareIndex p))
  else (d.draw 8).2.set (AS.SLST_CHKERR (spareIndex p)) (d.draw 8).1

/-- The rotating spare serves slice number k for good, and the other spare rotates on (R124). -/
def Dev.rotStays (d : Dev) (k : Nat) : Dev :=
  let rot := d.rotSpare
  ((((d.failServer k).serveBy rot k).set AS.SPARE_ROTSP (1 - rot)).enterChain 1).keepConvRecord

/-- The failover of a visit (R124, R127): in state 0 the hot-standby spare, or, if its shadow differs too much, the rotating
spare for good, the other spare rotating on if it passes its self-calibration. -/
def Dev.visitFailover (d : Dev) (k : Nat) (r : CalMeasure) : Dev :=
  if d.get AS.SPARE_CHAIN = 0 ∧ r.hotBad then
    let d1 := d.rotStays k
    let d2 := d1.spareSelf d1.rotSpare r.otherOk
    if r.otherOk then d2 else ((d2.failSpare d1.rotSpare).enterChain 2).keepConvRecord
  else d.replaceServer k

/-- Does the converter fail its calibration check before the post-shadow (Table 4-13)? -/
def calFails (r : CalMeasure) : Bool :=
  decide (r.offset.natAbs > 256 * 16) || decide (r.gainPpm.natAbs > 10000) || !r.dnlOk || decide (r.residual > 2)

/-- The index of the converter that serves slice number k in the trims and status registers: 0-31, SP0 32, SP1 33. -/
def Dev.serverIndex (d : Dev) (k : Fin 32) : Fin 34 :=
  match d.get (AS.SLST_SERVER k) with
  | 1 => 33
  | 2 => 32
  | _ => ⟨k.val, by omega⟩

/-- Does the rotating spare fail its own check in the restart of a visit (R122)? -/
def calSpareFails (r : CalMeasure) : Bool := r.pre1 && !r.spareOk

/-- Spare p fails its own calibration in a slot: in state 0 the other spare rotates on, in state 1 none is left
(R127; log 10). -/
def Dev.spareCalFails (d : Dev) (p : Nat) : Dev :=
  match d.get AS.SPARE_CHAIN with
  | 0 => (((d.failSpare p).set AS.SPARE_ROTSP (1 - p)).enterChain 1).keepConvRecord
  | _ => ((d.failSpare p).enterChain 2).keepConvRecord

/-- Does the post-shadow fail (Table 4-13)? -/
def postFails (r : CalMeasure) : Bool := decide (r.post16.natAbs > 32)

/-- The PHASE of `AS.CALSTAT` while the rotation is idle or stopped (Table 4-17). -/
def Dev.idlePhase (d : Dev) : Nat := if 2 ≤ d.get AS.SPARE_CHAIN then 5 else 0

/-- The PHASE of a slot's work c cycles after its first, none once it has ended (Tables 4-12, 4-17; log 137). -/
def CalVisit.phase (v : CalVisit) (n : Nat) : Option Nat :=
  if 32 ≤ v.slot then (if n < v.start + 9600 then some 4 else none)
  else if n < v.from0 then (if n < v.start + 408 then some 1 else some 4)
  else if n < v.from0 + v.fin then
    some (if n < v.from0 + 408 then 1 else if n < v.from0 + 10008 then 2
      else if v.early = false ∧ (v.fin = 10416 ∨ n < v.from0 + 10392) then 3 else 2)
  else if n < v.from0 + v.fin + v.tail then some 4
  else none

/-- Is the slot's work going on now? -/
def Dev.visiting (d : Dev) : Option CalVisit :=
  match d.vol.ana.visit with
  | some v => if (v.phase (60 * d.now)).isSome then some v else none
  | none => none

/-- `PHASE` and `SUBST` show how far the work of a slot has come. -/
def Dev.showVisit (d : Dev) : Dev :=
  match d.vol.ana.visit with
  | some v =>
    (d.set AS.CALSTAT_PHASE ((v.phase (60 * d.now)).getD d.idlePhase)).when (decide (v.slot < 32)) fun d =>
      d.setBit (AS.SLST_SUBST v.slot) (d.substAt v.slot (60 * d.now))
  | none => d

/-- The status fields that the work of slot n can change (Tables 4-15, 4-16): of the chain, of both spares, and of the slice number. -/
def calFields (n : Nat) : List Fld :=
  [AS.SPARE_CHAIN, AS.SPARE_ROTSP, AS.SPARE_SP0_FAIL, AS.SPARE_SP0_USED, AS.SPARE_SP0_FOR, AS.SPARE_SP1_FAIL, AS.SPARE_SP1_USED, AS.SPARE_SP1_FOR] ++
  ([32, 33] ++ (if n < 32 then [n] else [])).flatMap fun s =>
    [AS.SLST_CHKERR s, AS.SLST_VISITS s, AS.SLST_SERVER s, AS.SLST_SUBST s, AS.SLST_FAILED s, AS.SLST_CALAGE s]

/-- What stands before the work of slot n. -/
def Dev.calBefore (d : Dev) (n : Nat) : CalUndo :=
  { vals := (calFields n).map d.get, trims := d.vol.ana.trims, passed := d.vol.ana.passed, record := d.nv.convRecord, count := d.nv.failovers,
    line19 := d.raised.contains (19, 0), line20 := d.raised.contains (20, 0) }

/-- The work of slot n, whose first ADCCLK cycle is t (Table 4-12, R122, R124). -/
def Dev.openVisit (d : Dev) (n t : Nat) (r : CalMeasure) : Dev :=
  let v : CalVisit :=
    { slot := n, start := t, restart := decide (n < 32) && r.pre1,
      fin := if calSpareFails r then 0 else if calFails r = false ∧ postFails r = true then 10800 else 10416,
      early := calFails r,
      tail := if !calSpareFails r && (calFails r || postFails r) && r.hotBad && decide (d.get AS.SPARE_CHAIN = 0) then 9600 else 0,
      before := d.servedBySpare n, meas := r, undo := d.calBefore n }
  (d.set AS.CALSTAT_TARGET n).modAna fun a => { a with visit := some v }

/-- What a visit of slice number k brings about (R121-R124), the self-calibration of a restart (R122) left out where it is done already. A visit
whose rotating spare fails its own check ends there. -/
def Dev.visitOutcome (d : Dev) (k : Fin 32) (r : CalMeasure) (self : Bool) : Dev :=
  let c := d.serverIndex k
  let d1 := d.when (r.pre1 && self) fun d => d.spareSelf d.rotSpare r.spareOk
  if calSpareFails r then d1.spareCalFails d1.rotSpare
  else if calFails r || postFails r then (d1.set (AS.SLST_CHKERR c) (min 255 r.residual)).visitFailover k r
  else d1.checkPassed c r

/-- What a self-calibration slot of spare p brings about (slots 32 and 33, R120). -/
def Dev.selfOutcome (d : Dev) (p : Nat) (r : CalMeasure) : Dev :=
  if calFails r then (d.set (AS.SLST_CHKERR (spareIndex p)) (min 255 r.residual)).spareCalFails p
  else d.checkPassed (spareIndex p) r

/-- A visit of slice number k. -/
def Dev.visitSlice (d : Dev) (k : Fin 32) (r : CalMeasure) : Dev :=
  if d.get (AS.SLST_SERVER k) = 3 then d else (d.openVisit k (60 * d.now) r).visitOutcome k r true

/-- A self-calibration slot n of spare p. -/
def Dev.selfCal (d : Dev) (n p : Nat) (r : CalMeasure) : Dev := (d.openVisit n (60 * d.now) r).selfOutcome p r

/-! ### The work of a slot that a failure or retention cuts off (R125, R127, R128, R133) -/

/-- Has the rotating spare's own calibration in a restart ended (R122)? -/
def CalVisit.selfDone (v : CalVisit) (n : Nat) : Bool := v.restart && decide (v.from0 ≤ n)

/-- What stood before the work of a slot stands again, but for a completed self-calibration of the rotating spare (R122). -/
def Dev.undoVisit (d : Dev) (v : CalVisit) : Dev :=
  let u := v.undo
  let rot : Fin 34 := if (u.vals.getD 1 0) = 1 then 33 else 32
  let keep := v.selfDone (60 * d.now)
  let kept : List Fld := if keep then [AS.SLST_CHKERR rot, AS.SLST_VISITS rot, AS.SLST_CALAGE rot] else []
  let t := if keep then vset u.trims rot (vget d.vol.ana.trims rot) else u.trims
  let q := if keep then vset u.passed rot (vget d.vol.ana.passed rot) else u.passed
  let d1 := d.setAll (((calFields v.slot).zip u.vals).filter fun x => !kept.contains x.1)
  let d2 := d1.modAna fun a => { a with visit := none, trims := t, passed := q }
  { d2 with nv := { d2.nv with convRecord := u.record, failovers := u.count },
            raised := d2.raised.filter fun x => !((decide (x = (19, 0)) && !u.line19) || (decide (x = (20, 0)) && !u.line20)) }

/-- After a visit is cut off the rotation shows that it is idle or stopped, and the slice number who serves it. -/
def Dev.visitGone (d : Dev) (v : CalVisit) : Dev :=
  (d.when (decide (v.slot < 32)) fun d => d.setBit (AS.SLST_SUBST v.slot) (d.servedBySpare v.slot)).set AS.CALSTAT_PHASE d.idlePhase

/-- The spare that calibrates itself after a failover whose shadow differed too much: that failover stands, the calibration does not (R124, R128). -/
def Dev.tailGone (d : Dev) (v : CalVisit) : Dev := ((d.undoVisit v).rotStays v.slot).visitGone v

/-- Has the visit reached the self-calibration of the other spare? -/
def Dev.inTail (d : Dev) (v : CalVisit) : Bool := decide (0 < v.tail) && decide (v.from0 + v.fin ≤ 60 * d.now)

/-- The work that goes on is abandoned, with the trims of before (R128, R133). -/
def Dev.abandonVisit (d : Dev) : Dev :=
  match d.visiting with
  | some v => if d.inTail v then d.tailGone v else (d.undoVisit v).visitGone v
  | none => d

/-- The visit goes on from the present state of the chain, after the failover of another slice number. -/
def Dev.redoVisit (d : Dev) (v : CalVisit) : Dev :=
  let d1 := d.openVisit v.slot v.start v.meas
  let d2 := if h : v.slot < 32 then d1.visitOutcome ⟨v.slot, h⟩ v.meas (!v.selfDone (60 * d.now))
    else d1.selfOutcome (if v.slot = 32 then 1 - d1.rotSpare else d1.rotSpare) v.meas
  d2.showVisit

/-- Has slice number k of the visit failed a check of Table 4-13 by now? -/
def CalVisit.knownBad (v : CalVisit) (n : Nat) : Bool :=
  (v.early && decide (v.from0 + 10008 ≤ n)) || (!v.early && postFails v.meas && decide (v.from0 + 10392 ≤ n))

/-- The ages of the last passed checks, in units of 4 ms (16,000 epochs), as an epoch has passed (Table 4-16). -/
def Dev.showAges (d : Dev) : Dev :=
  d.each (List.finRange 34) fun d c =>
    match vget d.vol.ana.passed c with
    | some e => d.when (decide (e < d.now) && decide ((d.now - e) % 16000 = 0)) fun d => d.countSat (AS.SLST_CALAGE c)
    | none => d

/-- The work of slot n of a round (R120): a slice number, the hot-standby spare, or the rotating spare. -/
def Dev.calSlot (d : Dev) (n : Nat) (r : CalMeasure) : Dev :=
  if h : n < 32 then
    if d.vol.ana.calDone.contains n then d else d.visitSlice ⟨n, h⟩ r
  else if n = 32 then
    if d.get AS.SPARE_CHAIN = 0 then d.selfCal 32 (1 - d.rotSpare) r else d
  else d.selfCal 33 d.rotSpare r

/-- The slot after n; after slot 33 a new round begins (R120). -/
def Dev.nextSlot (d : Dev) : Dev :=
  if d.vol.ana.calNext = 33 then
    (d.modAna fun a => { a with calNext := 0, calDone := [] }).countWrap AS.CALSTAT_ROUNDS
  else d.modAna fun a => { a with calNext := a.calNext + 1 }

/-- CAL_SLOT_START (R120-R128): while the chain rotates, the requested visit, or, with `CALEN` 1, the next slot of the round, with all that
it measures. DESIGN CHOICE (log 134): with `AS.CTL.EN` 0, when every conversion has stopped (R131), no slot begins. -/
def execCalSlotStart (r : CalMeasure) (s : State) : Host.Outcome State Fault Refusal :=
  s.lift fun d =>
    if !(d.anaWorks && d.bit AS.CTL_EN && decide (d.get AS.SPARE_CHAIN ≤ 1)) then d
    else if d.bit AS.CALCTL_CALNOW then
      let k : Fin 32 := ⟨d.get AS.CALCTL_CALNOW_S % 32, Nat.mod_lt _ (by decide)⟩
      (((d.set AS.CALCTL_CALNOW 0).modAna fun a => { a with calDone := k.val :: a.calDone }).visitSlice k r).showVisit
    else if d.bit AS.CALCTL_CALEN then ((d.calSlot d.vol.ana.calNext r).showVisit).nextSlot
    else d

/-- CALNOW_REQUEST (R120, R134): through the register the bit and the slice number are written; through `0x2103:03` a
number above 31 is rejected, and every number while the chain is in state 2 or 3. -/
def execCalnowRequest (m : Master) (obj : Bool) (k : BitVec 8) (s : State) : Host.Outcome State Fault Refusal :=
  s.lift fun d =>
    if !d.accessAllowed (if obj then .dict else m) 0x40100020 true then d.busError m 0x40100020 true
    else if obj && decide (2 ≤ d.get AS.SPARE_CHAIN) then d.abort 0x2103 3 0x0622 0
    else if obj && decide (31 < k.toNat) then d.abort 0x2103 3 0x0611 0
    else
      let d1 := (d.set AS.CALCTL_CALNOW_S k.toNat).set AS.CALCTL_CALNOW 1
      if obj then d1.answer 0 0 else d1.busOk 0

/-- Does the work that goes on hold the spare that a failure of another slice number needs (R128): the hot-standby spare in its self-calibration
slot, or, with no hot standby, the rotating spare? -/
def Dev.spareBusy (d : Dev) (v : CalVisit) : Bool :=
  match d.get AS.SPARE_CHAIN with
  | 0 => decide (v.slot = 32)
  | 1 => true
  | _ => false

/-- Does the rotating spare stand in for slice number k now (R121)? -/
def Dev.standsIn (d : Dev) (k : Nat) (v : CalVisit) : Bool :=
  decide (v.slot = k) && decide (v.from0 + 408 ≤ 60 * d.now) && decide (60 * d.now < v.from0 + v.fin)

/-- The converter serving slice number k fails during the work v of a slot (R125, R127, R128). The work gives way where it needs the spare, which is
counted as a stall; else it goes on. DESIGN CHOICE (log 181): the rotating spare that fails while it stands in for slice k is marked failed, and
slice k rejoins, unless a check of its own has failed by then; the visit counts as a stall. -/
def Dev.failDuring (d : Dev) (k : Fin 32) (v : CalVisit) : Dev :=
  if d.inTail v then ((d.tailGone v).calStall).replaceServer k
  else
    let d0 := d.undoVisit v
    if v.slot = k.val then
      if d.standsIn k v then
        (((d0.visitGone v).calStall).spareCalFails d0.rotSpare).when (v.knownBad (60 * d.now)) fun d => d.replaceServer k
      else ((d0.visitGone v).calStall).replaceServer k
    else if d0.spareBusy v then ((d0.visitGone v).calStall).replaceServer k
    else (d0.replaceServer k).redoVisit v

/-- The converter serving slice number k fails (R125). -/
def Dev.failNow (d : Dev) (k : Fin 32) : Dev :=
  match d.visiting with
  | some v => d.failDuring k v
  | none => d.replaceServer k

/-- The spare that took the place of a higher slice number for a failure in the same cycle goes to slice number k (R128). -/
def Dev.handDown (d : Dev) (k hi : Fin 32) (p : Nat) : Dev :=
  (((((d.failServer k).set (AS.SLST_SERVER hi) 3).set (AS.SLST_SUBST hi) 0).serveBy p k).enterChain 3).keepConvRecord

/-- Results are missing until the replacement samples; without one nothing comes any more (R125, R127). -/
def Dev.scanGap (d : Dev) (k : Fin 32) : Dev :=
  (d.modAna fun a => { a with scan := vset a.scan k (if d.get (AS.SLST_SERVER k) = 3 then (vget a.scan k).stopped
    else { vget a.scan k with late := none, gap := true }) }).showBusy

/-- The last spare was taken for slice number k in cycle n. -/
def Dev.noteFail (d : Dev) (k : Fin 32) (n : Nat) : Dev :=
  let took : Option (Nat × Fin 32 × Nat) :=
    if d.get AS.SPARE_CHAIN = 2 ∧ d.servedBySpare k = true then some (n, k, if d.get (AS.SLST_SERVER k) = 2 then 0 else 1) else none
  d.modAna fun a => { a with lastFail := took }

/-- CONVERTER_NO_RESULT (R125, R127, R128): the converter serving slice number k gave no result for the sampling instant in ADCCLK cycle n.
Of two that fail in one cycle the lower slice number has the last spare. -/
def execConverterNoResult (k : Fin 32) (n : Nat) (s : State) : Host.Outcome State Fault Refusal :=
  s.lift fun d =>
    if d.sliceLive k then
      match d.vol.ana.lastFail with
      | some (n', hi, p) =>
        if n' = n ∧ k < hi ∧ d.get (AS.SLST_SERVER hi) = spareServer p ∧ d.get AS.SPARE_CHAIN = 2 then
          ((d.handDown k hi p).scanGap k).scanGap hi
        else ((d.failNow k).noteFail k n).scanGap k
      | none => ((d.failNow k).noteFail k n).scanGap k
    else d

end Sys2Proof.Machine
end

