-- ==== Sys2Proof/Machine/Flags.lean ====
section
/-! DEFINITION. The saturation flags of the tick dataflow (R174) and the reaction classes of the fault lines (R349-R353). -/

namespace Sys2Proof.Machine

/-! ### Saturation -/

/-- The result of an operation of the dataflow in a 32-bit format, and whether it, or an operation before it in the same
stage, saturated. -/
structure SQ where
  v   : Int
  sat : Bool

/-- An exact value saturated to its 32-bit format (R174); `o`: an operation before it saturated. -/
def qlim (o : Bool) (x : Int) : SQ := ⟨sat32 x, o || decide (sat32 x ≠ x)⟩

/-- A saturation of stage Sk sets bit k - 1 of `CE.SATb`; the control-saturation source is level (R174). -/
def Dev.noteSat (d : Dev) (b : Bridge) (k : Nat) (o : Bool) : Dev :=
  if o && !natBit (d.get (CE.SAT_SAT b)) (k - 1) then d.set (CE.SAT_SAT b) (d.get (CE.SAT_SAT b) + 2 ^ (k - 1)) else d

/-! ### Reaction classes -/

/-- The class of line l: codes 5-7 act as 4 (Table 12-6). -/
def Dev.classOf (d : Dev) (l : Nat) : Nat := if l = 53 ∧ d.vol.safe.noSet = true then 4 else min 4 (d.get (FCOL.CLS_C l))

/-- Line l as latched for bridge b. -/
def Dev.latchedFor (d : Dev) (b : Bridge) (l : Nat) : Bool :=
  d.bit (FCOL.STATUS_L l) && (d.bit (if b = 0 then FCOL.BRA_L l else FCOL.BRB_L l) || decide (d.classOf l = 4))

/-- The reaction in force on bridge b: the highest class of the lines latched for it, 3 while a timed-out orderly stop
holds `FCOL` (R353). -/
def Dev.reaction (d : Dev) (b : Bridge) : Nat :=
  max (if vget d.vol.stopTimed b then 3 else 0)
    ((List.range 64).foldl (fun n l => if d.latchedFor b l then max n (d.classOf l) else n) 0)

/-- The reaction in force without the timed-out stop: what lets `FCOL` be cleared (R356). -/
def Dev.lineReaction (d : Dev) (b : Bridge) : Nat :=
  (List.range 64).foldl (fun n l => if d.latchedFor b l then max n (d.classOf l) else n) 0

/-- The reactions in force are shown (R353). -/
def Dev.showReact (d : Dev) : Dev := (d.set FCOL.REACT_CLASSA (d.reaction 0)).set FCOL.REACT_CLASSB (d.reaction 1)

end Sys2Proof.Machine
end

