-- ==== Sys2Proof/Machine/Bridge.lean ====
section
/-! DEFINITION. What the chapters on the engine, the modulators, the gate link and the safety functions share: the commands
of the switch positions and their launch through the cross-interlock (R200, R264, R265), the states of the engine (R168),
the bridge safe state (R280) and STO (R368). -/

namespace Sys2Proof.Machine

/-- The engine's part of bridge b. -/
def Dev.engS (d : Dev) (b : Bridge) : EngState := vget d.vol.eng b

/-- Change the engine's part of bridge b. -/
def Dev.modEng (d : Dev) (b : Bridge) (f : EngState → EngState) : Dev :=
  { d with vol := { d.vol with eng := vset d.vol.eng b (f (vget d.vol.eng b)) } }

/-- Change what both bridges share in the engine. -/
def Dev.modCe (d : Dev) (f : EngShared → EngShared) : Dev := { d with vol := { d.vol with ce := f d.vol.ce } }

/-- Modulator x. -/
def Dev.modS (d : Dev) (x : Bridge) : ModState := vget d.vol.mod x

/-- Change modulator x. -/
def Dev.modMod (d : Dev) (x : Bridge) (f : ModState → ModState) : Dev :=
  { d with vol := { d.vol with mod := vset d.vol.mod x (f (vget d.vol.mod x)) } }

/-- Change the gate link. -/
def Dev.modGl (d : Dev) (f : GateLink → GateLink) : Dev := { d with vol := { d.vol with gl := f d.vol.gl } }

/-- Gate channel n. -/
def Dev.gate (d : Dev) (n : Chan) : GateState := vget d.vol.gl.ch n

/-- Change gate channel n. -/
def Dev.modGate (d : Dev) (n : Chan) (f : GateState → GateState) : Dev :=
  d.modGl fun g => { g with ch := vset g.ch n (f (vget g.ch n)) }

/-- The present CECLK cycle: 100 to an alignment epoch (R23). -/
def Dev.cycle (d : Dev) : Nat := d.now * 100

/-- Engine states (Table 6-2). -/
def Dev.engIs (d : Dev) (b : Bridge) (st : Nat) : Bool := decide (d.get (CE.BSTAT_ST b) = st)

/-- Is bridge b's engine ACTIVE? -/
def Dev.active (d : Dev) (b : Bridge) : Bool := d.engIs b 3

/-- The role; 4-7 act as OFF (Table 6-1). -/
def Dev.role (d : Dev) (b : Bridge) : Nat := if d.get (CE.BCFG_ROLE b) ≤ 3 then d.get (CE.BCFG_ROLE b) else 0

/-- `CTRL` as written; 3 acts as 0 (Table 6-9). -/
def Dev.ctrlField (d : Dev) (b : Bridge) : Nat := d.get (CE.BCFG_CTRL b) % 3

/-- The control mode in force: a DCDC bridge runs in band mode only (R248). -/
def Dev.ctrl (d : Dev) (b : Bridge) : Nat := if d.role b = 3 then 0 else d.ctrlField b

/-- The configuration of bridge b that the last snapshot took (R172). -/
def Dev.snapOf (d : Dev) (b : Bridge) : EngSnap := vget d.vol.ce.snap b

/-- A snapshot takes the configuration registers of both bridges (R172). -/
def Dev.takeSnap (d : Dev) : Dev :=
  d.modCe fun c => { c with snap := .ofFn fun b =>
    { ctrl := d.ctrl b, oclim := d.get (CE.OCLIM_OCLIM b), minPulse := d.get (CE.BANDCTL_MINPULSE b),
      tstLen := d.get (CE.TSTLEN_LEN b), lockN := d.get (CE.PLLCFG_LOCKN b),
      tags := .ofFn fun p => d.get (CE.INSLOT_TAG b p) } }

/-- The position block that serves bridge b (`POSSEL`). -/
def Dev.posSel (d : Dev) (b : Bridge) : Fin 2 := if d.get (CE.BCFG_POSSEL b) = 0 then 0 else 1

/-- The bridge, leg and partner of channel n: GC0-GC5 are A.UH, A.UL, A.VH, A.VL, A.WH, A.WL, GC6-GC11 those of B. -/
def chanBridge (n : Chan) : Bridge := if n.val < 6 then 0 else 1
def chanLeg (n : Chan) : Fin 6 := ⟨n.val / 2, by omega⟩
def chanMate (n : Chan) : Chan :=
  if h : n.val % 2 = 0 then ⟨n.val + 1, by omega⟩ else ⟨n.val - 1, by omega⟩

/-- The channels in order. -/
def allChans : List Chan := List.finRange 12

/-- The channels of bridge b. -/
def bridgeChans (b : Bridge) : List Chan := allChans.filter fun n => decide (chanBridge n = b)

/-! ### The commands of the switch positions -/

/-- The leg command of the source and refresh stages: 0 off, 1 low, 2 high (R200, R219). -/
def Dev.legCmd (d : Dev) (x : Bridge) (p : Fin 3) : Nat :=
  if vget (d.modS x).refresh p then (if vget (d.modS x).leg p = 2 then 1 else vget (d.modS x).leg p) else vget (d.modS x).leg p

/-- A position after the output mask (Table 7-6): q counts UH, UL, VH, VL, WH, WL; 3 acts as off. -/
def Dev.maskedPos (d : Dev) (x : Bridge) (q : Nat) : Bool :=
  match natField (d.get (MOD.OMASK_OMASK x)) (2 * q) 2 with
  | 0 => if h : q / 2 < 3 then decide (d.legCmd x ⟨q / 2, h⟩ = if q % 2 = 0 then 2 else 1) else false
  | 2 => true
  | _ => false

/-- Does the interlock of leg p of modulator x see both positions commanded on (R218)? -/
def Dev.legBothOn (d : Dev) (x : Bridge) (p : Nat) : Bool :=
  d.bit (MOD.CTL_RUN x) && d.maskedPos x (2 * p) && d.maskedPos x (2 * p + 1)

/-- The command of position q of modulator x after the output mask, the run gate and the leg interlock (Table 7-1). -/
def Dev.posCmd (d : Dev) (x : Bridge) (q : Nat) : Bool :=
  d.bit (MOD.CTL_RUN x) && d.maskedPos x q && !d.legBothOn x (q / 2)

/-- The dead time in PWMCLK cycles (R217). -/
def Dev.deadCycles (d : Dev) (x : Bridge) : Nat := 12 * max 10 (min 400 (d.get (MOD.DEAD_DT x)))

/-- The dead time of channel n's position, commanded on since PWMCLK cycle u, is over at cycle t (R217). -/
def Dev.deadOver (d : Dev) (n : Chan) (t : Nat) : Bool :=
  match vget d.vol.gl.since n with
  | some u => decide (u + d.deadCycles (chanBridge n) ≤ t)
  | none => false

/-- The command of channel n's position after stage 6, at the latest cycle judged: on once it has been commanded on for the dead time. -/
def Dev.posOut (d : Dev) (n : Chan) : Bool := d.deadOver n d.vol.gl.pwm

/-- Stage 6 takes the commands of stage 5 at PWMCLK cycle t (R217): a turn-on begins its dead time, a turn-off acts at once. -/
def Dev.stage6At (d : Dev) (t : Nat) : Dev :=
  d.modGl fun g =>
    { g with pwm := max t g.pwm,
             since := .ofFn fun n : Chan =>
               if d.posCmd (chanBridge n) (n.val % 6) then some ((vget g.since n).getD (max t g.pwm)) else none }

/-- Is channel n ARMED? -/
def Dev.armed (d : Dev) (n : Chan) : Bool := decide (d.get (GL.CHSTAT_ST n) = 2)

/-- What the gate link wants of channel n (Table 1-9, R264, R368, R280): STO, the leg rule, the bridge safe state with the
pattern in force, and then the modulator. -/
def Dev.wantOn (d : Dev) (n : Chan) : Bool :=
  let x := chanBridge n
  if d.bit (SIO.STO_ACT x) then false
  else if !d.armed n || !d.armed (chanMate n) || vget d.vol.gl.legHeld (chanLeg n) then false
  else if d.bit (GL.BSTAT_APPLIED x) then d.bit (GL.BSTAT_PAT x) && decide (n.val % 2 = 1)
  else if vget d.vol.gl.block x then false
  else d.posOut n

/-- The code of the newest result of the phase that channel n switches (R294). -/
def Dev.phaseCode (d : Dev) (n : Chan) : Int :=
  toSigned 16 (d.get (Q.LAST_V (d.get (CE.INSLOT_TAG (chanBridge n) ((chanLeg n).val % 3)))))

/-- OFF is launched to channel n, at CECLK cycle t. -/
def Dev.launchOff (d : Dev) (n : Chan) (t : Nat) : Dev :=
  if (d.gate n).launched || (d.gate n).waitOn then
    (d.modGate n fun g => { g with launched := false, waitOn := false, edgeCode := d.phaseCode n }).modGl fun g =>
      if (d.gate n).launched then { g with legT := vset g.legT (chanLeg n) t } else g
  else d

/-- May ON be launched to channel n: the last gate report of the other position is GATE_OFF, and no ON has been launched to
that position since (R265)? -/
def Dev.mateOff (d : Dev) (n : Chan) : Bool :=
  decide ((d.gate (chanMate n)).rep = some false) && !(d.gate (chanMate n)).onSince

/-- ON is launched to channel n, or waits for the interlock and is counted (R265). -/
def Dev.launchOn (d : Dev) (n : Chan) (t : Nat) : Dev :=
  if (d.gate n).launched then d
  else if d.mateOff n then
    (d.modGate n fun g => { g with launched := true, waitOn := false, onSince := true, edgeCode := d.phaseCode n }).modGl fun g =>
      { g with legT := vset g.legT (chanLeg n) t }
  else if (d.gate n).waitOn then d
  else (d.modGate n fun g => { g with waitOn := true }).countSat (GL.CHSUP_INTLKH n)

/-- A conflict of leg p of modulator x that begins or ends (R218). -/
def Dev.judgeConflict (d : Dev) (x : Bridge) (p : Fin 3) : Dev :=
  let now := d.legBothOn x p
  let d1 := d.modMod x fun m => { m with conflict := vset m.conflict p now }
  d1.when (now && !vget (d.modS x).conflict p) fun d =>
    ((d.set (MOD.STAT_SHOOT_REJ x) 1).countSat (MOD.STAT_SHOOTCNT x)).assertLine 30 (brMask x)

/-- The commands of all positions reach the gate link at PWMCLK cycle t: interlock conflicts are judged, stage 6 takes the commands, then every
OFF and then every ON is launched. -/
def Dev.driveAt (d : Dev) (t : Nat) : Dev :=
  let d0 := (d.each [(0, 0), (0, 1), (0, 2), (1, 0), (1, 1), (1, 2)] fun d xp => d.judgeConflict xp.1 xp.2).stage6At t
  let d1 := d0.each allChans fun d n => if d.wantOn n then d else d.launchOff n (t / 6)
  d1.each allChans fun d n => if d.wantOn n then d.launchOn n (t / 6) else d

/-- `driveAt` at the present epoch. -/
def Dev.drive (d : Dev) : Dev := d.driveAt (6 * d.cycle)

/-! ### Between commands -/

/-- The leg command of phase p of modulator x where the window rule moved its inner pulse, at PWMCLK cycle t (R215). -/
def Dev.movedLeg (d : Dev) (x : Bridge) (p : Fin 3) (t : Nat) : Option Nat :=
  (vget (d.modS x).moved p).map fun e => if (decide (e.1 ≤ t) && decide (t < e.2)) == d.bit (MOD.WIN_WAT x) then 1 else 2

/-- The cycles after the latest judged one at which something is due: the end of a dead time (R217), an edge of a moved pulse (R215). -/
def Dev.pwmDue (d : Dev) : List Nat :=
  (allChans.filterMap fun n => (vget d.vol.gl.since n).map fun u => u + d.deadCycles (chanBridge n)).filter (fun t => decide (d.vol.gl.pwm < t)) ++
  (((List.finRange 2).flatMap fun x => (d.modS x).moved.toList.flatMap fun e => match e with
    | some e => [e.1, e.2]
    | none => []).filter fun t => decide (d.vol.gl.pwm < t))

/-- The command of leg p of modulator x at PWMCLK cycle t, where a moved pulse of carrier mode gives it one; else it stays. -/
def Dev.legMoved (d : Dev) (x : Bridge) (p : Fin 3) (t : Nat) : Nat :=
  if d.get (MOD.CTL_MODE x) = 1 ∧ d.bit (MOD.CTL_EN x) = true then (d.movedLeg x p t).getD (vget (d.modS x).leg p) else vget (d.modS x).leg p

/-- The moved pulses drive their legs at PWMCLK cycle t; a refresh pulse ends where the source leaves HIGH (R219). -/
def Dev.movedAt (d : Dev) (t : Nat) : Dev :=
  (d.each (List.finRange 2) fun d x => d.modMod x fun m =>
    { m with leg := .ofFn fun p => d.legMoved x p t,
             refresh := .ofFn fun p => vget m.refresh p && decide (d.legMoved x p t = 2) }).driveAt t

/-- What falls due before PWMCLK cycle t happens in its order, at most n times: a dead time ends, a moved pulse has an edge. -/
def Dev.pwmRun (d : Dev) : Nat → Nat → Dev
  | 0, _ => d
  | n + 1, t =>
    match (d.pwmDue.filter fun u => decide (u < t)).min? with
    | some u => (d.movedAt u).pwmRun n t
    | none => d

/-- The output stages up to PWMCLK cycle t: at most six edges of moved pulses, twelve turn-ons they cause and twelve under way. -/
def Dev.pwmTo (d : Dev) (t : Nat) : Dev := d.pwmRun 30 t

/-! ### The engine states -/

/-- `RUN` follows the engine, or `OUTEN`, `EN` and `MODE` (R204). A fall clears the gate link's hold after a safe state. -/
def Dev.updateRun (d : Dev) (x : Bridge) : Dev :=
  let run := if d.bit (MOD.CTL_SRC x) then
      d.bit (MOD.CTL_OUTEN x) && d.bit (MOD.CTL_EN x) && decide (d.get (MOD.CTL_MODE x) ≠ 0)
    else d.active x && d.bit (MOD.CTL_EN x)
  let d1 := d.setBit (MOD.CTL_RUN x) run
  if run then d1
  else (d1.modGl fun g => { g with block := vset g.block x false }).modMod x fun m =>
    { m with refresh := .replicate 3 false, leg := if d.get (MOD.CTL_MODE x) = 2 then .replicate 3 0 else m.leg }

/-- A running test signal stops at once when the bridge leaves ACTIVE (R193); the change of `TSTATE` fires its source. -/
def Dev.abortTest (d : Dev) (b : Bridge) : Dev :=
  ((d.modEng b fun e => { e with test := { e.test with start := false, value := 0 } }).when
    (decide (d.get (CE.TSTCFG_TSTATE b) = 1)) fun d => (d.set (CE.TSTCFG_TSTATE b) 3).edge (132 + 16 * b))

/-- The command source by timeout ends (R252). -/
def Dev.clearAct (d : Dev) (b : Bridge) : Dev := d.set (if b = 0 then CE.LIMPST_ACTA else CE.LIMPST_ACTB) 0

/-! ### The operating state -/

/-- On leaving SERVICE resident firmware writes 0 to `OMASK`, `SRC` and `OUTEN` (R230). -/
def Dev.leaveService (d : Dev) : Dev :=
  (d.each ([0, 1] : List Bridge) fun d x => (((d.set (MOD.OMASK_OMASK x) 0).set (MOD.CTL_SRC x) 0).set (MOD.CTL_OUTEN x) 0).updateRun x).drive

/-- The module enters an operating state; a change fires source 340 (Table 12-1) and ends a waiting command READY (R440). -/
def Dev.opTo (d : Dev) (st : Nat) : Dev :=
  if d.get DE.STAT_OPSTATE = st then d
  else
    let d1 := { d with vol := { d.vol with dict := { d.vol.dict with readyAsked := false } } }
    ((d1.set DE.STAT_OPSTATE st).edge 340).when (decide (d.get DE.STAT_OPSTATE = 4)) Dev.leaveService

/-- A command READY that waits for the stops is carried out once no engine is ACTIVE (R440). -/
def Dev.readyEnd (d : Dev) : Dev :=
  if d.vol.dict.readyAsked && !d.active 0 && !d.active 1 then d.opTo 2 else d

/-! ### The active discharge -/

/-- The discharge state changes and fires its source (Table 12-1). -/
def Dev.dscTo (d : Dev) (st : Nat) : Dev :=
  (d.set GL.DSCSTAT_ST st).when (decide (d.get GL.DSCSTAT_ST ≠ st)) fun d => d.edge 218

/-- Is a MOTOR bridge ACTIVE? -/
def Dev.motorActive (d : Dev) : Bool := [(0 : Bridge), 1].any fun b => d.active b && decide (d.role b = 1)

/-- The method of a discharge under way follows `MODE` (3 acts as 2) and the bridges (R281): winding; the pin; or winding while a MOTOR bridge is
ACTIVE, and otherwise, and after 1,500 ms of winding discharge, the pin. -/
def Dev.dscFollow (d : Dev) : Dev :=
  if d.bit GL.DSCCTL_REQ && (decide (d.get GL.DSCSTAT_ST = 1) || decide (d.get GL.DSCSTAT_ST = 2)) then
    let pin := match d.get GL.DSCCTL_MODE with
      | 0 => false
      | 1 => true
      | _ => !d.motorActive || d.vol.gl.dscFell
    (d.modGl fun g => { g with dscPin := pin }).dscTo (if pin then 2 else 1)
  else d

/-- The engine of bridge b enters a state (Table 6-2): on leaving ACTIVE the test signal, the timed-out command source and
the clamps end; outside PRESET and ACTIVE the integrators are 0. -/
def Dev.engineTo (d : Dev) (b : Bridge) (st : Nat) : Dev :=
  if d.engIs b st then d
  else
    let d1 := (d.set (CE.BSTAT_ST b) st).edge (131 + 16 * b)
    let d2 := d1.when (d.active b) fun d =>
      ((d.abortTest b).clearAct b).modEng b fun e => { e with stop := none, ss1 := none }
    let d3 := d2.when (decide (st ≠ 2) && decide (st ≠ 3)) fun d => d.modEng b fun e =>
      { e with integ := .replicate 5 0, piD := 0, piQ := 0, starting := false, stop := none, ss1 := none }
    (((d3.set (if b = 0 then FCOL.REACT_STOPA else FCOL.REACT_STOPB) (b2n (d3.engS b).stop.isSome)).updateRun b)).dscFollow.drive.readyEnd

/-! ### The bridge safe state and STO -/

/-- The cause bits of `GL.BSTATx` (R280). -/
def causeBits (x : Bridge) : List Fld :=
  [GL.BSTAT_FCOL x, GL.BSTAT_HALT x, GL.BSTAT_HBEAT x, GL.BSTAT_ENGINE x, GL.BSTAT_TWOLEG x]

/-- Is any cause bit of bridge x set? -/
def Dev.anyCause (d : Dev) (x : Bridge) : Bool := (causeBits x).any fun f => d.bit f

/-- Is an active short circuit applied to bridge b: its safe state has that pattern, and no STO stands above it (Table 1-9)? -/
def Dev.ascApplied (d : Dev) (b : Bridge) : Bool := d.bit (GL.BSTAT_APPLIED b) && d.bit (GL.BSTAT_PAT b) && !d.bit (SIO.STO_ACT b)

/-- Where an active short circuit begins or ends, from the device d0 to d, the crossing timer starts anew (R242). -/
def Dev.ascFollow (d0 d : Dev) (b : Bridge) : Dev :=
  if d0.ascApplied b = d.ascApplied b then d else d.modEng b fun e => { e with ascX := 0, ascLast := none, ascEst := none }

/-- The bridge safe state follows its cause bits: at its entry it is counted, fires its source and sends an ACTIVE or
starting engine to HELD; at its end every position is commanded off until a new start (R280). -/
def Dev.applySafe (d : Dev) (x : Bridge) : Dev :=
  if d.anyCause x then
    let d1 := ((d.set (GL.BSTAT_APPLIED x) 1).setBit (GL.BSTAT_PAT x) (vget d.vol.gl.pat x)).when
      (!d.bit (GL.BSTAT_APPLIED x)) fun d => (d.countSat (GL.BSTAT_ENTRIES x)).edge (216 + x)
    d.ascFollow (d1.when (d.active x || d.engIs x 2) fun d => d.engineTo x 4).drive x
  else if d.bit (GL.BSTAT_APPLIED x) then
    d.ascFollow (((d.set (GL.BSTAT_APPLIED x) 0).set (GL.BSTAT_PAT x) 0).modGl fun g => { g with block := vset g.block x (d.bit (MOD.CTL_RUN x)) }).drive x
  else d

/-- A cause of the bridge safe state of x. -/
def Dev.safeCause (d : Dev) (x : Bridge) (f : Fld) : Dev := (d.set f 1).applySafe x

/-! ### Faults in two legs -/

/-- Is a position of leg l in SOFTOFF, WAIT, LATCHED, UVLO, OTLATCH or NOLINK (R279)? -/
def Dev.legFaulted (d : Dev) (l : Fin 6) : Bool :=
  [d.get (GL.CHSTAT_ST (2 * l.val)), d.get (GL.CHSTAT_ST (2 * l.val + 1))].any fun st => decide (st ≠ 1) && decide (st ≠ 2)

/-- Are two or more legs of bridge x faulted? -/
def Dev.twoLegs (d : Dev) (x : Bridge) : Bool :=
  decide (2 ≤ ([0, 1, 2, 3, 4, 5].filter fun l : Fin 6 => decide (l.val / 3 = x.val) && d.legFaulted l).length)

/-- Faults in two legs of an ACTIVE bridge (R279). -/
def Dev.judgeTwoLeg (d : Dev) (x : Bridge) : Dev :=
  if d.active x && d.twoLegs x then (d.assertLine 37 (brMask x)).safeCause x (GL.BSTAT_TWOLEG x) else d

/-- The STO of bridge x follows its sources (R368): at its entry it is counted, every position goes off and an ACTIVE or
starting engine goes to HELD; at its end every position stays off until a new start (R369); sources 240 and 241 report a change. -/
def Dev.applySto (d : Dev) (x : Bridge) : Dev :=
  let now := decide (d.get (SIO.STO_SRC x) ≠ 0)
  if now = d.bit (SIO.STO_ACT x) then d
  else
    let d1 := (((d.setBit (SIO.STO_ACT x) now).setBit (GL.BSTAT_STO x) now).edge (240 + x)).when now fun d =>
      d.countSat (SIO.STO_ENTRIES x)
    let d2 := (d1.when (now && (d.active x || d.engIs x 2)) fun d => d.engineTo x 4).when (!now && d1.bit (MOD.CTL_RUN x)) fun d =>
      d.modGl fun g => { g with block := vset g.block x true }
    d.ascFollow d2.drive x

/-- Source bit n of the STO of bridge x (`SRC`: 0 pin, 1 SIN, 2 SS1, 3 Causeway, 4 diagnostic latch) is set or cleared. -/
def Dev.stoSource (d : Dev) (x : Bridge) (n : Nat) (v : Bool) : Dev :=
  let s := d.get (SIO.STO_SRC x)
  (d.set (SIO.STO_SRC x) (if v = natBit s n then s else if v then s + 2 ^ n else s - 2 ^ n)).applySto x

/-- A failed STO diagnostic of bridge x (R370): its flag, the diagnostic latch, which holds STO in force, and line 46 or 47. -/
def Dev.stoDiag (d : Dev) (x : Bridge) : Dev :=
  (((d.set (SIO.STO_DIAGLAT x) 1).stoSource x 4 true)).assertLine (46 + x) (brMask x)

/-- No cause is left that keeps an engine HELD (R168). -/
def Dev.noHold (d : Dev) (b : Bridge) : Bool :=
  !d.anyCause b && !d.bit (SIO.STO_ACT b) && decide (d.reaction b < 3)

end Sys2Proof.Machine
end

