-- ==== Sys2Proof/Machine/Modulator.lean ====
section
/-! DEFINITION. Chapter 07: modes, the carrier, compares, update groups and the reload guard, sampling windows, refresh,
block commutation, and the modulator's events. -/

namespace Sys2Proof.Machine

/-- May master m write the window of modulator x: Truss and the dictionary engine only (R202)? -/
def Dev.modWritable (d : Dev) (m : Master) (x : Bridge) (a : Nat) : Bool :=
  isTrussOrDict m && d.accessAllowed m (0x40400000 + 0x10000 * x + a) true

/-! ### Tick requests -/

/-- A tick request (R170): dropped where it would start a tick less than 5,000 CECLK cycles after the last one. -/
def Dev.tickRequest (d : Dev) : Dev :=
  if !(d.works 4 3 && d.bit CE.CTL_EN) then d
  else match d.vol.ce.lastTick with
    | some t => if d.cycle < t + 5000 then d.set CE.TSTAT_DROP 1 else d.modCe fun c => { c with tickPend := true }
    | none => d.modCe fun c => { c with tickPend := true }

/-- Does `TSRC` name the zero point (`zero`) or the period point of modulator x (Table 6-8)? -/
def Dev.tickSourceHit (d : Dev) (x : Bridge) (zero : Bool) : Bool :=
  match d.get CE.CTL_TSRC, x.val with
  | 0, 0 | 2, 1 => zero
  | 1, 0 | 3, 1 => true
  | _, _ => false

/-! ### Groups -/

/-- The carrier period within its limits, bit 0 ignored (Table 7-6). -/
def carrierPeriod (v : Nat) : Nat := max 4800 (min 16777214 (v / 2 * 2))

/-- The space vector (R209): the ratios of CMP0-CMP2 in Q1.23 from vα and vβ in Q1.23, and whether a duty was clamped. -/
def spaceVector (va vb : Int) : List Nat × Bool :=
  let a := va * 20000000
  let b := -(va * 10000000) + 17320508 * vb
  let c := -(va * 10000000) - 17320508 * vb
  let mid := max a (max b c) + min a (min b c)
  let one : Int := 16777216 * 20000000
  let duty (v : Int) : Int := one / 2 + 2 * v - mid
  ([a, b, c].map fun v => (min 8388607 (roundDiv (clampInt 0 one (duty v)) 40000000)).toNat,
   [a, b, c].any fun v => decide (duty v < 0) || decide (one < duty v))

/-- Does the modulator form CMP0-CMP2 from `VA` and `VB` (R209)? -/
def Dev.svActive (d : Dev) (x : Bridge) : Bool :=
  decide (d.get (MOD.CTL_MODE x) = 1) && (!d.bit (MOD.CTL_SRC x) || d.bit (MOD.CTL_SV x))

/-- The shadows as a group (R210), with the ratios of the space vector where it is active (R209); the engine's chopping ratio in CMP0 is a ratio
whatever `RATIO` holds (R222). -/
def Dev.shadow (d : Dev) (x : Bridge) : ModGroup :=
  let g : ModGroup :=
    { prd := carrierPeriod (d.get (MOD.PRD_PRD x)), cmp := .ofFn fun i => d.get (MOD.CMP_CMP x i),
      va := d.get (MOD.VA_VA x), vb := d.get (MOD.VB_VB x), rn := 0 }
  if d.svActive x then
    let r := (spaceVector (toSigned 24 g.va) (toSigned 24 g.vb)).1
    { g with cmp := .ofFn fun i => if i.val < 3 then r.getD i 0 else d.get (MOD.CMP_CMP x i), rn := 3 }
  else { g with rn := if !d.bit (MOD.CTL_SRC x) && decide (d.get (MOD.CTL_MODE x) = 3) then 1 else 0 }

/-- Does the space vector of the shadows leave the linear range? -/
def Dev.svSaturates (d : Dev) (x : Bridge) : Bool :=
  d.svActive x && (spaceVector (toSigned 24 (d.get (MOD.VA_VA x))) (toSigned 24 (d.get (MOD.VB_VB x)))).2

/-- The registers of a list (0 `PRD`, 1-5 `CMP0`-`CMP4`, 6 `VA`, 7 `VB`) taken from group n into group g; ratios formed from
`VA` and `VB` go with either. -/
def takeRegs (g n : ModGroup) (rs : List Nat) : ModGroup :=
  let vs := decide (n.rn = 3) && (rs.contains 6 || rs.contains 7)
  { prd := if rs.contains 0 then n.prd else g.prd,
    cmp := .ofFn fun i => if rs.contains (i.val + 1) || (vs && decide (i.val < 3)) then vget n.cmp i else vget g.cmp i,
    va := if rs.contains 6 then n.va else g.va, vb := if rs.contains 7 then n.vb else g.vb, rn := n.rn }

/-- The elements of one list and those of another that it lacks. -/
def union (a b : List Nat) : List Nat := a ++ b.filter fun x => !a.contains x

/-- All eight registers of a group. -/
def allRegs : List Nat := [0, 1, 2, 3, 4, 5, 6, 7]

/-- Shadows go to pending (R211, R212); a whole group that finds one waiting replaces it. -/
def Dev.toPending (d : Dev) (x : Bridge) (rs : List Nat) : Dev :=
  let lost := rs.length = 8 && d.bit (MOD.GUARD_PEND x)
  let d1 := (d.modMod x fun m =>
    { m with pend := takeRegs m.pend (d.shadow x) rs, waits := if rs.length = 8 then allRegs else union m.waits rs }).set (MOD.GUARD_PEND x) 1
  (d1.when lost fun d => (d.set (MOD.GUARD_GRPLOST x) 1).countSat (MOD.GUARD_LOSTCNT x)).when (d.svSaturates x) fun d =>
    d.set (MOD.STAT_SVSAT x) 1

/-- A commit or group-less write under the reload guard (R213): inside the guard it waits for cycle L + 1. -/
def Dev.commitRegs (d : Dev) (x : Bridge) (rs : List Nat) (guard : Bool) : Dev :=
  if guard then
    ((d.modMod x fun m => { m with deferred := union m.deferred rs }).set (MOD.GUARD_DEFERRED x) 1).countSat (MOD.GUARD_DEFCNT x)
  else d.toPending x rs

/-- The control engine commits its update group (R171, R211); discarded with `SRC` 1 (R202). -/
def Dev.engineCommit (d : Dev) (x : Bridge) (fs : List (Fld × Nat)) (guard : Bool) : Dev :=
  if d.bit (MOD.CTL_SRC x) then d else (d.setAll fs).commitRegs x allRegs guard

/-! ### Reload -/

/-- The sampling window in PWMCLK cycles (R215). -/
def Dev.windowCycles (d : Dev) (x : Bridge) : Nat := 24 * max 60 (min 300 (d.get (MOD.WIN_WLEN x)))

/-- Bit-reversal of a 4-bit number (R207). -/
def rev4 (j : Nat) : Nat := 8 * (j % 2) + 4 * (j / 2 % 2) + 2 * (j / 4 % 2) + j / 8 % 2

/-- The compare of register i in sixteenths of a cycle, with a half period h in force (R208). -/
def Dev.compare16 (d : Dev) (x : Bridge) (g : ModGroup) (i : Fin 5) (h : Nat) : Nat :=
  let v := vget g.cmp i
  if d.bit (MOD.CTL_RATIO x) || decide (i.val < g.rn) then
    let r := toSigned 24 v
    if r < 0 then 0 else if r = 8388607 then 16 * h else (roundDiv (r * (16 * h : Nat)) 8388608).toNat
  else min v (16 * h)

/-- K of register i (R206, R207): dithered in CMP0-CMP2 by the frame index. -/
def Dev.compareK (d : Dev) (x : Bridge) (g : ModGroup) (i : Fin 5) (h : Nat) : Nat :=
  let c := d.compare16 x g i h
  if d.bit (MOD.CTL_DITH x) && decide (i.val < 3) && decide (rev4 (d.get (MOD.CNT_FRAME x)) < c % 16) then c / 16 + 1 else c / 16

/-- Is a pulse of w cycles too narrow to stay at the sampling point (R215)? -/
def Dev.narrow (d : Dev) (x : Bridge) (w : Nat) : Bool := decide (w < d.windowCycles x + 2 * d.deadCycles x)

/-- The window rule for a phase with compare k in the half period h whose reload is now (R215): where its inner pulse is moved, the cycles at which
it begins and ends, around the point T one half period on. -/
def Dev.windowMove (d : Dev) (x : Bridge) (k h : Nat) : Option (Nat × Nat) :=
  let w := if d.bit (MOD.WIN_WAT x) then 2 * (h - k) else 2 * min k h
  let t := (d.modS x).base + h
  let w2 := d.windowCycles x / 2
  if w = 0 ∨ d.narrow x w = false then none
  else
    let after := match d.get (MOD.WIN_WSIDE x) with
      | 0 => true
      | 1 => false
      | _ => decide (d.get (MOD.CNT_FRAME x) % 2 = 0)
    some (if after then (t + w2, t + w2 + w) else (t - w2 - d.deadCycles x - w, t - w2 - d.deadCycles x))

/-- Does the window rule apply with a half period h (R216)? -/
def Dev.windowFits (d : Dev) (x : Bridge) (h : Nat) : Bool := decide (3 * d.windowCycles x + 6 * d.deadCycles x ≤ 2 * h)

/-- Is the reload event at this point (R214, R216)? -/
def Dev.reloadHere (d : Dev) (x : Bridge) (zero : Bool) : Bool :=
  if d.bit (MOD.WIN_WEN x) then d.bit (MOD.WIN_WAT x) == zero
  else match d.get (MOD.CTL_RLD x) with
    | 1 => zero
    | 2 => !zero
    | _ => true

/-- The window rule at a reload, in carrier mode with `WEN` 1 (R215, R216). -/
def Dev.windowRule (d : Dev) (x : Bridge) : Dev :=
  let h := (d.modS x).half
  if !(d.bit (MOD.WIN_WEN x) && decide (d.get (MOD.CTL_MODE x) = 1)) then d.modMod x fun m => { m with moved := .replicate 3 none }
  else if d.windowFits x h then
    let mv : Vector (Option (Nat × Nat)) 3 := .ofFn fun p => d.windowMove x (vget (d.modS x).k ⟨p.val, by omega⟩) h
    (d.modMod x fun m => { m with moved := mv }).when (mv.toList.any Option.isSome) fun d => d.set (MOD.STAT_WSHIFT x) 1
  else (d.modMod x fun m => { m with moved := .replicate 3 none }).set (MOD.STAT_WLIM x) 1

/-- A reload event (R214), and the commits that its guard deferred (R213). -/
def Dev.reload (d : Dev) (x : Bridge) : Dev :=
  let m := d.modS x
  let act := if d.bit (MOD.GUARD_PEND x) then takeRegs m.act m.pend m.waits else m.act
  let h := act.prd / 2
  let d1 := (d.modMod x fun m =>
    { m with act := act, waits := [], half := h, k := .ofFn fun i => d.compareK x act i h }).set (MOD.GUARD_PEND x) 0
  let d2 := d1.windowRule x
  if m.deferred.isEmpty then d2
  else (d2.toPending x m.deferred).modMod x fun m => { m with deferred := [] }

/-! ### The leg commands -/

/-- The carrier comparison of phase p at the counter's place (R206). -/
def Dev.carrierHigh (d : Dev) (x : Bridge) (p : Fin 3) : Bool :=
  let k := vget (d.modS x).k ⟨p.val, by omega⟩
  if d.bit (MOD.CNT_DIR x) then decide (d.get (MOD.CNT_CNT x) ≤ k) else decide (d.get (MOD.CNT_CNT x) < k)

/-- The row of the block table for a sector (Table 7-6). -/
def Dev.blockRow (d : Dev) (x : Bridge) (s : Nat) : Nat :=
  match s with
  | 0 => d.get (MOD.BLKTBL0_SECT0 x) | 1 => d.get (MOD.BLKTBL0_SECT1 x) | 2 => d.get (MOD.BLKTBL0_SECT2 x)
  | 3 => d.get (MOD.BLKTBL0_SECT3 x) | 4 => d.get (MOD.BLKTBL1_SECT4 x) | _ => d.get (MOD.BLKTBL1_SECT5 x)

/-- The leg command of the source stage at PWMCLK cycle t (R201, R206, R215, R221, R222). -/
def Dev.sourceLeg (d : Dev) (x : Bridge) (p : Fin 3) (t : Nat) : Nat :=
  match d.get (MOD.CTL_MODE x) with
  | 1 => if d.bit (MOD.CTL_EN x) then (d.movedLeg x p t).getD (if d.carrierHigh x p then 2 else 1) else 0
  | 2 => vget (d.modS x).leg p
  | 3 =>
    match natField (d.blockRow x (d.modS x).sector) (2 * p) 2 with
    | 1 => if d.carrierHigh x 0 then 2 else 0
    | 2 => 1
    | 3 => if d.carrierHigh x 0 then 2 else 1
    | _ => 0
  | _ => 0

/-- The legs follow the source stage at PWMCLK cycle t; a refresh pulse ends where the source leaves HIGH (R219). -/
def Dev.updateLegs (d : Dev) (x : Bridge) (t : Nat) : Dev :=
  (d.modMod x fun m =>
    { m with leg := .ofFn fun p => d.sourceLeg x p t,
             refresh := .ofFn fun p => vget m.refresh p && decide (d.sourceLeg x p t = 2) }).driveAt t

/-- The PWMCLK cycle at which what is issued in CECLK cycle t reaches the source stage (R222). -/
def sourceCycle (t : Nat) : Nat := 6 * t + 11

/-- The band unit's decision for leg p reaches the source stage in band mode (R183, R201). -/
def Dev.bandLeg (d : Dev) (x : Bridge) (p : Fin 3) (v t : Nat) : Dev :=
  if d.get (MOD.CTL_MODE x) = 2 then
    ((d.pwmTo (sourceCycle t)).modMod x fun m =>
      { m with leg := vset m.leg p v, refresh := vset m.refresh p (vget m.refresh p && decide (v = 2)) }).driveAt (sourceCycle t)
  else d

/-- The block sector (R221): with `BLKSRC` 0 the Hall sector of the position block of the same number, an invalid code
leaving it; with `BLKSRC` 1 the sector of `ANG_E`. -/
def Dev.blockSector (d : Dev) (x : Bridge) : Nat :=
  if d.bit (MOD.BLKTBL1_BLKSRC x) then
    (d.get (POS.ANGLE_ANG_E x) + 4194304 - d.get (MOD.BLKOFS_BLKOFS x)) % 4194304 * 6 / 4194304
  else ((vget d.vol.pos x).hallSector).getD (d.modS x).sector

/-- The block commutation follows its sector, judged in CECLK cycle t. -/
def Dev.commutate (d : Dev) (x : Bridge) (t : Nat) : Dev :=
  if d.get (MOD.CTL_MODE x) = 3 then
    ((d.pwmTo (sourceCycle t)).modMod x fun m => { m with sector := d.blockSector x }).updateLegs x (sourceCycle t)
  else d

/-! ### Events -/

/-- Event k of modulator x occurs (R223): it acts at its first occurrence and then at every (`PSC` + 1)-th; an event that acts
sets its bit and, with `IE` 1, fires its source; with `TE` 1 it pulses the trigger line (R224). -/
def Dev.modEvent (d : Dev) (x : Bridge) (k : Fin 7) : Dev :=
  let d1 := d.countWrap (MOD.EV_OCC x k)
  let c := vget (d.modS x).psc k
  if c = 0 then
    let d2 := d1.modMod x fun m => { m with psc := vset m.psc k (d.get (MOD.EV_PSC x k)), trig := m.trig || d.bit (MOD.EV_TE x k) }
    (d2.set (MOD.EVSTAT_EVF x) (if natBit (d.get (MOD.EVSTAT_EVF x)) k then d.get (MOD.EVSTAT_EVF x) else d.get (MOD.EVSTAT_EVF x) + 2 ^ k.val)).when
      (d.bit (MOD.EV_IE x k)) fun d => d.edge (160 + 16 * x + k)
  else d1.modMod x fun m => { m with psc := vset m.psc k (c - 1) }

/-- Does the counter of modulator x run? -/
def Dev.carrierRuns (d : Dev) (x : Bridge) : Bool := d.works 4 0 && d.bit (MOD.CTL_EN x) && (d.modS x).running

/-- A zero or period point at PWMCLK cycle t (R205): the event, a tick request, a reload, and the comparison with the new values. -/
def Dev.carrierPoint (d : Dev) (x : Bridge) (zero : Bool) (t : Nat) : Dev :=
  let d1 := (((d.pwmTo t).modMod x fun m => { m with base := t }).modEvent x (if zero then 0 else 1)).when (d.tickSourceHit x zero) Dev.tickRequest
  let d2 := d1.when (d1.reloadHere x zero) fun d => d.reload x
  let d3 := ((d2.setBit (MOD.CNT_DIR x) (!zero)).set (MOD.CNT_CNT x) (if zero then 0 else (d2.modS x).half))
  d3.updateLegs x t

/-- CARRIER_START (R205): at the epoch after `EN` is set the counter starts at a zero point with frame index 0. -/
def execCarrierStart (x : Bridge) (s : State) : Host.Outcome State Fault Refusal :=
  s.lift fun d =>
    if d.works 4 0 && d.bit (MOD.CTL_EN x) && !(d.modS x).running then
      (((d.modMod x fun m => { m with running := true, half := m.act.prd / 2, psc := .replicate 7 0 }).set (MOD.CNT_FRAME x) 0)).carrierPoint x true (6 * d.cycle)
    else d

/-- The PWMCLK cycle of the next zero or period point (R205). -/
def Dev.nextPoint (d : Dev) (x : Bridge) : Nat := (d.modS x).base + (d.modS x).half

/-- CARRIER_ZERO_POINT (R205). -/
def execCarrierZeroPoint (x : Bridge) (s : State) : Host.Outcome State Fault Refusal :=
  s.lift fun d => if d.carrierRuns x then (d.countWrap (MOD.CNT_FRAME x)).carrierPoint x true (d.nextPoint x) else d

/-- CARRIER_PERIOD_POINT (R205). -/
def execCarrierPeriodPoint (x : Bridge) (s : State) : Host.Outcome State Fault Refusal :=
  s.lift fun d => if d.carrierRuns x then d.carrierPoint x false (d.nextPoint x) else d

/-- COMPARE_EVENT (R206, R223): the counter reaches K of compare i on the way up or down; `EDGE` restricts the event to one
direction. The legs follow the comparison at this place. -/
def execCompareEvent (x : Bridge) (i : Fin 5) (down : Bool) (s : State) : Host.Outcome State Fault Refusal :=
  s.lift fun d =>
    let k := vget (d.modS x).k i
    if d.carrierRuns x && decide (1 ≤ k) && decide (k + 1 ≤ (d.modS x).half) then
      let t := (d.modS x).base + (if down then (d.modS x).half - k else k)
      let d1 := (((d.pwmTo t).set (MOD.CNT_CNT x) k).setBit (MOD.CNT_DIR x) down).updateLegs x t
      let e := d.get (MOD.EV_EDGE x (i.val + 2))
      if (e = 1 ∧ down = true) ∨ (e = 2 ∧ down = false) then d1 else d1.modEvent x ⟨i.val + 2, by omega⟩
    else d

/-! ### Writes -/

/-- GROUP_COMMIT (R202, R211, R213): with `SRC` 0 it is forbidden, with `GRP` 0 it has no effect. -/
def execGroupCommit (m : Master) (x : Bridge) (guard : Bool) (s : State) : Host.Outcome State Fault Refusal :=
  s.lift fun d =>
    if !(d.modWritable m x 0x0C && d.bit (MOD.CTL_SRC x)) then d.busError m (0x4040000C + 0x10000 * x) true
    else if d.bit (MOD.CTL_GRP x) then (d.commitRegs x allRegs guard).busOk 0 else d.busOk 0

/-- The group register of number r (0 `PRD`, 1-5 `CMP0`-`CMP4`, 6 `VA`, 7 `VB`) and its offset. -/
def groupFld (x : Bridge) (r : Fin 8) : Fld :=
  match r.val with
  | 0 => MOD.PRD_PRD x
  | 6 => MOD.VA_VA x
  | 7 => MOD.VB_VB x
  | n => MOD.CMP_CMP x (n - 1)

/-- A fabric write of a group register (R210-R212): the shadow takes the value; with `GRP` 0 the register goes to pending. -/
def Dev.groupWrite (d : Dev) (x : Bridge) (r : Fin 8) (v : Nat) (guard : Bool) : Dev :=
  let d1 := d.set (groupFld x r) (if r.val = 0 then v % 16777216 / 2 * 2 else v)
  if d.bit (MOD.CTL_GRP x) then d1 else d1.commitRegs x [r.val] guard

/-- GROUP_REGISTER_WRITE (R202, R212, R213). -/
def execGroupRegisterWrite (m : Master) (x : Bridge) (r : Fin 8) (v : Word) (guard : Bool) (s : State) :
    Host.Outcome State Fault Refusal :=
  s.lift fun d =>
    if d.modWritable m x 8 && d.bit (MOD.CTL_SRC x) then (d.groupWrite x r v.toNat guard).busOk 0
    else d.busError m (groupFld x r).addr true

/-- What a changed `CTL` leads to (R204, R221): `RUN`, the sector and the legs. -/
def Dev.modCtlFollow (d : Dev) (x : Bridge) : Dev := ((d.updateRun x).commutate x d.cycle).updateLegs x (6 * d.cycle)

/-- A write of `MOD_x.CTL` (R201, R204, R205): with `RUN` 1 a write of `MODE` (`modeToo`), or `EN` 0, has no effect and sets `MODEREJ`, but for a
locked `MODE`, whose write is not recorded (R13; log 146); `EN` 0 stops the counter at 0; the other fields take their values. -/
def Dev.modCtlWrite (d : Dev) (x : Bridge) (v : Nat) (modeToo : Bool) : Dev :=
  let run := d.bit (MOD.CTL_RUN x)
  let mode := natField v 1 2
  let en := natBit v 0
  let locked := d.bit (MOD.CTL_LOCK x)
  let rej := run && ((modeToo && !locked) || !en)
  let d1 := d.writeFields [ MOD.CTL_OUTEN x, MOD.CTL_SV x, MOD.CTL_DITH x, MOD.CTL_RATIO x, MOD.CTL_GRP x, MOD.CTL_RLD x, MOD.CTL_SRC x] v
  let d2 := d1.when rej fun d => d.set (MOD.STAT_MODEREJ x) 1
  let d3 := d2.when (!run && !locked && modeToo) fun d => d.set (MOD.CTL_MODE x) mode
  let d4 := d3.when (en || !run) fun d => d.setBit (MOD.CTL_EN x) en
  let d5 := d4.when (!d4.bit (MOD.CTL_EN x)) fun d =>
    ((d.modMod x fun m => { m with running := false }).set (MOD.CNT_CNT x) 0).set (MOD.CNT_DIR x) 0
  d5.modCtlFollow x

/-- A write of `MOD_x.DEAD` (R217): with `RUN` 1 refused with `MODEREJ`; locked not recorded (R13; log 146). -/
def Dev.modDeadWrite (d : Dev) (x : Bridge) (v : Nat) : Dev :=
  if d.bit (MOD.CTL_LOCK x) then d
  else if d.bit (MOD.CTL_RUN x) then d.set (MOD.STAT_MODEREJ x) 1 else d.set (MOD.DEAD_DT x) v

/-- MODE_WRITE (R201, R205, R217). -/
def execModeWrite (m : Master) (x : Bridge) (w : ModWrite) (s : State) : Host.Outcome State Fault Refusal :=
  s.lift fun d =>
    match w with
    | .ctl v => if d.modWritable m x 0 then (d.modCtlWrite x v.toNat true).busOk 0 else d.busError m (0x40400000 + 0x10000 * x) true
    | .dead v => if d.modWritable m x 4 then (d.modDeadWrite x v.toNat).busOk 0 else d.busError m (0x40400004 + 0x10000 * x) true

/-! ### Refresh and the heartbeat -/

/-- Does leg p act as REFRESH: `PUMP` bit 0, or no reservoir capacitor at its upper island (R219, R220)? -/
def Dev.refreshLeg (d : Dev) (x : Bridge) (p : Nat) : Bool :=
  !natBit (d.get (MOD.RFSH_PUMP x)) p || !d.bit (GL.CHSTAT_CAPPRES (6 * x + 2 * p))

/-- Is a refresh pulse of modulator x moved by the window rule: `RFW` × 24 + D cycles, around a sampled period point (R219, R215)? -/
def Dev.refreshMoved (d : Dev) (x : Bridge) : Bool :=
  decide (d.get (MOD.CTL_MODE x) = 1) && d.bit (MOD.WIN_WEN x) && d.bit (MOD.WIN_WAT x) && d.windowFits x (d.modS x).half &&
    d.narrow x (24 * max 20 (min 250 (d.get (MOD.RFSH_RFW x))) + d.deadCycles x)

/-- REFRESH_PULSE (R219): the pulse begins at the place that the rule gives it, while the source commands HIGH and the mask does not force the
position on, or ends; one that the window rule has shifted sets `WSHIFT`. -/
def execRefreshPulse (x : Bridge) (p : Fin 3) (starts : Bool) (s : State) : Host.Outcome State Fault Refusal :=
  s.lift fun d =>
    if starts then
      if d.bit (MOD.CTL_RUN x) && d.refreshLeg x p && decide (vget (d.modS x).leg p = 2) && !vget (d.modS x).refresh p &&
          decide (natField (d.get (MOD.OMASK_OMASK x)) (4 * p) 2 ≠ 2) then
        ((((d.modMod x fun m => { m with refresh := vset m.refresh p true }).set (MOD.STAT_RFINS x) 1).countWrap (MOD.STAT_RFCNT x)).when (d.refreshMoved x) fun d =>
          d.set (MOD.STAT_WSHIFT x) 1).drive
      else d
    else (d.modMod x fun m => { m with refresh := vset m.refresh p false }).drive

/-- `PUMPNA` follows the latest reports of the islands with `PUMP` bits 1 (R220). -/
def Dev.judgePump (d : Dev) (x : Bridge) : Dev :=
  d.each [0, 1, 2] fun d p =>
    d.when (natBit (d.get (MOD.RFSH_PUMP x)) p && d.bit (GL.CHSTAT_LINK (6 * x + 2 * p)) && !d.bit (GL.CHSTAT_CAPPRES (6 * x + 2 * p))) fun d =>
      d.set (MOD.STAT_PUMPNA x) 1

/-- HEARTBEAT_LOSS (R227): the gate link applies the bridge safe state and records `HBEAT`; the modulator safe-state line
(31) is raised. -/
def execHeartbeatLoss (x : Bridge) (s : State) : Host.Outcome State Fault Refusal :=
  s.lift fun d => if d.domainUp 5 then (d.safeCause x (GL.BSTAT_HBEAT x)).assertLine 31 (brMask x) else d

end Sys2Proof.Machine
end

