-- ==== Sys2Proof/Machine/Operands.lean ====
section
/-! DEFINITION. The operands of the tick: the twelve input slots of a bridge and their validity (R173), the units of
commands and measured values (R174, Tables 6-10 and 8-10), and the speed. -/

namespace Sys2Proof.Machine

/-- The value of an object that no register mirrors, or `dflt` where it was never written. -/
def Dev.obj (d : Dev) (i s dflt : Nat) : Nat := rfGet d.vol.objs (i * 256 + s) dflt

/-- An object that no register mirrors takes a value. -/
def Dev.setObj (d : Dev) (i s dflt v : Nat) : Dev :=
  { d with vol := { d.vol with objs := rfSet d.vol.objs (i * 256 + s) dflt v } }

/-- The signed code of the newest entry of a channel tag (Table 4-9). -/
def Dev.lastCode (d : Dev) (tag : Nat) : Int := toSigned 16 (d.get (Q.LAST_V tag))

/-- A code scaled by slot n of bridge b to per unit in Q4.28 (R173), before saturation. -/
def Dev.slotScale (d : Dev) (b : Bridge) (n : Nat) (code : Int) : Int :=
  roundDiv ((code - d.sget (CE.INSLOT_OFS b n)) * d.sget (CE.INGAIN_GAIN b n)) 2048

/-- Is the input that a tag names converted in its slice's present mode, by a slice number that a converter serves (R173)? -/
def Dev.tagValid (d : Dev) (tag : Nat) : Bool :=
  let k : Fin 32 := ⟨tag / 4 % 32, Nat.mod_lt _ (by decide)⟩
  let c := vget d.vol.ana.scan k
  decide (d.get (AS.SLST_SERVER k) ≠ 3) &&
  (match c.mode with
   | 1 => natBit c.tmask (tag % 4)
   | 2 => natBit c.smask (tag % 4) || natBit c.tmask (tag % 4)
   | _ => false)

/-- Is slot n of bridge b valid? -/
def Dev.slotValid (d : Dev) (b : Bridge) (n : Nat) : Bool := d.tagValid (d.get (CE.INSLOT_TAG b n))

/-- Are all enabled slots of bridge b valid (R169)? -/
def Dev.slotsValid (d : Dev) (b : Bridge) : Bool :=
  (List.range 12).all fun n => !d.bit (CE.INSLOT_EN b n) || d.slotValid b n

/-- The speed base in rpm; 0 acts as 1 (Table 6-9). -/
def Dev.baseSpd (d : Dev) (b : Bridge) : Nat := max 1 (d.get (CE.BASEW_BASESPD b))

/-- A speed in rev/s (Q16.16) in per unit of the speed base, Q4.28 (R174). -/
def Dev.speedQ (d : Dev) (b : Bridge) (v : Int) : SQ := qlim false (roundDiv (v * 60 * 4096) (d.baseSpd b))
def Dev.speedPu (d : Dev) (b : Bridge) (v : Int) : Int := (d.speedQ b v).v

/-- The measured speed: `SPEED` of the bridge's position block; at PRESET that of the angle source in force (R174, R237). -/
def Dev.measuredSpeed (d : Dev) (b : Bridge) : Int :=
  if d.engIs b 2 ∧ d.get (POS.ANGLE_ACTSRC (d.posSel b)) = 1 then d.sget (POS.OBSSPD_SPDOBS (d.posSel b))
  else d.sget (POS.SPEED_SPEED (d.posSel b))

/-- The command mode in force: 1 only in MOTOR, 2 only in GRID and DCDC, else 0 (R169). -/
def Dev.cmdMode (d : Dev) (b : Bridge) : Nat :=
  match d.get (CE.BCFG_CMDMODE b), d.role b with
  | 1, 1 => 1
  | 2, 2 => 2
  | 2, 3 => 2
  | _, _ => 0

/-- A value of an object in per unit: 0.01 % of base, 0.1 rpm of `BASESPD`, or mV of `BASEV` (Table 6-10), by command mode.
A quotient by a base of 0 is the open value z. -/
def Dev.objectQ (d : Dev) (b : Bridge) (mode : Nat) (v z : Int) : SQ :=
  match mode with
  | 1 => qlim false (roundDiv (v * 268435456) (10 * d.baseSpd b))
  | 2 => if d.get (CE.BASE_BASEV b) = 0 then ⟨sat32 z, false⟩ else qlim false (roundDiv (v * 268435456) (100 * d.get (CE.BASE_BASEV b)))
  | _ => qlim false (roundDiv (v * 268435456) 10000)
def Dev.objectPu (d : Dev) (b : Bridge) (mode : Nat) (v z : Int) : Int := (d.objectQ b mode v z).v

/-- The command and the auxiliary set-point objects of bridge b (Table 6-10). -/
def Dev.cmdObject (d : Dev) (b : Bridge) : Int := toSigned 32 (d.obj (0x3001 + 0x10 * b) 1 0)
def Dev.auxObject (d : Dev) (b : Bridge) : Int := toSigned 32 (d.obj (0x3001 + 0x10 * b) 2 0)

/-- The command source; 3 acts as 0 (Table 6-9). -/
def Dev.cmdSrc (d : Dev) (b : Bridge) : Nat := d.get (CE.BCFG_CMDSRC b) % 3

/-- The target of ramp 0: the pin when `CMDSRC` selects it or the command object has timed out, `CMDVAL`, or the command
object (Table 6-9, R252). -/
def Dev.command (d : Dev) (b : Bridge) (z : Int) : SQ :=
  let byPin := d.bit (if b = 0 then CE.LIMPST_ACTA else CE.LIMPST_ACTB)
  let src := d.cmdSrc b
  if src = 2 then ⟨d.sget (CE.CMDVAL_CMDVAL b), false⟩
  else if (src = 1 ∧ d.secondLife = false) ∨ (src = 0 ∧ byPin) then ⟨d.sget CE.LIMPVAL_LVAL, false⟩
  else d.objectQ b (d.cmdMode b) (d.cmdObject b) z

/-- A battery limit in mA in per unit of `BASEI` (Table 6-10). -/
def Dev.currentPu (d : Dev) (b : Bridge) (mA z : Int) : Int :=
  if d.get (CE.BASE_BASEI b) = 0 then sat32 z else sat32 (roundDiv (mA * 268435456) (100 * d.get (CE.BASE_BASEI b)))

/-- Per unit of current, or voltage, in 2^-20 A, or V. -/
def Dev.amps20 (d : Dev) (b : Bridge) (x : Int) : Int := roundDiv (x * d.get (CE.BASE_BASEI b)) 2560
def Dev.volts20 (d : Dev) (b : Bridge) (x : Int) : Int := roundDiv (x * d.get (CE.BASE_BASEV b)) 2560

end Sys2Proof.Machine
end

