-- ==== Sys2Proof/Machine/Gate.lean ====
section
/-! DEFINITION. Chapter 09: the islands and their two paths, the channel states, gate strength, protection, retries and
latches, and the active discharge. (EDGE, ISLAND_OVERTEMPERATURE and BSTAT_CAUSE_CLEAR stand with the chapters they reach
into.) -/

namespace Sys2Proof.Machine

/-! ### The islands over a reset of the controller die -/

/-- What a reset of the gate link leaves of a channel: its island, which has a supply of its own (R63, R302). -/
def GateState.island (g : GateState) : GateState :=
  { GateState.reset with sw := g.sw, islLatch := g.islLatch, supplied := g.supplied, dieLatch := g.dieLatch, regs := g.regs, prot := g.prot, symErr := g.symErr,
                         badWr := g.badWr, linked := g.linked, edges := g.edges, faultQ := g.faultQ, hello := g.hello }

/-- The gate link after its reset. -/
def GateLink.restart (g : GateLink) : GateLink := { GateLink.reset with ch := g.ch.map GateState.island, pwm := g.pwm }

/-- The blocks of the controller die after their reset. -/
def Vol.restart (v : Vol) : Vol := { Vol.reset with gl := v.gl.restart }

/-! ### Channel states -/

/-- Does the gate link work? -/
def Dev.glWorks (d : Dev) : Bool := d.works 5 6

/-- The channel's bridge as an attribution. -/
def Dev.chanMask (n : Chan) : Nat := brMask (chanBridge n)

/-- Channel n enters a state (Table 9-5): the change fires its source; in any state but ARMED its leg is held off (R264). -/
def Dev.chanTo (d : Dev) (n : Chan) (st : Nat) : Dev :=
  let d1 := (d.set (GL.CHSTAT_ST n) st).when (decide (d.get (GL.CHSTAT_ST n) ≠ st)) fun d => d.edge (192 + n)
  let d2 := d1.when (decide (st ≠ 2)) fun d => d.modGl fun g => { g with legHeld := vset g.legHeld (chanLeg n) true }
  (d2.judgeTwoLeg (chanBridge n)).drive

/-- Channel n latches (R276, R257, R265). -/
def Dev.latchChan (d : Dev) (n : Chan) : Dev := (d.modGate n fun g => { g with kept := true }).chanTo n 5

/-- The faults of channel n in the last 1,000 ms (4,000,000 epochs), this one included (R276). -/
def Dev.recentFaults (d : Dev) (n : Chan) : Nat := ((d.gate n).faults.filter fun t => decide (d.now < t + 4000000)).length

/-- The outcome of a soft turn-off (R276): WAIT (4) with its retry wait, or LATCHED (5). -/
def Dev.retryOutcome (d : Dev) (n : Chan) : Nat := if d.recentFaults n ≤ d.get (GL.CHRTY_RETRYN n) then 4 else 5

/-! ### Frames of the service path (R258) -/

/-- The 27 bits that the CRC covers: `CMD`, `ADDR` and `DATA`, the most significant first (Table 9-2). -/
def framePayload (cmd a v : Nat) : Nat := cmd % 8 * 2 ^ 24 + a % 256 * 2 ^ 16 + v % 65536

/-- CRC-8 with the polynomial x^8 + x^2 + x + 1 over the n low bits of p, the most significant first, from the value c. -/
def crc8 (p : Nat) : Nat → Nat → Nat
  | 0, c => c
  | n + 1, c => crc8 p n ((if (natBit c 7 != natBit p n) then 7 else 0) ^^^ (2 * c % 256))

/-- The CRC of a frame; its initial value is 0. -/
def frameCrc (cmd a v : Nat) : Nat := crc8 (framePayload cmd a v) 27 0

/-- A frame as it is sent, in 40 bits (Table 9-2): start bit 0, `CMD`, `ADDR`, `DATA`, CRC, four stop bits 1. -/
def serviceFrame (cmd a v : Nat) : Nat := (framePayload cmd a v * 256 + frameCrc cmd a v) * 16 + 15

/-- An island receives a frame with CRC c: a wrong one is discarded; any other keeps its service path alive and acts (R258-R260). -/
def Dev.toIsland (d : Dev) (n : Chan) (cmd a v : Nat) (c : BitVec 8) (f : GateState → GateState) : Dev :=
  if c.toNat = frameCrc cmd a v then d.modGate n fun g => f { g with hello := false } else d

/-- The link is rebuilt: every register is written and read back again (R260). -/
def GateState.unlink (g : GateState) : GateState := { g with sync := List.range 12, rd := [] }

/-- Both paths of channel n are silent: NOLINK, `EN` 0, and the next HELLO is awaited (R260, Table 9-5). -/
def Dev.noLink (d : Dev) (n : Chan) : Dev :=
  (((d.set (GL.CHCFG_EN n) 0).set (GL.CHSTAT_LINK n) 0).modGate n fun g => { g.unlink with greeted := false }).chanTo n 0

/-- The gate link knows of a die latch: OTLATCH and line 44 (R302). -/
def Dev.toOtlatch (d : Dev) (n : Chan) : Dev := (d.assertLine 44 (Dev.chanMask n)).chanTo n 7

/-- The service path of channel n is lost (R260): `SPLOSS`, line 32, and the link is rebuilt; NOLINK where the edge path is silent too. -/
def Dev.servicePathLost (d : Dev) (n : Chan) : Dev :=
  let d1 := (((d.modGate n fun g => { g with spDown := true, badCrc := 0 }.unlink).set (GL.CHSTAT_SPLOSS n) 1).set
    (GL.CHSTAT_LINK n) 0).assertLine 32 (Dev.chanMask n)
  d1.when (d.gate n).epDown fun d => d.noLink n

/-- The gate link receives a frame of channel n's island with CRC c: a wrong one is discarded, and the third in a row is a loss of the path; any
other shows the path alive and acts (R258, R260). -/
def Dev.fromIsland (d : Dev) (n : Chan) (cmd a v : Nat) (c : BitVec 8) (f : Dev → Dev) : Dev :=
  if !d.glWorks then d
  else if c.toNat = frameCrc cmd a v then f (d.modGate n fun g => { g with spDown := false, badCrc := 0 })
  else if 2 ≤ (d.gate n).badCrc then d.servicePathLost n
  else d.modGate n fun g => { g with badCrc := g.badCrc + 1 }

/-! ### The island's registers (Table 9-4) -/

/-- A strength within its bounds (R269). -/
def Dev.strOn (d : Dev) (n : Chan) (v : Nat) : Nat := max (d.get (GL.CHBND_SMINON n)) (min (d.get (GL.CHBND_SMAXON n)) v)
def Dev.strOff (d : Dev) (n : Chan) (v : Nat) : Nat := max (d.get (GL.CHBND_SMINOFF n)) (min (d.get (GL.CHBND_SMAXOFF n)) v)

/-- What the gate link writes to register a of channel n's island, from its own registers (R260; the places of the fields: log 148). -/
def Dev.mirror (d : Dev) (n : Chan) (a : Fin 12) : Nat :=
  match a.val with
  | 0 => d.get (GL.CHCFG_ADAPTON n) + 2 * d.get (GL.CHCFG_ADAPTOFF n) + 4 * d.get (GL.CHDES_HSEN n)
  | 1 => d.get (GL.CHBND_SMINON n) + 256 * d.get (GL.CHBND_SMAXON n)
  | 2 => d.get (GL.CHBND_SMINOFF n) + 256 * d.get (GL.CHBND_SMAXOFF n)
  | 3 => d.strOn n (d.get (GL.CHSTR_INITON n)) + 256 * d.strOff n (d.get (GL.CHSTR_INITOFF n))
  | 4 => d.get (GL.CHTGT_TTON n)
  | 5 => d.get (GL.CHTGT_TTOFF n)
  | 6 => d.get (GL.CHDES_DSTHR n) + 256 * d.get (GL.CHDES_DSFILT n)
  | 7 => d.get (GL.CHDES_BLANK n)
  | 8 => d.get (GL.CHDES_HSTHR n)
  | 9 => d.get (GL.CHSTO_STOLVL n) + 256 * d.get (GL.CHSTO_STOSTR n)
  | 10 => d.get (GL.CHSTO_STOT1 n)
  | _ => d.get (GL.CHCFG_TDB n)

/-- The island registers that a gate-link register of a channel mirrors, by its offset in the channel (Tables 9-4, 9-8). -/
def mirroredBy (o : Nat) : List Nat :=
  match o with
  | 0x00 => [0, 11] | 0x04 => [1, 2] | 0x08 => [3] | 0x0C => [4, 5] | 0x10 => [0, 6, 7, 8] | 0x14 => [9, 10] | _ => []

/-- 0x06-0x0A take effect at the next turn-off, and while the switch is off at once (R261). -/
def GateState.applyProt (g : GateState) : GateState :=
  if g.sw = 0 then { g with prot := .ofFn fun i => vget g.regs ⟨i.val + 6, by omega⟩ } else g

/-- The island takes a value into register a. -/
def GateState.takeReg (g : GateState) (a : Fin 12) (v : Nat) : GateState := { g with regs := vset g.regs a v }.applyProt

/-- The steps in force that the gate link shows are those of its island (0x03, R269; log 149). -/
def Dev.showStrength (d : Dev) (n : Chan) : Dev :=
  (d.set (GL.CHSTR_STON n) (vget (d.gate n).regs 3 % 64)).set (GL.CHSTR_STOFF n) (vget (d.gate n).regs 3 / 256 % 64)

/-! ### Symbols -/

/-- ON (R64, R256): a symbol that the gate link has launched. The island turns its switch on, its supply and its link being up and its latches clear. -/
def execOn (n : Chan) (s : State) : Host.Outcome State Fault Refusal :=
  s.lift fun d => d.modGate n fun g =>
    if g.launched && g.linked && g.supplied && decide (g.islLatch = 0) && !g.dieLatch && decide (g.sw = 0) then { g with sw := 1 } else g

/-- OFF (R256, R275): a soft turn-off is not interrupted. -/
def execOff (n : Chan) (s : State) : Host.Outcome State Fault Refusal :=
  s.lift fun d => d.modGate n fun g => if g.sw = 2 then g else { g with sw := 0 }.applyProt

/-- GATE_ON (R265). -/
def execGateOn (n : Chan) (s : State) : Host.Outcome State Fault Refusal :=
  s.lift fun d => if d.glWorks then (d.modGate n fun g => { g with rep := some true, onSince := false, epDown := false }).drive else d

/-- GATE_OFF (R265): a turn-on of the other position that waited is launched. -/
def execGateOff (n : Chan) (s : State) : Host.Outcome State Fault Refusal :=
  s.lift fun d => if d.glWorks then (d.modGate n fun g => { g with rep := some false, onSince := false, epDown := false }).drive else d

/-- IDLE (R256, R257): keeps the loss watch of the receiving end from expiring. -/
def execIdle (n : Chan) (toIsland : Bool) (s : State) : Host.Outcome State Fault Refusal :=
  s.lift fun d => if toIsland || !d.glWorks then d else d.modGate n fun g => { g with epDown := false }

/-- SYMBOL_ERROR (R256). -/
def execSymbolError (n : Chan) (s : State) : Host.Outcome State Fault Refusal :=
  s.lift fun d => d.modGate n fun g => { g with symErr := g.symErr + 1 }

/-- The outcome of a soft turn-off in the channel's bookkeeping (R276): a retry wait, or a latch. -/
def Dev.noteOutcome (d : Dev) (n : Chan) : Dev :=
  d.modGate n fun g => { g with retry := decide (d.retryOutcome n = 4), kept := g.kept || decide (d.retryOutcome n = 5),
                                faults := g.faults.filter fun t => decide (d.now < t + 4000000) }

/-- FAULT (R510): the leg goes off and the channel to SOFTOFF, the fault counted with its time (R276) and its frame awaited. A channel in SOFTOFF
counts no second fault (R275). One whose switch is off for another reason stays in its state, which Table 9-5 lets it leave otherwise only: NOLINK,
LATCHED, OTLATCH, and UVLO, where the outcome of R276 becomes the state before (log 150). -/
def execFault (n : Chan) (s : State) : Host.Outcome State Fault Refusal :=
  s.lift fun d =>
    if !d.glWorks then d
    else
      let st := d.get (GL.CHSTAT_ST n)
      let d0 := d.modGate n fun g => { g with epDown := false }
      if st = 3 then d0
      else
        let d1 := (d0.modGate n fun g => { g with faults := d.now :: g.faults, frameDue := true }).countSat (GL.CHSTAT_FCNT n)
        if st = 1 ∨ st = 2 ∨ st = 4 then d1.chanTo n 3
        else if st = 6 then (d1.noteOutcome n).modGate n fun g => { g with before := if g.before = 5 then 5 else d1.retryOutcome n }
        else d1

/-- An island whose edge path is silent turns its switch off, latches cause 3 and has it to report (R257). -/
def GateState.silent (g : GateState) : GateState :=
  { g with sw := if g.sw = 2 then 2 else 0, islLatch := if g.islLatch = 0 then 3 else g.islLatch, faultQ := g.faultQ ++ [3] }.applyProt

/-- ISLAND_EDGE_PATH_LOSS (R257). -/
def execIslandEdgePathLoss (n : Chan) (s : State) : Host.Outcome State Fault Refusal :=
  s.lift fun d => d.modGate n GateState.silent

/-- The edge paths are silent during a self-test, so that every island holds its switch off (R257, R472). -/
def Dev.silenceIslands (d : Dev) : Dev :=
  d.each allChans fun d n => d.modGate n fun g => if g.supplied then { g.silent with sw := 0 }.applyProt else g

/-- EDGE_PATH_LOSS (R257): LATCHED with `EPLOSS`, line 32; NOLINK where the service path is down too. A channel in NOLINK stays. -/
def execEdgePathLoss (n : Chan) (s : State) : Host.Outcome State Fault Refusal :=
  s.lift fun d =>
    if !d.glWorks || decide (d.get (GL.CHSTAT_ST n) = 0) then d
    else
      let d1 := ((d.modGate n fun g => { g with epDown := true }).set (GL.CHSTAT_EPLOSS n) 1).assertLine 32 (Dev.chanMask n)
      (d1.latchChan n).when (d.gate n).spDown fun d => d.noLink n

/-! ### The service path -/

/-- KEEP (R259). -/
def execKeep (n : Chan) (c : BitVec 8) (s : State) : Host.Outcome State Fault Refusal := s.lift fun d => d.toIsland n 0 0 0 c id

/-- The value that a `WR` frame for register a carries: the gate link's own (R260). -/
def Dev.wrValue (d : Dev) (n : Chan) (a : Nat) : Nat := if h : a < 12 then d.mirror n ⟨a, h⟩ else 0

/-- WR (R259, R260): the island takes the gate link's value; a register that is absent or read-only is reported in its status. -/
def execWr (n : Chan) (a c : BitVec 8) (s : State) : Host.Outcome State Fault Refusal :=
  s.lift fun d =>
    let v := d.wrValue n a.toNat
    let d1 := d.toIsland n 1 a.toNat v c fun g => if h : a.toNat < 12 then g.takeReg ⟨a.toNat, h⟩ v else { g with badWr := true }
    d1.when (decide (a.toNat = 3) && d.glWorks) fun d => d.showStrength n

/-- RD (R259): an answer is due. -/
def execRd (n : Chan) (a c : BitVec 8) (s : State) : Host.Outcome State Fault Refusal :=
  s.lift fun d => d.toIsland n 2 a.toNat 0 c fun g => { g with rd := g.rd ++ [a.toNat] }

/-- CLR (R259): with 0xC1EA the island's fault latch is cleared. -/
def execClr (n : Chan) (v : BitVec 16) (c : BitVec 8) (s : State) : Host.Outcome State Fault Refusal :=
  s.lift fun d => d.toIsland n 3 0 v.toNat c fun g => if v.toNat = 0xC1EA then { g with islLatch := 0 } else g

/-- HELLO (R57, R260): of an island with valid supply that has received no frame; the capacitor report; the gate link begins to configure the island. -/
def execHello (n : Chan) (rev : BitVec 8) (cap : Bool) (c : BitVec 8) (s : State) : Host.Outcome State Fault Refusal :=
  s.lift fun d =>
    if (d.gate n).supplied && (d.gate n).hello then
      d.fromIsland n 0 rev.toNat (b2n cap) c fun d =>
        ((d.modGate n fun g => { g.unlink with greeted := true }).setBit (GL.CHSTAT_CAPPRES n) cap).set (GL.CHSTAT_LINK n) 0
    else d

/-- The read-back of register a is compared (R260, R261): equal to the gate link's own value it is done; another sets `SPLOSS`, and the value is sent
again. -/
def Dev.readBack (d : Dev) (n : Chan) (a : Fin 12) : Dev :=
  if vget (d.gate n).regs a = d.mirror n a then d.modGate n fun g => { g with sync := g.sync.filter (· ≠ a.val) }
  else d.set (GL.CHSTAT_SPLOSS n) 1

/-- RDR (R259-R261): the answer to the oldest `RD`. A register of Table 9-4 carries the island's value; v stands for the status and the measured
registers 0x10-0x13, whose content changes nothing at the gate link. -/
def execRdr (n : Chan) (v : BitVec 16) (c : BitVec 8) (s : State) : Host.Outcome State Fault Refusal :=
  s.lift fun d =>
    match (d.gate n).rd with
    | [] => d
    | a :: _ =>
      let d1 := d.modGate n fun g => { g with rd := g.rd.drop 1 }
      if h : a < 12 then d1.fromIsland n 1 a (vget (d.gate n).regs ⟨a, h⟩) c fun d => if (d.gate n).sync.contains a then d.readBack n ⟨a, h⟩ else d
      else d1.fromIsland n 1 a v.toNat c id

/-- A retry wait ends (R276): CLR is sent, and the channel in WAIT is ARMED with the read-back. -/
def Dev.retryEnd (d : Dev) (n : Chan) : Dev :=
  (d.modGate n fun g => { g with retry := false, clrDue := false, islLatch := 0 }).when (decide (d.get (GL.CHSTAT_ST n) = 4)) fun d => d.chanTo n 2

/-- LINK_UP (R260, R262, R265): an island with valid supply has sent HELLO, and every register has read back equal; the first gate report is awaited. The
channel leaves NOLINK, to OTLATCH where its island's die latch holds (R302). A rebuild after a reset or a sleep of the gate link, where no latch is kept,
clears the island's fault latch (R285); the CLR of a retry wait that ended meanwhile passes now (R276). -/
def execLinkUp (n : Chan) (s : State) : Host.Outcome State Fault Refusal :=
  s.lift fun d =>
    if d.glWorks && (d.gate n).greeted && (d.gate n).supplied && (d.gate n).sync.isEmpty && !d.bit (GL.CHSTAT_LINK n) then
      let d1 := ((d.set (GL.CHSTAT_LINK n) 1).modGate n fun g =>
        { g with rep := none, spDown := false, hello := false, fresh := false, linked := true,
                 islLatch := if g.kept || decide (d.get (GL.CHSTAT_ST n) ≠ 0) then g.islLatch else 0 }.takeReg 3 (d.mirror n 3)).showStrength n
      let d2 := (d1.judgePump (chanBridge n)).when (decide (d.get (GL.CHSTAT_ST n) = 0)) fun d =>
        if (d.gate n).dieLatch then d.toOtlatch n else d.chanTo n 1
      d2.when (d.gate n).clrDue fun d => d.retryEnd n
    else d

/-- HEALTH (R259). -/
def execHealth (n : Chan) (sub : BitVec 8) (v : BitVec 16) (c : BitVec 8) (s : State) : Host.Outcome State Fault Refusal :=
  s.lift fun d => d.fromIsland n 3 sub.toNat v.toNat c fun d =>
    match sub.toNat with
    | 0 => d.set (GL.CHTEMP_TDIE n) v.toNat
    | 1 => (d.set (GL.CHTEMP_NTC n) v.toNat).modGate n fun g => { g with fresh := true }
    | 2 => d.set (GL.CHSUP_VPOS n) v.toNat
    | _ => d

/-- FAULT_FRAME (R510): the oldest cause that the island has to report. Causes 1 and 2 answer the FAULT symbol; cause 3 reports `EPLOSS` (R257); 4 has
come about with its own step, and so has 5, but for a trip while the gate link slept, which becomes known now (R302). -/
def execFaultFrame (n : Chan) (v : BitVec 16) (c : BitVec 8) (s : State) : Host.Outcome State Fault Refusal :=
  s.lift fun d =>
    match (d.gate n).faultQ with
    | [] => d
    | k :: _ =>
      (d.modGate n fun g => { g with faultQ := g.faultQ.drop 1 }).fromIsland n 4 k v.toNat c fun d =>
        let done := d.modGate n fun g => { g with frameDue := false }
        match k with
        | 1 => (done.set (GL.CHSTAT_DS n) 1).assertLine 35 (Dev.chanMask n)
        | 2 => (done.set (GL.CHSTAT_HS n) 1).assertLine 36 (Dev.chanMask n)
        | 3 => (d.set (GL.CHSTAT_EPLOSS n) 1).assertLine 32 (Dev.chanMask n)
        | 5 => d.when ((d.gate n).dieLatch && decide (d.get (GL.CHSTAT_ST n) ≠ 7)) fun d => d.toOtlatch n
        | _ => d

/-- FAULT_FRAME_TIMEOUT (R510). -/
def execFaultFrameTimeout (n : Chan) (s : State) : Host.Outcome State Fault Refusal :=
  s.lift fun d =>
    if (d.gate n).frameDue then
      (((((d.modGate n fun g => { g with frameDue := false }).set (GL.CHSTAT_DS n) 1).set (GL.CHSTAT_SPLOSS n) 1).assertLine 35
        (Dev.chanMask n)).assertLine 32 (Dev.chanMask n))
    else d

/-- ISLAND_SERVICE_TIMEOUT (R260): the island keeps its settings and sends HELLO again. -/
def execIslandServiceTimeout (n : Chan) (s : State) : Host.Outcome State Fault Refusal :=
  s.lift fun d => d.modGate n fun g => { g with hello := true }

/-- SERVICE_PATH_LOSS (R260). -/
def execServicePathLoss (n : Chan) (s : State) : Host.Outcome State Fault Refusal :=
  s.lift fun d => if d.glWorks then d.servicePathLost n else d

/-- ISLAND_REGISTER_SYNC (R260, R261): over a link that is up, or that a HELLO has begun to set up, a register whose send is due is written to the island,
where the frame arrives, and read back; `INITON` and `INITOFF` (0x03) set the strengths (R269). -/
def execIslandRegisterSync (n : Chan) (a : Fin 12) (arrives : Bool) (s : State) : Host.Outcome State Fault Refusal :=
  s.lift fun d =>
    if d.glWorks && (d.gate n).greeted && (d.gate n).sync.contains a.val then
      let d1 := d.when arrives fun d => d.modGate n fun g => { g with hello := false }.takeReg a (d.mirror n a)
      (d1.readBack n a).when (decide (a = 3)) fun d => d.showStrength n
    else d

/-! ### Enable and disable -/

/-- May channel n be enabled (R263, R304)? -/
def Dev.enableOk (d : Dev) (n : Chan) : Bool :=
  decide (d.get (GL.CHSTAT_ST n) = 1) && !(d.gate n).kept && !(d.gate n).retry && !(d.gate n).dieLatch &&
  !d.bit TH.LATCH_DIE && !d.bit TH.LATCH_BARRIER && !d.bit LC.BOOTSTAT_BIST_FAIL && !d.bit LC.BOOTSTAT_ROOT_FAIL && !d.bit PIER.CTL_WFAIL &&
  decide (2 ≤ d.get DE.STAT_OPSTATE) && decide (d.get DE.STAT_OPSTATE ≤ 4)

/-- Is a write of 1 to `EN` accepted: the thermal latch refuses it always (R304), the conditions of R263 where `EN` is 0? -/
def Dev.enableAccepted (d : Dev) (n : Chan) : Bool :=
  !d.bit TH.LATCH_DIE && !d.bit TH.LATCH_BARRIER && (d.bit (GL.CHCFG_EN n) || d.enableOk n)

/-- A write of 1 to `EN` (R263, R304). -/
def Dev.chanEnable (d : Dev) (n : Chan) : Dev :=
  if d.enableAccepted n && d.bit (GL.CHCFG_EN n) then d
  else if d.enableAccepted n then (d.set (GL.CHCFG_EN n) 1).chanTo n 2 else d.set (GL.CHSTAT_ENREJ n) 1

/-- The address of `GL.CHCFGn`. -/
def chcfgAddr (n : Chan) : Nat := 0x40500100 + 0x40 * n

/-- CHANNEL_ENABLE (R263); through the object a refused write answers 0x0622. -/
def execChannelEnable (m : Master) (obj : Bool) (n : Chan) (s : State) : Host.Outcome State Fault Refusal :=
  s.lift fun d =>
    if !d.accessAllowed (if obj then .dict else m) (chcfgAddr n) true then d.busError m (chcfgAddr n) true
    else if obj then
      if d.enableAccepted n then (d.chanEnable n).answer 0 0 else (d.chanEnable n).abort (0x2500 + n) 1 0x0622 0
    else (d.chanEnable n).busOk 0

/-- A write of 0 to `EN` (R262): from ARMED, WAIT or LATCHED to DISABLED; a latch is kept and a retry wait runs on. A channel in
UVLO takes DISABLED as its state before. -/
def Dev.chanDisable (d : Dev) (n : Chan) : Dev :=
  let st := d.get (GL.CHSTAT_ST n)
  let d1 := d.set (GL.CHCFG_EN n) 0
  if st = 2 ∨ st = 4 ∨ st = 5 then d1.chanTo n 1
  else if st = 6 then d1.modGate n fun g => { g with before := 1 }
  else d1

/-- CHANNEL_DISABLE (R262). -/
def execChannelDisable (m : Master) (obj : Bool) (n : Chan) (s : State) : Host.Outcome State Fault Refusal :=
  s.lift fun d =>
    if d.accessAllowed (if obj then .dict else m) (chcfgAddr n) true then
      if obj then (d.chanDisable n).answer 0 0 else (d.chanDisable n).busOk 0
    else d.busError m (chcfgAddr n) true

/-- LEG_RESUME (R264): at an epoch after both positions are ARMED the leg follows its commands again. -/
def execLegResume (leg : Fin 6) (s : State) : Host.Outcome State Fault Refusal :=
  s.lift fun d =>
    if d.glWorks && decide (d.get (GL.CHSTAT_ST (2 * leg.val)) = 2) && decide (d.get (GL.CHSTAT_ST (2 * leg.val + 1)) = 2) then
      (d.modGl fun g => { g with legHeld := vset g.legHeld leg false }).drive
    else d

/-- INTERLOCK_TIMEOUT (R265). -/
def execInterlockTimeout (n : Chan) (s : State) : Host.Outcome State Fault Refusal :=
  s.lift fun d =>
    if (d.gate n).waitOn then
      (((d.modGate n fun g => { g with waitOn := false }).set (GL.CHSTAT_INTLKTMO n) 1).assertLine 34 (Dev.chanMask n)).latchChan n
    else d

/-! ### Gate strength -/

/-- A strength one step on (R269): target t, dead band, bounds. -/
def strengthStep (v tgt tdb str lo hi : Nat) : Nat :=
  if tgt + tdb < v ∧ str < hi then str + 1 else if v + tdb < tgt ∧ lo < str then str - 1 else str

/-- The step of an island's strength after a valid measurement of v ns of a normal edge (R269), from the island's own registers. -/
def GateState.nextStrength (g : GateState) (off : Bool) (v : Nat) : Nat :=
  let r := vget g.regs (if off then 2 else 1)
  strengthStep v (max 10 (min 1000 (vget g.regs (if off then 5 else 4)))) (vget g.regs 11) (vget g.regs 3 / (if off then 256 else 1) % 64) (r % 64) (r / 256 % 64)

/-- The island adapts its strength to x (R269); does it stand at a bound? -/
def GateState.adapt (g : GateState) (off : Bool) (x : Nat) : GateState :=
  { g with regs := vset g.regs 3 (if off then vget g.regs 3 % 256 + 256 * x else vget g.regs 3 / 256 * 256 + x) }
def GateState.atBound (g : GateState) (off : Bool) (x : Nat) : Bool :=
  let r := vget g.regs (if off then 2 else 1)
  decide (x = r % 64) || decide (x = r / 256 % 64)

/-- An EDGE frame enters the island's transmit queue of eight frames, or is dropped (R259). -/
def GateState.queueEdge (g : GateState) (f : EdgeFrame) : GateState :=
  if g.edges.length + g.rd.length + g.faultQ.length < 8 then { g with edges := g.edges ++ [f] } else g

/-- ISLAND_EDGE_MEASURED (R259, R268, R269, R275): the EDGE frame of the edge is queued; a valid measurement of a normal edge, its adaptation bit 1, moves
the island's strength, which the gate link shows while the link is up. -/
def execIslandEdgeMeasured (n : Chan) (off soft : Bool) (v : BitVec 16) (s : State) : Host.Outcome State Fault Refusal :=
  s.lift fun d =>
    let g := d.gate n
    let d1 := d.modGate n fun g =>
      g.queueEdge { off := off, str := vget g.regs 3 / (if off then 256 else 1) % 64, time := v.toNat, code := g.edgeCode }
    if soft || decide (v.toNat = 0xFFFF) || !natBit (vget g.regs 0) (if off then 1 else 0) then d1
    else
      let x := g.nextStrength off v.toNat
      (d1.modGate n fun g => g.adapt off x).when (d.glWorks && d.bit (GL.CHSTAT_LINK n)) fun d =>
        (d.showStrength n).when (g.atBound off x) fun d => d.set (GL.CHSTAT_ATBOUND n) 1

/-! ### Protection -/

/-- ISLAND_UVLO (R63, R262): the switch is held off, the state before is remembered, line 33; a soft turn-off ends and its
outcome becomes the state before. -/
def execIslandUvlo (n : Chan) (s : State) : Host.Outcome State Fault Refusal :=
  s.lift fun d =>
    let d1 := d.modGate n fun g => { g with supplied := false, sw := 0, faultQ := g.faultQ ++ [4] }.applyProt
    let st := d.get (GL.CHSTAT_ST n)
    if st = 0 ∨ st = 6 ∨ st = 7 then d1
    else
      let d2 := if st = 3 then (d1.noteOutcome n).modGate n fun g => { g with before := d1.retryOutcome n }
        else d1.modGate n fun g => { g with before := st }
      (d2.assertLine 33 (Dev.chanMask n)).chanTo n 6

/-- ISLAND_UVLO_RELEASE (R262): back to the state before; a retry wait starts again in full.
From any other state the island's supply has come up: a die latch is cleared, and the link is set up anew (R64, R260, R302). -/
def execIslandUvloRelease (n : Chan) (s : State) : Host.Outcome State Fault Refusal :=
  s.lift fun d =>
    let d1 := d.modGate n fun g =>
      { g with supplied := true, dieLatch := false, linked := g.linked && decide (d.get (GL.CHSTAT_ST n) = 6),
               hello := g.hello || decide (d.get (GL.CHSTAT_ST n) ≠ 6),
               retry := g.retry || (decide (d.get (GL.CHSTAT_ST n) = 6) && decide (g.before = 4)),
               clrDue := g.clrDue && !(decide (d.get (GL.CHSTAT_ST n) = 6) && decide (g.before = 4)) }
    if d.get (GL.CHSTAT_ST n) = 6 then d1.chanTo n (d.gate n).before
    else if d.get (GL.CHSTAT_ST n) = 7 then d1.noLink n else d1

/-- DESATURATION (R272): the island latch, a soft turn-off, and the FAULT frame ahead of every other (R510). -/
def execDesaturation (n : Chan) (s : State) : Host.Outcome State Fault Refusal :=
  s.lift fun d => d.modGate n fun g => if g.sw = 1 then { g with islLatch := 1, sw := 2, faultQ := 1 :: g.faultQ } else g

/-- HARD_SHORT (R274): with `HSEN` 1 in the island. -/
def execHardShort (n : Chan) (s : State) : Host.Outcome State Fault Refusal :=
  s.lift fun d => d.modGate n fun g => if g.sw = 1 ∧ natBit (vget g.regs 0) 2 = true then { g with islLatch := 2, sw := 2, faultQ := 2 :: g.faultQ } else g

/-- SOFT_TURN_OFF_END (R276): to WAIT or LATCHED; a channel disabled meanwhile goes to DISABLED and keeps either. -/
def execSoftTurnOffEnd (n : Chan) (s : State) : Host.Outcome State Fault Refusal :=
  s.lift fun d =>
    let d1 := d.modGate n fun g => { g with sw := if g.sw = 2 then 0 else g.sw }.applyProt
    if d.get (GL.CHSTAT_ST n) = 3 then
      (d1.noteOutcome n).chanTo n (if d.bit (GL.CHCFG_EN n) then d1.retryOutcome n else 1)
    else d1

/-- RETRY_WAIT_END (R276): the gate link sends CLR, and after the read-back the channel is ARMED again; with the service path down neither passes, and
the channel waits for the link. -/
def execRetryWaitEnd (n : Chan) (s : State) : Host.Outcome State Fault Refusal :=
  s.lift fun d =>
    if (d.gate n).retry then
      if d.bit (GL.CHSTAT_LINK n) then d.retryEnd n else d.modGate n fun g => { g with clrDue := true }
    else d

/-- May the latch of channel n be cleared: its bridge engine is OFF, IDLE or HELD (R278)? -/
def Dev.latchClearable (d : Dev) (n : Chan) : Bool :=
  d.engIs (chanBridge n) 0 || d.engIs (chanBridge n) 1 || d.engIs (chanBridge n) 4

/-- The latch of channel n is cleared (R278): DISABLED with `EN` 0 (log 151), or OTLATCH where the island's die latch holds (R302). -/
def Dev.clearLatch (d : Dev) (n : Chan) : Dev :=
  if d.get (GL.CHSTAT_ST n) = 5 ∨ (d.get (GL.CHSTAT_ST n) = 1 ∧ (d.gate n).kept = true) then
    let d1 := (d.modGate n fun g => { g with islLatch := 0, kept := false, faults := [] }).set (GL.CHCFG_EN n) 0
    if (d.gate n).dieLatch then d1.toOtlatch n else d1.chanTo n 1
  else d

/-- CLEAR_LATCH (R278): through `0x3021:01` a number above 11 answers 0x0611, another engine state 0x0622. -/
def execClearLatch (m : Master) (obj : Bool) (n : BitVec 8) (s : State) : Host.Outcome State Fault Refusal :=
  s.lift fun d =>
    if h : n.toNat < 12 then
      let c : Chan := ⟨n.toNat, h⟩
      if !d.accessAllowed (if obj then .dict else m) (chcfgAddr c + 0x2C) true then d.busError m (chcfgAddr c + 0x2C) true
      else if d.latchClearable c then (if obj then (d.clearLatch c).answer 0 0 else (d.clearLatch c).busOk 0)
      else if obj then d.abort 0x3021 1 0x0622 0 else d.busOk 0
    else if obj then d.abort 0x3021 1 0x0611 0 else d

/-! ### Active discharge -/

/-- A discharge request (R281): the method as `MODE` selects. -/
def Dev.dscRequest (d : Dev) : Dev :=
  if d.bit GL.DSCCTL_REQ then d
  else
    (((((d.set GL.DSCCTL_REQ 1).set GL.DSCSTAT_TDSC 0).modGl fun g => { g with dscFrom := d.now, dscPin := false, dscFell := false }).dscTo 1).dscFollow)

/-- May master m write `DSCCTL.REQ`: Truss and the dictionary engine (R281)? -/
def Dev.dscWritable (d : Dev) (m : Master) : Bool := isTrussOrDict m && d.accessAllowed m 0x40500900 true

/-- DISCHARGE_REQUEST (R281). -/
def execDischargeRequest (m : Master) (obj : Bool) (s : State) : Host.Outcome State Fault Refusal :=
  s.lift fun d =>
    if d.dscWritable (if obj then .dict else m) then (if obj then d.dscRequest.answer 0 0 else d.dscRequest.busOk 0)
    else d.busError m 0x40500900 true

/-- The end of a discharge (R283). -/
def Dev.dscEnd (d : Dev) : Dev := ((d.set GL.DSCCTL_REQ 0).modGl fun g => { g with dscPin := false, dscFell := false }).dscTo 0

/-- DISCHARGE_END (R283). -/
def execDischargeEnd (m : Master) (obj : Bool) (s : State) : Host.Outcome State Fault Refusal :=
  s.lift fun d =>
    if d.dscWritable (if obj then .dict else m) then (if obj then d.dscEnd.answer 0 0 else d.dscEnd.busOk 0)
    else d.busError m 0x40500900 true

/-- The DC-link voltage in 2^-20 V from the tag of bridge A's slot 3 (R282). -/
def Dev.linkVolts (d : Dev) : Int :=
  d.volts20 0 (sat32 (d.slotScale 0 3 (d.lastCode (d.get (CE.INSLOT_TAG 0 3)))))

/-- DISCHARGE_JUDGE (R281, R282): DONE below `VTHR`; else the method follows `MODE` and the bridges. -/
def execDischargeJudge (s : State) : Host.Outcome State Fault Refusal :=
  s.lift fun d =>
    let st := d.get GL.DSCSTAT_ST
    if !d.bit GL.DSCCTL_REQ || !(decide (st = 1) || decide (st = 2)) then d
    else if d.linkVolts < (max 20 (min 60 (d.get GL.DSCCTL_VTHR)) : Nat) * 1048576 then
      (d.set GL.DSCSTAT_TDSC (min 65535 ((d.now - d.vol.gl.dscFrom) / 4000))).dscTo 3
    else d.dscFollow

/-- DISCHARGE_FALLBACK (R281): `MODE` 2 after 1,500 ms of winding discharge. -/
def execDischargeFallback (s : State) : Host.Outcome State Fault Refusal :=
  s.lift fun d =>
    if d.bit GL.DSCCTL_REQ && decide (d.get GL.DSCSTAT_ST = 1) && decide (2 ≤ d.get GL.DSCCTL_MODE) then
      (d.modGl fun g => { g with dscFell := true }).dscFollow else d

/-- DISCHARGE_TIMEOUT (R282): FAILED, `FAIL`, and the discharge line (38). -/
def execDischargeTimeout (s : State) : Host.Outcome State Fault Refusal :=
  s.lift fun d =>
    if d.bit GL.DSCCTL_REQ && (decide (d.get GL.DSCSTAT_ST = 1) || decide (d.get GL.DSCSTAT_ST = 2)) then
      ((d.set GL.DSCSTAT_FAIL 1).assertLine 38 0).dscTo 4
    else d

end Sys2Proof.Machine
end

