-- ==== Sys2Proof/Machine/Thermal.lean ====
section
/-! DEFINITION. Chapter 10: the housekeeping round, losses, the junction model, wear counting, derating, the die throttle
stages, warnings, stops and latches; with the two gate-link commands that feed it (EDGE, ISLAND_OVERTEMPERATURE). -/

namespace Sys2Proof.Machine

/-- Change the thermal block. -/
def Dev.modTh (d : Dev) (f : ThermState → ThermState) : Dev := { d with vol := { d.vol with th := f d.vol.th } }

/-- Position n of the thermal block. -/
def Dev.thPos (d : Dev) (n : Chan) : ThermPos := vget d.vol.th.pos n

/-- Change position n. -/
def Dev.modThPos (d : Dev) (n : Chan) (f : ThermPos → ThermPos) : Dev :=
  d.modTh fun t => { t with pos := vset t.pos n (f (vget t.pos n)) }

/-- Does the thermal block work? -/
def Dev.thWorks (d : Dev) : Bool := d.works 6 8

/-! ### NTC conversion -/

/-- log2 of a mantissa m in [1, 2) with 60 fraction bits, its bits weighted from w down, by repeated squaring. -/
def log2Frac : Nat → Nat → Nat → Nat
  | 0, _, _ => 0
  | f + 1, m, w =>
    if 2 * 2 ^ 60 ≤ m * m / 2 ^ 60 then w + log2Frac f (m * m / 2 ^ 61) (w / 2) else log2Frac f (m * m / 2 ^ 60) (w / 2)

/-- log2 of a positive number with 48 fraction bits. -/
def log2Fix (x : Nat) : Nat := Nat.log2 x * 2 ^ 48 + log2Frac 48 (x * 2 ^ 60 / 2 ^ Nat.log2 x) (2 ^ 47)

/-- ln(a / b) with 48 fraction bits. -/
def lnRatio (a b : Nat) : Int := roundDiv (((log2Fix a : Int) - log2Fix b) * 195103586505167) (2 ^ 48)

/-- The temperature in 0.01 °C of a reported resistance code (R289); none where the model gives none. -/
def ntcTemp (code beta rnom : Nat) : Option Int :=
  let den : Int := (beta : Int) * 100 * 2 ^ 48 + 29815 * lnRatio code rnom
  if den ≤ 0 then none else some (roundDivI ((29815 * beta * 100 * 2 ^ 48 : Nat) : Int) den - 27315)

/-- Is NTC channel n broken (R290)? -/
def Dev.ntcBroken (d : Dev) (n : Chan) : Bool :=
  decide (d.get (TH.NTC_BETA n) = 0) || decide (d.get (TH.NTC_RNOM n) = 0) || decide (d.get (GL.CHTEMP_NTC n) ≤ 5) ||
  decide (60000 ≤ d.get (GL.CHTEMP_NTC n)) || !d.bit (GL.CHSTAT_LINK n) || !(d.gate n).fresh

/-- The value of NTC channel n; where R289 gives no value (log 29) it is open. -/
def Dev.ntcValue (d : Dev) (n : Chan) : Int × Dev :=
  match ntcTemp (d.get (GL.CHTEMP_NTC n)) (d.get (TH.NTC_BETA n)) (d.get (TH.NTC_RNOM n)) with
  | some t => (satBits 16 t, d)
  | none => d.drawBetween (-32768) 32767

/-- The 16-bit signed value of a channel. -/
def Dev.hkVal (d : Dev) (c : Nat) : Int := d.sget (TH.HKVAL_VAL c)

/-- A channel is read as broken: `BRK`, `SENSBRK` and line 39. -/
def Dev.hkBroken (d : Dev) (c br : Nat) : Dev := ((d.set (TH.HKVAL_BRK c) 1).set TH.STAT_SENSBRK 1).assertLine 39 br

/-- NTC channel n is read (R289, R290). -/
def Dev.readNtc (d : Dev) (n : Chan) : Dev :=
  let d1 :=
    if d.ntcBroken n then (d.sset (TH.HKVAL_VAL n) (d.sget TH.TBRKR_TBRK)).hkBroken n (brMask (chanBridge n))
    else ((d.ntcValue n).2.sset (TH.HKVAL_VAL n) (d.ntcValue n).1).set (TH.HKVAL_BRK n) 0
  d1.modGate n fun g => { g with fresh := false }

/-- Converted channel 12 + i is read (R288, R290): a die channel outside -55 to 200 °C is broken. -/
def Dev.readConv (d : Dev) (i : Fin 12) (v : Int) : Dev :=
  let d1 := d.sset (TH.HKVAL_VAL (12 + i.val)) (satBits 16 v)
  if i.val < 4 ∧ (v < -5500 ∨ 20000 < v) then d1.hkBroken (12 + i.val) 0 else d1.set (TH.HKVAL_BRK (12 + i.val)) 0

/-! ### Confirmation counts -/

/-- A count of consecutive rounds. -/
def nextCount (n : Nat) (hold : Bool) : Nat := if hold then min (n + 1) 16 else 0

/-- `NFILT`; 0 acts as 1. -/
def Dev.nfilt (d : Dev) : Nat := max 1 (d.get TH.CTL_NFILT)

/-- What a channel falls back by before `HIA` or `LOA` falls (R291). -/
def hkHyst (c : Nat) : Int := if c ≤ 15 then 200 else 20

/-- The thresholds of a channel are judged (R291): counts, and the fall of `HIA` and `LOA`. -/
def Dev.judgeHk (d : Dev) (c : Fin 24) : Dev :=
  let v := d.hkVal c
  let hi := d.sget (TH.HKTHR_THI c)
  let lo := d.sget (TH.HKTHR_TLO c)
  (((d.modTh fun t => { t with hiN := vset t.hiN c (nextCount (vget t.hiN c) (decide (hi < v))),
                               loN := vset t.loN c (nextCount (vget t.loN c) (decide (v < lo))) }).when
    (decide (v ≤ hi - hkHyst c)) fun d => d.set (TH.HKVAL_HIA c) 0).when
    (decide (lo + hkHyst c ≤ v)) fun d => d.set (TH.HKVAL_LOA c) 0)

/-- THRESHOLD_CONFIRMED (R291). -/
def execThresholdConfirmed (c : Fin 24) (high : Bool) (s : State) : Host.Outcome State Fault Refusal :=
  s.lift fun d =>
    if high then
      if d.nfilt ≤ vget d.vol.th.hiN c then ((d.set (TH.HKVAL_HIA c) 1).set TH.STAT_HI 1).assertLine 40 0 else d
    else
      if d.nfilt ≤ vget d.vol.th.loN c then ((d.set (TH.HKVAL_LOA c) 1).set TH.STAT_LO 1).assertLine 40 0 else d

/-! ### Node sets -/

/-- `NODES`; 6 and 7 act as 5. -/
def Dev.nodesSet (d : Dev) (n : Chan) : Nat := min 5 (d.get (TH.PMCFG_NODES n))

/-- Is node j (of nodes from `first`) slow enough, with non-zero constants (R296)? -/
def Dev.nodeOk (d : Dev) (first j : Nat) : Bool :=
  let c := d.get (TH.NC_CTH (first + j))
  let r1 := d.get (TH.NR_RTH (first + j))
  let r0 := d.get (TH.NR_RTH (first + j - 1))
  decide (0 < c) && decide (0 < r1) &&
    (if j = 0 then decide (400000000 ≤ c * r1) else decide (400000000 * (r0 + r1) ≤ c * r0 * r1))

/-- Do two positions share a node? -/
def Dev.nodesOverlap (d : Dev) (n m : Chan) : Bool :=
  decide (n ≠ m) && decide (0 < d.nodesSet n) && decide (0 < d.nodesSet m) &&
  decide (d.get (TH.PMCFG_FIRST n) < d.get (TH.PMCFG_FIRST m) + d.nodesSet m) &&
  decide (d.get (TH.PMCFG_FIRST m) < d.get (TH.PMCFG_FIRST n) + d.nodesSet n)

/-- Is the node set of position n valid (R296)? -/
def Dev.nodesValid (d : Dev) (n : Chan) : Bool :=
  decide (d.get (TH.PMCFG_FIRST n) + d.nodesSet n ≤ 64) && !(allChans.any fun m => d.nodesOverlap n m) &&
  (List.range (d.nodesSet n)).all fun j => d.nodeOk (d.get (TH.PMCFG_FIRST n)) j

/-- The nodes that position n runs with: 0 where its set is invalid. -/
def Dev.nodesRun (d : Dev) (n : Chan) : Nat := if d.nodesValid n then d.nodesSet n else 0

/-- The node set of position n: what a change of starts the model anew (R296). -/
def Dev.nodeCfg (d : Dev) (n : Chan) : List Nat := [d.nodesRun n, d.get (TH.PMCFG_FIRST n)]

/-- `MERR` of every position whose node set a direct write has made invalid, where d0 was the device before it (R296). -/
def Dev.judgeNodes (d0 d : Dev) : Dev :=
  d.each allChans fun d n => if 0 < d.nodesSet n ∧ d.nodesValid n = false ∧ d0.nodesValid n = true then d.set (TH.PMREF_MERR n) 1 else d

/-- The reference temperature of position n in 0.01 °C (R295). -/
def Dev.thRef (d : Dev) (n : Chan) : Int :=
  if d.bit (TH.PMCFG_REFSRC n) then d.sget (TH.TCOOL_TCOOL (chanBridge n)) else d.hkVal n

/-- Position n holds a model that runs with its present node set. -/
def Dev.thRunning (d : Dev) (n : Chan) : Bool := (d.thPos n).started && decide ((d.thPos n).cfg = d.nodeCfg n)

/-- The junction temperature of the last model step in 1e-9 °C (R293), of the node set that it ran with; before the first step it is open (log 29). -/
def Dev.thJunction (d : Dev) (n : Chan) : Int × Dev :=
  if (d.thPos n).started then
    (if (d.thPos n).cfg.headD 0 = 0 then (d.sget (TH.PMREF_TREF n) * 10000000, d) else (vget (d.thPos n).t 0, d))
  else d.drawBetween (-100000000000) 400000000000

/-! ### Losses -/

/-- The voltage in nV across a carrier with threshold vt mV and resistance r µΩ at i µA (R293). -/
def carrierVolts (vt r tcr : Nat) (i tj : Int) : Int :=
  (vt : Int) * 1000000 + roundDiv (r * i * (1000000000000000 + tcr * (tj - 25000000000))) 1000000000000000000

/-- Is position q (0-5) of bridge b commanded on after the dead-time stage at CECLK cycle t (Table 7-1, R217)? -/
def Dev.onAfterDead (d : Dev) (b : Bridge) (p : Fin 3) (upper : Bool) (t : Nat) : Bool :=
  d.deadOver ⟨6 * b.val + 2 * p.val + (if upper then 0 else 1), by split <;> omega⟩ (6 * t)

/-- The conduction loss of phase p of bridge b at a result with code `code`, presented in CECLK cycle t (R293). -/
def Dev.condLoss (d : Dev) (b : Bridge) (p : Fin 3) (code : Int) (t : Nat) : Dev :=
  let k : Fin 6 := ⟨3 * b.val + p.val, by omega⟩
  let last := vget d.vol.th.lastRes k
  let d0 := d.modTh fun th => { th with lastRes := vset th.lastRes k (some t) }
  let i : Int := roundDiv (sat32 (d.slotScale b p.val code) * d.get (CE.BASE_BASEI b) * 100000) 268435456
  match last with
  | none => d0
  | some t0 =>
    if d.role b = 0 ∨ i = 0 ∨ d.thWorks = false then d0
    else
      let upper : Bool := if d.onAfterDead b p true t then true else if d.onAfterDead b p false t then false else decide (i < 0)
      let on := d.onAfterDead b p true t || d.onAfterDead b p false t
      let n : Chan := ⟨6 * b.val + 2 * p.val + (if upper then 0 else 1), by split <;> omega⟩
      let switch := on && (if upper then decide (0 < i) else decide (i < 0))
      let j := d0.thJunction n
      let v := if switch then carrierVolts (d.get (TH.PMSW_VON0 n)) (d.get (TH.PMSW_RON n)) (d.get (TH.PMCOEF_TCR n)) i.natAbs j.1
        else carrierVolts (d.get (TH.PMDI_VD0 n)) (d.get (TH.PMDI_RD n)) (d.get (TH.PMCOEF_TCR n)) i.natAbs j.1
      j.2.modThPos n fun q => { q with eCond := q.eCond + v * i.natAbs * 5 * ((t - t0 : Nat) : Int) / 2 }

/-- The switching energy of an edge of channel n that took t ns, with the current latched at its launch (R294), in 1e-24 J. -/
def Dev.edgeEnergy (d : Dev) (n : Chan) (off : Bool) (code : Int) (t : Nat) : Int :=
  let b := chanBridge n
  let ksw := if off then d.get (TH.PMCOEF_KSWOFF n) else d.get (TH.PMCOEF_KSWON n)
  let v := roundDiv (sat32 (d.slotScale b 3 (d.lastCode (d.get (CE.INSLOT_TAG b 3)))) * d.get (CE.BASE_BASEV b) * 100000000) 268435456
  let i := roundDiv (sat32 (d.slotScale b ((chanLeg n).val % 3) code) * d.get (CE.BASE_BASEI b) * 100000) 268435456
  (ksw : Int) * v * i.natAbs * t / 256

/-- EDGE (R259, R268, R294): the oldest EDGE frame of the island's queue. A valid time enters `CHTIME`; an invalid one sets `TINV`, and the last valid
time, or the target while there is none, feeds the switching loss. -/
def execEdge (n : Chan) (c : BitVec 8) (s : State) : Host.Outcome State Fault Refusal :=
  s.lift fun d =>
    match (d.gate n).edges with
    | [] => d
    | e :: _ =>
      (d.modGate n fun g => { g with edges := g.edges.drop 1 }).fromIsland n 2 (128 * b2n e.off + e.str) e.time c fun d =>
        let fld := if e.off then GL.CHTIME_TOFFM n else GL.CHTIME_TONM n
        let tgt := if e.off then d.get (GL.CHTGT_TTOFF n) else d.get (GL.CHTGT_TTON n)
        let t := if e.time ≠ 0xFFFF then e.time else if d.get fld ≠ 0xFFFF then d.get fld else max 10 (min 1000 tgt)
        (if e.time = 0xFFFF then d.set (GL.CHSTAT_TINV n) 1 else d.set fld e.time).when d.thWorks fun d =>
          d.modThPos n fun q => { q with eSw := q.eSw + d.edgeEnergy n e.off e.code t }

/-! ### The junction model -/

/-- One step of a Cauer ladder (R295): temperatures with their node constants (RTH, CTH), the power or flow into the first
node in nW, the reference in 1e-9 °C. -/
def ladderStep : List (Int × Nat × Nat) → Int → Int → List Int
  | [], _, _ => []
  | (t, r, c) :: rest, p, ref =>
    let tn := match rest with | [] => ref | (t1, _, _) :: _ => t1
    let flow := roundDiv ((t - tn) * 1000000) r
    (t + roundDiv (100 * (p - flow)) c) :: ladderStep rest flow ref

/-- The ladder of position n with its present temperatures. -/
def Dev.ladder (d : Dev) (n : Chan) : List (Int × Nat × Nat) :=
  (List.range (d.nodesRun n)).map fun j =>
    ((d.thPos n).t.toList.getD j 0, d.get (TH.NR_RTH (d.get (TH.PMCFG_FIRST n) + j)), d.get (TH.NC_CTH (d.get (TH.PMCFG_FIRST n) + j)))

/-- A model step of position n with the reference then in force (R295); a model that has not started keeps its energy (R296). -/
def Dev.thStep (d : Dev) (n : Chan) : Dev :=
  if d.thRunning n then
    (d.sset (TH.PMREF_TREF n) (d.thRef n)).modThPos n fun q =>
      let p := roundDiv (q.eCond + q.eSw) 100000000000
      let ts := ladderStep (d.ladder n) p (d.thRef n * 10000000)
      { q with t := .ofFn fun j => ts.getD j.val 0, eCond := 0, eSw := 0, pSum := q.pSum + p, steps := q.steps + 1 }
  else d

/-- JUNCTION_MODEL_STEP (R295). -/
def execJunctionModelStep (s : State) : Host.Outcome State Fault Refusal :=
  s.lift fun d => if d.thWorks && d.bit TH.CTL_EN then d.each allChans Dev.thStep else d

/-! ### Wear counting -/

/-- The counter of a cycle by its swing and twice its mean, in 0.01 K and 0.01 °C (R298). -/
def rfBin (swing mean2 : Int) : Nat :=
  (if swing < 500 then 0 else if swing < 1000 then 1 else if swing < 2000 then 2 else if swing < 3000 then 3
   else if swing < 4000 then 4 else if swing < 6000 then 5 else if swing < 8000 then 6 else 7) * 4 +
  (if mean2 < 10000 then 0 else if mean2 < 15000 then 1 else if mean2 < 20000 then 2 else 3)

/-- k half-cycles between two turning points, counted in the counters of a position. -/
def rfCount (w : Vector Nat 32) (a b : Int) (k : Nat) : Vector Nat 32 :=
  let i := rfBin (a - b).natAbs (a + b)
  if h : i < 32 then vset w ⟨i, h⟩ (vget w ⟨i, h⟩ + k) else w

/-- The four-point rule on a stack of turning points, newest first: closed cycles are counted and removed. -/
def rfReduce : Nat → List Int → Vector Nat 32 → List Int × Vector Nat 32
  | 0, l, w => (l, w)
  | f + 1, l, w =>
    match l with
    | e :: c :: b :: a :: rest =>
      if (b - c).natAbs ≤ (a - b).natAbs ∧ (b - c).natAbs ≤ (c - e).natAbs then rfReduce f (e :: a :: rest) (rfCount w b c 2)
      else (l, w)
    | _ => (l, w)

/-- A turning point x is found. -/
def rfTurn (q : ThermPos) (w : Vector Nat 32) (x next dir : Int) : ThermPos × Vector Nat 32 :=
  let r := rfReduce q.rf.length (x :: q.rf) w
  ({ q with rf := r.1, rfDir := dir, rfExt := some next }, r.2)

/-- A published temperature feeds the rainflow count (R298). DESIGN CHOICE (log 194): the first turning point, before a direction is known, is the
first published value. -/
def rfFeed (q : ThermPos) (w : Vector Nat 32) (x : Int) : ThermPos × Vector Nat 32 :=
  match q.rfExt with
  | none => ({ q with rfExt := some x, rfDir := 0 }, w)
  | some e =>
    if q.rfDir = 0 then
      if e + 200 ≤ x then rfTurn q w e x 1 else if x ≤ e - 200 then rfTurn q w e x (-1) else (q, w)
    else if q.rfDir = 1 then
      if e < x then ({ q with rfExt := some x }, w) else if x ≤ e - 200 then rfTurn q w e x (-1) else (q, w)
    else
      if x < e then ({ q with rfExt := some x }, w) else if e + 200 ≤ x then rfTurn q w e x 1 else (q, w)

/-- The residual half-cycles of a stack of turning points. -/
def rfResidual : List Int → Vector Nat 32 → Vector Nat 32
  | a :: b :: rest, w => rfResidual (b :: rest) (rfCount w a b 1)
  | _, w => w

/-- The residual stacks are counted as half-cycles, and the counters are stored (R298). -/
def Dev.rainflowFlush (d : Dev) : Dev :=
  let d1 := d.each allChans fun d n => d.modTh fun t =>
    let q := vget t.pos n
    { t with wear := vset t.wear n (rfResidual ((if q.rfDir = 0 then [] else q.rfExt.toList) ++ q.rf) (vget t.wear n)),
             pos := vset t.pos n { q with rf := [], rfDir := 0, rfExt := none } }
  { d1 with nv := { d1.nv with wear := d1.vol.th.wear } }

/-! ### Publication -/

/-- A model that has not started, or whose node set has changed, starts at the reference temperature (R296). -/
def Dev.thStart (d : Dev) (n : Chan) : Dev :=
  let d1 := d.sset (TH.PMREF_TREF n) (d.thRef n)
  if d.thRunning n then d1
  else d1.modThPos n fun q => { q with t := .replicate 5 (d.thRef n * 10000000), started := true, cfg := d.nodeCfg n }

/-- `TJ` and `PLOSS` of position n are published, and feed the wear count, which is frozen in RETURN and END (R295, R298, R494). -/
def Dev.thPublish (d : Dev) (n : Chan) : Dev :=
  let q := d.thPos n
  let tj := if d.nodesRun n = 0 then d.sget (TH.PMREF_TREF n) else satBits 16 (roundDiv (vget q.t 0) 10000000)
  let loss := if q.steps = 0 then 0 else roundDiv (q.pSum) (q.steps * 100000000)
  let d1 := ((d.sset (TH.PMTJ_TJ n) tj).set (TH.PMTJ_PLOSS n) (min 65535 loss.toNat)).modThPos n fun q => { q with pSum := 0, steps := 0 }
  if d.bit TH.CTL_RFEN ∧ 0 < d.nodesRun n ∧ d.get LC.LCSTATE_STATE < 5 then
    d1.modTh fun t =>
      let r := rfFeed (vget t.pos n) (vget t.wear n) tj
      { t with pos := vset t.pos n r.1, wear := vset t.wear n r.2 }
  else d1

/-- The derating limit at temperature t (R299). -/
def Dev.derate (d : Dev) (b : Bridge) (t : Int) : Int :=
  let ts : Int := d.sget (TH.DERT_TDSTART b)
  let te : Int := d.sget (TH.DERT_TDEND b)
  let mx := d.sget (TH.DERMAX_DMAX b)
  let mn := d.sget (TH.DERMIN_DMIN b)
  if te ≤ ts then (if t ≤ ts then mx else mn)
  else if t ≤ ts then mx else if te ≤ t then mn else sat32 (roundDiv (mx * (te - ts) - (t - ts) * (mx - mn)) (te - ts).toNat)

/-- Both limits of loop 5 of bridge b take a value. -/
def Dev.setLoop5 (d : Dev) (b : Bridge) (x : Int) : Dev := (d.sset (CE.LPARP_LPARP b 5) x).sset (CE.LPARN_LPARN b 5) x

/-- The highest published `TJ` of bridge b. -/
def Dev.hottest (d : Dev) (b : Bridge) : Int := (bridgeChans b).foldl (fun m (n : Chan) => max m (d.sget (TH.PMTJ_TJ n))) (-32768)

/-- The derating limit of bridge b is published into loop 5 (R299). -/
def Dev.publishLimit (d : Dev) (b : Bridge) : Dev :=
  let x := d.derate b (d.hottest b)
  ((d.sset (TH.DERLIM_DLIM b) x).setLoop5 b x).when (decide (d.sget (TH.DERLIM_DLIM b) ≠ x)) fun d => d.edge (226 + b)

/-- The die temperature (R290, R300). -/
def Dev.dieTemp (d : Dev) : Int :=
  match ([12, 13, 14, 15].filter fun c => !d.bit (TH.HKVAL_BRK c)).map d.hkVal with
  | [] => 14600
  | x :: t => t.foldl max x

/-- The throttle stage after stage st at die temperature t (Table 10-3). -/
def dieStage (st : Nat) (t : Int) : Nat :=
  if 14500 ≤ t then 3
  else if 13800 ≤ t then (if st = 3 ∧ 14000 ≤ t then 3 else 2)
  else if 13000 ≤ t then (if 2 ≤ st ∧ 13300 ≤ t then 2 else 1)
  else if 12500 ≤ t ∧ 1 ≤ st then 1 else 0

/-- The die temperature, its stage and its requests are published (R300). -/
def Dev.publishDie (d : Dev) : Dev :=
  let st := dieStage (d.get TH.STAT_DSTAGE) d.dieTemp
  (((((d.sset TH.DIE_TDIE d.dieTemp).set TH.STAT_DSTAGE st).set TH.DIE_THROT (if st = 3 then 4 else st)).set
    TH.DIE_FSKIP (4 * st)).set TH.DIE_HKSKIP (if st = 3 then 8 else 2 * st)).when
    (decide (d.get TH.STAT_DSTAGE ≠ st)) fun d => d.edge 225

/-- The conditions of Table 10-4 are counted. -/
def Dev.countConds (d : Dev) : Dev :=
  let isl := fun n : Chan => d.sget (GL.CHTEMP_TDIE n)
  let tj := fun n : Chan => d.sget (TH.PMTJ_TJ n)
  d.modTh fun t => { t with
    tjWarnN := .ofFn fun n => nextCount (vget t.tjWarnN n) (decide (d.sget (TH.PMTHR_TJWARN n) ≤ tj n))
    tjStopN := .ofFn fun n => nextCount (vget t.tjStopN n) (decide (d.sget (TH.PMTHR_TJSTOP n) ≤ tj n))
    islWarnN := .ofFn fun n => nextCount (vget t.islWarnN n) (decide (15000 ≤ isl n))
    islStopN := .ofFn fun n => nextCount (vget t.islStopN n) (decide (16500 ≤ isl n))
    dieN := nextCount t.dieN (decide (15500 ≤ d.dieTemp)) }

/-! ### Latches -/

/-- The keep-alive counter. -/
def Dev.kaCount (d : Dev) : Nat := d.get PIER.KACNT_W

/-- A latch of R303 takes effect in its register, which lies in the Pier, with line 45, and the record `0x4602:04`. -/
def Dev.thLatchSet (d : Dev) (cause isl : Nat) : Dev :=
  let d1 := if cause = 1 then d.set TH.LATCH_DIE 1 else (d.set TH.LATCH_BARRIER 1).set TH.LATCH_ISL isl
  ({ d1 with nv := { d1.nv with thLatch := cause * 2 ^ 60 + isl * 2 ^ 56 + d.kaCount % 2 ^ 56 } }).assertLine 45 0

/-- The capacitance measured by the island of n in a round. -/
def capOf (caps : List (Chan × Nat)) (n : Chan) : Option Nat := (caps.find? fun c => decide (c.1 = n)).map fun c => c.2

/-- The barrier monitor of channel n (R303): in MAKER a measurement is recorded; a value outside 50-150 % of the record in
two consecutive rounds, or no measurement for 10 rounds, latches the module. -/
def Dev.judgeBarrier (d : Dev) (caps : List (Chan × Nat)) (n : Chan) : Dev :=
  let ref := vget d.nv.barrier n
  let d1 := match capOf caps n with
    | some c =>
      let bad := decide (0 < ref) && (decide (2 * c < ref) || decide (3 * ref < 2 * c))
      let d1 := d.modTh fun t => { t with barMiss := vset t.barMiss n 0, barBad := vset t.barBad n (nextCount (vget t.barBad n) bad) }
      if d.get LC.LCSTATE_STATE = 1 then { d1 with nv := { d1.nv with barrier := vset d1.nv.barrier n c } } else d1
    | none => d.modTh fun t =>
        { t with barMiss := vset t.barMiss n (nextCount (vget t.barMiss n) true), barBad := vset t.barBad n 0 }
  if (2 ≤ vget d1.vol.th.barBad n ∨ 10 ≤ vget d1.vol.th.barMiss n) ∧ d.bit TH.LATCH_BARRIER = false then d1.thLatchSet 2 n else d1

/-! ### The round -/

/-- HOUSEKEEPING_ROUND (R288). -/
def execHousekeepingRound (conv : Vector Int 12) (caps : List (Chan × Nat)) (s : State) : Host.Outcome State Fault Refusal :=
  s.lift fun d =>
    if d.thWorks && d.bit TH.CTL_EN then
      let d1 := (d.each allChans Dev.readNtc).each (List.finRange 12) fun d i => d.readConv i (vget conv i)
      let d2 := d1.each (List.finRange 24) Dev.judgeHk
      let d3 := (d2.each allChans Dev.thStart).each allChans Dev.thPublish
      let d4 := ((d3.publishLimit 0).publishLimit 1).publishDie.countConds
      let d5 := d4.when ([12, 13, 14, 15].any (fun c => !d4.bit (TH.HKVAL_BRK c) && decide (16500 ≤ d4.hkVal c)) && !d4.bit TH.LATCH_DIE)
        fun d => d.thLatchSet 1 0
      ((d5.each allChans fun d n => d.judgeBarrier caps n).countWrap TH.STAT_ROUNDS).edge 224
    else d

/-- THERMAL_CONDITION_CONFIRMED (R301). -/
def execThermalConditionConfirmed (k : ThermCond) (s : State) : Host.Outcome State Fault Refusal :=
  s.lift fun d =>
    let nf := d.nfilt
    match k with
    | .tjWarn n => if nf ≤ vget d.vol.th.tjWarnN n then (d.set TH.STAT_WARN 1).assertLine 42 (Dev.chanMask n) else d
    | .islWarn n => if nf ≤ vget d.vol.th.islWarnN n then (d.set TH.STAT_WARN 1).assertLine 42 (Dev.chanMask n) else d
    | .tjStop n => if nf ≤ vget d.vol.th.tjStopN n then (d.set TH.STAT_TJSTOP 1).assertLine 43 (Dev.chanMask n) else d
    | .islStop n => if nf ≤ vget d.vol.th.islStopN n then (d.set TH.STAT_ISLSTOP 1).assertLine 43 (Dev.chanMask n) else d
    | .dieStop => if 10 ≤ d.vol.th.dieN then (d.set TH.STAT_DIESTOP 1).assertLine 43 0 else d

/-- HOUSEKEEPING_STALE (R292): loop 5 of both bridges takes `DMIN` until a round completes. -/
def execHousekeepingStale (s : State) : Host.Outcome State Fault Refusal :=
  s.lift fun d =>
    if d.works 4 3 && d.anyBridgeActive then
      (((d.setLoop5 0 (d.sget (TH.DERMIN_DMIN 0))).setLoop5 1 (d.sget (TH.DERMIN_DMIN 1))).set TH.STAT_STALE 1).assertLine 41 0
    else d

/-- ISLAND_OVERTEMPERATURE (R302): the island's switch goes off at once and its die latch is set; OTLATCH and line 44. -/
def execIslandOvertemperature (n : Chan) (s : State) : Host.Outcome State Fault Refusal :=
  s.lift fun d =>
    let d1 := d.modGate n fun g => { g with sw := 0, dieLatch := true, faultQ := g.faultQ ++ [5] }.applyProt
    if d.glWorks && decide (d.get (GL.CHSTAT_ST n) ≠ 7) then d1.toOtlatch n else d1

end Sys2Proof.Machine
end

