-- ==== Sys2Proof/Machine/Can.lean ====
section
/-! DEFINITION. Chapter 14: the CAN ports, transmit mailboxes, receive rings, the Kinak engine, forwarding, and the timebase. -/

namespace Sys2Proof.Machine

/-- Change the network block. -/
def Dev.modNet (d : Dev) (f : NetState → NetState) : Dev := { d with vol := { d.vol with net := f d.vol.net } }

/-- Port p beside its registers. -/
def Dev.canPort (d : Dev) (p : Fin 4) : CanPort := vget d.vol.net.port p

/-- Change port p. -/
def Dev.modPort (d : Dev) (p : Fin 4) (f : CanPort → CanPort) : Dev :=
  d.modNet fun n => { n with port := vset n.port p (f (vget n.port p)) }

/-- Does the network block work? -/
def Dev.netWorks (d : Dev) : Bool := d.works 7 7

/-- Interrupt source k of port p (Table 12-1). -/
def canSrc (p : Fin 4) (k : Nat) : Nat := 272 + 16 * p.val + k

/-- Is port p on the bus and not bus-off? -/
def Dev.portUp (d : Dev) (p : Fin 4) : Bool := d.netWorks && d.bit (CAN.CTL_EN p) && decide (d.get (CAN.ERR_EST p) ≠ 2)

/-- Does the Kinak engine serve port p (`ROLE` 2 and 3 act as 1)? -/
def Dev.kinakPort (d : Dev) (p : Fin 4) : Bool := decide (d.get (CAN.CTL_ROLE p) ≠ 0)

/-- The network time: timebase + `OFS` (R415). -/
def Dev.netTime (d : Dev) : Nat := (d.get TB.CNT_W + d.get KN.OFS_W) % 2 ^ 64

/-- The time with low 56 bits t that lies nearest to x (R415). -/
def nearest56 (x t : Nat) : Nat :=
  let base := x / 2 ^ 56 * 2 ^ 56 + t
  if base + 2 ^ 55 < x then (base + 2 ^ 56) % 2 ^ 64 else if x + 2 ^ 55 < base then (base + 2 ^ 64 - 2 ^ 56) % 2 ^ 64 else base

/-- The timebase at a start of frame that was n ticks ago, and the stamp that a frame takes from it (R397). -/
def Dev.sofTime (d : Dev) (n : Nat) : Nat := (d.get TB.CNT_W + 2 ^ 64 - n) % 2 ^ 64
def Dev.sofStamp (d : Dev) (n : Nat) : Nat := d.sofTime n % 2 ^ 32

/-- The ports in order. -/
def allPorts : List (Fin 4) := [0, 1, 2, 3]

/-- FAULT_N is low: a latched line drives it, the module starts, or a failed test or the wake-failure state holds it (R355, R67, R475, R466); in
shelf the last two alone. -/
def Dev.faultNLow (d : Dev) : Bool :=
  d.pier.faultLow || d.bit PIER.CTL_WFAIL ||
    (decide (d.get (PIER.PDCTL_ST 1) ≠ 2) &&
      (((List.range 64).any fun l => d.bit (FCOL.STATUS_L l) && d.bit (FCOL.FNEN_L l)) || decide (d.vol.start.phase ≠ .complete)))

/-! ### Frames -/

/-- The FD data lengths. -/
def fdSizes : List Nat := [0, 1, 2, 3, 4, 5, 6, 7, 8, 12, 16, 20, 24, 32, 48, 64]

/-- The smallest FD data length that holds n bytes. -/
def fdSize (n : Nat) : Nat := (fdSizes.find? fun k => decide (n ≤ k)).getD 64

/-- n bytes of a list, filled with 0x00. -/
def padTo (n : Nat) (l : List (BitVec 8)) : List (BitVec 8) := (l ++ List.replicate (n - l.length) 0#8).take n

/-- n bytes of a number, least significant first. -/
def leList : Nat → Nat → List (BitVec 8)
  | 0, _ => []
  | n + 1, v => BitVec.ofNat 8 v :: leList n (v / 256)

/-- The number that bytes spell, least significant first. -/
def leNat : List (BitVec 8) → Nat
  | [] => 0
  | b :: t => b.toNat + 256 * leNat t

/-- The format of Kinak frames of port p: 0 classical, 1 FD, 2 XL (3 acts as 1). -/
def Dev.kfmt (d : Dev) (p : Fin 4) : Nat := if d.get (CAN.CTL_KFMT p) = 3 then 1 else d.get (CAN.CTL_KFMT p)

/-- The data length limit of a Kinak format. -/
def kfmtMax (k : Nat) : Nat := if k = 0 then 8 else if k = 2 then 2048 else 64

/-- The module's XL sender slot (R406). -/
def Dev.xlSlot (d : Dev) : Nat := if d.bit KN.XL_SLOTAUTO then d.get KN.CTL_NODE % 64 else d.get KN.XL_XLSLOT

/-- A frame with priority `prio`, sender `node`, service `svc` and data, in Kinak format k (R405). -/
def Dev.kinakFrame (d : Dev) (k prio node svc : Nat) (data : List (BitVec 8)) : CanFrame :=
  if k = 2 then
    { fmt := 4, rtr := false, brs := false, esi := false, sec := false, vcid := BitVec.ofNat 8 (d.get KN.XL_VCID),
      sdt := BitVec.ofNat 8 (d.get KN.XL_SDT), pid := BitVec.ofNat 11 (prio * 64 + d.xlSlot),
      id := BitVec.ofNat 32 (node * 1024 + svc), data := data }
  else
    { fmt := if k = 0 then 1 else 3, rtr := false, brs := k ≠ 0, esi := false, sec := false, vcid := 0, sdt := 0, pid := 0,
      id := BitVec.ofNat 32 (prio * 16777216 + node * 1024 + svc),
      data := if k = 0 then data else padTo (fdSize data.length) data }

/-- Is f a Kinak frame (R405)? -/
def Dev.isKinak (d : Dev) (f : CanFrame) : Bool :=
  match f.fmt with
  | 1 => !f.rtr
  | 3 => true
  | 4 => decide (f.sdt.toNat = d.get KN.XL_SDT) && decide (f.vcid.toNat = d.get KN.XL_VCID) && !f.sec && decide (f.id.toNat < 16777216)
  | _ => false

/-- Sender, service and priority of a Kinak frame. -/
def kNode (f : CanFrame) : Nat := f.id.toNat / 1024 % 16384
def kSvc (f : CanFrame) : Nat := f.id.toNat % 1024
def kPrio (f : CanFrame) : Nat := if f.fmt = 4 then f.pid.toNat / 64 else f.id.toNat / 16777216 % 32

/-- The kind of a service (Table 14-5): addressed, published, or reserved (none). -/
def svcAddressed (s : Nat) : Option Bool :=
  if (0x010 ≤ s ∧ s ≤ 0x013) ∨ 0x200 ≤ s then some true
  else if s = 0x100 ∨ s = 0x101 ∨ s = 0x102 ∨ s = 0x104 ∨ s = 0x1C0 ∨ s = 0x1C1 then some false
  else none

/-! ### Transmit mailboxes -/

/-- May master m write mailbox mb (Table 14-3)? -/
def mbWritable (m : Master) (mb : Nat) : Bool :=
  if mb ≤ 7 then false else if mb ≤ 11 then decide (m = .truss) else !isDma m

/-- Is mailbox mb of port p free to be filled (R400)? -/
def Dev.mbFree (d : Dev) (p : Fin 4) (mb : Nat) : Bool :=
  decide (d.get (CAN.MBCTL_STATE p mb) ≠ 1) && decide (d.get (CAN.MBCTL_STATE p mb) ≠ 2)

/-- Mailbox mb of port p takes a frame of the Kinak engine or the resident firmware, written by tag w (log 33). -/
def Dev.mbFill (d : Dev) (p : Fin 4) (mb w : Nat) (f : CanFrame) : Dev :=
  (d.setAll [(CAN.MBCTL_WRITER p mb, w), (CAN.MBCTL_STATE p mb, 1), (CAN.MBCTL_FMT p mb, f.fmt.val),
    (CAN.MBCTL_BRS p mb, b2n f.brs), (CAN.MBCTL_LEN p mb, f.data.length), (CAN.MBID_ID p mb, f.id.toNat),
    (CAN.MBXL_PID p mb, f.pid.toNat), (CAN.MBXL_VCID p mb, f.vcid.toNat), (CAN.MBXL_SDT p mb, f.sdt.toNat)]).modPort p fun c =>
    { c with mbData := (mb, f.data) :: c.mbData.filter fun e => decide (e.1 ≠ mb) }

/-- Waiting frames of the Kinak engine enter free mailboxes 0-7 in order. -/
def Dev.loadKinak (d : Dev) (p : Fin 4) : List CanFrame → Dev
  | [] => d.modPort p fun c => { c with kq := [] }
  | f :: t =>
    match [0, 1, 2, 3, 4, 5, 6, 7].find? fun mb => d.mbFree p mb with
    | some mb => (d.mbFill p mb 2 f).loadKinak p t
    | none => d.modPort p fun c => { c with kq := f :: t }

/-- The Kinak engine sends frames on port p. -/
def Dev.kinakSend (d : Dev) (p : Fin 4) (fs : List CanFrame) : Dev := d.loadKinak p ((d.canPort p).kq ++ fs)

/-- A published service on port p. -/
def Dev.publish (d : Dev) (p : Fin 4) (prio svc : Nat) (data : List (BitVec 8)) : Dev :=
  d.kinakSend p [d.kinakFrame (d.kfmt p) prio (d.get KN.CTL_NODE) svc data]

/-- The segments after the start segment, n bytes of body each (R410). -/
def segments (n dest tag : Nat) : Nat → Nat → List (BitVec 8) → List (List (BitVec 8))
  | 0, _, _ => []
  | fuel + 1, seq, body =>
    if body.length ≤ n then [leList 2 (dest + 49152) ++ [BitVec.ofNat 8 (tag * 16 + seq % 16)] ++ body]
    else (leList 2 (dest + 32768) ++ [BitVec.ofNat 8 (tag * 16 + seq % 16)] ++ body.take n) :: segments n dest tag fuel (seq + 1) (body.drop n)

/-- The data fields of an addressed message in Kinak format k (Table 14-6, R410). -/
def messageData (k dest tag : Nat) (body : List (BitVec 8)) : List (List (BitVec 8)) :=
  let n := kfmtMax k
  if body.length + 3 ≤ n then [leList 2 dest ++ [BitVec.ofNat 8 (tag * 16)] ++ body]
  else (leList 2 (dest + 16384) ++ [BitVec.ofNat 8 (tag * 16)] ++ leList 2 body.length ++ body.take (n - 5)) ::
    segments (n - 3) dest tag body.length 1 (body.drop (n - 5))

/-- An addressed message goes out on port p (R409, R410). -/
def Dev.sendMessage (d : Dev) (p : Fin 4) (dest svc prio tag : Nat) (body : List (BitVec 8)) : Dev :=
  d.kinakSend p ((messageData (d.kfmt p) dest tag body).map fun x => d.kinakFrame (d.kfmt p) prio (d.get KN.CTL_NODE) svc x)

/-- MAILBOX_REQUEST (R399, R400). -/
def execMailboxRequest (m : Master) (p : Fin 4) (mb : Fin 32) (s : State) : Host.Outcome State Fault Refusal :=
  s.lift fun d =>
    let a := 0x40800400 + 0x10000 * p.val + 0x20 * mb.val
    if !d.accessAllowed m a true || !mbWritable m mb then d.busError m a true
    else if d.mbFree p mb then
      (((d.set (CAN.MBCTL_WRITER p mb) (reqbyCode m)).set (CAN.MBCTL_STATE p mb) 1).modPort p fun c =>
        { c with mbData := c.mbData.filter fun e => decide (e.1 ≠ mb.val) }).busOk 0
    else d.busOk 0

/-- Mailbox mb of port p is aborted (R401). -/
def Dev.mbAbort (d : Dev) (p : Fin 4) (mb : Nat) : Dev :=
  if d.get (CAN.MBCTL_STATE p mb) = 1 then ((d.set (CAN.MBCTL_STATE p mb) 4).edge (canSrc p 4)).loadKinak p (d.canPort p).kq
  else if d.get (CAN.MBCTL_STATE p mb) = 2 then d.modPort p fun c => { c with curAbort := true }
  else d

/-- Every pending mailbox is aborted, and what the Kinak engine still has to send is dropped (R420). -/
def Dev.abortPending (d : Dev) : Dev :=
  d.each allPorts fun d p => (d.modPort p fun c => { c with kq := [] }).each (List.range 32) fun d mb =>
    if d.get (CAN.MBCTL_STATE p mb) = 1 then d.mbAbort p mb else d

/-- MAILBOX_ABORT (R399, R401). -/
def execMailboxAbort (m : Master) (p : Fin 4) (mb : Fin 32) (s : State) : Host.Outcome State Fault Refusal :=
  s.lift fun d =>
    let a := 0x40800400 + 0x10000 * p.val + 0x20 * mb.val
    if !d.accessAllowed m a true || !mbWritable m mb then d.busError m a true else (d.mbAbort p mb).busOk 0

/-- The data of a mailbox: what the Kinak engine or the resident firmware put into it, or network SRAM at `MBADDR` (R399). -/
def Dev.mbBytes (d : Dev) (mem : Mem) (p : Fin 4) (mb n : Nat) : List (BitVec 8) :=
  match (d.canPort p).mbData.find? fun e => decide (e.1 = mb) with
  | some e => padTo n e.2
  | none => mem.readBytes (d.get (CAN.MBADDR_ADDR p mb) / 4 * 4) n

/-- The frame that a mailbox spells (Table 14-7): an identifier of 11 or 29 bits, or the acceptance field. -/
def Dev.mbFrame (d : Dev) (mem : Mem) (p : Fin 4) (mb : Nat) : CanFrame :=
  let f : Fin 5 := if h : d.get (CAN.MBCTL_FMT p mb) < 5 then ⟨_, h⟩ else 0
  let len := d.get (CAN.MBCTL_LEN p mb)
  let n := if f.val ≤ 1 then min len 8 else if f.val ≤ 3 then min len 64 else min len 2048
  let raw := d.mbBytes mem p mb n
  { fmt := f, rtr := false, brs := decide (f.val = 2 ∨ f.val = 3) && d.bit (CAN.MBCTL_BRS p mb), esi := false, sec := false,
    vcid := BitVec.ofNat 8 (d.get (CAN.MBXL_VCID p mb)), sdt := BitVec.ofNat 8 (d.get (CAN.MBXL_SDT p mb)),
    pid := BitVec.ofNat 11 (d.get (CAN.MBXL_PID p mb)), id := BitVec.ofNat 32 (d.get (CAN.MBID_ID p mb) % (if f = 4 then 2 ^ 32 else if f.val % 2 = 1 then 2 ^ 29 else 2 ^ 11)),
    data := if f.val = 2 ∨ f.val = 3 then padTo (fdSize n) raw else raw }

/-- The arbitration key of a frame: the lower wins under ISO 11898-1 (log 34). -/
def arbKey (f : CanFrame) : Nat :=
  match f.fmt.val with
  | 0 => f.id.toNat % 2048 * 4194304 + b2n f.rtr * 2097152
  | 2 => f.id.toNat % 2048 * 4194304 + 524288
  | 4 => f.pid.toNat * 4194304 + 524288 + 262144
  | k => f.id.toNat / 262144 % 2048 * 4194304 + 2097152 + 1048576 + f.id.toNat % 262144 * 4 + b2n f.rtr * 2 + (if k = 3 then 1 else 0)

/-- The candidate with the lowest key, the first of equals. -/
def bestOf : List (Nat × CanFrame) → Option (Nat × CanFrame)
  | [] => none
  | x :: t =>
    match bestOf t with
    | none => some x
    | some y => if arbKey y.2 < arbKey x.2 then some y else some x

/-- A frame as port p sends it: an error-passive sender marks its FD frames with ESI (Table 14-1, ISO 11898-1). -/
def Dev.sentBy (d : Dev) (p : Fin 4) (f : CanFrame) : CanFrame :=
  { f with esi := (decide (f.fmt = 2) || decide (f.fmt = 3)) && decide (d.get (CAN.ERR_EST p) = 1) }

/-- The frames of port p that wait: pending mailboxes, then the forwarding queue (R400). -/
def Dev.candidates (d : Dev) (mem : Mem) (p : Fin 4) : List (Nat × CanFrame) :=
  ((List.range 32).filter fun mb => decide (d.get (CAN.MBCTL_STATE p mb) = 1)).map (fun mb => (mb, d.sentBy p (d.mbFrame mem p mb))) ++
  ((List.range 16).zip (d.canPort p).fwdq).map fun e => (32 + e.1, d.sentBy p e.2)

/-- Does port p speak the format of a frame: FD with `FDEN`, XL with `XLEN` (Table 14-1)? -/
def Dev.speaks (d : Dev) (p : Fin 4) (f : CanFrame) : Bool :=
  if f.fmt.val ≤ 1 then true else if f.fmt = 4 then d.bit (CAN.CTL_XLEN p) else d.bit (CAN.CTL_FDEN p)

/-- Can port p send a frame: it speaks its format, and an XL frame has at least one byte (Table 14-1)? -/
def Dev.sendable (d : Dev) (p : Fin 4) (f : CanFrame) : Bool := d.speaks p f && (decide (f.fmt ≠ 4) || !f.data.isEmpty)

/-- TRANSMIT_START (R390, R400): a port in listen-only mode or bus-off sends nothing (Table 14-2, R394), and no port a frame that it cannot send,
which goes on waiting; none starts while the network domain is being left (R420). -/
def execTransmitStart (p : Fin 4) (s : State) : Host.Outcome State Fault Refusal :=
  s.liftMem fun d mem =>
    if d.portUp p && decide (d.get (CAN.CTL_LBK p) ≠ 1) && (d.canPort p).cur.isNone && (vget d.pier.entering 7).isNone then
      match bestOf ((d.candidates mem p).filter fun x => d.sendable p x.2) with
      | some x => ((d.modPort p fun c => { c with cur := some x, curAbort := false }).when (decide (x.1 < 32)) fun d =>
          d.set (CAN.MBCTL_STATE p x.1) 2, mem)
      | none => (d, mem)
    else (d, mem)

/-- Cancel every mailbox that tag w wrote last (Table 12-5), counting them; a frame in arbitration or on the bus reports its own outcome, and is not
counted. -/
def Dev.flushMailboxes (d : Dev) (w : Nat) : Dev :=
  d.each allPorts fun d p => d.each (List.range 32) fun d mb =>
    if d.get (CAN.MBCTL_WRITER p mb) = w ∧ d.mbFree p mb = false then
      (d.mbAbort p mb).when (decide (d.get (CAN.MBCTL_STATE p mb) = 1)) fun d => d.countSat FCOL.RELSTAT_CANFLUSH
    else d

/-! ### Receive rings -/

/-- The 16-byte header of an entry (Table 14-4). -/
def entryHeader (f : CanFrame) (kin : Bool) (stamp : Nat) : List (BitVec 8) :=
  leList 4 (f.fmt.val * 536870912 + b2n f.rtr * 268435456 + b2n f.brs * 134217728 + b2n f.esi * 67108864 + b2n f.sec * 33554432 +
    b2n kin * 16777216 + (if f.fmt = 4 then f.vcid.toNat * 65536 + f.sdt.toNat * 256 else 0)) ++
  leList 4 f.id.toNat ++ leList 4 ((if f.fmt = 4 then f.pid.toNat * 2097152 else 0) + f.data.length) ++ leList 4 stamp

/-- Bytes are written into network SRAM; addresses outside it take nothing (log 33). -/
def writeNet (mem : Mem) (a : Nat) (l : List (BitVec 8)) : Mem :=
  if 0x24000000 ≤ a ∧ a + l.length ≤ 0x24040000 then mem.writeBytes a l else mem

/-- The ring's size in units; 0 acts as 1. -/
def Dev.ringSize (d : Dev) (p : Fin 4) : Nat := max 1 (d.get (CAN.RXCFG_SIZE p))

/-- A frame is handed to the receive ring of port p (R402, R403). -/
def Dev.ringPut (d : Dev) (mem : Mem) (p : Fin 4) (f : CanFrame) (kin : Bool) (stamp : Nat) : Dev × Mem :=
  let size := d.ringSize p
  let wr := d.get (CAN.RXPTR_WR p)
  let lv := d.get (CAN.RXSTAT_LEVEL p)
  let base := d.get (CAN.RXBASE_BASE p) / 16 * 16
  let n := 1 + (f.data.length + 15) / 16
  let skip := if wr + n ≤ size then 0 else size - wr
  if lv + skip + n ≤ size then
    let at0 := if skip = 0 then wr else 0
    let mem1 := if skip = 0 then mem else writeNet mem (base + 16 * wr) (leList 16 (7 * 536870912))
    let mem2 := writeNet mem1 (base + 16 * at0) (entryHeader f kin stamp ++ padTo (16 * (n - 1)) f.data)
    let lv2 := lv + skip + n
    ((((d.set (CAN.RXPTR_WR p) ((at0 + n) % size)).set (CAN.RXSTAT_LEVEL p) lv2).edge (canSrc p 0)).when
      (decide (lv < d.get (CAN.RXCFG_WM p)) && decide (d.get (CAN.RXCFG_WM p) ≤ lv2)) fun d => d.edge (canSrc p 1), mem2)
  else ((d.set (CAN.STAT_RXOVF p) 1).countSat (CAN.RXSTAT_LOST p), mem)

/-- RX_RING_READ (R403): `RD` advances; outside the ring it acts as `WR`. -/
def execRxRingRead (m : Master) (p : Fin 4) (v : BitVec 16) (s : State) : Host.Outcome State Fault Refusal :=
  s.lift fun d =>
    let a := 0x40800028 + 0x10000 * p.val
    if !d.accessAllowed m a true then d.busError m a true
    else
      let size := d.ringSize p
      let wr := d.get (CAN.RXPTR_WR p)
      let rd := if v.toNat < size then v.toNat else wr
      ((d.set (CAN.RXPTR_RD p) rd).set (CAN.RXSTAT_LEVEL p) ((wr + size - rd % size) % size)).busOk 0

/-- Does filter i of port p accept the frame (R404, Table 14-7)? -/
def Dev.filterHit (d : Dev) (p : Fin 4) (f : CanFrame) (i : Nat) : Bool :=
  let v := d.get (CAN.FLTV_VAL p i)
  let mk := d.get (CAN.FLTM_MASK p i)
  let sel := if d.get (CAN.FLTV_FSEL p i) = 3 then 0 else d.get (CAN.FLTV_FSEL p i)
  let kind := if f.fmt = 4 then 2 else f.fmt.val % 2
  d.bit (CAN.FLTV_EN p i) && decide (sel = kind) && decide (f.id.toNat / 536870912 = 0) &&
    decide (((f.id.toNat ^^^ v) &&& mk) = 0)

/-! ### Kinak reception -/

/-- One more lost or broken segment. -/
def Dev.segErr (d : Dev) : Dev := d.countSat KN.STAT_SEGERR

/-- The key of a transfer. -/
def keyIs (t : Transfer) (node svc tag : Nat) : Bool := decide (t.node = node) && decide (t.svc = svc) && decide (t.tag = tag)

/-- A whole message for the dictionary engine has arrived on port p. -/
def Dev.deliver (d : Dev) (p : Fin 4) (node svc prio tag : Nat) (body : List (BitVec 8)) : Dev :=
  d.modNet fun n => { n with inbox := n.inbox ++ [{ port := p, node := node, svc := svc, prio := prio, tag := tag, body := body }] }

/-- The body of an end segment: zeros that only round an FD frame up are no surplus (log 35). -/
def endBody (f : CanFrame) (need : Nat) (x : List (BitVec 8)) : List (BitVec 8) :=
  if f.fmt = 3 ∧ need < x.length ∧ x.length + 3 = fdSize (need + 3) ∧ (x.drop need).all (· = 0#8) then x.take need else x

/-- An addressed frame for the dictionary engine: a whole message, or a segment of one (R410). -/
def Dev.segment (d : Dev) (p : Fin 4) (f : CanFrame) : Dev :=
  let node := kNode f
  let svc := kSvc f
  let h := leNat (f.data.take 2)
  let tag := leNat ((f.data.drop 2).take 1) / 16
  let seq := leNat ((f.data.drop 2).take 1) % 16
  let rest := f.data.drop 3
  let ts := (d.canPort p).transfers
  let others := ts.filter fun t => !keyIs t node svc tag
  let drop := (d.modPort p fun c => { c with transfers := others }).segErr
  match h / 16384 % 4 with
  | 0 => d.deliver p node svc (kPrio f) tag rest
  | 1 =>
    let len := leNat (rest.take 2)
    if seq ≠ 0 ∨ 4096 < len ∨ rest.length < 2 then drop
    else if 8 ≤ others.length then d.segErr
    else d.modPort p fun c => { c with transfers := others ++ [{ node := node, svc := svc, tag := tag, prio := kPrio f, len := len, seq := 1, got := rest.drop 2 }] }
  | k =>
    match ts.find? fun t => keyIs t node svc tag with
    | none => d.segErr
    | some t =>
      if t.seq ≠ seq then drop
      else if k = 2 then d.modPort p fun c => { c with transfers := others ++ [{ t with seq := (seq + 1) % 16, got := t.got ++ rest }] }
      else
        let all := t.got ++ endBody f (t.len - t.got.length) rest
        if all.length = t.len then (d.modPort p fun c => { c with transfers := others }).deliver p node svc t.prio tag all
        else drop

/-- SEGMENT_TIMEOUT (R410). -/
def execSegmentTimeout (p : Fin 4) (node : BitVec 14) (svc : BitVec 10) (tag : BitVec 4) (s : State) : Host.Outcome State Fault Refusal :=
  s.lift fun d =>
    if (d.canPort p).transfers.any fun t => keyIs t node.toNat svc.toNat tag.toNat then
      (d.modPort p fun c => { c with transfers := c.transfers.filter fun t => !keyIs t node.toNat svc.toNat tag.toNat }).segErr
    else d

/-! ### Forwarding -/

/-- The key of a Kinak frame for forwarding: destination of an addressed frame, sender of a published one (R411). -/
def fwdKey (f : CanFrame) (addressed : Bool) : Nat := if addressed then leNat (f.data.take 2) % 16384 else kNode f

/-- Does entry e match a frame from port i? -/
def Dev.fwdMatch (d : Dev) (i : Fin 4) (addressed : Bool) (key e : Nat) : Bool :=
  d.bit (KN.FWDA_EN e) && natBit (d.get (KN.FWDA_IN e)) i &&
  (match d.get (KN.FWDA_KIND e) with | 0 => addressed | 1 => !addressed | _ => true) &&
  decide (d.get (KN.FWDB_LO e) ≤ key) && decide (key ≤ d.get (KN.FWDB_HI e))

/-- A frame is queued on out-port j in that port's Kinak format, or dropped (R412). -/
def Dev.fwdPut (d : Dev) (j : Fin 4) (f : CanFrame) : Dev :=
  if f.data.length ≤ kfmtMax (d.kfmt j) ∧ (d.canPort j).fwdq.length < 16 then
    d.modPort j fun c => { c with fwdq := c.fwdq ++ [d.kinakFrame (d.kfmt j) (kPrio f) (kNode f) (kSvc f) f.data] }
  else d.countSat KN.STAT_FWDDROP

/-- A Kinak frame received on port i is forwarded, or missed; one addressed to this node stays here (R411, R412). -/
def Dev.forward (d : Dev) (i : Fin 4) (f : CanFrame) (addressed : Bool) : Dev :=
  let key := fwdKey f addressed
  let local' := decide (d.get (KN.LOCAL_LO i) ≤ key) && decide (key ≤ d.get (KN.LOCAL_HI i))
  if !d.bit KN.FWD_FWDEN || local' then d
  else
    let es := (List.range 256).filter fun e => d.fwdMatch i addressed key e
    if es.isEmpty then d.when addressed fun d => (d.countSat KN.FWD_FWDMISS).edge (canSrc i 10)
    else if addressed && decide (key = d.get KN.CTL_NODE) then d
    else d.each allPorts fun d j =>
      if j ≠ i ∧ (es.any fun e => natBit (d.get (KN.FWDA_OUT e)) j) = true then d.fwdPut j f else d

/-- A follow-up of node, with number n and the master's time, on port p (R415): it sets `OFS` where the module is a slave and n is that of the last
sync received on `TSPORT`. -/
def Dev.followUp (d : Dev) (p : Fin 4) (node n time : Nat) : Dev :=
  match d.vol.net.lastSync with
  | none => d
  | some (k, sof) =>
    if d.portUp p && decide (d.get KN.CFG_TSYNC = 1) && decide (d.get KN.CFG_TSPORT = p.val) &&
        decide (node = d.get KN.TSNODE_TSNODE) && decide (k = n) then
      ((d.set KN.OFS_W (nearest56 d.netTime time + 2 ^ 64 - sof % 2 ^ 64)).set KN.STAT_TSVALID 1)
    else d

/-- A Kinak frame on a port that the Kinak engine serves (R404, R407-R411), `own` where the port receives its own in a loop-back mode (R393); its data in the ring for a customer service. -/
def Dev.kinakReceive (d : Dev) (mem : Mem) (p : Fin 4) (f : CanFrame) (age : Nat) (own : Bool) : Dev × Mem :=
  let d1 := d.when (decide (kNode f = d.get KN.CTL_NODE) && !own) fun d => d.set KN.STAT_ADDRCONF 1
  match svcAddressed (kSvc f) with
  | none => (d1.countSat KN.STAT_UNKSVC, mem)
  | some true =>
    let mine := decide (leNat (f.data.take 2) % 16384 = d.get KN.CTL_NODE) && decide (3 ≤ f.data.length)
    let d2 := d1.when mine fun d => (d.edge (canSrc p 9)).forward p f true
    if mine && decide (0x200 ≤ kSvc f) then d2.ringPut mem p f true (d.sofStamp age)
    else if mine then (if kSvc f = 0x010 ∨ kSvc f = 0x012 then d2.segment p f else d2, mem)
    else (d1.forward p f true, mem)
  | some false =>
    let d2 := d1.when (decide (kSvc f = 0x101) && decide (d.get KN.CFG_TSYNC = 1) && decide (d.get KN.CFG_TSPORT = p.val)) fun d =>
      d.modNet fun n => { n with lastSync := some (leNat (f.data.take 1), d.sofTime age) }
    let d3 := d2.when (decide (kSvc f = 0x102)) fun d => d.followUp p (kNode f) (leNat (f.data.take 1)) (leNat ((f.data.drop 1).take 7))
    (d3.forward p f false, mem)

/-- A frame that port p has received goes to the Kinak engine, to the ring, or nowhere (R404, R413). -/
def Dev.takeFrame (d : Dev) (mem : Mem) (p : Fin 4) (f : CanFrame) (age : Nat) (own : Bool) : Dev × Mem :=
  if d.kinakPort p && d.isKinak f then d.kinakReceive mem p f age own
  else if (List.range 16).any fun i => d.filterHit p f i then d.ringPut mem p f false (d.sofStamp age)
  else (d, mem)

/-! ### Errors and recovery -/

/-- The error state follows the counters (R394); `off`: TEC passed 255. -/
def Dev.errState (d : Dev) (p : Fin 4) (off : Bool) : Dev :=
  let tec := d.get (CAN.ERR_TEC p)
  let rec' := d.get (CAN.ERR_REC p)
  let d1 := d.setBit (CAN.ERR_EWARN p) (decide (96 ≤ tec) || decide (96 ≤ rec'))
  if off then
    ((((d1.set (CAN.ERR_EST p) 2).set (CAN.ERR_TEC p) 255).countSat (CAN.STAT_BOCNT p)).modPort p fun c =>
      { c with recovering := d.bit (CAN.CTL_ABO p) }).assertLine 55 0
  else if 128 ≤ tec ∨ 128 ≤ rec' then (d1.set (CAN.ERR_EST p) 1).assertLine 54 0
  else d1.set (CAN.ERR_EST p) 0

/-- The lines of an enabled port's error state are raised (R394). -/
def Dev.raiseErr (d : Dev) (p : Fin 4) : Dev :=
  (d.when (d.bit (CAN.CTL_EN p) && decide (d.get (CAN.ERR_EST p) = 1)) fun d => d.assertLine 54 0).when
    (d.bit (CAN.CTL_EN p) && decide (d.get (CAN.ERR_EST p) = 2)) fun d => d.assertLine 55 0

/-- A receive error of port p. -/
def Dev.receiveError (d : Dev) (p : Fin 4) (n : Nat) : Dev := (d.countBySat (CAN.ERR_REC p) n).errState p false

/-- The error state after a counter fell: the warning follows, and below 128 a passive port is active again (R394). -/
def Dev.errFall (d : Dev) (p : Fin 4) : Dev :=
  let tec := d.get (CAN.ERR_TEC p)
  let rec' := d.get (CAN.ERR_REC p)
  (d.setBit (CAN.ERR_EWARN p) (decide (96 ≤ tec) || decide (96 ≤ rec'))).when
    (decide (d.get (CAN.ERR_EST p) = 1) && decide (tec < 128) && decide (rec' < 128)) fun d => d.set (CAN.ERR_EST p) 0

/-- REC falls with a good frame; from above 127 to an open value (log 34). -/
def Dev.goodFrame (d : Dev) (p : Fin 4) : Dev :=
  let rec' := d.get (CAN.ERR_REC p)
  let r := if 128 ≤ rec' then d.drawBetween 119 127 else (((rec' - 1 : Nat) : Int), d)
  (r.2.set (CAN.ERR_REC p) r.1.toNat).errFall p

/-- CAN_FRAME_RECEIVED (R390, R393, R404): a port receives while it is enabled and not bus-off, in internal loop-back only its own
frames. A frame of a format that it does not speak is an error, but an XL frame with `FDEN` 1 a protocol exception (Table 14-1). -/
def execCanFrameReceived (p : Fin 4) (f : CanFrame) (age : Word) (s : State) : Host.Outcome State Fault Refusal :=
  s.liftMem fun d mem =>
    if !d.portUp p || decide (d.get (CAN.CTL_LBK p) = 2) then (d, mem)
    else if !d.speaks p f then (if f.fmt = 4 ∧ d.bit (CAN.CTL_FDEN p) = true then d else d.receiveError p 1, mem)
    else (d.goodFrame p).takeFrame mem p f age.toNat false

/-- The follow-up of a sync frame that this module has sent as the master: its number, and the timebase at its start of frame (R415). -/
def Dev.sendFollowUp (d : Dev) (p : Fin 4) (f : CanFrame) (age : Nat) : Dev :=
  if decide (kSvc f = 0x101) && d.isKinak f && decide (kNode f = d.get KN.CTL_NODE) && decide (d.get KN.CFG_TSYNC = 2) &&
      decide (d.get KN.CFG_TSPORT = p.val) then
    d.publish p 1 0x102 (f.data.take 1 ++ leList 7 (d.sofTime age))
  else d

/-- TRANSMIT_COMPLETE (R392, R393, R397, R400, R401): on success DONE with its stamp, TEC falls by one (ISO 11898-1, log 34), a measured
transmitter delay is reported, a sync of this module is followed up, and a port in loop-back receives the frame; a frame that lost or failed waits again, or is aborted if that was written. -/
def execTransmitComplete (p : Fin 4) (e : TxEnd) (age : Word) (delay : BitVec 8) (s : State) : Host.Outcome State Fault Refusal :=
  s.liftMem fun d mem =>
    match (d.canPort p).cur with
    | none => (d, mem)
    | some (i, f) =>
      let ab := (d.canPort p).curAbort
      let d1 := d.modPort p fun c => { c with cur := none, curAbort := false }
      match e with
      | .sent =>
        let d2 := (d1.set (CAN.ERR_TEC p) (d1.get (CAN.ERR_TEC p) - 1)).errFall p
        let d3 := if i < 32 then
          (((d2.set (CAN.MBCTL_STATE p i) 3).set (CAN.MBTS_TS p i) (d.sofStamp age.toNat)).when (d.bit (CAN.MBCTL_TXIE p i)) fun d =>
            d.edge (canSrc p 3)).loadKinak p (d.canPort p).kq
        else d2.modPort p fun c => { c with fwdq := c.fwdq.eraseIdx (i - 32) }
        let d4 := (d3.when (d.bit (CAN.TDC_TDCEN p) && decide (2 ≤ f.fmt.val)) fun d => d.set (CAN.TDC_TDCV p) delay.toNat).when (decide (i < 8)) fun d =>
          d.sendFollowUp p f age.toNat
        if 2 ≤ d.get (CAN.CTL_LBK p) then d4.takeFrame mem p f age.toNat true else (d4, mem)
      | _ =>
        (if 32 ≤ i then d1
         else if ab then ((d1.set (CAN.MBCTL_STATE p i) 4).edge (canSrc p 4)).loadKinak p (d.canPort p).kq
         else d1.set (CAN.MBCTL_STATE p i) 1, mem)

/-- CAN_ERROR (R394). -/
def execCanError (p : Fin 4) (e : CanErr) (s : State) : Host.Outcome State Fault Refusal :=
  s.lift fun d =>
    if !d.portUp p then d
    else
      match e with
      | .transmit => (d.set (CAN.ERR_TEC p) (min 255 (d.get (CAN.ERR_TEC p) + 8))).errState p (decide (255 < d.get (CAN.ERR_TEC p) + 8))
      | .receive => d.receiveError p 1
      | .receiveDominant => d.receiveError p 8

/-- RECOVER (R395). -/
def execRecover (m : Master) (p : Fin 4) (s : State) : Host.Outcome State Fault Refusal :=
  s.lift fun d =>
    let a := 0x4080001C + 0x10000 * p.val
    if !d.accessAllowed m a true then d.busError m a true
    else if d.get (CAN.ERR_EST p) = 2 then (d.modPort p fun c => { c with recovering := true }).busOk 0
    else d.busOk 0

/-- BUS_OFF_RECOVERY_COMPLETE (R395). -/
def execBusOffRecoveryComplete (p : Fin 4) (s : State) : Host.Outcome State Fault Refusal :=
  s.lift fun d =>
    if d.netWorks && decide (d.get (CAN.ERR_EST p) = 2) && (d.canPort p).recovering then
      ((((d.set (CAN.ERR_TEC p) 0).set (CAN.ERR_REC p) 0).modPort p fun c => { c with recovering := false }).errState p false).edge (canSrc p 8)
    else d

/-- PORT_ENABLE (R391): `EN` is written; another configuration change takes effect only while `EN` is 0. -/
def execPortEnable (m : Master) (p : Fin 4) (w : CanWrite) (s : State) : Host.Outcome State Fault Refusal :=
  s.lift fun d =>
    let base := 0x40800000 + 0x10000 * p.val
    let a := match w with | .ctl _ => base | .nbt _ => base + 4 | .dbt _ => base + 8 | .xbt _ => base + 12
    let fs := match w with
      | .ctl _ => [CAN.CTL_XLEN p, CAN.CTL_FDEN p, CAN.CTL_LBK p]
      | .nbt _ => [CAN.NBT_SJW p, CAN.NBT_TSEG1 p, CAN.NBT_TSEG2 p, CAN.NBT_BRP p]
      | .dbt _ => [CAN.DBT_SJW p, CAN.DBT_TSEG1 p, CAN.DBT_TSEG2 p, CAN.DBT_BRP p]
      | .xbt _ => [CAN.XBT_SJW p, CAN.XBT_TSEG1 p, CAN.XBT_TSEG2 p, CAN.XBT_BRP p]
    let v := match w with | .ctl v => v | .nbt v => v | .dbt v => v | .xbt v => v
    if !d.accessAllowed m a true then d.busError m a true
    else
      let d1 := if d.bit (CAN.CTL_EN p) then
          d.when (fs.any fun f => decide (d.get f ≠ v.toNat / 2 ^ f.lo % 2 ^ f.width)) fun d => d.set (CAN.STAT_CFGREJ p) 1
        else d.writeFields fs v.toNat
      (match w with | .ctl v => (d1.set (CAN.CTL_EN p) v.toNat).raiseErr p | _ => d1).busOk 0

/-! ### The timebase -/

/-- The time at the present keep-alive count while the NETWORK domain is not on (R469). -/
def Dev.sleepTime (d : Dev) (mem : Mem) : Nat :=
  (mem.readLE 0x30000040 8 + (d.get PIER.KACNT_W + 2 ^ 64 - mem.readLE 0x30000048 8) % 2 ^ 64 * 78125 / 16) % 2 ^ 64

/-- TIMESTAMP_WRAP (R397). -/
def execTimestampWrap (s : State) : Host.Outcome State Fault Refusal :=
  s.lift fun d =>
    if d.netWorks then d.each allPorts fun d p =>
      if d.bit (CAN.CTL_EN p) then (d.set (CAN.STAT_TSWRAP p) 1).edge (canSrc p 11) else d
    else d

/-- TIMER_FIRE (R398). -/
def execTimerFire (i : Fin 8) (s : State) : Host.Outcome State Fault Refusal :=
  s.lift fun d =>
    if d.netWorks && d.bit (TB.TIMCTL_EN i) then
      (if d.get (TB.TIMPER_PER i) = 0 then d.set (TB.TIMCTL_EN i) 0
       else d.set (TB.TIMCMP_CMP i) (d.get (TB.TIMCMP_CMP i) + d.get (TB.TIMPER_PER i))).edge (368 + i)
    else d

/-! ### What the Kinak engine sends by itself -/

/-- The ports that carry heartbeats and reports. -/
def Dev.kinakPorts (d : Dev) : List (Fin 4) := allPorts.filter fun p => d.portUp p && d.kinakPort p

/-- HEARTBEAT (R416). -/
def execHeartbeat (s : State) : Host.Outcome State Fault Refusal :=
  s.lift fun d =>
    if d.netWorks && decide (d.get KN.CFG_HBPER ≠ 0) then
      let data := [BitVec.ofNat 8 (d.get DE.STAT_OPSTATE), BitVec.ofNat 8 (d.get LC.LCSTATE_STATE),
        BitVec.ofNat 8 (b2n d.faultNLow + 2 * d.get FCOL.REACT_MSS), BitVec.ofNat 8 d.vol.net.hbCount]
      (d.each d.kinakPorts fun d p => d.publish p 24 0x100 data).modNet fun n => { n with hbCount := (n.hbCount + 1) % 256 }
    else d

/-- A fault report of line l on every enabled KINAK port, at most once per 10 ms and line (R417). -/
def Dev.faultReport (d : Dev) (l ts : Nat) : Dev :=
  if d.netWorks = false ∨ (d.vol.net.reports.any fun r => decide (r.1 = l) && decide (d.now < r.2 + 40000)) = true then d
  else
    let data := [BitVec.ofNat 8 l, BitVec.ofNat 8 (d.classOf l + 64 * d.get (FCOL.BRA_L l) + 128 * d.get (FCOL.BRB_L l))] ++ leList 4 ts
    (d.each d.kinakPorts fun d p => d.publish p 4 0x104 data).modNet fun n =>
      { n with reports := (l, d.now) :: n.reports.filter fun r => decide (r.1 ≠ l) }

/-- TIME_SYNC (R415): the sync frame goes out; its follow-up goes when it is sent. -/
def execTimeSync (s : State) : Host.Outcome State Fault Refusal :=
  s.lift fun d =>
    if d.netWorks && decide (d.get KN.CFG_TSYNC = 2) then
      let p : Fin 4 := ⟨d.get KN.CFG_TSPORT % 4, Nat.mod_lt _ (by decide)⟩
      let n := BitVec.ofNat 8 d.vol.net.syncN
      (d.publish p 1 0x101 [n]).modNet fun x => { x with syncN := (x.syncN + 1) % 256 }
    else d

/-- FOLLOW_UP (R415), from the bus, on a port that the Kinak engine serves (R393, R413). -/
def execFollowUp (p : Fin 4) (node : BitVec 14) (n : BitVec 8) (time : BitVec 56) (s : State) : Host.Outcome State Fault Refusal :=
  s.lift fun d => if d.kinakPort p && decide (d.get (CAN.CTL_LBK p) ≠ 2) then d.followUp p node.toNat n.toNat time.toNat else d

/-- TIME_SYNC_TIMEOUT (R415). -/
def execTimeSyncTimeout (s : State) : Host.Outcome State Fault Refusal :=
  s.lift fun d => if d.netWorks then d.set KN.STAT_TSVALID 0 else d

end Sys2Proof.Machine
end

