-- ==== Sys2Proof/Machine/Sha.lean ====
section
/-! DEFINITION. SHA-256, which the ledger's records carry (R488, R489): the hash of FIPS 180-4. -/

namespace Sys2Proof.Machine

/-- The round constants. -/
def shaK0 : List (BitVec 32) := [0x428a2f98#32, 0x71374491#32, 0xb5c0fbcf#32, 0xe9b5dba5#32, 0x3956c25b#32, 0x59f111f1#32, 0x923f82a4#32, 0xab1c5ed5#32,
  0xd807aa98#32, 0x12835b01#32, 0x243185be#32, 0x550c7dc3#32, 0x72be5d74#32, 0x80deb1fe#32, 0x9bdc06a7#32, 0xc19bf174#32]
def shaK1 : List (BitVec 32) := [0xe49b69c1#32, 0xefbe4786#32, 0x0fc19dc6#32, 0x240ca1cc#32, 0x2de92c6f#32, 0x4a7484aa#32, 0x5cb0a9dc#32, 0x76f988da#32,
  0x983e5152#32, 0xa831c66d#32, 0xb00327c8#32, 0xbf597fc7#32, 0xc6e00bf3#32, 0xd5a79147#32, 0x06ca6351#32, 0x14292967#32]
def shaK2 : List (BitVec 32) := [0x27b70a85#32, 0x2e1b2138#32, 0x4d2c6dfc#32, 0x53380d13#32, 0x650a7354#32, 0x766a0abb#32, 0x81c2c92e#32, 0x92722c85#32,
  0xa2bfe8a1#32, 0xa81a664b#32, 0xc24b8b70#32, 0xc76c51a3#32, 0xd192e819#32, 0xd6990624#32, 0xf40e3585#32, 0x106aa070#32]
def shaK3 : List (BitVec 32) := [0x19a4c116#32, 0x1e376c08#32, 0x2748774c#32, 0x34b0bcb5#32, 0x391c0cb3#32, 0x4ed8aa4a#32, 0x5b9cca4f#32, 0x682e6ff3#32,
  0x748f82ee#32, 0x78a5636f#32, 0x84c87814#32, 0x8cc70208#32, 0x90befffa#32, 0xa4506ceb#32, 0xbef9a3f7#32, 0xc67178f2#32]

/-- The initial hash value. -/
def shaH0 : List (BitVec 32) := [0x6a09e667#32, 0xbb67ae85#32, 0x3c6ef372#32, 0xa54ff53a#32, 0x510e527f#32, 0x9b05688c#32, 0x1f83d9ab#32, 0x5be0cd19#32]

/-- The eight working variables. -/
structure ShaState where
  a : BitVec 32
  b : BitVec 32
  c : BitVec 32
  d : BitVec 32
  e : BitVec 32
  f : BitVec 32
  g : BitVec 32
  h : BitVec 32

/-- The functions of the standard. -/
def shaCh (x y z : BitVec 32) : BitVec 32 := (x &&& y) ^^^ (~~~x &&& z)
def shaMaj (x y z : BitVec 32) : BitVec 32 := (x &&& y) ^^^ (x &&& z) ^^^ (y &&& z)
def shaBig0 (x : BitVec 32) : BitVec 32 := x.rotateRight 2 ^^^ x.rotateRight 13 ^^^ x.rotateRight 22
def shaBig1 (x : BitVec 32) : BitVec 32 := x.rotateRight 6 ^^^ x.rotateRight 11 ^^^ x.rotateRight 25
def shaSmall0 (x : BitVec 32) : BitVec 32 := x.rotateRight 7 ^^^ x.rotateRight 18 ^^^ x >>> 3
def shaSmall1 (x : BitVec 32) : BitVec 32 := x.rotateRight 17 ^^^ x.rotateRight 19 ^^^ x >>> 10

/-- One round with constant k and schedule word w. -/
def shaRound (s : ShaState) (k w : BitVec 32) : ShaState :=
  let t1 := s.h + shaBig1 s.e + shaCh s.e s.f s.g + k + w
  let t2 := shaBig0 s.a + shaMaj s.a s.b s.c
  ⟨t1 + t2, s.a, s.b, s.c, s.d + t1, s.e, s.f, s.g⟩

/-- n rounds over a window of 16 schedule words; the window moves on by one word a round. -/
def shaRounds : List (BitVec 32) → List (BitVec 32) → ShaState → ShaState
  | [], _, s => s
  | k :: ks, w, s =>
    let x := fun i => w.getD i 0#32
    shaRounds ks (w.drop 1 ++ [shaSmall1 (x 14) + x 9 + shaSmall0 (x 1) + x 0]) (shaRound s k (x 0))

/-- The 32-bit words of a block, most significant byte first. -/
def shaWords : List (BitVec 8) → List (BitVec 32)
  | a :: b :: c :: d :: t => (a.setWidth 32 <<< 24 ||| b.setWidth 32 <<< 16 ||| c.setWidth 32 <<< 8 ||| d.setWidth 32) :: shaWords t
  | _ => []

/-- One block of 64 bytes is worked into the hash value. -/
def shaBlock (h : List (BitVec 32)) (blk : List (BitVec 8)) : List (BitVec 32) :=
  let x := fun i => h.getD i 0#32
  let r := shaRounds (shaK0 ++ shaK1 ++ shaK2 ++ shaK3) (shaWords blk) ⟨x 0, x 1, x 2, x 3, x 4, x 5, x 6, x 7⟩
  [x 0 + r.a, x 1 + r.b, x 2 + r.c, x 3 + r.d, x 4 + r.e, x 5 + r.f, x 6 + r.g, x 7 + r.h]

/-- n blocks. -/
def shaBlocks : Nat → List (BitVec 8) → List (BitVec 32) → List (BitVec 32)
  | 0, _, h => h
  | n + 1, l, h => shaBlocks n (l.drop 64) (shaBlock h (l.take 64))

/-- n bytes of a number, most significant first. -/
def beList : Nat → Nat → List (BitVec 8)
  | 0, _ => []
  | n + 1, v => BitVec.ofNat 8 (v / 256 ^ n) :: beList n v

/-- SHA-256 of a message. -/
def sha256 (l : List (BitVec 8)) : List (BitVec 8) :=
  let z := (119 - l.length % 64) % 64
  let m := l ++ [0x80#8] ++ List.replicate z 0#8 ++ beList 8 (8 * l.length)
  (shaBlocks (m.length / 64) m shaH0).foldr (fun w r => beList 4 w.toNat ++ r) []

/-- The number that bytes spell, most significant first. -/
def ofBeList (l : List (BitVec 8)) : Nat := l.foldl (fun n b => n * 256 + b.toNat) 0

end Sys2Proof.Machine
end

