-- ==== Sys2Proof/Machine/Crypto.lean ====
section
/-! DEFINITION. The cryptography that the boot ROM and the life cycle use (R8, R86, R89, R94): ECDSA on the curve P-256 of FIPS 186-5, with the
keys under which a signature verifies, and AES-256 of FIPS 197 in counter mode. -/

namespace Sys2Proof.Machine

/-! ### P-256 -/

/-- The field, the group order, the constant b and the base point of the curve y² = x³ - 3x + b. -/
def p256P : Nat := 0xffffffff00000001000000000000000000000000ffffffffffffffffffffffff
def p256N : Nat := 0xffffffff00000000ffffffffffffffffbce6faada7179e84f3b9cac2fc632551
def p256B : Nat := 0x5ac635d8aa3a93e7b3ebbd55769886bc651d06b0cc53b0f63bce3c3e27d2604b
def p256Gx : Nat := 0x6b17d1f2e12c4247f8bce6e563a440f277037d812deb33a0f4a13945d898c296
def p256Gy : Nat := 0x4fe342e2fe1a7f9b8ee7eb4a7c0f9e162bce33576b315ececbb6406837bf51f5

/-- A power modulo m, for exponents below 2^k. -/
def powMod (m : Nat) : Nat → Nat → Nat → Nat
  | 0, _, _ => 1
  | k + 1, b, e =>
    let r := powMod m k (b * b % m) (e / 2)
    if e % 2 = 1 then r * b % m else r

/-- The inverse modulo a prime. -/
def invMod (m a : Nat) : Nat := powMod m 256 a (m - 2)

/-- A difference modulo the field prime. -/
def p256Sub (a b : Nat) : Nat := (a + p256P - b) % p256P

/-- A point (x / z², y / z³); z = 0 is the point at infinity. -/
structure CurvePoint where
  x : Nat
  y : Nat
  z : Nat

/-- The point at infinity. -/
def CurvePoint.zero : CurvePoint := ⟨1, 1, 0⟩

/-- Twice a point. -/
def CurvePoint.double (p : CurvePoint) : CurvePoint :=
  let y2 := p.y * p.y % p256P
  let z2 := p.z * p.z % p256P
  let s := 4 * p.x * y2 % p256P
  let m := 3 * p256Sub p.x z2 * (p.x + z2) % p256P
  let x := p256Sub (m * m % p256P) (2 * s % p256P)
  ⟨x, p256Sub (m * p256Sub s x % p256P) (8 * y2 * y2 % p256P), 2 * p.y * p.z % p256P⟩

/-- The sum of two points. -/
def CurvePoint.add (p q : CurvePoint) : CurvePoint :=
  if p.z = 0 then q
  else if q.z = 0 then p
  else
    let pz2 := p.z * p.z % p256P
    let qz2 := q.z * q.z % p256P
    let u := p.x * qz2 % p256P
    let h := p256Sub (q.x * pz2 % p256P) u
    let s := p.y * (q.z * qz2 % p256P) % p256P
    let r := p256Sub (q.y * (p.z * pz2 % p256P) % p256P) s
    if h = 0 then (if r = 0 then p.double else CurvePoint.zero)
    else
      let h2 := h * h % p256P
      let h3 := h * h2 % p256P
      let v := u * h2 % p256P
      let x := p256Sub (p256Sub (r * r % p256P) h3) (2 * v % p256P)
      ⟨x, p256Sub (r * p256Sub v x % p256P) (s * h3 % p256P), p.z * q.z % p256P * h % p256P⟩

/-- A multiple of a point, for factors below 2^k. -/
def CurvePoint.times (p : CurvePoint) : Nat → Nat → CurvePoint
  | 0, _ => CurvePoint.zero
  | k + 1, n =>
    let r := (p.times k (n / 2)).double
    if n % 2 = 1 then r.add p else r

/-- The coordinates of a point that is not at infinity. -/
def CurvePoint.affine (p : CurvePoint) : Nat × Nat :=
  let i := invMod p256P p.z
  let i2 := i * i % p256P
  (p.x * i2 % p256P, p.y * (i2 * i % p256P) % p256P)

/-- The base point. -/
def p256Base : CurvePoint := ⟨p256Gx, p256Gy, 1⟩

/-- Do coordinates lie on the curve? -/
def onCurve (x y : Nat) : Bool :=
  decide (x < p256P) && decide (y < p256P) && decide (y * y % p256P = (x * x * x + p256B + 3 * (p256P - x)) % p256P)

/-- Does the signature (r, s) verify over a digest under the public key (x, y)? -/
def ecdsaVerifies (x y e r s : Nat) : Bool :=
  onCurve x y && decide (1 ≤ r) && decide (r < p256N) && decide (1 ≤ s) && decide (s < p256N) &&
  (let w := invMod p256N s
   let p := (p256Base.times 256 (e * w % p256N)).add (CurvePoint.times ⟨x, y, 1⟩ 256 (r * w % p256N))
   decide (p.z ≠ 0) && decide (p.affine.1 % p256N = r))

/-- The public keys that the point with first coordinate c, if the curve has one, gives a signature (r, s) over a digest. -/
def keysAt (c e r s : Nat) : List (Nat × Nat) :=
  let y := powMod p256P 256 ((c * c * c + p256B + 3 * (p256P - c)) % p256P) ((p256P + 1) / 4)
  if p256P ≤ c ∨ onCurve c y = false then []
  else
    let i := invMod p256N r
    let g := p256Base.times 256 ((p256N - e % p256N) * i % p256N)
    [y, p256P - y].map fun y => (g.add (CurvePoint.times ⟨c, y, 1⟩ 256 (s * i % p256N))).affine

/-- The public keys under which a signature may verify over a digest: those that its numbers leave possible. -/
def signerKeys (e r s : Nat) : List (Nat × Nat) := (keysAt r e r s) ++ keysAt (r + p256N) e r s

/-- The bytes of a public key, x then y (Table 3-7), most significant byte first. -/
def keyBytes (k : Nat × Nat) : List (BitVec 8) := beList 32 k.1 ++ beList 32 k.2

/-- The number that the SHA-256 of a key spells in a key slot, least significant byte first. -/
def keyHash (k : List (BitVec 8)) : Nat := ofLeBytes (sha256 k)

/-- Do 64 signature bytes, r then s, verify over a digest under a key with the given hash? -/
def signedUnder (hash : Nat) (digest sig : List (BitVec 8)) : Bool :=
  let e := ofBeList digest
  let r := ofBeList (sig.take 32)
  let s := ofBeList (sig.drop 32)
  decide (sig.length = 64) && (signerKeys e r s).any fun k => decide (keyHash (keyBytes k) = hash) && ecdsaVerifies k.1 k.2 e r s

/-! ### AES-256 -/

/-- A product in the field of 256 elements, over k bits of the second factor. -/
def gfMul (a : BitVec 8) : Nat → BitVec 8 → BitVec 8
  | 0, _ => 0
  | k + 1, b =>
    let r := gfMul ((a <<< 1) ^^^ (if a.msb then 0x1b#8 else 0#8)) k (b >>> 1)
    if b.getLsbD 0 then r ^^^ a else r

/-- The inverse in that field (0 for 0): the power 254. -/
def gfInv (a : BitVec 8) : BitVec 8 :=
  let m := fun x y => gfMul x 8 y
  let a2 := m a a
  let a3 := m a2 a
  let a6 := m a3 a3
  let a12 := m a6 a6
  let a14 := m a12 a2
  let a15 := m a12 a3
  let a30 := m a15 a15
  let a60 := m a30 a30
  let a120 := m a60 a60
  let a240 := m a120 a120
  m a240 a14

/-- The byte substitution. -/
def aesSub (a : BitVec 8) : BitVec 8 :=
  let x := gfInv a
  x ^^^ x.rotateLeft 1 ^^^ x.rotateLeft 2 ^^^ x.rotateLeft 3 ^^^ x.rotateLeft 4 ^^^ 0x63#8

/-- Bytes added in the field, place by place. -/
def xorBytes (a b : List (BitVec 8)) : List (BitVec 8) := List.zipWith (· ^^^ ·) a b

/-- The next 32 bytes of the key schedule. -/
def aesNextKey (k : List (BitVec 8)) (rcon : BitVec 8) : List (BitVec 8) :=
  let w := fun i => (k.drop (4 * i)).take 4
  let l := (w 7).map aesSub
  let w0 := xorBytes (w 0) (xorBytes (l.drop 1 ++ l.take 1) [rcon, 0#8, 0#8, 0#8])
  let w1 := xorBytes (w 1) w0
  let w2 := xorBytes (w 2) w1
  let w3 := xorBytes (w 3) w2
  let w4 := xorBytes (w 4) (w3.map aesSub)
  let w5 := xorBytes (w 5) w4
  let w6 := xorBytes (w 6) w5
  w0 ++ w1 ++ w2 ++ w3 ++ w4 ++ w5 ++ w6 ++ xorBytes (w 7) w6

/-- The bytes of the key schedule from a key of 32 bytes on. -/
def aesSchedule : Nat → List (BitVec 8) → BitVec 8 → List (BitVec 8)
  | 0, k, _ => k
  | n + 1, k, c => k ++ aesSchedule n (aesNextKey k c) (gfMul c 8 2)

/-- The shift of rows in a block held column by column. -/
def aesShift (b : List (BitVec 8)) : List (BitVec 8) := (List.range 16).map fun i => b.getD ((i + 4 * (i % 4)) % 16) 0

/-- The mix of columns. -/
def aesMix (b : List (BitVec 8)) : List (BitVec 8) :=
  (List.range 16).map fun i =>
    let x := fun j => b.getD (i / 4 * 4 + (i + j) % 4) 0
    gfMul (x 0) 8 2 ^^^ gfMul (x 1) 8 3 ^^^ x 2 ^^^ x 3

/-- The rounds that a list of round keys gives, the last without a mix of columns. -/
def aesRounds : List (List (BitVec 8)) → List (BitVec 8) → List (BitVec 8)
  | [], b => b
  | [k], b => xorBytes (aesShift (b.map aesSub)) k
  | k :: ks, b => aesRounds ks (xorBytes (aesMix (aesShift (b.map aesSub))) k)

/-- The fifteen round keys of a key. -/
def aesKeys (key : List (BitVec 8)) : List (List (BitVec 8)) :=
  let s := aesSchedule 7 key 1#8
  (List.range 15).map fun i => (s.drop (16 * i)).take 16

/-- AES-256 of a block under its round keys. -/
def aesBlock (ks : List (List (BitVec 8))) (b : List (BitVec 8)) : List (BitVec 8) := aesRounds ks.tail (xorBytes b (ks.headD []))

/-- The counter block n blocks after the initial one: its last 32-bit word, big-endian, moves on (R89). -/
def counterBlock (iv : List (BitVec 8)) (n : Nat) : List (BitVec 8) := iv.take 12 ++ beList 4 (ofBeList (iv.drop 12) + n)

/-- n blocks of a body are decrypted in counter mode from block k on. -/
def aesCounter (ks : List (List (BitVec 8))) (iv : List (BitVec 8)) : Nat → Nat → List (BitVec 8) → List (BitVec 8)
  | 0, _, _ => []
  | n + 1, k, b => xorBytes (b.take 16) (aesBlock ks (counterBlock iv k)) ++ aesCounter ks iv n (k + 1) (b.drop 16)

end Sys2Proof.Machine
end

