-- ==== Sys2Proof/Machine/Position.lean ====
section
/-! DEFINITION. Chapter 05: the encoder, index, Hall and resolver inputs, speed, sensor states, compare units, encoder
emulation and the flux observer. Times are CECLK cycles (2.5 ns). (The edge commands, which also move the block
commutation of the modulator, are put together in PosEvents.lean.) -/

namespace Sys2Proof.Machine

/-- The state of position block p. -/
def Dev.pos (d : Dev) (p : Fin 2) : PosState := vget d.vol.pos p

/-- Change the state of position block p. -/
def Dev.modPos (d : Dev) (p : Fin 2) (f : PosState → PosState) : Dev :=
  { d with vol := { d.vol with pos := vset d.vol.pos p (f (vget d.vol.pos p)) } }

/-- Does the block work: engine domain up, CECLK running? -/
def Dev.ceWorks (d : Dev) : Bool := d.works 4 3

/-- The sensor mode; 5-7 act as 0 (Table 5-1). -/
def Dev.sens (d : Dev) (p : Fin 2) : Nat := if d.get (POS.CTL_SENS p) ≤ 4 then d.get (POS.CTL_SENS p) else 0

/-- Is the block running (`EN` 1)? -/
def Dev.posOn (d : Dev) (p : Fin 2) : Bool := d.ceWorks && d.bit (POS.CTL_EN p)

/-- Motor pole pairs; 0 acts as 1 (Table 5-3). -/
def Dev.motPP (d : Dev) (p : Fin 2) : Nat := max 1 (d.get (POS.GEOM_MOT_PP p))

/-- Four times the encoder's lines. -/
def Dev.encPeriod (d : Dev) (p : Fin 2) : Nat := 4 * (d.get (POS.ENCCFG_LINESM1 p) + 1)

/-- The modulo period of `COUNT` (Table 5-1); 0 with no sensor. -/
def Dev.posPeriod (d : Dev) (p : Fin 2) : Nat :=
  match d.sens p with
  | 1 | 4 => d.encPeriod p
  | 2 => 6 * d.motPP p
  | 3 => 4096
  | _ => 0

/-- `COUNT`: unsigned in modulo mode, two's complement in linear mode. -/
def Dev.posCount (d : Dev) (p : Fin 2) : Int :=
  if d.bit (POS.CTL_LINEAR p) then d.sget (POS.COUNT_COUNT p) else d.get (POS.COUNT_COUNT p)

/-- The bridges that take their angle from block p (`POSSEL`), as a mask: the attribution of its fault lines. -/
def Dev.posBridges (d : Dev) (p : Fin 2) : Nat :=
  (if d.get (CE.BCFG_POSSEL 0) = p then 1 else 0) + (if d.get (CE.BCFG_POSSEL 1) = p then 2 else 0)

/-! ### States -/

/-- The fault flags of a sensor (R155). -/
def posFaultFlags (p : Fin 2) : List Fld :=
  [POS.STAT_IDXFLT p, POS.STAT_QERR p, POS.STAT_HALL_INV p, POS.STAT_HALL_SEQ p, POS.STAT_RES_AMP p]

/-- Is `ANG_M` absolute (R136, R149)? -/
def Dev.posAbsolute (d : Dev) (p : Fin 2) : Bool :=
  decide (d.get (POS.STAT_POSST p) = 2) &&
    (decide (d.sens p = 1) || decide (d.sens p = 4) || (decide (d.sens p = 3) && decide (d.get (POS.GEOM_RES_PP p) = 0)))

/-- `HEALTH` is 1 in REF without faults (Table 5-9); in mode 4 a Hall jump is none after the first index (R155). `MVALID` follows the state
as well (R136). -/
def Dev.posShowHealth (d : Dev) (p : Fin 2) : Dev :=
  (d.setBit (POS.STAT_HEALTH p) (decide (d.get (POS.STAT_POSST p) = 2) &&
    (posFaultFlags p).all fun f => !d.bit f || (decide (f = POS.STAT_HALL_SEQ p) && decide (d.sens p = 4)))).setBit
    (POS.ANGLE_MVALID p) (d.posAbsolute p)

/-- The sensor state changes; the change fires its interrupt source (Table 12-1). Entering UNREF forgets the reference, OFF the
Hall sector too. -/
def Dev.posEnter (d : Dev) (p : Fin 2) (n : Nat) : Dev :=
  if d.get (POS.STAT_POSST p) = n then d.posShowHealth p
  else
    (((d.set (POS.STAT_POSST p) n).edge (103 + 16 * p)).when (decide (n ≤ 1)) fun d =>
      d.modPos p fun s => { s with ref := none, theta := none, thetaPrev := none, badAmp := 0, dropped := 0,
                                   hallSector := if n = 0 then none else s.hallSector, hallRate := if n = 0 then none else s.hallRate }).posShowHealth p

/-- A sensor fault: its flag, FAULT, and the position-sensor line (22, 23) (R155). -/
def Dev.posFault (d : Dev) (p : Fin 2) (flag : Fld) : Dev :=
  (((d.set flag 1).when (decide (d.get (POS.STAT_POSST p) = 1) || decide (d.get (POS.STAT_POSST p) = 2)) fun d =>
    d.posEnter p 3).posShowHealth p).assertLine (22 + p) (d.posBridges p)

/-- The state that `EN` and `SENS` give, after a write of `POS.CTL` and when the block's registers return at a start or a wake (Table 5-10,
R165). -/
def Dev.posControl (d : Dev) (p : Fin 2) : Dev :=
  if !d.bit (POS.CTL_EN p) || decide (d.sens p = 0) then d.posEnter p 0
  else if d.get (POS.STAT_POSST p) = 0 then d.posEnter p 1
  else d

/-! ### Angles -/

/-- 60° of electrical angle, rounded (R145). -/
def hallSector60 : Nat := 699051

/-- The electrical angle at the start of Hall sector k (R145). -/
def Dev.hallStart (d : Dev) (p : Fin 2) (k : Nat) : Nat :=
  (d.get (POS.HALLANG_HALLANG p) + k * hallSector60) % 4194304

/-- The centre of Hall sector k (R146), half a sector rounded (R507). -/
def Dev.hallCentre (d : Dev) (p : Fin 2) (k : Nat) : Nat := (d.hallStart p k + 349526) % 4194304

/-- The Hall angle at cycle t: the angle of the last edge, advanced at the speed of the last sector and held at the far
boundary (R146). -/
def Dev.hallAngleAt (d : Dev) (p : Fin 2) (t : Nat) : Nat :=
  let s := d.pos p
  match s.hallRate with
  | none => s.hallAngle
  | some r =>
    let adv := if r = 0 then hallSector60 else min hallSector60 (hallSector60 * (t - s.hallT) / r)
    if s.hallFwd then (s.hallAngle + adv) % 4194304 else (s.hallAngle + 4194304 - adv) % 4194304

/-- `ANG_M` of an encoder (R141). -/
def Dev.encAngM (d : Dev) (p : Fin 2) : Nat :=
  ((d.posCount p % (d.encPeriod p : Int)).toNat * 4194304 / d.encPeriod p) % 4194304

/-- The resolver's excitation period in CECLK cycles: samples of 100 ns, within limits (Table 5-7). -/
def Dev.excPeriod (d : Dev) (p : Fin 2) : Nat := 40 * max 500 (min 2500 (d.get (POS.RESCFG_EXCDIV p)))

/-- `ANG_M` of a resolver at cycle t: the last demodulated angle, extrapolated with the speed of the last two for at most two periods (R149),
counted from the middle of its period (DEDUCED, log 183). -/
def Dev.resAngM (d : Dev) (p : Fin 2) (t : Nat) : Nat :=
  let n : Int := d.get (POS.GEOM_RES_PP p) + 1
  match (d.pos p).theta with
  | none => d.get (POS.ANGM_ANG_M p)
  | some (th, tm) =>
    let ext : Int :=
      match (d.pos p).thetaPrev with
      | some (th0, tm0) => roundDiv (angDiff th th0 * (min (t - tm) (2 * d.excPeriod p) : Nat)) (tm - tm0)
      | none => 0
    (((th : Int) + 4194304 * ((d.pos p).cycle : Int) + ext) / n % 4194304).toNat

/-- `ANG_M` at cycle t from the sensor; 0 in Hall mode (R136). -/
def Dev.sensorAngM (d : Dev) (p : Fin 2) (t : Nat) : Nat :=
  match d.sens p with
  | 1 | 4 => d.encAngM p
  | 3 => d.resAngM p t
  | _ => 0

/-- The electrical angle of a mechanical one (R136). -/
def Dev.elecOf (d : Dev) (p : Fin 2) (m : Nat) : Nat := (m * d.motPP p + d.get (POS.ELOFS_ELOFS p)) % 4194304

/-- The sensor's electrical angle at cycle t, while it has one: REF, or in mode 4 the Hall angle while UNREF (Table 5-1,
R154). -/
def Dev.sensorAngle (d : Dev) (p : Fin 2) (t : Nat) : Option Nat :=
  match d.get (POS.STAT_POSST p), d.sens p with
  | 2, 1 | 2, 4 => some (d.elecOf p (d.encAngM p))
  | 2, 2 => some (d.hallAngleAt p t)
  | 2, 3 => some (d.elecOf p (d.resAngM p t))
  | 1, 4 => if (d.pos p).hallSector.isSome then some (d.hallAngleAt p t) else none
  | _, _ => none

/-- The angle registers follow the sensor at cycle t: `ANG_M`, `MVALID`, and `ANG_E` while the sensor is the source in force
(R136, R164). -/
def Dev.posShow (d : Dev) (p : Fin 2) (t : Nat) : Dev :=
  let d1 := (d.set (POS.ANGM_ANG_M p) (d.sensorAngM p t)).setBit (POS.ANGLE_MVALID p) (d.posAbsolute p)
  match d.get (POS.ANGLE_ACTSRC p), d.sensorAngle p t with
  | 0, some e => d1.set (POS.ANGLE_ANG_E p) e
  | _, _ => d1

/-! ### Compare units -/

/-- The signed distance x modulo the period, in -period/2 to period/2 - 1 (R143). -/
def signedMod (x : Int) (per : Nat) : Int :=
  if per = 0 then x else (x + (per / 2 : Nat)) % (per : Int) - (per / 2 : Nat)

/-- The compare value of unit i, in the form of `COUNT`. -/
def Dev.cmpVal (d : Dev) (p : Fin 2) (i : Nat) : Int :=
  if d.bit (POS.CTL_LINEAR p) then d.sget (POS.CMPVAL_CMPVAL p i) else d.get (POS.CMPVAL_CMPVAL p i)

/-- Does the compare value lie behind the count with respect to `DIR` (R158)? -/
def Dev.cmpBehind (d : Dev) (p : Fin 2) (i : Nat) : Bool :=
  let dist := if d.bit (POS.CTL_LINEAR p) then d.cmpVal p i - d.posCount p
    else signedMod (d.cmpVal p i - d.posCount p) (d.posPeriod p)
  if d.bit (POS.CMPCTL_DIR p i) then decide (0 < dist) else decide (dist < 0)

/-- An armed unit judges its value against the count (R158, R159). -/
def Dev.cmpJudge (d : Dev) (p : Fin 2) (i : Nat) : Dev :=
  if d.bit (POS.CMPCTL_ARM p i) && d.cmpBehind p i then d.set (POS.CMPCTL_BEHIND p i) 1 else d

/-- Does a step of `COUNT` from c by `st` cross the value of unit i in its direction (R157)? -/
def Dev.cmpCrosses (d : Dev) (p : Fin 2) (i : Nat) (c st : Int) : Bool :=
  let per : Int := d.posPeriod p
  let fwd := if d.bit (POS.CTL_LINEAR p) then d.cmpVal p i - c else (d.cmpVal p i - c) % per
  let bwd := if d.bit (POS.CTL_LINEAR p) then c - d.cmpVal p i else (c - d.cmpVal p i) % per
  d.bit (POS.CMPCTL_ARM p i) &&
    (if d.bit (POS.CMPCTL_DIR p i) then decide (st < 0) && decide (1 ≤ bwd) && decide (bwd ≤ -st)
     else decide (0 < st) && decide (1 ≤ fwd) && decide (fwd ≤ st))

/-- A hit (R157, Table 5-4): flag, count, timestamp, capture trigger; the value advances by `CMPSTEP`, or the unit disarms. -/
def Dev.cmpHit (d : Dev) (p : Fin 2) (i : Nat) : Dev :=
  let d1 := (((d.set (POS.CMPCTL_HIT p i) 1).countWrap (POS.CMPCTL_HITS p i)).set (POS.CMPTS_CMPTS p i)
    (d.get TB.CNT_W)).when (d.bit (POS.CMPCTL_CAPT p i)) fun d => d.fireCapture (3 + p)
  let step : Int := d.get (POS.CMPSTEP_CMPSTEP p i)
  if step = 0 then d1.set (POS.CMPCTL_ARM p i) 0
  else
    let v := if d.bit (POS.CMPCTL_DIR p i) then d.cmpVal p i - step else d.cmpVal p i + step
    d1.sset (POS.CMPVAL_CMPVAL p i) (if d.bit (POS.CTL_LINEAR p) ∨ d.posPeriod p = 0 then v else v % d.posPeriod p)

/-- Every unit judges a step of `COUNT` from c by `st`. -/
def Dev.cmpStep (d : Dev) (p : Fin 2) (c st : Int) : Dev :=
  d.each [0, 1, 2, 3] fun d i => if d.cmpCrosses p i c st then d.cmpHit p i else d

/-- `COUNT` moves by `st` (R139, R140): wrapping in modulo mode, held at its limits in linear mode. DEDUCED (log 182): `CNT_SAT` is set by a count that
is lost at a limit, not by the count that reaches it. -/
def Dev.moveCount (d : Dev) (p : Fin 2) (st : Int) : Dev :=
  let c := d.posCount p
  let d1 := d.setBit (POS.STAT_DIR p) (decide (st < 0))
  if d.bit (POS.CTL_LINEAR p) then
    let n := clampInt (-2147483648) 2147483647 (c + st)
    ((d1.sset (POS.COUNT_COUNT p) n).when (decide (n ≠ c + st)) fun d => d.set (POS.STAT_CNT_SAT p) 1).cmpStep p c (n - c)
  else if d.posPeriod p = 0 then d1
  else (d1.sset (POS.COUNT_COUNT p) ((c + st) % d.posPeriod p)).cmpStep p c st

/-- Is the emulator running with a pin to drive: `EN`, and a pin owned by the block's function (R160)? DESIGN CHOICE (log 140): each pin follows its
own owner. -/
def Dev.emuDrives (d : Dev) (p : Fin 2) : Bool :=
  d.bit (POS.EMUCTL_EN p) && [0, 1, 2].any fun i => decide (d.get (OWN.R_OWNER 0 i) = 8 + p.val)

/-- `COUNT` is set by an index: no unit fires, each armed unit judges anew, and the emulator's angle has jumped (R144, R159,
R161). -/
def Dev.jumpCount (d : Dev) (p : Fin 2) (n : Int) : Dev :=
  ((d.sset (POS.COUNT_COUNT p) n).each [0, 1, 2, 3] fun d i => d.cmpJudge p i).when
    (d.emuDrives p && (d.pos p).emu.isSome) fun d => d.set (POS.EMUCTL_JUMP p) 1

/-- May master m write compare unit i of block p (R156)? -/
def Dev.cmpWritable (d : Dev) (m : Master) (p : Fin 2) (i : Nat) : Bool :=
  d.accessAllowed m (0x40200100 + 0x10000 * p + 0x10 * i) true && d.mayClaimId m (d.get (OWN.R_OWNER (2 + p) i))

/-- The write of COMPARE_ARM (R158): `CMPVAL`, or `DIR`, `CAPT` and `ARM` with the W1C flags of `CMPCTL`. DESIGN CHOICE (log 141): a write of `ARM` 1
judges the value though `ARM` already was 1. -/
def Dev.cmpWrite (d : Dev) (p : Fin 2) (i : Nat) : CmpWrite → Dev
  | .value v => (d.set (POS.CMPVAL_CMPVAL p i) v.toNat).cmpJudge p i
  | .control v =>
    let d1 := ((d.setBit (POS.CMPCTL_DIR p i) (natBit v.toNat 1)).setBit (POS.CMPCTL_CAPT p i) (natBit v.toNat 2)).setBit
      (POS.CMPCTL_ARM p i) (natBit v.toNat 0)
    ((d1.when (natBit v.toNat 3) fun d => d.set (POS.CMPCTL_HIT p i) 0).when (natBit v.toNat 4) fun d =>
      d.set (POS.CMPCTL_BEHIND p i) 0).cmpJudge p i

/-- COMPARE_ARM (R156, R158, R159). -/
def execCompareArm (m : Master) (p : Fin 2) (i : Fin 4) (w : CmpWrite) (s : State) : Host.Outcome State Fault Refusal :=
  s.lift fun d =>
    if d.cmpWritable m p i then (d.cmpWrite p i w).busOk 0
    else d.busError m (0x40200100 + 0x10000 * p + 0x10 * i + match w with | .value _ => 4 | .control _ => 0) true

/-! ### Encoder and index -/

/-- A counted edge enters the speed window (R152). -/
def PosState.window (s : PosState) (st : Int) (t : Nat) : PosState :=
  if s.winN = 0 then { s with winSum := s.winSum + st, winN := 1, winStep1 := st, winT0 := t, winT1 := t }
  else { s with winSum := s.winSum + st, winN := s.winN + 1, winT1 := t }

/-- An accepted transition of A and B (R139-R141): one level changed moves `COUNT`; both changed in one cycle is a quadrature
error. Judged in modes 1 and 4. -/
def Dev.encoderEdge (d : Dev) (p : Fin 2) (a b : Bool) (t : Nat) : Dev :=
  let s := d.pos p
  let d1 := d.modPos p fun s => { s with a := a, b := b }
  if !(d.posOn p && (decide (d.sens p = 1) || decide (d.sens p = 4))) || (a == s.a && b == s.b) then d1
  else if a != s.a && b != s.b then d1.posFault p (POS.STAT_QERR p)
  else
    -- forward: 00 → 10 → 11 → 01 → 00
    let fwd := if a != s.a then a != s.b else b == s.a
    let st : Int := if fwd != d.bit (POS.CTL_DIRINV p) then 1 else -1
    ((d1.modPos p fun s => s.window st t).moveCount p st).posShow p t

/-- `IDXREF` as a count (Table 5-3). -/
def Dev.idxRef (d : Dev) (p : Fin 2) : Int :=
  if d.bit (POS.CTL_LINEAR p) then d.sget (POS.IDXREF_IDXREF p)
  else if d.posPeriod p = 0 then 0 else (d.get (POS.IDXREF_IDXREF p) : Int) % d.posPeriod p

/-- The count expected at an index event after the reference count r (R143). -/
def Dev.idxExpected (d : Dev) (p : Fin 2) (r : Int) : Int :=
  if d.bit (POS.CTL_LINEAR p) then
    if d.bit (POS.STAT_DIR p) then r - d.posPeriod p else r + d.posPeriod p
  else d.idxRef p

/-- Does the index policy correct an error e (Table 5-5)? -/
def Dev.idxCorrects (d : Dev) (p : Fin 2) (e : Int) : Bool :=
  match d.get (POS.CTL_IDXPOL p) with
  | 0 => true
  | 1 => decide (e.natAbs ≤ max 1 (d.get (POS.ENCCFG_IDXTOL p)))
  | _ => false

/-- An index event (R143, R144): the first one references the block, a later one is judged. -/
def Dev.indexEvent (d : Dev) (p : Fin 2) : Dev :=
  let d0 := d.set (POS.IDXCAP_IDXCAP p) (d.get (POS.COUNT_COUNT p))
  match (d.pos p).ref with
  | none =>
    let d1 := (d0.jumpCount p (d.idxRef p)).modPos p fun s => { s with ref := some (d.idxRef p) }
    if d.get (POS.STAT_POSST p) = 1 then d1.posEnter p 2 else d1
  | some r =>
    let x := d.idxExpected p r
    let e := if d.bit (POS.CTL_LINEAR p) then d.posCount p - x else signedMod (d.posCount p - x) (d.posPeriod p)
    if e = 0 then d0.modPos p fun s => { s with ref := some x }
    else
      let d1 := ((d0.set (POS.STAT_INDEX_MISMATCH p) 1).sset (POS.STAT_IDXERR p) (clampInt (-127) 127 e)).countSat
        (POS.STAT_IDXMISS p)
      if d.idxCorrects p e then (d1.jumpCount p x).modPos p fun s => { s with ref := some x }
      else (d1.modPos p fun s => { s with ref := some (d.posCount p) }).posFault p (POS.STAT_IDXFLT p)

/-- Is the accepted count with level z of Z an index event (R142)? -/
def Dev.isIndex (d : Dev) (p : Fin 2) (z : Bool) : Bool :=
  let s := d.pos p
  match d.get (POS.ENCCFG_IDXQ p) with
  | 1 => z && s.a && s.b
  | 2 => z && s.a && !s.b
  | 3 => z && !s.a && !s.b
  | 4 => z && !s.a && s.b
  | _ => z && !s.z

/-- The accepted level z of Z at the present count (R142-R144): judged only in modes 1 and 4. -/
def Dev.zLevel (d : Dev) (p : Fin 2) (z : Bool) : Dev :=
  let d1 := d.modPos p fun s => { s with z := z }
  if d.posOn p && (decide (d.sens p = 1) || decide (d.sens p = 4)) && d.isIndex p z then
    (d1.indexEvent p).posShow p (d.pos p).winT1
  else d1

/-! ### Hall -/

/-- The sector that `HALLTBL` gives code c (Table 5-6). -/
def Dev.hallSectorOf (d : Dev) (p : Fin 2) (c : Nat) : Nat := natField (d.get (POS.HALLCFG_HALLTBL p)) (3 * c) 3

/-- The direction of a Hall edge from sector o to k where the sectors tell it: one or two apart (R145). -/
def hallTurn (o k : Nat) : Option Bool :=
  match (k + 6 - o) % 6 with
  | 1 | 2 => some true
  | 4 | 5 => some false
  | _ => none

/-- In Hall mode each accepted edge moves `COUNT` by one (R145); where its direction is not to be told (an invalid code, the opposite
sector) that is open (log 142). -/
def Dev.hallCount (d : Dev) (p : Fin 2) (turn : Option Bool) (t : Nat) : Dev :=
  if d.sens p = 2 then
    let x : Bool × Dev := match turn with | some u => (u, d) | none => (decide ((d.draw 1).1 = 1), (d.draw 1).2)
    let st : Int := if x.1 != d.bit (POS.CTL_DIRINV p) then 1 else -1
    (x.2.modPos p fun s => s.window st t).moveCount p st
  else d

/-- An accepted Hall edge (R145, R146): an invalid code, the first valid one, a neighbouring sector, or a jump. DESIGN CHOICE (log 139): the time
since the last Hall event stands for the last sector's, also where no whole sector lies behind. -/
def Dev.hallEdge (d : Dev) (p : Fin 2) (c t : Nat) : Dev :=
  let d0 := d.modPos p fun s => { s with hallCode := some c }
  if !(d.posOn p && (decide (d.sens p = 2) || decide (d.sens p = 4))) || decide ((d.pos p).hallCode = some c ∧ (d.pos p).hallSector ≠ none) then d0
  else
    let k := d.hallSectorOf p c
    if 6 ≤ k then (d0.when (d.pos p).hallCode.isSome fun d => d.hallCount p none t).posFault p (POS.STAT_HALL_INV p)
    else
      let stay := d0.modPos p fun s =>
        { s with hallSector := some k, hallAngle := d.hallCentre p k, hallRate := none, hallT := t }
      let ref (d : Dev) : Dev := d.when (decide (d.sens p = 2) && decide (d.get (POS.STAT_POSST p) = 1)) fun d => d.posEnter p 2
      match (d.pos p).hallSector with
      | none => (ref (stay.when (d.pos p).hallCode.isSome fun d => d.hallCount p none t)).posShow p t
      | some o =>
        if k = o then (ref (d0.hallCount p none t)).posShow p t
        else if k = (o + 1) % 6 ∨ o = (k + 1) % 6 then
          let up := decide (k = (o + 1) % 6)
          let d1 := d0.modPos p fun s =>
            { s with hallSector := some k, hallAngle := d.hallStart p (if up then k else o), hallFwd := up,
                     hallRate := some (t - s.hallT), hallT := t }
          (ref (d1.hallCount p (some up) t)).posShow p t
        else if d.sens p = 4 ∧ (d.pos p).ref.isSome = true then (stay.set (POS.STAT_HALL_SEQ p) 1).posShow p t
        else (stay.hallCount p (hallTurn o k) t).posFault p (POS.STAT_HALL_SEQ p)

/-- No Hall edge for 20 ms: the angle stands at the centre of the present sector (R146). -/
def Dev.hallIdle (d : Dev) (p : Fin 2) : Dev :=
  match (d.pos p).hallSector with
  | some k =>
    if d.posOn p && (decide (d.sens p = 2) || decide (d.sens p = 4)) then
      (d.modPos p fun s => { s with hallAngle := d.hallCentre p k, hallRate := none }).posShow p (d.pos p).hallT
    else d
  | none => d

/-! ### Resolver -/

/-- The demodulation sums of R148 with 30 fraction bits: every result weighted by the excitation phase less the lag. -/
def resSums (resph : Nat) : List ResSample → Int × Int
  | [] => (0, 0)
  | x :: t =>
    let ref := (cosSin30 ((x.phase.toNat + 4194304 - resph * 1024) % 4194304 * 1024)).2
    (x.xs * ref + (resSums resph t).1, x.xc * ref + (resSums resph t).2)

/-- A demodulated angle th at the middle of its period (cycle tm): cycle counter, count, window and angles follow (R149,
R152). The first one references the block without firing a compare unit (log 14); `valid`: the period counts as a valid one (R154). -/
def Dev.resAngle (d : Dev) (p : Fin 2) (th tm t : Nat) (valid : Bool) : Dev :=
  let n := d.get (POS.GEOM_RES_PP p) + 1
  match (d.pos p).theta with
  | none =>
    (((d.modPos p fun s => { s with theta := some (th, tm), thSum := 0, thN := 1, thT0 := tm, thT1 := tm }).jumpCount p
      (th / 1024 : Nat)).when (valid && decide (d.get (POS.STAT_POSST p) = 1)) fun d => d.posEnter p 2).posShow p t
  | some (th0, tm0) =>
    let df := angDiff th th0
    let cyc : Nat := if (th0 : Int) + df ≥ 4194304 then ((d.pos p).cycle + 1) % n
      else if (th0 : Int) + df < 0 then ((d.pos p).cycle + n - 1) % n else (d.pos p).cycle
    let st := signedMod ((th / 1024 : Nat) - (th0 / 1024 : Nat) : Int) 4096
    let d1 := d.modPos p fun s =>
      { s with theta := some (th, tm), thetaPrev := some (th0, tm0), cycle := cyc,
               thSum := if s.thN = 0 then 0 else s.thSum + df, thN := s.thN + 1,
               thT0 := if s.thN = 0 then tm else s.thT0, thT1 := tm }
    let d2 := if st = 0 then d1 else (d1.modPos p fun s => s.window st tm).moveCount p st
    (d2.when (valid && decide (d.get (POS.STAT_POSST p) = 1)) fun d => d.posEnter p 2).posShow p t

/-- The end of an excitation period (R148-R150). A period is discarded for too few results alone; one with an over-range entry or an amplitude
out of range gives its angle and is no first valid period. DESIGN CHOICE (log 184): a discarded period between two periods out of amplitude leaves
their count as it is, so that they are consecutive. -/
def Dev.resolverPeriod (d : Dev) (p : Fin 2) (rs : List ResSample) (t : Nat) : Dev :=
  if !(d.posOn p && decide (d.sens p = 3) && d.bit (POS.RESCFG_EXCEN p)) then d
  else
    let ovr := rs.any fun x => x.ovr
    let d0 := d.when ovr fun d => d.posFault p (POS.STAT_RES_AMP p)
    if 2 * 40 * rs.length < d.excPeriod p then
      let d1 := d0.modPos p fun s => { s with dropped := s.dropped + 1 }
      if 2 ≤ (d1.pos p).dropped then d1.posFault p (POS.STAT_RES_AMP p) else d1
    else
      let sums := resSums (d.get (POS.RESCFG_RESPH p)) rs
      let sv := roundDiv (2 * sums.1) rs.length
      let cv := roundDiv (2 * sums.2) rs.length
      let meas := min 65535 ((isqrt (sv * sv + cv * cv).toNat + 2 ^ 29) / 2 ^ 30)
      let a := d0.atan2 sv cv
      let d1 := (a.2.set (POS.RESAMP_MEAS p) meas)
      let bad := decide (2 * meas < d.get (POS.RESAMP_NOM p)) || decide (3 * d.get (POS.RESAMP_NOM p) < 2 * meas)
      let d2 := d1.modPos p fun s => { s with dropped := 0, badAmp := if bad then s.badAmp + 1 else 0 }
      let d3 := d2.when (bad && decide (2 ≤ (d2.pos p).badAmp)) fun d => d.posFault p (POS.STAT_RES_AMP p)
      d3.resAngle p a.1 (t - d.excPeriod p / 2) t (!ovr && !bad)

/-! ### Speed -/

/-- The window length in CECLK cycles (R151). -/
def Dev.winCycles (d : Dev) (p : Fin 2) : Nat := 4000 * max 10 (min 1000 (d.get (POS.SPDCFG_WIN p)))

/-- A change of `num` parts of 1/`perRev` revolution in `cyc` CECLK cycles, as revolutions per second in Q16.16 (R151). -/
def revPerSec (num : Int) (perRev cyc : Nat) : Int := sat32 (roundDiv (num * 65536 * 400000000) (perRev * cyc))

/-- The speed of the window that ends, and whether it fell back to the counted value (R152). -/
def Dev.windowSpeed (d : Dev) (p : Fin 2) : Int × Bool :=
  let s := d.pos p
  let counted := revPerSec s.winSum (if d.sens p = 3 then 4096 * (d.get (POS.GEOM_RES_PP p) + 1) else d.posPeriod p) (d.winCycles p)
  if d.sens p = 3 then
    if s.thN < 2 then (counted, true)
    else (revPerSec s.thSum (4194304 * (d.get (POS.GEOM_RES_PP p) + 1)) (s.thT1 - s.thT0), false)
  else if s.winN < 2 then (counted, true)
  else if d.bit (POS.SPDCFG_SPDMODE p) then (revPerSec (s.winSum - s.winStep1) (d.posPeriod p) (s.winT1 - s.winT0), false)
  else (counted, false)

/-- SPEED_WINDOW_END (R151, R152): the speed-window source is source 97 (113 for POS1). -/
def execSpeedWindowEnd (p : Fin 2) (s : State) : Host.Outcome State Fault Refusal :=
  s.lift fun d =>
    if d.posOn p then
      let v := d.windowSpeed p
      ((((d.sset (POS.SPEED_SPEED p) v.1).setBit (POS.STAT_LOWSPD p) v.2).edge (97 + 16 * p)).modPos p fun s =>
        { s with winSum := 0, winN := 0, winStep1 := 0, winT0 := 0, winT1 := 0, thSum := 0, thN := 0, thT0 := 0, thT1 := 0 })
    else d

/-! ### Recovery and emulation -/

/-- Does a fault condition persist: an invalid Hall code, or the resolver out of amplitude (R154)? -/
def Dev.posFaultPersists (d : Dev) (p : Fin 2) : Bool :=
  ((decide (d.sens p = 2) || decide (d.sens p = 4)) && (d.pos p).hallCode.any fun c => decide (6 ≤ d.hallSectorOf p c)) ||
  (decide (d.sens p = 3) && (decide (2 ≤ (d.pos p).badAmp) || decide (2 ≤ (d.pos p).dropped)))

/-- POS_FAULT_RECOVERY (R154). -/
def execPosFaultRecovery (p : Fin 2) (s : State) : Host.Outcome State Fault Refusal :=
  s.lift fun d =>
    if d.posOn p && decide (d.get (POS.STAT_POSST p) = 3) && (posFaultFlags p).all (fun f => !d.bit f) &&
        !d.posFaultPersists p then d.posEnter p 1
    else d

/-- Four times the emulated lines; below 64 lines act as 64 (Table 5-12). -/
def Dev.emuPeriod (d : Dev) (p : Fin 2) : Nat := 4 * (max 63 (d.get (POS.EMUCTL_LINESM1 p)) + 1)

/-- The emulated count E (R160). -/
def Dev.emuTarget (d : Dev) (p : Fin 2) : Nat := d.get (POS.ANGM_ANG_M p) * d.emuPeriod p / 4194304

/-- The levels of A, B and Z at emulated position e (R160). -/
def emuLevels (e : Nat) : Bool × Bool × Bool :=
  (decide (e % 4 = 1 ∨ e % 4 = 2), decide (e % 4 = 2 ∨ e % 4 = 3), decide (e = 0))

/-- The emulator when `EN` is written or its pins change hands: without pins or `EN` it forgets its output; with `EN` set anew the outputs take the
levels of E at a valid angle, without transitions (R160, R161). -/
def Dev.emuFollow (d : Dev) (p : Fin 2) (fresh : Bool) : Dev :=
  if !(d.posOn p && d.emuDrives p) then d.modPos p fun s => { s with emu := none }
  else if fresh then
    d.modPos p fun s => { s with emu := if d.get (POS.STAT_POSST p) = 2 then some (d.emuTarget p) else none }
  else d

/-- EMU_TRANSITION (R160, R161): at the first valid angle the outputs take the levels of E; then they step one quadrature
state toward E, and an output still behind sets `LAG`. -/
def execEmuTransition (p : Fin 2) (s : State) : Host.Outcome State Fault Refusal :=
  s.lift fun d =>
    if !(d.posOn p && d.emuDrives p) then d.modPos p fun s => { s with emu := none }
    else
      match (d.pos p).emu with
      | none =>
        if d.get (POS.STAT_POSST p) = 2 then d.modPos p fun s => { s with emu := some (d.emuTarget p) } else d
      | some e =>
        let dist := signedMod ((d.emuTarget p : Int) - e) (d.emuPeriod p)
        if dist = 0 then d
        else
          let n := (((e : Int) + if 0 < dist then 1 else -1) % d.emuPeriod p).toNat
          (d.modPos p fun s => { s with emu := some n }).when (decide (n ≠ d.emuTarget p)) fun d => d.set (POS.EMUCTL_LAG p) 1

/-! ### The observer -/

/-- π as a fraction: 3,141,592,653,589,793 / 10^15. -/
def piNum : Int := 3141592653589793

/-- One tick of the flux observer (R162): currents in 2^-20 A, voltages in 2^-20 V, the tick period in CECLK cycles.
Internal precision: flux 2^-40 Wb, angle 2^-32 turns, speed 2^-32 turns per second, innovation 2^-30 (log 7). An innovation
with no active flux is an open value. -/
def Dev.observerRun (d : Dev) (p : Fin 2) (ia ib va vb : Int) (n : Nat) : Dev :=
  let s := d.pos p
  let N : Int := n
  let rs : Int := d.get (POS.OBSRS_RS p)
  let ls : Int := d.get (POS.OBSLS_LS p)
  let psiM : Int := roundDiv ((d.get (POS.OBSPSI_PSI p) : Int) * 2 ^ 40) 1000000
  let fm : Int := d.get (POS.OBSTHR_OBSMIN p)
  let flux (psi v i : Int) : Int := psi + roundDiv ((v * 1000000 - rs * i) * N * 25 * 2 ^ 20) (10 ^ 16)
  let pa := flux s.psiA va ia
  let pb := flux s.psiB vb ib
  let fa := pa - roundDiv (ls * ia * 2 ^ 20) (10 ^ 9)
  let fb := pb - roundDiv (ls * ib * 2 ^ 20) (10 ^ 9)
  let cs := cosSin30 (ofSigned 32 s.th)
  let mag := isqrt ((fa * fa + fb * fb).toNat)
  let innov : Int × Dev := if mag = 0 then d.drawBetween (-(2 ^ 30)) (2 ^ 30)
    else (clampInt (-(2 ^ 30)) (2 ^ 30) (roundDiv (fb * cs.1 - fa * cs.2) mag), d)
  let w := s.w + roundDiv (innov.1 * 4 * piNum * fm * fm * N * 25) (10 ^ 15 * 100 * 10 ^ 10 * 2)
  let th := s.th + roundDiv ((w * 100 + 8 * fm * innov.1 * 4) * N * 25) (100 * 10 ^ 10)
  let c2 := cosSin30 (ofSigned 32 th)
  let drift (f c : Int) : Int :=
    roundDiv (piNum * fm * N * 25 * (f - roundDiv (psiM * c) (2 ^ 30))) (10 ^ 15 * 10 * 10 ^ 10 * 4)
  innov.2.modPos p fun s =>
    { s with psiA := pa - drift fa c2.1, psiB := pb - drift fb c2.2, th := th % 2 ^ 32, w := w, innov := innov.1 }

/-- The observer loaded from the sensor (R163): angle, speed, and the flux along the sensor angle. -/
def Dev.observerLoad (d : Dev) (p : Fin 2) (ang : Nat) (ia ib : Int) : Dev :=
  let cs := cosSin30 (ang * 1024)
  let psiM : Int := roundDiv ((d.get (POS.OBSPSI_PSI p) : Int) * 2 ^ 40) 1000000
  let ls : Int := d.get (POS.OBSLS_LS p)
  (d.modPos p fun s =>
    { s with th := (ang * 1024 : Nat), w := d.sget (POS.SPEED_SPEED p) * d.motPP p * 65536, reinit := false, lockN := 0,
             lostN := 0, xN := 0,
             psiA := roundDiv (psiM * cs.1) (2 ^ 30) + roundDiv (ls * ia * 2 ^ 20) (10 ^ 9),
             psiB := roundDiv (psiM * cs.2) (2 ^ 30) + roundDiv (ls * ib * 2 ^ 20) (10 ^ 9) }).set (POS.STAT_OBSST p) 1

/-- Is the observer's speed below `OBSMIN` (R163)? -/
def Dev.obsSlow (d : Dev) (p : Fin 2) : Bool :=
  decide ((d.pos p).w.natAbs * 10 < d.get (POS.OBSTHR_OBSMIN p) * 2 ^ 32)

/-- The counters and states after an observer tick (R163): INVALID outside MOTOR or below `OBSMIN`, CONVERGING above it; the
consecutive ticks that OBSERVER_LOCK, OBSERVER_LOST and OBSERVER_DISAGREEMENT judge. -/
def Dev.observerJudge (d : Dev) (p : Fin 2) (motor : Bool) (sensor : Option Nat) : Dev :=
  if !motor || d.obsSlow p then
    (d.set (POS.STAT_OBSST p) 0).modPos p fun s => { s with lockN := 0, lostN := 0, xN := 0 }
  else
    let st := d.get (POS.STAT_OBSST p)
    let small := decide ((d.pos p).innov.natAbs ≤ d.get (POS.OBSTHR_INNOVTHR p) * 2 ^ 15)
    let far := match sensor with
      | some a => decide (max 1 (d.get (POS.OBSCFG_XTOL p)) * 16384 < (angDiff a (ofSigned 32 (d.pos p).th / 1024)).natAbs)
      | none => false
    (d.modPos p fun s =>
      { s with lockN := if st ≤ 1 ∧ small then s.lockN + 1 else 0, lostN := if st = 2 ∧ !small then s.lostN + 1 else 0,
               xN := if far && decide (st = 2) && decide (d.get (POS.STAT_POSST p) = 2) then s.xN + 1 else 0,
               reinit := s.reinit || (decide (st = 3) && d.bit (POS.STAT_HEALTH p)) }).when (decide (st = 0)) fun d =>
        d.set (POS.STAT_OBSST p) 1

/-- The observer's part of a tick (R162, R163) and its registers. -/
def Dev.observerTick (d : Dev) (p : Fin 2) (motor : Bool) (sensor : Option Nat) (ia ib va vb : Int) (n : Nat) : Dev :=
  let d1 := match (d.pos p).reinit, sensor with
    | true, some a => d.observerLoad p a ia ib
    | _, _ => d.observerRun p ia ib va vb n
  let d2 := (d1.set (POS.OBSANG_THOBS p) (ofSigned 32 (d1.pos p).th / 1024)).sset (POS.OBSSPD_SPDOBS p)
    (sat32 (roundDiv (d1.pos p).w (65536 * d.motPP p)))
  d2.observerJudge p motor sensor

/-- OBSERVER_LOCK (R163): after `CONVN` consecutive ticks within `INNOVTHR`. -/
def execObserverLock (p : Fin 2) (s : State) : Host.Outcome State Fault Refusal :=
  s.lift fun d =>
    if decide (d.get (POS.STAT_OBSST p) = 1) && decide (d.get (POS.OBSCFG_CONVN p) ≤ (d.pos p).lockN) then
      (d.set (POS.STAT_OBSST p) 2).modPos p fun s => { s with lostN := 0, xN := 0 }
    else d

/-- OBSERVER_LOST (R163): after `LOSTN` consecutive ticks above `INNOVTHR`; loaded at the next tick from a healthy sensor. -/
def execObserverLost (p : Fin 2) (s : State) : Host.Outcome State Fault Refusal :=
  s.lift fun d =>
    if decide (d.get (POS.STAT_OBSST p) = 2) && decide (d.get (POS.OBSCFG_LOSTN p) ≤ (d.pos p).lostN) then
      ((d.set (POS.STAT_OBSST p) 3).set (POS.STAT_OBS_LOST p) 1).modPos p fun s =>
        { s with reinit := d.bit (POS.STAT_HEALTH p), lockN := 0, xN := 0 }
    else d

/-- OBSERVER_DISAGREEMENT (R163): after `XN` consecutive ticks beyond `XTOL`; the line is 24 (25 for POS1). -/
def execObserverDisagreement (p : Fin 2) (s : State) : Host.Outcome State Fault Refusal :=
  s.lift fun d =>
    if decide (d.get (POS.STAT_OBSST p) = 2) && decide (d.get (POS.STAT_POSST p) = 2) &&
        decide (d.get (POS.OBSCFG_XN p) ≤ (d.pos p).xN) && decide (0 < (d.pos p).xN) then
      (d.set (POS.STAT_DISAGREE p) 1).assertLine (24 + p) (d.posBridges p)
    else d

/-- The angle source at a tick (R164): 0 sensor, 1 observer, 2 none, with the angle delivered. -/
def Dev.angleSource (d : Dev) (p : Fin 2) (t : Nat) : Nat × Option Nat :=
  let sensor := d.sensorAngle p t
  let obs : Nat × Option Nat := if d.get (POS.STAT_OBSST p) = 2 then (1, some (d.get (POS.OBSANG_THOBS p))) else (2, none)
  match d.get (POS.CTL_ANGSRC p), sensor with
  | 0, some a => (0, some a)
  | 0, none => (2, none)
  | 1, _ => obs
  | _, some a => if d.bit (POS.STAT_HEALTH p) then (0, some a) else obs
  | _, none => obs

/-- At a tick the source in force is chosen and its angle latched; a change of source is a jump for the emulator (R161,
R164). -/
def Dev.posLatch (d : Dev) (p : Fin 2) (t : Nat) : Dev :=
  let r := d.angleSource p t
  let d1 := (d.posShow p t).set (POS.ANGLE_ACTSRC p) r.1
  let d2 := match r.2 with
    | some a => d1.set (POS.ANGLE_ANG_E p) a
    | none => d1
  d2.when (decide (r.1 ≠ d.get (POS.ANGLE_ACTSRC p)) && d.emuDrives p && (d.pos p).emu.isSome) fun d =>
    d.set (POS.EMUCTL_JUMP p) 1

end Sys2Proof.Machine
end

