-- ==== Sys2Proof/Machine/Engine.lean ====
section
/-! DEFINITION. Chapters 06 and 08: the stages S1-S9 of the tick dataflow. Each expression that a rule gives a name to is one
operation, saturated at its format (R174; log 17). A stage's open values (a quotient by 0, the error of a sine) are taken
from a run of open values drawn once per bridge and tick. -/

namespace Sys2Proof.Machine

/-- n open values, and the device with the counter advanced. -/
def Dev.opens (d : Dev) (n : Nat) : (Nat → Int) × Dev :=
  (fun i => Config.freeInt (d.free + i), { d with free := d.free + n })

/-- a / c, rounded; the open value z where c is 0. -/
def divOpen (a c z : Int) : Int := if c = 0 then z else roundDivI a c

/-- a / √3, rounded. -/
def overSqrt3 (a : Int) : Int := roundDiv (a * 5773502691896258) (10 ^ 16)

/-- a · √3 / 2, rounded. -/
def halfSqrt3 (a : Int) : Int := roundDiv (a * 8660254037844386) (10 ^ 16)

/-- π as 314159265358979 / 10^14. -/
def piOver : Int := 314159265358979

/-! ### S1 to S3 -/

/-- S1 of slot n (R173): a valid slot takes its newest entry; an invalid one holds its last valid value and, enabled in an
ACTIVE bridge, raises the control-input line (21). -/
def Dev.slotIn (d : Dev) (b : Bridge) (n : Fin 12) : Dev :=
  if d.slotValid b n then
    let q := qlim false (d.slotScale b n (d.lastCode (d.get (CE.INSLOT_TAG b n))))
    (d.modEng b fun e => { e with x := vset e.x n q.v }).noteSat b 1 q.sat
  else d.when (d.bit (CE.INSLOT_EN b n) && d.active b) fun d => d.assertLine 21 (brMask b)

/-- S1. -/
def Dev.stage1 (d : Dev) (b : Bridge) : Dev := d.each (List.finRange 12) fun d n => d.slotIn b n

/-- S2: Clarke (Table 6-5); in DCDC the currents pass. -/
def Dev.stage2 (d : Dev) (b : Bridge) : Dev :=
  let x := (d.engS b).x
  if d.role b = 3 then d.modEng b fun e => { e with alpha := vget x 0, beta := vget x 1 }
  else
    let a := qlim false (roundDiv (2 * vget x 0 - vget x 1 - vget x 2) 3)
    let c := qlim a.sat (overSqrt3 (vget x 1 - vget x 2))
    (d.modEng b fun e => { e with alpha := a.v, beta := c.v }).noteSat b 2 c.sat

/-- The angle of S3 in 2^-32 turns (Table 6-1): `ANG_E`, the PLL angle with its offset, or none. -/
def Dev.frameAngle (d : Dev) (b : Bridge) : Nat :=
  match d.role b with
  | 1 => d.get (POS.ANGLE_ANG_E (d.posSel b)) * 1024
  | 2 => ((d.engS b).th + d.get (CE.PLLOFS_PLLOFS b) * 1024) % 2 ^ 32
  | _ => 0

/-- S3: Park (Table 6-5); in DCDC the first two currents pass. -/
def Dev.stage3 (d : Dev) (b : Bridge) (z : Nat → Int) : Dev :=
  let e := d.engS b
  if d.role b = 3 then d.modEng b fun e => { e with id := e.alpha, iq := e.beta }
  else
    let cs := cosSinOpen (d.frameAngle b) (z 0) (z 1)
    let i := qlim false (mulQ 23 e.alpha cs.1 + mulQ 23 e.beta cs.2)
    let j := qlim i.sat (mulQ 23 e.beta cs.1 - mulQ 23 e.alpha cs.2)
    (d.modEng b fun e => { e with id := i.v, iq := j.v }).noteSat b 3 j.sat

/-! ### The grid PLL -/

/-- The PLL's tick (R244, R245), t_tick of n CECLK cycles; SEEK is entered with the role and loads the angle. The good and
bad ticks are counted for PLL_LOCK and PLL_LOST. -/
def Dev.pllTick (d : Dev) (b : Bridge) (n : Nat) (z : Nat → Int) : Dev :=
  if d.role b ≠ 2 then
    ((d.set (CE.PLLST_PLLST b) 0).modEng b fun e => { e with pllGood := 0, pllBad := 0 })
  else
    let e := d.engS b
    let va := sat32 (roundDiv (2 * vget e.x 8 - vget e.x 9 - vget e.x 10) 3)
    let vb := sat32 (overSqrt3 (vget e.x 9 - vget e.x 10))
    let fnom : Int := roundDiv ((d.get (CE.PLLCFG_FNOM b) : Int) * 65536) 100
    let seek := decide (d.get (CE.PLLST_PLLST b) = 0)
    let th0 := if seek then ofSigned 32 (openIn (atanBand vb va) (z 2) * 1024) else e.th
    let i0 := if seek then 0 else e.pllI
    let cs := cosSinOpen th0 (z 3) (z 4)
    let vq := sat32 (mulQ 23 vb cs.1 - mulQ 23 va cs.2)
    let vd := sat32 (mulQ 23 va cs.1 + mulQ 23 vb cs.2)
    let mag : Int := isqrtNear (va * va + vb * vb).toNat
    let vgmin : Int := d.sget (CE.GRIDV_VGMIN b) * 65536
    let vgmax : Int := d.sget (CE.GRIDV_VGMAX b) * 65536
    let err := sat32 (divOpen (vq * 268435456) (max mag vgmin) (z 5))
    let f0 := fnom + roundDiv (d.sget (CE.PLLKP_PLLKP b) * err) 268435456 + i0
    let fmin : Int := roundDiv ((d.get (CE.PLLLIM_FMIN b) : Int) * 65536) 100
    let fmax : Int := roundDiv ((d.get (CE.PLLLIM_FMAX b) : Int) * 65536) 100
    let inside := decide (fmin ≤ f0) && decide (f0 ≤ fmax)
    let i1 := if inside then i0 + roundDiv (d.sget (CE.PLLKIT_PLLKIT b) * err) 268435456 else i0
    let f := clampInt fmin fmax f0
    let th := ofSigned 32 (((th0 / 1024 : Nat) + roundDiv (f * n * 64) 400000000) * 1024)
    let good := inside && decide ((err.natAbs : Int) ≤ d.sget (CE.PLLTOL_LOCKTOL b) * 8192) && decide (vgmin ≤ mag) && decide (mag ≤ vgmax)
    ((((d.when seek fun d => d.set (CE.PLLST_PLLST b) 1).modEng b fun e =>
      { e with th := th, f := f, pllI := i1, pllGood := if good then e.pllGood + 1 else 0,
               pllBad := if good then 0 else e.pllBad + 1 }).set (CE.PLLST_FREQ b) (roundDiv (f * 100) 65536).toNat).sset
      (CE.PLLVD_VDG b) vd).set (CE.PLLANG_THGRID b) (((th / 1024 : Nat) + d.get (CE.PLLOFS_PLLOFS b)) % 4194304)

/-! ### The safe-state speed and pattern -/

/-- The safe-state speed (R241): the first source of Table 8-4 that is available. -/
def Dev.safeSpeed (d : Dev) (b : Bridge) : Dev :=
  let p := d.posSel b
  if d.bit (POS.STAT_HEALTH p) then (d.sset (CE.SAFESPD_SSPD b) (d.sget (POS.SPEED_SPEED p))).set (CE.SAFECTL_SPDSRC b) 0
  else if d.get (POS.STAT_OBSST p) = 2 then
    (d.sset (CE.SAFESPD_SSPD b) (d.sget (POS.OBSSPD_SPDOBS p))).set (CE.SAFECTL_SPDSRC b) 1
  else
    match (d.engS b).ascEst with
    | some m =>
      if d.ascApplied b then
        (d.sset (CE.SAFESPD_SSPD b) (if d.sget (CE.SAFESPD_SSPD b) < 0 then -m else m)).set (CE.SAFECTL_SPDSRC b) 2
      else d.set (CE.SAFECTL_SPDSRC b) 3
    | none => d.set (CE.SAFECTL_SPDSRC b) 3

/-- The pattern (R240): active short circuit at or above `ASCSPD`, all off at or below `ASCSPD` - `ASCHYS`, kept between and
without a speed source; all off outside MOTOR or with `ASCEN` 0. -/
def Dev.patternNow (d : Dev) (b : Bridge) : Bool :=
  if d.role b ≠ 1 ∨ d.bit (CE.SAFECTL_ASCEN b) = false then false
  else if d.get (CE.SAFECTL_SPDSRC b) = 3 then d.bit (CE.SAFECTL_SSPAT b)
  else
    let n : Int := (d.sget (CE.SAFESPD_SSPD b)).natAbs * 60
    let hi : Int := d.get (CE.SAFE_ASCSPD b)
    let lo : Int := hi - d.get (CE.SAFE_ASCHYS b)
    if n ≥ hi * 65536 then true else if n ≤ lo * 65536 then false else d.bit (CE.SAFECTL_SSPAT b)

/-- The pattern is delivered to the gate link, which applies it where the safe state is in force
(R243). -/
def Dev.deliverPattern (d : Dev) (b : Bridge) : Dev :=
  ((d.setBit (CE.SAFECTL_SSPAT b) (d.patternNow b)).modGl fun g => { g with pat := vset g.pat b (d.patternNow b) }).applySafe b

/-- Has the bridge lost its angle (R238)? In block mode with Hall events the position block is in FAULT or OFF. -/
def Dev.angleLost (d : Dev) (b : Bridge) : Bool :=
  let p := d.posSel b
  decide (d.role b = 1) &&
  if d.ctrl b = 2 ∧ d.get (MOD.BLKTBL1_BLKSRC b) = 0 then
    decide (d.get (POS.STAT_POSST p) = 3) || decide (d.get (POS.STAT_POSST p) = 0)
  else decide (d.get (POS.ANGLE_ACTSRC p) = 2)

/-- Is slot 11 inside the battery window (R248)? -/
def Dev.batteryOk (d : Dev) (b : Bridge) : Bool :=
  decide (d.sget (CE.DCDC_VBMIN b) * 65536 ≤ vget (d.engS b).x 11) && decide (vget (d.engS b).x 11 ≤ d.sget (CE.DCDC_VBMAX b) * 65536)

/-- Angle loss and battery-window loss of an ACTIVE bridge at cycle 12 (R239, R248). -/
def Dev.engineLosses (d : Dev) (b : Bridge) : Dev :=
  let d1 := d.when (d.active b && d.angleLost b) fun d =>
    ((d.set (CE.SAFECTL_ANGLOSS b) 1).assertLine 27 (brMask b)).safeCause b (GL.BSTAT_ENGINE b)
  d1.when (d1.active b && decide (d1.role b = 3) && !d1.batteryOk b) fun d =>
    (d.set (CE.DCDCST_VBOUT b) 1).safeCause b (GL.BSTAT_ENGINE b)

/-! ### Test signals -/

/-- The next state of a maximal-length shift register (R192): its length and its second tap by `PRBSN`. -/
def prbsLen (n : Nat) : Nat := match n with | 0 => 7 | 1 => 9 | 2 => 11 | _ => 15
def prbsTap (n : Nat) : Nat := match n with | 0 => 6 | 1 => 5 | 2 => 9 | _ => 14
def prbsNext (n r : Nat) : Nat :=
  (2 * r + (r / 2 ^ (prbsLen n - 1) + r / 2 ^ (prbsTap n - 1)) % 2) % 2 ^ prbsLen n

/-- The value of a test signal at tick k of its run (R192; the output bit and its sign: log 18). -/
def Dev.testValue (d : Dev) (b : Bridge) (g : TestGen) (z1 z2 : Int) : Int :=
  let amp := d.sget (CE.TSTAMP_AMP b)
  if d.get (CE.TSTLEN_LEN b) ≤ g.tick then 0
  else match d.get (CE.TSTCFG_TYPE b) with
    | 1 => mulQ 23 amp (cosSinOpen g.phase z1 z2).2
    | 2 => if natBit g.lfsr (prbsLen (d.get (CE.TSTCFG_PRBSN b)) - 1) then amp else -amp
    | _ => amp

/-- The generator after a tick of n cycles (R192): the chirp's frequency is linear in the tick, without steps, and moves the phase at most
half a turn (half the tick rate). -/
def Dev.testAdvance (d : Dev) (b : Bridge) (g : TestGen) (n : Nat) : TestGen :=
  let f0 : Int := d.get (CE.TSTF_F0 b)
  let f1 : Int := d.get (CE.TSTF_F1 b)
  let len := max 1 (d.get (CE.TSTLEN_LEN b))
  let adv := min (roundDiv ((f0 * len + (f1 - f0) * g.tick) * n * 4294967296) (len * 4000000000)) 2147483648
  { g with tick := g.tick + 1, phase := ofSigned 32 (g.phase + adv),
           lfsr := if (g.tick + 1) % (d.get (CE.TSTCFG_HOLD b) + 1) = 0 then prbsNext (d.get (CE.TSTCFG_PRBSN b)) g.lfsr else g.lfsr }

/-- The test generator's part of a tick (R191-R194): a pending start begins the run and fires the capture trigger. -/
def Dev.testTick (d : Dev) (b : Bridge) (n : Nat) (z : Nat → Int) : Dev :=
  let d1 := d.when ((d.engS b).test.start && d.active b) fun d =>
    ((d.modEng b fun e => { e with test := { start := false, tick := 0, phase := 0, lfsr := 2 ^ 15 - 1, value := 0 } }).set
      (CE.TSTCFG_TSTATE b) 1).fireCapture (1 + b)
  if d1.active b && decide (d1.get (CE.TSTCFG_TSTATE b) = 1) then
    d1.modEng b fun e => { e with test := { d1.testAdvance b e.test n with value := d1.testValue b e.test (z 6) (z 7) } }
  else d1.modEng b fun e => { e with test := { e.test with value := 0 } }

/-- The injected value at summing point k (Table 6-7). -/
def Dev.injected (d : Dev) (b : Bridge) (k : Nat) : Int :=
  if d.get (CE.TSTCFG_POINT b) = k ∧ d.active b then (d.engS b).test.value else 0

/-! ### S4: competing loops -/

/-- Everything the loops judge in one tick. -/
structure LoopIn where
  s    : Int
  w    : Int
  vdc  : Int
  idc  : Int
  weff : Int
  out  : Bool
  mode : Nat

/-- The inputs of the loops (R174, R176, R177). -/
def Dev.loopIn (d : Dev) (b : Bridge) : LoopIn :=
  let w := d.speedPu b (d.measuredSpeed b)
  let motor := decide (d.role b = 1)
  let cmd := d.sget (CE.ROUT_ROUT b 0)
  let s : Int := if d.engIs b 2 then (if motor && decide (w < 0) then -1 else 1)
    else if 0 < cmd then 1 else if cmd < 0 then -1 else (d.engS b).dir
  { s := s, w := w, vdc := vget (d.engS b).x 3, idc := vget (d.engS b).x 4,
    weff := if motor then max (w.natAbs : Int) (d.sget (CE.OMFLOOR_OMFLOOR b)) else one28,
    out := if motor then decide (0 ≤ s * w) else decide (0 ≤ s), mode := d.cmdMode b }

/-- Does loop k have an integrator in the present mode (R178)? -/
def loopIntegrates (motor : Bool) (mode k : Nat) : Bool :=
  match k with
  | 0 => decide (mode ≠ 0)
  | 1 => motor
  | 2 | 3 | 4 => true
  | _ => false

/-- The error e_k of Table 6-6. -/
def Dev.loopError (d : Dev) (b : Bridge) (i : LoopIn) (k : Nat) : SQ :=
  match k with
  | 0 =>
    let ref := d.sget (CE.ROUT_ROUT b 0) + if i.mode = 1 then d.injected b 1 else 0
    if i.mode = 1 then qlim false ((ref - i.w) * i.s)
    else if i.mode = 2 then qlim false ((ref - i.vdc) * i.s) else ⟨0, false⟩
  | 1 => qlim false ((if i.s = 1 then d.sget (CE.LPARP_LPARP b 1) else d.sget (CE.LPARN_LPARN b 1)) - i.s * i.w)
  | 2 => qlim false (d.sget (CE.LPARP_LPARP b 2) - i.vdc)
  | 3 => qlim false (i.vdc - d.sget (CE.LPARP_LPARP b 3))
  | 4 => if i.out then qlim false (d.sget (CE.LPARP_LPARP b 4) - i.idc) else qlim false (d.sget (CE.LPARN_LPARN b 4) + i.idc)
  | _ => ⟨0, false⟩

/-- kp e + I of loop k, k ≤ 4, not yet saturated. -/
def Dev.loopPi (d : Dev) (b : Bridge) (i : LoopIn) (k : Fin 5) : SQ :=
  let e := d.loopError b i k
  ⟨mulQ 24 (d.sget (CE.LKP_KP b k)) e.v + vget (d.engS b).integ k, e.sat⟩

/-- The allowance a_k of Table 6-6; a loop that does not apply yields +8 pu. -/
def Dev.allowance (d : Dev) (b : Bridge) (i : LoopIn) (k : Nat) (z : Int) : SQ :=
  let big : SQ := ⟨2147483647, false⟩
  let motor := decide (d.role b = 1)
  let perW (q : SQ) : SQ := qlim q.sat (divOpen (q.v * one28) i.weff z)
  match k with
  | 0 =>
    let q := if i.mode = 0 then ⟨i.s * d.sget (CE.ROUT_ROUT b 0), false⟩ else d.loopPi b i 0
    qlim q.sat (q.v + d.injected b 0)
  | 1 => if motor then qlim (d.loopPi b i 1).sat (d.loopPi b i 1).v else big
  | 2 => if i.out then big else perW (d.loopPi b i 2)
  | 3 => if i.out then perW (d.loopPi b i 3) else big
  | 4 => perW (d.loopPi b i 4)
  | 5 => ⟨d.sget (CE.LPARP_LPARP b 5), false⟩
  | _ => ⟨if i.s = 1 then d.sget (CE.LPARP_LPARP b 6) else d.sget (CE.LPARN_LPARN b 6), false⟩

/-- The winner (R178): the least allowance; on a tie the previous winner if it shares it, else the highest such loop. -/
def pickWinner (a : List (Nat × Int)) (prev : Nat) : Nat :=
  let m := a.foldl (fun m x => min m x.2) 2147483647
  let ws := (a.filter fun x => decide (x.2 = m)).map (·.1)
  if ws.contains prev then prev else ws.foldl max 0

/-- Integrator of loop k after selection, held at ±`ILIM`, which is no saturation (R174, R178). -/
def Dev.loopIntegral (d : Dev) (b : Bridge) (i : LoopIn) (k : Fin 5) (win : Nat) (dem : Int) (clamped : Bool) : SQ :=
  let e := d.loopError b i k
  let lim := d.sget (CE.LILIM_ILIM b k)
  let wk := if 2 ≤ k.val then i.weff else one28
  if loopIntegrates (decide (d.role b = 1)) i.mode k then
    if d.engIs b 3 ∧ k.val = win ∧ clamped = false then
      ⟨clampInt (-lim) lim (vget (d.engS b).integ k + mulQ 24 (d.sget (CE.LKIT_KIT b k)) e.v), e.sat⟩
    else ⟨clampInt (-lim) lim (mulQ 28 (i.s * dem) wk - mulQ 24 (d.sget (CE.LKP_KP b k)) e.v), e.sat⟩
  else ⟨vget (d.engS b).integ k, false⟩

/-- A clamp's value at this tick, from the magnitude of the demand of the tick before (R352, R371; log 19). -/
def Clamp.next (c : Clamp) (demBefore : Int) : Clamp :=
  if c.begun then { c with c := max 0 (c.c - c.rate) }
  else { c with begun := true, c := max 0 ((demBefore.natAbs : Int) - c.rate) }

/-- The clamps of this tick, applied to an ACTIVE bridge. -/
def Dev.stepClamps (d : Dev) (b : Bridge) : Dev :=
  if d.active b then
    let dm := d.sget (CE.DEM_DEM b)
    d.modEng b fun e => { e with stop := e.stop.map fun c => c.next dm, ss1 := e.ss1.map fun c => c.next dm }
  else d

/-- A demand under the clamps. -/
def Dev.clampDemand (d : Dev) (b : Bridge) (dem : Int) : Int :=
  let app (x : Int) (o : Option Clamp) : Int := match o with
    | some c => clampInt (-c.c) c.c x
    | none => x
  if d.active b then app (app dem (d.engS b).stop) (d.engS b).ss1 else dem

/-- S4 (R176-R181): allowances, winner, envelope clamp, integrators, the clamps of stops, and the registers `WINb`, `DEMb`. -/
def Dev.stage4 (d : Dev) (b : Bridge) (z : Nat → Int) : Dev :=
  let i := d.loopIn b
  let qs := (List.range 7).map fun k => (k, d.allowance b i k (z (8 + k)))
  let win := pickWinner (qs.map fun x => (x.1, x.2.v)) (d.engS b).win
  let aw := ((qs.find? fun x => decide (x.1 = win)).map fun x => x.2.v).getD 0
  let lo := -(d.sget (CE.LPARN_LPARN b 6))
  let hi := d.sget (CE.LPARP_LPARP b 6)
  let raw := i.s * aw
  let envclamp := decide (raw < lo) || decide (hi < raw)
  let dem := if d.engIs b 2 then 0 else clampInt lo hi raw
  let ints := (List.finRange 5).map fun k => (k, d.loopIntegral b i k win dem envclamp)
  let run := d.engIs b 2 || d.active b
  let sat := (qs.any fun x => x.2.sat) || (run && ints.any fun x => x.2.sat) ||
    (decide (d.role b = 1) && (d.speedQ b (d.measuredSpeed b)).sat)
  let d1 := d.modEng b fun e =>
    { e with dir := i.s, win := win,
             integ := if run then ints.foldl (fun v x => vset v x.1 x.2.v) e.integ else .replicate 5 0 }
  let d2 := (((d1.set (CE.WIN_PREV b) (d.get (CE.WIN_WIN b))).set (CE.WIN_WIN b) win).setBit (CE.WIN_ENVCLAMP b) envclamp).when
    (decide (win ≠ d.get (CE.WIN_WIN b))) fun d => (d.countWrap (CE.WIN_CHG b)).edge (133 + 16 * b)
  (d2.noteSat b 4 sat).sset (CE.DEM_DEM b) (d2.clampDemand b dem)

/-! ### S5: ramps -/

/-- One step of a ramp (R182). -/
def rampStep (out tgt up dn : Int) : Int :=
  let lim := if out.natAbs < tgt.natAbs then up else dn
  out + clampInt (-lim) lim (tgt - out)

/-- The demand that the measured currents stand for, by role: torque, active power into the grid, battery power. -/
def Dev.measuredDemand (d : Dev) (b : Bridge) : SQ :=
  let e := d.engS b
  match d.role b with
  | 1 => qlim false (mulQ 24 (d.sget (CE.MOTKT_KT b)) e.iq + mulQ 24 (d.sget (CE.MOTKR_KR b)) (mulQ 28 e.id e.iq))
  | 2 => qlim false (roundDiv (3 * mulQ 28 (d.sget (CE.PLLVD_VDG b)) e.id) 2)
  | 3 => qlim false (mulQ 28 (vget e.x 11) (vget e.x 0 + vget e.x 1 + vget e.x 2))
  | _ => ⟨0, false⟩

/-- The measured values that the ramps follow outside ACTIVE (R182). -/
def Dev.rampFollow (d : Dev) (b : Bridge) (j : Nat) : SQ :=
  let e := d.engS b
  if j = 0 then
    match d.cmdMode b with
    | 1 => ⟨d.speedPu b (d.measuredSpeed b), false⟩
    | 2 => ⟨vget e.x 3, false⟩
    | _ => d.measuredDemand b
  else match d.role b with
    | 1 => ⟨e.id, false⟩
    | 2 => qlim false (-(roundDiv (3 * mulQ 28 (d.sget (CE.PLLVD_VDG b)) e.iq) 2))
    | _ => ⟨0, false⟩

/-- S5 (R182): targets and outputs of both ramps. -/
def Dev.stage5 (d : Dev) (b : Bridge) (z : Nat → Int) : Dev :=
  let t0 := d.command b (z 15)
  let t1 := d.objectQ b 0 (d.auxObject b) 0
  let q (j : Nat) (t : Int) : SQ := if d.active b then
      qlim false (rampStep (d.sget (CE.ROUT_ROUT b j)) t (d.sget (CE.RUP_RUP b j)) (d.sget (CE.RDN_RDN b j)))
    else d.rampFollow b j
  (((((d.sset (CE.RTGT_RTGT b 0) t0.v).sset (CE.RTGT_RTGT b 1) t1.v).sset (CE.ROUT_ROUT b 0) (q 0 t0.v).v).sset
    (CE.ROUT_ROUT b 1) (q 1 t1.v).v)).noteSat b 5 (t0.sat || t1.sat || (q 0 t0.v).sat || (q 1 t1.v).sat)

/-! ### S6: references -/

/-- Is the winding discharge in force (R281, R282)? -/
def Dev.windingOn (d : Dev) : Bool :=
  d.bit GL.DSCCTL_REQ && (decide (d.get GL.DSCSTAT_ST = 1) || (decide (d.get GL.DSCSTAT_ST = 4) && !d.vol.gl.dscPin))

/-- The square root of a difference of squares of per-unit values, 0 where it is negative. -/
def rootDiff (a c : Int) : Int := isqrtNear (a * a - c * c).toNat

/-- The voltage that the limit leaves, `VMAX` × v_dc / √3; `VMAX` is two's complement (R15). -/
def Dev.vLimit (d : Dev) (b : Bridge) : Int :=
  overSqrt3 (roundDiv (d.sget (CE.VMAX_VMAX b) * vget (d.engS b).x 3) 32768)

/-- The voltage that the field weakening judges (R232): of S7 in carrier mode, of the machine's model in band mode. -/
def Dev.fieldVoltage (d : Dev) (b : Bridge) : SQ :=
  let e := d.engS b
  let mag (x y : Int) : Int := isqrtNear (x * x + y * y).toNat
  if d.ctrl b = 1 then qlim false (mag e.vd e.vq)
  else
    let w := d.speedPu b (d.measuredSpeed b)
    let lq := qlim false (roundDiv (d.sget (CE.MOTL_LQ b) * e.iq) 4096)
    let flux := qlim lq.sat (d.sget (CE.MOTPSI_PSI b) + roundDiv (d.sget (CE.MOTL_LD b) * e.id) 4096)
    let md := qlim flux.sat (mulQ 28 w lq.v)
    let mq := qlim md.sat (mulQ 28 w flux.v)
    qlim mq.sat (mag md.v mq.v)

/-- S6 in MOTOR, band or carrier mode (R232). -/
def Dev.stage6Motor (d : Dev) (b : Bridge) : Dev :=
  if d.windingOn && d.active b then d.modEng b fun e => { e with idRef := -(d.sget (CE.IDDIS_IDDIS b)), iqRef := 0 }
  else
    let e := d.engS b
    let preset := d.engIs b 2
    let kt := d.sget (CE.MOTKT_KT b)
    let kr := d.sget (CE.MOTKR_KR b)
    let imax := d.sget (CE.IMAX_IMAX b)
    let idfw0 := if preset then 0 else e.idfw
    let iqPrev := if preset then 0 else e.iqPrev
    let vmag := d.fieldVoltage b
    let tgt := roundDiv (d.sget (CE.FWCFG_FWTHR b) * d.vLimit b) 32768
    let fwe := qlim vmag.sat (tgt - vmag.v)
    let idfw := if d.bit (CE.FWCFG_FWEN b) then
      qlim fwe.sat (idfw0 + mulQ 24 (d.sget (CE.FWKI_FWKI b)) fwe.v) else ⟨0, vmag.sat⟩
    -- never positive, whatever the sign of `IDFWMAX`
    let idfwV := if d.bit (CE.FWCFG_FWEN b) then min 0 (max (-(d.sget (CE.FWMAX_IDFWMAX b))) idfw.v) else 0
    let a52 := kt * 268435456
    let b52 := 2 * kr * iqPrev
    let idm := if kr = 0 then ⟨0, false⟩ else qlim false (roundDivI ((isqrtNear (a52 * a52 + b52 * b52).toNat : Int) - a52) (2 * kr))
    let idRef := clampInt (-imax) imax (idm.v + idfwV + d.sget (CE.ROUT_ROUT b 1) + d.injected b 2)
    let sum := qlim (idfw.sat || idm.sat) (kt + mulQ 28 kr idRef)
    let den := max sum.v (roundDiv kt 4)
    let iqmax := rootDiff imax idRef
    let q := if den ≤ 0 then ⟨0, false⟩ else qlim sum.sat (roundDivI (d.sget (CE.DEM_DEM b) * 16777216) den)
    let iqRef := clampInt (-iqmax) iqmax (q.v + d.injected b 3)
    ((d.modEng b fun e => { e with idfw := idfwV, iqPrev := iqRef, idRef := idRef, iqRef := iqRef }).sset
      (CE.FWID_IDFW b) idfwV).noteSat b 6 (q.sat && decide (0 < den))

/-- S6 in GRID (R247). -/
def Dev.stage6Grid (d : Dev) (b : Bridge) (z : Nat → Int) : Dev :=
  let imax := d.sget (CE.IMAX_IMAX b)
  let vdg := max (d.sget (CE.PLLVD_VDG b)) (d.sget (CE.GRIDV_VGMIN b) * 65536)
  let i := qlim false (divOpen (2 * d.sget (CE.DEM_DEM b) * one28) (3 * vdg) (z 16) + d.injected b 2)
  let j := qlim i.sat (-(divOpen (2 * d.sget (CE.ROUT_ROUT b 1) * one28) (3 * vdg) (z 17)) + d.injected b 3)
  let ovr := decide (imax * imax < i.v * i.v + j.v * j.v) || decide (imax < 0)
  let r : Int × Int :=
    if !ovr then (i.v, j.v)
    else if d.get (CE.PLLCFG_PQPRI b) = 0 then
      (clampInt (-imax) imax i.v, clampInt (-(rootDiff imax (clampInt (-imax) imax i.v))) (rootDiff imax (clampInt (-imax) imax i.v)) j.v)
    else (clampInt (-(rootDiff imax (clampInt (-imax) imax j.v))) (rootDiff imax (clampInt (-imax) imax j.v)) i.v, clampInt (-imax) imax j.v)
  (d.modEng b fun e => { e with idRef := r.1, iqRef := r.2 }).noteSat b 6 j.sat

/-- S6 in DCDC (R249): one reference for the three currents. -/
def Dev.stage6Dcdc (d : Dev) (b : Bridge) (z : Nat → Int) : Dev :=
  let imax := d.sget (CE.IMAX_IMAX b)
  let vb := max (vget (d.engS b).x 11) (d.sget (CE.DCDC_VBMIN b) * 65536)
  let q := qlim false (divOpen (d.sget (CE.DEM_DEM b) * one28) (3 * vb) (z 16))
  (d.modEng b fun e => { e with idRef := clampInt (-imax) imax (q.v + d.injected b 2), iqRef := 0 }).noteSat b 6 q.sat

/-- S6: reference generation by role (R232-R234, R247, R249). In block mode the demand passes unchanged and `idfw` reads 0, so that a test signal
at point 2 or 3, which R193 lets start there, is added nowhere (DESIGN CHOICE, log 185). -/
def Dev.stage6 (d : Dev) (b : Bridge) (z : Nat → Int) : Dev :=
  match d.role b with
  | 1 =>
    if d.ctrl b = 2 then
      if d.windingOn && d.active b then
        (d.modEng b fun e => { e with idRef := -(d.sget (CE.IDDIS_IDDIS b)), iqRef := 0, idfw := 0 }).sset (CE.FWID_IDFW b) 0
      else (d.modEng b fun e => { e with idRef := 0, iqRef := d.sget (CE.DEM_DEM b), idfw := 0 }).sset (CE.FWID_IDFW b) 0
    else d.stage6Motor b
  | 2 => d.stage6Grid b z
  | 3 => d.stage6Dcdc b z
  | _ => d.modEng b fun e => { e with idRef := 0, iqRef := 0 }

/-! ### S7: current regulation -/

/-- The electrical frequency of the frame in Hz (Q16.16): MOTOR speed × `MOT_PP`, the PLL's, or 0. -/
def Dev.frameHz (d : Dev) (b : Bridge) : Int :=
  match d.role b with
  | 1 => d.measuredSpeed b * d.motPP (d.posSel b)
  | 2 => (d.engS b).f
  | _ => 0

/-- The per-unit speed of the decoupling (R190). -/
def Dev.decoupleSpeed (d : Dev) (b : Bridge) (z : Int) : SQ :=
  match d.role b with
  | 1 => ⟨d.speedPu b (d.measuredSpeed b), false⟩
  | 2 => qlim false (divOpen ((d.engS b).f * 409600) (d.get (CE.PLLCFG_FNOM b)) z)
  | _ => ⟨0, false⟩

/-- A regulator kp e + I, and its integral one tick on (R190). -/
def Dev.currentPi (d : Dev) (b : Bridge) (e i : Int) : SQ × SQ :=
  (qlim false (mulQ 24 (d.sget (CE.CRKP_CRKP b)) e + i), qlim false (i + mulQ 24 (d.sget (CE.CRKIT_CRKIT b)) e))

/-- The voltage vector limited in magnitude, and whether the limit acts (R190). -/
def limitVector (x y lim : Int) : Int × Int × Bool :=
  let mag : Int := isqrtNear (x * x + y * y).toNat
  if mag ≤ max 0 lim then (x, y, false) else (roundDivI (x * max 0 lim) mag, roundDivI (y * max 0 lim) mag, true)

/-- S7 in carrier mode (R190, R191). -/
def Dev.stage7Carrier (d : Dev) (b : Bridge) (z : Nat → Int) : Dev :=
  let e := d.engS b
  let wq := d.decoupleSpeed b (z 18)
  let w := wq.v
  let ls := d.sget (CE.CRLS_CRLS b)
  let psi := if d.role b = 1 then d.sget (CE.MOTPSI_PSI b) else 0
  let pd := d.currentPi b (e.idRef - e.id) e.piD
  let pq := d.currentPi b (e.iqRef - e.iq) e.piQ
  let vd := qlim (wq.sat || pd.1.sat || pq.1.sat) (pd.1.v - mulQ 28 w (mulQ 28 ls e.iq) + d.injected b 4)
  let vq := qlim vd.sat (pq.1.v + mulQ 28 w (mulQ 28 ls e.id) + mulQ 28 w psi + d.injected b 5)
  let r := limitVector vd.v vq.v (d.vLimit b)
  let run := d.active b || d.engIs b 2
  (d.modEng b fun e =>
    { e with vd := r.1, vq := r.2.1, piD := if !run then 0 else if r.2.2 then e.piD else pd.2.v,
             piQ := if !run then 0 else if r.2.2 then e.piQ else pq.2.v }).noteSat b 7 (vq.sat || (run && !r.2.2 && (pd.2.sat || pq.2.sat)))

/-- S7 in block mode (R190): the DC-link current follows demand / w_eff, in every role, through the q regulator alone; the test signal of
points 4 and 5 is added before the limit (Table 6-7). -/
def Dev.stage7Block (d : Dev) (b : Bridge) (z : Nat → Int) : Dev :=
  let e := d.engS b
  let i := d.loopIn b
  let dem := if d.role b = 1 then e.iqRef else d.sget (CE.DEM_DEM b)
  let ref := qlim false (divOpen (dem * one28) i.weff (z 18))
  let pq := d.currentPi b (ref.v - i.idc) e.piQ
  let vq := qlim (ref.sat || pq.1.sat) (pq.1.v + d.injected b 5)
  let r := limitVector (d.injected b 4) vq.v (d.vLimit b)
  let run := d.active b || d.engIs b 2
  (d.modEng b fun e =>
    { e with vd := r.1, vq := r.2.1, piD := 0,
             piQ := if !run then 0 else if r.2.2 then e.piQ else pq.2.v }).noteSat b 7 (vq.sat || (run && !r.2.2 && pq.2.sat))

/-- S7; skipped in band mode. -/
def Dev.stage7 (d : Dev) (b : Bridge) (z : Nat → Int) : Dev :=
  match d.ctrl b with
  | 1 => d.stage7Carrier b z
  | 2 => d.stage7Block b z
  | _ => d

/-! ### S8: outputs in the stator frame -/

/-- An angle in 2^-32 turns advanced by c half CECLK cycles at f Hz (Q16.16). -/
def advanceAngle (ang : Nat) (f : Int) (c : Int) : Nat := ofSigned 32 ((ang : Int) + roundDiv (f * c * 65536) 800000000)

/-- A per-unit current as a code of slot p, with q fraction bits and without the slot's offset. -/
def Dev.codeOf (d : Dev) (b : Bridge) (p q : Nat) (x z : Int) : Int :=
  divOpen (x * 2048 * 2 ^ q) (d.sget (CE.INGAIN_GAIN b p)) z

/-- Saturation at the integer range of Q16.16 codes of a value with q fraction bits (R174, Table 6-5). -/
def satCode (q : Nat) (x : Int) : Int := satBits (q + 16) x

/-- S8 in band mode (R184), for the load cycle `dly` cycles after the snapshot: the centre in codes, Q16.16 (Table 6-5); slope per cycle and
curvature saturate at the same bounds and keep 48 and 64 fraction bits (log 21). The parameters are loaded only where `load`; a saturation is
noted in every state. -/
def Dev.stage8Band (d : Dev) (b : Bridge) (load : Bool) (dly : Nat) (z : Nat → Int) : Dev :=
  let e := d.engS b
  let f := d.frameHz b
  let cs := cosSinOpen (advanceAngle (d.frameAngle b) f (2 * dly : Nat)) (z 19) (z 20)
  let qa := qlim false (mulQ 23 e.idRef cs.1 - mulQ 23 e.iqRef cs.2)
  let qb := qlim qa.sat (mulQ 23 e.idRef cs.2 + mulQ 23 e.iqRef cs.1)
  let al := qa.v
  let be := qb.v
  let dc := decide (d.role b = 3)
  let phase (x y : Int) (p : Nat) : Int := match p with
    | 0 => x
    | 1 => -(roundDiv x 2) + halfSqrt3 y
    | _ => -(roundDiv x 2) - halfSqrt3 y
  -- ω per cycle: 2π f / 400,000,000
  let om (x : Int) : Int := roundDiv (x * 2 * piOver * f) (10 ^ 14 * 65536 * 400000000)
  let code (p q : Nat) : Int := d.codeOf b p q (if dc then e.idRef else sat32 (phase al be p)) (z 21)
  let cen (p : Nat) : Int := code p 16 + d.sget (CE.INSLOT_OFS b p) * 65536
  let slp (p : Nat) : Int := if dc then 0 else om (d.codeOf b p 48 (sat32 (phase (-be) al p)) (z 21))
  let crv (p : Nat) : Int := if dc then 0 else -(om (om (code p 64)))
  let outside (p : Nat) : Bool :=
    decide (satCode 16 (cen p) ≠ cen p) || decide (satCode 48 (slp p) ≠ slp p) || decide (satCode 64 (crv p) ≠ crv p) ||
      (!dc && (decide (sat32 (phase al be p) ≠ phase al be p) || decide (sat32 (phase (-be) al p) ≠ phase (-be) al p)))
  (d.when load fun d => d.modEng b fun e =>
    { e with cen := .ofFn fun p => satCode 16 (cen p), slp := .ofFn fun p => satCode 48 (slp p),
             crv := .ofFn fun p => satCode 64 (crv p) }).noteSat b 8 ((!dc && qb.sat) || [0, 1, 2].any outside)

/-- S8 in carrier mode (R190): vα / v_dc and vβ / v_dc in Q1.23, with the angle advanced by 1.5 ticks of n cycles. -/
def Dev.stage8Carrier (d : Dev) (b : Bridge) (n : Nat) (z : Nat → Int) : Int × Int × Dev :=
  let e := d.engS b
  let cs := cosSinOpen (advanceAngle (d.frameAngle b) (d.frameHz b) (3 * n : Nat)) (z 19) (z 20)
  let va := qlim false (mulQ 23 e.vd cs.1 - mulQ 23 e.vq cs.2)
  let vb := qlim va.sat (mulQ 23 e.vd cs.2 + mulQ 23 e.vq cs.1)
  let ra := divOpen (va.v * 8388608) (vget e.x 3) (z 21)
  let rb := divOpen (vb.v * 8388608) (vget e.x 3) (z 22)
  let o := vb.sat || decide (satBits 24 ra ≠ ra) || decide (satBits 24 rb ≠ rb)
  (satBits 24 ra, satBits 24 rb, d.noteSat b 8 o)

/-- S8 in block mode: the chopping ratio vq / v_dc, from 0 to 1, in Q1.23 (R190, R222; log 20). -/
def Dev.chopRatio (d : Dev) (b : Bridge) (z : Int) : Nat :=
  (clampInt 0 8388607 (divOpen ((d.engS b).vq * 8388608) (vget (d.engS b).x 3) z)).toNat

/-! ### S9: band adaptation and interleave -/

/-- The target turn-on rate in units of 10 Hz, within its limits (Table 6-9). -/
def Dev.ftgt (d : Dev) (b : Bridge) : Int := max 100 (min 10000 (d.get (CE.BANDCTL_FTGT b)))

/-- A band within `HMIN` and `HMAX`, in Q16.16, whose range ends below the largest values of these registers (R15, R174). -/
def Dev.bandClamp (d : Dev) (b : Bridge) (h : Int) : SQ :=
  qlim false (clampInt ((d.get (CE.BANDLIM_HMIN b) : Int) * 65536) ((d.get (CE.BANDLIM_HMAX b) : Int) * 65536) h)

/-- A band that comes to `HMIN` or `HMAX`, or beyond, is held there and sets `HCLAMP` (R187). -/
def Dev.noteHeld (d : Dev) (b : Bridge) (h : Int) : Dev :=
  d.when (decide (h ≤ (d.get (CE.BANDLIM_HMIN b) : Int) * 65536) || decide ((d.get (CE.BANDLIM_HMAX b) : Int) * 65536 ≤ h)) fun d =>
    d.set (CE.BANDEVT_HCLAMP b) 1

/-- S9 of phase p (R187), t_tick of n cycles. -/
def Dev.adaptBand (d : Dev) (b : Bridge) (p : Fin 3) (n : Nat) : Dev :=
  let e := d.engS b
  if d.engIs b 2 then
    let h := qlim false ((d.get (CE.BANDINIT_HINIT b) : Int) * 65536)
    (d.modEng b fun e => { e with h := vset e.h p h.v, fest := vset e.fest p (d.ftgt b * 65536), ncount := vset e.ncount p 0 }).noteSat b 9 h.sat
  else
    let fk : Int := roundDiv (((vget e.ncount p : Nat) : Int) * 40000000 * 65536) n
    let fest := vget e.fest p + (fk - vget e.fest p) / 2 ^ d.get (CE.BANDCTL_FSH b)
    let tgt := d.ftgt b * 65536
    let num := clampInt (-tgt) tgt (fest - tgt)
    let h := vget e.h p + roundDiv (vget e.h p * d.sget (CE.BANDGAIN_AGAIN b) * num) (32768 * tgt.toNat)
    ((d.modEng b fun e => { e with h := vset e.h p (d.bandClamp b h).v, fest := vset e.fest p fest, ncount := vset e.ncount p 0 }).noteHeld b h).noteSat
      b 9 (d.bandClamp b h).sat

/-- The interleave correction of phase p, 1 V or 2 W (R188): the phase error in Q1.15, formed only from a complete period of
U and a turn-on of p. -/
def Dev.interleave (d : Dev) (b : Bridge) (p : Fin 3) : Dev :=
  let e := d.engS b
  match vget e.ton 0, vget e.ton p, e.tU with
  | some t0, some tp, some per =>
    if per = 0 then d
    else
      let raw : Int := roundDiv (((tp : Int) - t0) * 32768 * 3 - (p.val : Int) * 32768 * per) (3 * per)
      let phi := signedMod raw 32768
      let h := vget e.h p - roundDiv (vget e.h p * d.sget (CE.BANDGAIN_ILGAIN b) * phi) (32768 * 32768)
      ((d.modEng b fun e =>
        { e with h := vset e.h p (d.bandClamp b h).v,
                 ilvN := vset e.ilvN p (if 32768 < 10 * phi.natAbs then vget e.ilvN p + 1 else 0) }).noteHeld b h).noteSat b 9 (d.bandClamp b h).sat
  | _, _, _ => d

/-- The integer part of h, and the rate estimate rounded (R507), of phase p in `BANDSTpb`. -/
def Dev.showBand (d : Dev) (b : Bridge) (p : Fin 3) : Dev :=
  (d.set (CE.BANDST_H b p) (max 0 (vget (d.engS b).h p / 65536)).toNat).set (CE.BANDST_FEST b p)
    (min 65535 (max 0 (roundDiv (vget (d.engS b).fest p) 65536)).toNat)

/-- S9; skipped in carrier and block modes. -/
def Dev.stage9 (d : Dev) (b : Bridge) (n : Nat) : Dev :=
  if d.ctrl b ≠ 0 then d
  else
    let d1 := d.each [0, 1, 2] fun d p => d.adaptBand b p n
    let d2 := if d1.role b = 3 then (d1.interleave b 1).interleave b 2 else d1
    d2.each [0, 1, 2] fun d p => d.showBand b p

/-! ### The probes -/

/-- Probe k of bridge b (Table 6-8a), as a 16-bit value: the upper half of a Q4.28 signal, the winner, a band in codes. -/
def Dev.probe (d : Dev) (b : Bridge) (k : Nat) : Nat :=
  let e := d.engS b
  let up (x : Int) : Nat := ofSigned 16 (x / 65536)
  match k with
  | 0 => up e.id | 1 => up e.iq | 2 => up e.idRef | 3 => up e.iqRef | 4 => up e.vd | 5 => up e.vq
  | 6 => up (d.sget (CE.DEM_DEM b)) | 7 => d.get (CE.WIN_WIN b) | 8 => up e.test.value
  | 9 => up (d.speedPu b (d.measuredSpeed b)) | 10 => up (vget e.x 3)
  | 11 => d.get (CE.BANDST_H b 0) | 12 => d.get (CE.BANDST_H b 1) | 13 => d.get (CE.BANDST_H b 2)
  | _ => 0

end Sys2Proof.Machine
end

