-- ==== Sys2Proof/Machine/Tick.lean ====
section
/-! DEFINITION. Chapters 06 and 08: the tick as a whole, tick requests and losses, roles, test signals, the ASC estimate, the
PLL's states and the LIMP_CMD pin. (TICK_START, whose probes reach capture, is put together in Result.lean.) -/

namespace Sys2Proof.Machine

/-! ### One tick -/

/-- t_tick in CECLK cycles (R508): the interval since the last tick start, limited; the nominal period of the source for the
first tick after `EN` is set and after `LOSS`. -/
def Dev.tickCycles (d : Dev) : Nat :=
  match d.vol.ce.nominal, d.vol.ce.lastTick with
  | false, some t => max 5000 (min 50000 (d.cycle - t))
  | _, _ =>
    match d.get CE.CTL_TSRC with
    | 0 => (roundDiv (d.modS 0).act.prd 6).toNat
    | 1 => (roundDiv (d.modS 0).act.prd 12).toNat
    | 2 => (roundDiv (d.modS 1).act.prd 6).toNat
    | 3 => (roundDiv (d.modS 1).act.prd 12).toNat
    | _ => max 5000 (min 50000 (d.get CE.TDIV_TDIV))

/-- The state of leg p at PRESET: its output at the gate link (R183): 2 upper on, 1 lower on, 0 both off. -/
def Dev.legOutput (d : Dev) (b : Bridge) (p : Fin 3) : Nat :=
  if (d.gate ⟨6 * b.val + 2 * p.val, by omega⟩).launched then 2
  else if (d.gate ⟨6 * b.val + 2 * p.val + 1, by omega⟩).launched then 1 else 0

/-- Entry into PRESET (R178, R183, R237): leg states from the outputs, integrators and interleave measurements afresh. -/
def Dev.preset (d : Dev) (b : Bridge) : Dev :=
  (d.engineTo b 2).modEng b fun e =>
    { e with starting := false, leg := .ofFn fun p => d.legOutput b p,
             tchg := .ofFn fun p => vget d.vol.gl.legT ⟨3 * b.val + p.val, by omega⟩,
             ton := .replicate 3 none, tU := none, ilvN := .replicate 3 0, piD := 0, piQ := 0, idfw := 0, iqPrev := 0 }

/-- The engine state at a tick (R168): a role written since the last one takes effect (R172), OFF and IDLE; HELD is left when no cause
remains; PRESET is left after one tick; an accepted start begins PRESET. -/
def Dev.tickState (d : Dev) (b : Bridge) : Dev :=
  if d.engIs b 0 && decide (d.role b ≠ 0) then d.engineTo b 1
  else if d.engIs b 1 && decide (d.role b = 0) then d.engineTo b 0
  else if d.engIs b 4 then (if d.noHold b then d.engineTo b 1 else d)
  else if d.engIs b 2 then (d.engineTo b 3).judgeTwoLeg b
  else if d.engIs b 1 && (d.engS b).starting then
    if d.noHold b then d.preset b else d.modEng b fun e => { e with starting := false }
  else d

/-- The observer's tick of block p (R162, R236) with the currents and voltages of its bridge (POS0 serves A, POS1 B, whatever `POSSEL` names): the
commanded voltages with `VSRC` 1 in ACTIVE, else the measured ones. -/
def Dev.tickObserver (d : Dev) (p : Fin 2) (n : Nat) : Dev :=
  let b : Bridge := p
  let e := d.engS b
  let x := e.x
  let cs := cosSin30 (d.frameAngle b)
  let va := if d.bit (POS.OBSIN_VSRC p) && d.active b then roundDiv (e.vd * cs.1 - e.vq * cs.2) (2 ^ 30)
    else roundDiv (2 * vget x 5 - vget x 6 - vget x 7) 3
  let vb := if d.bit (POS.OBSIN_VSRC p) && d.active b then roundDiv (e.vd * cs.2 + e.vq * cs.1) (2 ^ 30)
    else overSqrt3 (vget x 6 - vget x 7)
  let ia := roundDiv (2 * vget x 0 - vget x 1 - vget x 2) 3
  let ib := overSqrt3 (vget x 1 - vget x 2)
  d.observerTick p (decide (d.role b = 1)) (d.sensorAngle p d.cycle) (d.amps20 b ia) (d.amps20 b ib) (d.volts20 b va) (d.volts20 b vb) n

/-- S8 in every state (R168), and S10: the update group is committed, or the band parameters loaded, in PRESET and ACTIVE (R171, R183, R189). -/
def Dev.tickOutput (d : Dev) (b : Bridge) (n dly : Nat) (guard : Bool) (z : Nat → Int) : Dev :=
  let run := d.engIs b 2 || d.active b
  match d.ctrl b with
  | 1 =>
    let r := d.stage8Carrier b n z
    if run then r.2.2.engineCommit b [(MOD.VA_VA b, ofSigned 24 r.1), (MOD.VB_VB b, ofSigned 24 r.2.1)] guard else r.2.2
  | 2 => if run then d.engineCommit b [(MOD.CMP_CMP b 0, d.chopRatio b (z 21))] guard else d
  | _ =>
    let d1 := d.stage8Band b run dly z
    if run then (d1.modEng b fun e => { e with tload := d.cycle + dly }).engineCommit b [] guard else d1

/-- Are the currents at or below 0.02 pu: id and iq, in DCDC the three inductor currents? -/
def Dev.currentsLow (d : Dev) (b : Bridge) : Bool :=
  let e := d.engS b
  (if d.role b = 3 then [vget e.x 0, vget e.x 1, vget e.x 2] else [e.id, e.iq]).all fun i => decide (100 * i.natAbs ≤ 536870912)

/-- The ticks with c = 0 and low currents of a clamp. -/
def Clamp.countLow (c : Clamp) (low : Bool) : Clamp := { c with low := if c.begun && decide (c.c = 0) && low then c.low + 1 else 0 }

/-- The same of an orderly stop, whose tick at which c reaches 0 stands for itself, as the example of 15 counts (log 19). -/
def Clamp.countAfter (c : Clamp) (low : Bool) : Clamp :=
  { c with low := if c.begun && decide (c.c = 0) then (if low && decide (0 < c.low) then c.low + 1 else 1) else 0 }

/-- An orderly stop, or the clamp of an SS1, is complete when c is 0 and |id| and |iq| have stayed at or below 0.02 pu for
two ticks: the engine goes to IDLE (R352, R371). -/
def Dev.stopComplete (d : Dev) (b : Bridge) : Dev :=
  if d.active b then
    let low := d.currentsLow b
    let d1 := d.modEng b fun e => { e with stop := e.stop.map fun c => c.countAfter low, ss1 := e.ss1.map fun c => c.countLow low }
    let fin (o : Option Clamp) (n : Nat) : Bool := match o with
      | some c => decide (n ≤ c.low)
      | none => false
    if fin (d1.engS b).stop 3 || fin (d1.engS b).ss1 2 then d1.engineTo b 1 else d1
  else d

/-- A bridge's part of a tick (R171, R175): states, S1, the PLL, the pattern and the losses of cycle 12, S2-S10. -/
def Dev.tickBridge (d : Dev) (b : Bridge) (n dly : Nat) (guard : Bool) : Dev :=
  let o := d.opens 32
  let z := o.1
  let d1 := ((o.2.tickState b).stage1 b).pllTick b n z
  let d2 := ((d1.safeSpeed b).deliverPattern b).engineLosses b
  let d3 := ((((d2.stage2 b).stage3 b z).testTick b n z).stepClamps b).stage4 b z
  let d4 := (((d3.stage5 b z).stage6 b z).stage7 b z).tickOutput b n dly guard z
  (d4.stage9 b n).stopComplete b

/-- The snapshot of a tick (R20, R21): angles latched, the request taken. -/
def Dev.tickBegin (d : Dev) : Dev :=
  let d1 := (d.takeSnap.posLatch 0 d.cycle).posLatch 1 d.cycle
  ((((d1.countWrap CE.TSTAT_TICKS).edge 128).edge 144).modCe fun c =>
    { c with tickPend := false, lastTick := some d.cycle, nominal := false, tickSrcs := [], len := d.tickCycles, tickTrig := true })

/-- The end of a tick: `LASTDUR`, the dataflow-complete sources, and the block commutation by angle (R171, R221). -/
def Dev.tickEnd (d : Dev) (n : Nat) : Dev :=
  let d1 := (((d.set CE.TSTAT_LASTDUR 1600).edge 129).edge 145)
  (((d1.tickObserver 0 n).tickObserver 1 n).commutate 0 d.cycle).commutate 1 d.cycle

/-- Does a requested tick start now? -/
def Dev.tickDue (d : Dev) : Bool := d.works 4 3 && d.bit CE.CTL_EN && d.vol.ce.tickPend

/-! ### Requests and losses -/

/-- Is source i delivered to target t (R342), by a controller without a parity error (R357)? -/
def Dev.delivered (d : Dev) (t i : Nat) : Bool :=
  !d.vol.flt.dead && d.bit (INTC.SRCCFG_PEND i) && !d.bit (INTC.SRCCFG_ACTIVE i) && d.bit (INTC.EN_E t i) &&
    decide (d.get (INTC.THR_THR t) < d.get (INTC.SRCCFG_PRIO i))

/-- TICK_REQUEST (R170, R347): `TDIV` where `TSRC` selects it, or a delivery to target 5 with `TICKEN` 1. -/
def execTickRequest (src : TickSrc) (s : State) : Host.Outcome State Fault Refusal :=
  s.lift fun d =>
    match src with
    | .tdiv => if 4 ≤ d.get CE.CTL_TSRC then d.tickRequest else d
    | .source i =>
      if d.bit (INTC.THR_TICKEN 5) && d.delivered 5 i then
        d.tickRequest.modCe fun c => { c with tickSrcs := union c.tickSrcs [i.val] }
      else d

/-- TICK_LOSS (R170): no tick for 250 µs while a bridge is active; the next tick takes the nominal period (R508). -/
def execTickLoss (s : State) : Host.Outcome State Fault Refusal :=
  s.lift fun d =>
    if d.domainUp 4 && d.anyBridgeActive then
      ((d.set CE.TSTAT_LOSS 1).assertLine 17 0).modCe fun c => { c with nominal := true }
    else d

/-- TICK_OVERRUN (R21): a torque check not complete before the next tick raises the tick-overrun line and is discarded. -/
def execTickOverrun (s : State) : Host.Outcome State Fault Refusal := s.lift fun d => if d.running then d.assertLine 17 0 else d

/-! ### Roles -/

/-- A write of `ROLE` (R168): taken in OFF and IDLE only, else `ROLEREJ`; the engine's state follows at the next tick (R172). -/
def Dev.roleWrite (d : Dev) (b : Bridge) (v : Nat) : Dev :=
  if d.engIs b 0 || d.engIs b 1 then d.set (CE.BCFG_ROLE b) v else d.set (CE.BSTAT_ROLEREJ b) 1

/-- ROLE_WRITE through the register (R168). -/
def execRoleWrite (m : Master) (b : Bridge) (v : BitVec 3) (s : State) : Host.Outcome State Fault Refusal :=
  s.lift fun d =>
    if d.accessAllowed m (0x40300100 + 0x800 * b) true then (d.roleWrite b v.toNat).busOk 0
    else d.busError m (0x40300100 + 0x800 * b) true

/-! ### Battery limits, test signals, interleave -/

/-- The limits of loop 4 of bridge b in mA (R180). -/
def Dev.setBatteryLimits (d : Dev) (b : Bridge) (dis chg : Nat) : Dev :=
  let o := d.opens 2
  (o.2.sset (CE.LPARP_LPARP b 4) (d.currentPu b dis (o.1 0))).sset (CE.LPARN_LPARN b 4) (d.currentPu b chg (o.1 1))

/-- BATTERY_LIMIT_TIMEOUT (R180): a timeout of 0 disables the check. -/
def execBatteryLimitTimeout (b : Bridge) (s : State) : Host.Outcome State Fault Refusal :=
  s.lift fun d =>
    if d.obj (0x3002 + 0x10 * b) 3 200000 = 0 then d
    else
      let fb := d.obj (0x3002 + 0x10 * b) 4 0
      (d.setBatteryLimits b fb fb).set (CE.BSTAT_BMS_STALE b) 1

/-- Does the summing point exist in the present control mode (R193)? -/
def Dev.testPointOk (d : Dev) (b : Bridge) : Bool :=
  match d.get (CE.TSTCFG_POINT b) with
  | 3 => decide (d.role b ≠ 3)
  | 4 | 5 => decide (d.role b ≠ 3) && decide ((d.snapOf b).ctrl ≠ 0)
  | _ => true

/-- The abort code of a refused test start, 0 where it is accepted (R193). A start that waits for its tick answers a second one as a running
generator does: the rule does not speak of it (DESIGN CHOICE, log 186). -/
def Dev.testRefusal (d : Dev) (b : Bridge) : Nat :=
  if d.get (CE.TSTCFG_TSTATE b) = 1 ∨ (d.engS b).test.start = true then 0x0640
  else if d.active b = false then 0x0622
  else if d.testPointOk b then 0 else 0x0611

/-- A test start, by the register (`obj` false) or by `0x3006:01`; a refused one through the register has no effect. -/
def Dev.testStart (d : Dev) (b : Bridge) (obj : Bool) : Dev :=
  if d.testRefusal b = 0 then
    let d1 := d.modEng b fun e => { e with test := { e.test with start := true } }
    if obj then d1.answer 0 0 else d1.busOk 0
  else if obj then d.abort (0x3006 + 0x10 * b) 1 (d.testRefusal b) 2 else d.busOk 0

/-- TEST_START (R193). -/
def execTestStart (m : Master) (obj : Bool) (b : Bridge) (s : State) : Host.Outcome State Fault Refusal :=
  s.lift fun d =>
    if d.accessAllowed (if obj then .dict else m) (0x40300500 + 0x800 * b) true then d.testStart b obj
    else d.busError m (0x40300500 + 0x800 * b) true

/-- TEST_DONE (R193): after the `LEN` ticks of the last snapshot (R172). -/
def execTestDone (b : Bridge) (s : State) : Host.Outcome State Fault Refusal :=
  s.lift fun d =>
    if d.get (CE.TSTCFG_TSTATE b) = 1 ∧ (d.snapOf b).tstLen ≤ (d.engS b).test.tick then
      ((d.set (CE.TSTCFG_TSTATE b) 2).edge (132 + 16 * b)).modEng b fun e => { e with test := { e.test with value := 0 } }
    else d

/-- INTERLEAVE_LOSS (R188): a phase error above 0.1 for 64 formed ticks. -/
def execInterleaveLoss (b : Bridge) (s : State) : Host.Outcome State Fault Refusal :=
  s.lift fun d =>
    if 64 ≤ vget (d.engS b).ilvN 1 ∨ 64 ≤ vget (d.engS b).ilvN 2 then d.set (CE.BANDEVT_ILV b) 1 else d

/-! ### The ASC estimate and the PLL -/

/-- ASC_ZERO_CROSSING at CECLK cycle t (R242): it counts where the slot-0 current has passed from below -256 to above +256 codes; the estimate is
valid from the second crossing on. -/
def execAscZeroCrossing (b : Bridge) (t : Nat) (s : State) : Host.Outcome State Fault Refusal :=
  s.lift fun d =>
    if d.ascApplied b && decide ((d.engS b).ascX = 2) then
      match (d.engS b).ascLast with
      | none => d.modEng b fun e => { e with ascX := 0, ascLast := some t }
      | some t0 => d.modEng b fun e =>
          { e with ascX := 0, ascLast := some t, ascEst := some (sat32 (roundDiv (400000000 * 65536) ((t - t0) * d.motPP (d.posSel b)))) }
    else d

/-- ASC_ESTIMATE_TIMEOUT (R242): no crossing for 50 ms; an estimate of 0 is valid. -/
def execAscEstimateTimeout (b : Bridge) (s : State) : Host.Outcome State Fault Refusal :=
  s.lift fun d => if d.ascApplied b then d.modEng b fun e => { e with ascEst := some 0 } else d

/-- `LOCKN` as the last snapshot took it (R172); 0 acts as 1 (Table 8-7). -/
def Dev.pllLockN (d : Dev) (b : Bridge) : Nat := max 1 (d.snapOf b).lockN

/-- PLL_LOCK (R245). -/
def execPllLock (b : Bridge) (s : State) : Host.Outcome State Fault Refusal :=
  s.lift fun d =>
    let st := d.get (CE.PLLST_PLLST b)
    if (st = 1 ∨ st = 3) ∧ d.pllLockN b ≤ (d.engS b).pllGood then d.set (CE.PLLST_PLLST b) 2 else d

/-- PLL_LOST (R245, R246): an ACTIVE GRID bridge sets `GRIDLOSS`, raises its line (28) and goes to its safe state. -/
def execPllLost (b : Bridge) (s : State) : Host.Outcome State Fault Refusal :=
  s.lift fun d =>
    if d.get (CE.PLLST_PLLST b) = 2 ∧ d.pllLockN b ≤ (d.engS b).pllBad then
      (d.set (CE.PLLST_PLLST b) 3).when (d.active b && decide (d.role b = 2)) fun d =>
        ((d.set (CE.PLLST_GRIDLOSS b) 1).assertLine 28 (brMask b)).safeCause b (GL.BSTAT_ENGINE b)
    else d

/-! ### The LIMP_CMD pin -/

/-- The measurement mode; 3 acts as 0 (Table 8-9). -/
def Dev.limpMode (d : Dev) : Nat := d.get CE.LIMPCFG_LMODE % 3

/-- Is a measurement inside its window (R251)? In frequency mode, and in duty mode, in the units of `RAW`. -/
def Dev.limpInside (d : Dev) (v : Nat) : Bool :=
  match d.limpMode with
  | 0 => decide (250 ≤ v) && decide (v ≤ 4750)
  | 1 => decide (500 ≤ v) && decide (v ≤ 9500)
  | _ => decide (50 ≤ v) && decide (v ≤ 12000)

/-- LIMP_MEASUREMENT (R250, R251). -/
def execLimpMeasurement (v : BitVec 16) (s : State) : Host.Outcome State Fault Refusal :=
  s.lift fun d =>
    if !d.works 4 3 then d
    else if !d.limpOwned then d.limpInvalid
    else if d.limpInside v.toNat then
      (d.set CE.LIMPST_RAW v.toNat).modCe fun c =>
        { c with limp := (d.now, v.toNat) :: c.limp, limpFrom := some (c.limpFrom.getD d.now) }
    else (d.set CE.LIMPST_RAW v.toNat).limpInvalid

/-- LIMP_EDGE_TIMEOUT (R251): in duty and frequency modes. -/
def execLimpEdgeTimeout (s : State) : Host.Outcome State Fault Refusal :=
  s.lift fun d => if d.works 4 3 && d.limpOwned && decide (d.limpMode ≠ 0) then d.limpInvalid else d

/-- The averaging window in alignment epochs: `LFILT` ms of 4,000 each; 0 acts as 1 (Table 8-9). -/
def Dev.limpWindow (d : Dev) : Nat := 4000 * max 1 (d.get CE.LIMPCFG_LFILT)

/-- LIMP_VALID (R251): after `LFILT` ms of valid measurements, none of them invalid. -/
def execLimpValid (s : State) : Host.Outcome State Fault Refusal :=
  s.lift fun d =>
    match d.vol.ce.limpFrom with
    | some t => if d.works 4 3 && d.limpOwned && decide (t + d.limpWindow ≤ d.now) then d.set CE.LIMPST_VALID 1 else d
    | none => d

/-- The mapped command of a window with sum m and n measurements (R251). -/
def Dev.limpMap (d : Dev) (m n : Nat) : Int :=
  let lo : Int := match d.limpMode with | 0 => 500 | 1 => 1000 | _ => 100
  let hi : Int := match d.limpMode with | 0 => 4500 | 1 => 9000 | _ => 10000
  let num := clampInt 0 ((hi - lo) * n) ((m : Int) - lo * n)
  sat32 (d.sget CE.LIMPLO_LLO + roundDiv (num * (d.sget CE.LIMPHI_LHI - d.sget CE.LIMPLO_LLO)) ((hi - lo) * n).toNat)

/-- LIMP_VALUE_UPDATE (R251): every 100 µs from the valid measurements of the last `LFILT` ms (4,000 epochs each); where none lies there, the
value is the last one: the rule states none (DESIGN CHOICE, log 187). -/
def execLimpValueUpdate (s : State) : Host.Outcome State Fault Refusal :=
  s.lift fun d =>
    let keep := d.vol.ce.limp.filter fun x => decide (d.now ≤ x.1 + d.limpWindow)
    let d1 := d.modCe fun c => { c with limp := keep }
    if !d.works 4 3 then d
    else if !d.limpOwned then d.limpInvalid
    else if !d.bit CE.LIMPST_VALID then
      d1.limpInvalid.modCe fun c => { c with limp := keep, limpFrom := d.vol.ce.limpFrom }
    else if keep.isEmpty then d1
    else d1.sset CE.LIMPVAL_LVAL (d.limpMap (keep.foldl (fun n x => n + x.2) 0) keep.length)

/-- COMMAND_TIMEOUT (R252): the pin takes over an ACTIVE bridge's command; `AUTO` acts as 0 in SECOND_LIFE. -/
def execCommandTimeout (b : Bridge) (s : State) : Host.Outcome State Fault Refusal :=
  s.lift fun d =>
    if d.bit CE.LIMPCFG_AUTO && !d.secondLife && decide (d.cmdSrc b = 0) && d.active b && decide (d.get CE.LIMPTMO_CMDTMO ≠ 0) then
      d.set (if b = 0 then CE.LIMPST_ACTA else CE.LIMPST_ACTB) 1
    else d

end Sys2Proof.Machine
end

