-- ==== Sys2Proof/Machine/Voter.lean ====
section
/-! DEFINITION. What the Keystone voter knows of the targets (R308, R325): which harts run, which span is split or compared, and the value that
is agreed of an asynchronous input. -/

namespace Sys2Proof.Machine

/-- Change Keystone's own state. -/
def Dev.modKs (d : Dev) (f : KsState → KsState) : Dev := { d with vol := { d.vol with ks := f d.vol.ks } }

/-- Three values by the number of their hart. -/
def pick3 {α : Type} (x0 x1 x2 : α) (h : Fin 3) : α := if h = 0 then x0 else if h = 1 then x1 else x2

/-- The harts of Truss that run: neither held nor retired (R313, R315). -/
def Dev.trussHarts (d : Dev) : List (Fin 3) := (List.finRange 3).filter fun h => !natBit (d.get KS.TSTAT_HELDM) h

/-- Truss has no majority left (R316). -/
def Dev.trussStop (d : Dev) : Dev := ((d.set KS.TSTAT_DBL 1).set KS.TSTAT_MODE 3).assertLine 12 0

/-- With fewer than two harts there is no majority. -/
def Dev.trussShort (d : Dev) : Dev := d.when (decide (d.trussHarts.length < 2)) Dev.trussStop

/-- Is span sp split? -/
def Dev.split (d : Dev) (sp : Fin 2) : Bool := if sp = 0 then d.bit LC.BOOTSTAT_SPLIT0 else d.bit LC.BOOTSTAT_SPLIT1

/-- The index of hart h of span sp; a lock-step span counts as its hart 0. -/
def Dev.spanIdx (d : Dev) (sp h : Fin 2) : Fin 4 := if d.split sp then ⟨2 * sp.val + h.val, by omega⟩ else ⟨2 * sp.val, by omega⟩

/-- Does span sp run in lock-step, compared (R318, R330)? -/
def Dev.lockstep (d : Dev) (sp : Fin 2) : Bool := d.works 2 1 && d.spansOut && decide (d.get (KS.SPSTAT_MODE sp) = 0)

/-- The agreed value of class 0 (Table 11-7): the majority of three samples, both of a pair; a single sampler's value as it is. -/
def agreed0 : List Bool → Bool
  | [x, y, z] => (x && y) || (y && z) || (x && z)
  | l => l.all id

/-- The agreed value of class 1 (Table 11-7): the median of three samples, the lesser of a pair; a single sampler's value as it is. -/
def agreed1 : List Nat → Nat
  | [x, y, z] => max (min x y) (min (max x y) z)
  | [x, y] => min x y
  | x :: _ => x
  | [] => 0

/-- The value of a class-0 input that a target's harts take (R324): in AGREE the agreed value, in DELAY the sample of the first hart that runs (log 155). -/
def taken0 (agree : Bool) (l : List Bool) : Bool := agreed0 (if agree then l else l.take 1)

/-- The same for class 1. -/
def taken1 (agree : Bool) (l : List Nat) : Nat := agreed1 (if agree then l else l.take 1)

/-- Does a hart's sample of class 1 disagree (R328)? -/
def apart1 (agreed x : Nat) : Bool := decide (4 < max agreed x - min agreed x)

/-- Does a hart's sample of class 0 disagree: it differs from the agreed bit in eight consecutive sampling cycles (R328)? -/
def apart0 (running : List (BitVec 8)) (x : BitVec 8) : Bool :=
  (List.range 8).all fun j => decide (x.getLsbD j ≠ agreed0 (running.map fun r => r.getLsbD j))

end Sys2Proof.Machine
end

