-- ==== Sys2Proof/Machine/SafetyIo.lean ====
section
/-! DEFINITION. Chapter 13: safety inputs, test pulses, STO and its diagnostics, SS1, contactors, the torque monitor and
Causeway; with the bridge start and stop (R442) and the clearing of the causes of a bridge safe state (R280). -/

namespace Sys2Proof.Machine

/-- Change the safety state. -/
def Dev.modSafe (d : Dev) (f : SafeState → SafeState) : Dev := { d with vol := { d.vol with safe := f d.vol.safe } }

/-- Does the safety I/O block work? -/
def Dev.sioWorks (d : Dev) : Bool := d.running && d.domainUp 1

/-- Does the resident firmware run: Truss is neither stopped nor halted (R316, R332)? -/
def Dev.trussWorks (d : Dev) : Bool := d.sioWorks && decide (d.get KS.TSTAT_MODE ≠ 3) && !natBit (d.get KS.DBG_TGT) 0

/-- Both bridges. -/
def bridges : List Bridge := [0, 1]

/-! ### SS1 -/

/-- Is STO of bridge x requested by Causeway, or by its loss with `LOSSACT` 2 or 3 (R382, R383)? -/
def Dev.cwSto (d : Dev) (x : Bridge) : Bool :=
  natBit (d.get SIO.SWREQ_CWREQ) x || (d.vol.safe.loss && decide (2 ≤ d.get SIO.CWCFG_LOSSACT))

/-- The input that governs input i: SIN2k where it pairs with SIN2k+1 (R365). -/
def Dev.inGov (d : Dev) (i : Nat) : Nat := if 2 ≤ i ∧ d.bit (SIO.INCFG_PAIR (i / 2 * 2)) then i / 2 * 2 else i

/-- Does input i demand (R364, R365)? -/
def Dev.inDemands (d : Dev) (i : Nat) : Bool := d.bit (SIO.INCFG_USE (d.inGov i)) && natBit (d.get SIO.INSTAT_DEM) i

/-- The function of input i (Table 13-1). -/
def Dev.inFunc (d : Dev) (i : Nat) : Nat :=
  if i = 0 then 1 else if i = 1 then 2 else if d.get (SIO.INCFG_FUNC (d.inGov i)) ≤ 6 then d.get (SIO.INCFG_FUNC (d.inGov i)) else 0

/-- Does a SIN input demand function f? -/
def Dev.sinDemands (d : Dev) (f : Nat) : Bool := [2, 3, 4, 5, 6, 7, 8, 9].any fun i => d.inDemands i && decide (d.inFunc i = f)

/-- Is SS1 of bridge x requested (R371, R383)? -/
def Dev.ss1Requested (d : Dev) (x : Bridge) : Bool :=
  d.sinDemands (4 + x) || d.sinDemands 6 || natBit (d.get SIO.SWREQ_CWREQ) (2 + x) || natBit (d.get SIO.SWREQ_OBJSS1) x ||
  (d.vol.safe.loss && decide (d.get SIO.CWCFG_LOSSACT = 1))

/-- `SS1T` within its limits. -/
def Dev.ss1Time (d : Dev) (x : Bridge) : Nat := max 1 (min 10000 (d.get (SIO.SS1_SS1T x)))

/-- The SS1 of bridge x becomes DONE and sets its STO source (R372). -/
def Dev.ss1Finish (d : Dev) (x : Bridge) : Dev :=
  (((d.set (SIO.SS1_ST x) 2).set (SIO.SS1R_REM x) 0).modSafe fun s => { s with ss1Done := vset s.ss1Done x d.now }).stoSource x 2 true

/-- A first SS1 request moves the SS1 to DECEL, starts its timer and clamps an ACTIVE bridge; a bridge that is not ACTIVE goes
to DONE at once (R371, R372). -/
def Dev.ss1Follow (d : Dev) (x : Bridge) : Dev :=
  if d.ss1Requested x && decide (d.get (SIO.SS1_ST x) = 0) then
    let d1 := ((d.set (SIO.SS1_ST x) 1).set (SIO.SS1R_REM x) (d.ss1Time x)).modSafe fun s => { s with ss1From := vset s.ss1From x d.now }
    if d.active x then
      d1.modEng x fun e => { e with ss1 := some { c := 0, rate := (d.get (SIO.SS1R_SS1RATE x) : Int) * 4096, begun := false, low := 0 } }
    else d1.ss1Finish x
  else d

/-- The time to expiry of a running SS1 is shown, in ms that have begun (log 163). -/
def Dev.showSs1 (d : Dev) : Dev :=
  d.each bridges fun d x =>
    if d.get (SIO.SS1_ST x) = 1 then d.set (SIO.SS1R_REM x) ((4000 * d.ss1Time x - (d.now - vget d.vol.safe.ss1From x) + 3999) / 4000) else d

/-- The inputs and the Causeway requests reach STO and SS1 (R365, R368, R371, R382). -/
def Dev.safetyFollow (d : Dev) : Dev :=
  d.each bridges fun d x =>
    (((d.stoSource x 0 (d.inDemands x)).stoSource x 1 (d.sinDemands (1 + x) || d.sinDemands 3)).stoSource x 3 (d.cwSto x)).ss1Follow x

/-- INPUT_DEMAND_CHANGE (R364, R369). -/
def execInputDemandChange (i : Fin 10) (low : Bool) (s : State) : Host.Outcome State Fault Refusal :=
  s.lift fun d =>
    if !d.sioWorks || natBit (d.get SIO.INSTAT_DEM) i = low then d
    else
      let dem := d.get SIO.INSTAT_DEM
      ((d.set SIO.INSTAT_DEM (if low then dem + 2 ^ i.val else dem - 2 ^ i.val)).when (decide (2 ≤ i.val)) fun d => d.edge (240 + i)).safetyFollow

/-- PAIR_DISCREPANCY (R365). -/
def execPairDiscrepancy (k : Fin 4) (s : State) : Host.Outcome State Fault Refusal :=
  s.lift fun d =>
    let i := 2 + 2 * k.val
    if d.sioWorks && d.bit (SIO.INCFG_PAIR i) && d.bit (SIO.INCFG_USE i) &&
        decide (natBit (d.get SIO.INSTAT_DEM) i ≠ natBit (d.get SIO.INSTAT_DEM) (i + 1)) then
      (d.set SIO.TPSTAT_DISCERR (d.get SIO.TPSTAT_DISCERR ||| 2 ^ k.val)).assertLine 49 0
    else d

/-- SS1_REQUEST (R371); not in LOCKOUT (R441). -/
def execSs1Request (v : BitVec 8) (s : State) : Host.Outcome State Fault Refusal :=
  s.lift fun d =>
    if d.get DE.STAT_OPSTATE = 6 then d.abort 0x3040 1 0x0622 0
    else if v.toNat ≤ 3 then (d.set SIO.SWREQ_OBJSS1 v.toNat).safetyFollow.answer 0 0 else d.abort 0x3040 1 0x0611 0

/-- SS1_EXPIRY (R372). -/
def execSs1Expiry (b : Bridge) (s : State) : Host.Outcome State Fault Refusal :=
  s.lift fun d => if d.get (SIO.SS1_ST b) = 1 then d.ss1Finish b else d

/-- SS1_RETURN_IDLE (R372): at a resynchronisation point. -/
def Dev.ss1Return (d : Dev) (x : Bridge) : Dev :=
  if d.get (SIO.SS1_ST x) = 2 ∧ vget d.vol.safe.ss1Done x + 4000 ≤ d.now ∧ d.ss1Requested x = false then
    (d.set (SIO.SS1_ST x) 0).stoSource x 2 false
  else d

/-! ### Test pulses and STO diagnostics -/

/-- Is input i judged at the test pulses (R364, R367)? -/
def Dev.tpJudged (d : Dev) (i : Fin 10) : Bool := d.bit (SIO.INCFG_USE (d.inGov i)) && decide (d.get (SIO.INCFG_TPSEL i) ≤ 3)

/-- Input i fails at the pulse of line j (Table 13-2). -/
def Dev.tpFails (d : Dev) (j : Fin 4) (i : Fin 10) (pre mid post : Nat) : Bool :=
  d.tpJudged i && natBit pre i && natBit post i && (if d.get (SIO.INCFG_TPSEL i) = j.val then natBit mid i else !natBit mid i)

/-- An error of input i: with its first one in `TPNERR` + 1 consecutive periods, `TPERR` and the line of the input. -/
def Dev.tpError (d : Dev) (i : Fin 10) : Dev :=
  if vget d.vol.safe.errThis i then d
  else
    let n := vget d.vol.safe.errN i + 1
    let d1 := d.modSafe fun s => { s with errThis := vset s.errThis i true, errN := vset s.errN i n }
    if d.get SIO.TPCFG_TPNERR + 1 ≤ n then
      let d2 := d1.set SIO.TPSTAT_TPERR (d1.get SIO.TPSTAT_TPERR ||| 2 ^ i.val)
      if h : i.val < 2 then d2.stoDiag ⟨i.val, h⟩ else d2.assertLine 48 0
    else d1

/-- Does a line's read-back, sampled every 10 µs from the start of its pulse, differ from the driven level in three samples in a row: low for the 40
samples of the pulse, then high (R366)? -/
def readBackBad (l : List Bool) : Bool :=
  let wrong := fun k => match l[k]? with | some v => decide (v ≠ decide (40 ≤ k)) | none => false
  (List.range l.length).any fun k => wrong k && wrong (k + 1) && wrong (k + 2)

/-- TEST_PULSE (R366, R367); the pulse of line 0 begins a period. -/
def execTestPulse (j : Fin 4) (readBack : List Bool) (pre mid post : BitVec 10) (s : State) : Host.Outcome State Fault Refusal :=
  s.lift fun d =>
    if !d.sioWorks then d
    else
      let d1 := d.when (decide (j = 0)) fun d => d.modSafe fun s =>
        { s with errThis := .replicate 10 false, errN := .ofFn fun i => if vget s.errThis i then vget s.errN i else 0 }
      if natBit (d.get SIO.CTL_TPEN) j then
        let d2 := d1.when (readBackBad readBack) fun d => (d.set SIO.TPSTAT_TPOERR (d.get SIO.TPSTAT_TPOERR ||| 2 ^ j.val)).assertLine 48 0
        d2.each (List.finRange 10) fun d i => if d.tpFails j i pre.toNat mid.toNat post.toNat then d.tpError i else d
      else d1

/-- STO_GATE_FEEDBACK_CHECK (R370): a position ARMED and not back at GATE_OFF. -/
def execStoGateFeedbackCheck (b : Bridge) (s : State) : Host.Outcome State Fault Refusal :=
  s.lift fun d =>
    if d.sioWorks && d.bit (SIO.STO_ACT b) && (bridgeChans b).any fun n => d.armed n && decide ((d.gate n).rep ≠ some false) then
      (d.set (SIO.STO_GATEF b) 1).stoDiag b
    else d

/-- A sample of reader 2 passes Truss's filter: the filtered level changes after n samples in a row of the other level (R370). -/
def filterLevel (n : Nat) (r : Bool × Nat) (x : Bool) : Bool × Nat :=
  if x = r.1 then (r.1, 0) else if n ≤ r.2 + 1 then (x, 0) else (r.1, r.2 + 1)

/-- `FILT` of input i within its limits (Table 13-5). -/
def Dev.inFilt (d : Dev) (i : Nat) : Nat := max 100 (min 1000 (d.get (SIO.INCFG_FILT i)))

/-- The samples of reader 2 reach `LEVEL`, whether Truss runs or not (R364). -/
def Dev.sampleLevels (d : Dev) (levels : List Nat) : Dev := d.set SIO.INSTAT_LEVEL (levels.getLast?.getD (d.get SIO.INSTAT_LEVEL))

/-- The samples of reader 2 reach Truss's filters of the STO pins (R370). -/
def Dev.readLevels (d : Dev) (levels : List Nat) : Dev :=
  d.modSafe fun s =>
    { s with rd2 := .ofFn fun x => (levels.map fun l => natBit l x).foldl (filterLevel (d.inFilt x)) (vget s.rd2 x) }

/-- READER_DISAGREEMENT (R370): the filtered level of reader 2 contradicts `DEM`, which is set at low. -/
def Dev.readerCheck (d : Dev) (x : Bridge) : Dev :=
  let n := if (vget d.vol.safe.rd2 x).1 = natBit (d.get SIO.INSTAT_DEM) x then vget d.vol.safe.rdN x + 1 else 0
  let d1 := d.modSafe fun s => { s with rdN := vset s.rdN x (min n 3) }
  if 3 ≤ n ∧ d.bit (SIO.INCFG_USE x) = true then (d1.set (SIO.STO_RDDIS x) 1).stoDiag x else d1

/-! ### Contactors -/

/-- Does a cause named in `OPENON` of contactor k hold (R374)? -/
def Dev.openCause (d : Dev) (k : Fin 4) : Bool :=
  let o := d.get (SIO.CTRCFG_OPENON k)
  (natBit o 0 && d.bit FCOL.REACT_MSS) || (natBit o 1 && d.bit (SIO.STO_DIAGLAT 0)) || (natBit o 2 && d.bit (SIO.STO_DIAGLAT 1)) ||
  (natBit o 3 && [0, 1, 2, 3].any fun j => decide (j ≠ k.val) && d.bit (SIO.CTRSTAT_FBERR j))

/-- CONTACTOR_CLOSE (R373). -/
def execContactorClose (k : Fin 4) (s : State) : Host.Outcome State Fault Refusal :=
  s.lift fun d =>
    if d.get DE.STAT_OPSTATE = 6 ∨ d.openCause k = true then d.abort 0x3041 (k.val + 1) 0x0622 0
    else (d.modSafe fun s => { s with ctr := vset s.ctr k (some true) }).answer 0 0

/-- CONTACTOR_OPEN (R373). -/
def execContactorOpen (k : Fin 4) (s : State) : Host.Outcome State Fault Refusal :=
  s.lift fun d => (d.modSafe fun s => { s with ctr := vset s.ctr k (some false) }).answer 0 0

/-- The frame's work on contactor k: the request, then the forced opening (R373, R374). -/
def Dev.ctrFrame (d : Dev) (k : Fin 4) : Dev :=
  let d1 := match vget d.vol.safe.ctr k with
    | some true => (d.when (!d.bit (SIO.CTRCFG_DRV k)) fun d => d.countWrap (SIO.CTRSTAT_OPS k)).set (SIO.CTRCFG_DRV k) 1
    | some false => d.set (SIO.CTRCFG_DRV k) 0
    | none => d
  let d2 := d1.modSafe fun s => { s with ctr := vset s.ctr k none }
  if d2.openCause k && d2.bit (SIO.CTRCFG_DRV k) then (d2.set (SIO.CTRCFG_DRV k) 0).set (SIO.CTRSTAT_FORCED k) 1 else d2

/-- CONTACTOR_FEEDBACK_MISMATCH (R375). -/
def execContactorFeedbackMismatch (k : Fin 4) (level : Bool) (s : State) : Host.Outcome State Fault Refusal :=
  s.lift fun d =>
    let d1 := d.setBit (SIO.CTRSTAT_FB k) level
    if d.sioWorks && d.bit (SIO.CTRCFG_FBEN k) && decide (level ≠ xor (d.bit (SIO.CTRCFG_DRV k)) (d.bit (SIO.CTRCFG_FBINV k))) then
      (d1.set (SIO.CTRSTAT_FBERR k) 1).assertLine 50 0
    else d1

/-! ### The safety parameter set -/

/-- The defaults of the safety parameter set (Table 13-6). -/
def safetyDefault (i s : Nat) : Nat :=
  match i with
  | 0x5000 =>
    if s = 0x0B then 0x1401 else if s = 0x0C then 0x0F
    else if s = 1 then 0x00780108 else if s = 2 then 0x00780209 else 0x00780004
  | 0x5001 => if s ≤ 2 then 200 else 256
  | 0x5002 => 0x00320106
  | 0x5003 => if s = 7 then 20 else if s = 8 then 200 else if s = 9 then 8 else if s = 10 then 0x00140C04 else 0
  | 0x5004 => if s = 7 then 20 else if s = 8 then 200 else if s = 9 then 8 else if s = 10 then 0x002C241C else 0
  | 0x5005 => if s = 1 then 0x02008A00 else 0x64
  | _ => 0

/-- A value of the set in force. -/
def Dev.setVal (d : Dev) (i s : Nat) : Nat := rfGet d.vol.safe.set (i * 256 + s) (safetyDefault i s)

/-- A single-precision number with 40 fraction bits; an infinity or a number that is none is open. -/
def f32Fix (w : Nat) : Int :=
  let e := natField w 23 8
  let m : Int := if e = 0 then natField w 0 23 else natField w 0 23 + 8388608
  let sh := max 1 e
  if e = 255 then Config.freeInt w
  else
    let v := if 110 ≤ sh then m * 2 ^ (sh - 110) else roundDiv m (2 ^ (110 - sh))
    if natBit w 31 then -v else v

/-- A parameter of the torque monitor of bridge b with 40 fraction bits. -/
def Dev.tqParam (d : Dev) (b : Bridge) (s : Nat) : Int := f32Fix (d.setVal (0x5003 + b) s)

/-! ### The torque monitor -/

/-- Change the torque monitor of bridge b. -/
def Dev.modTq (d : Dev) (b : Bridge) (f : TqState → TqState) : Dev := d.modSafe fun s => { s with tq := vset s.tq b (f (vget s.tq b)) }

/-- A value of channel `tag` scaled as slot n (R173; log 38). -/
def Dev.scaledTag (d : Dev) (b : Bridge) (n tag : Nat) : Int := sat32 (d.slotScale b n (d.lastCode tag))

/-- The secondary current of phase p, and the voltage of phase p (R376). -/
def Dev.tqCurrent (d : Dev) (b : Bridge) (p : Nat) : Int := d.scaledTag b p (natField (d.setVal (0x5003 + b) 10) (8 * p) 7)
def Dev.tqVoltage (d : Dev) (b : Bridge) (p : Nat) : Int := d.scaledTag b (5 + p) (d.get (CE.INSLOT_TAG b (5 + p)))

/-- Clarke. -/
def clarkeA (x y z : Int) : Int := roundDiv (2 * x - y - z) 3
def clarkeB (y z : Int) : Int := overSqrt3 (y - z)

/-- One component of the flux after a tick of n CECLK cycles, in 2^-40 pu of `BASEV` / ω_e,base (R376; log 38); with
`TMTAU` 0 the decay has no value, and z is the flux. -/
def Dev.fluxNext (d : Dev) (b : Bridge) (ps v i z : Int) (n : Nat) : Int :=
  let tau := d.setVal (0x5003 + b) 7
  if tau = 0 then z
  else
    let u := v * 4096 - roundDiv (d.tqParam b 3 * i) 268435456
    ps + roundDiv (u * (d.baseSpd b * d.motPP (d.posSel b) * n : Nat) * 6283185307179586) (60 * 400000000 * 10 ^ 15) -
      roundDiv (ps * n) (400000 * tau)

/-- The estimate of a MOTOR bridge (R376): t_m in Q4.28, and whether the magnitude bound is in use. -/
def Dev.tqMotor (d : Dev) (b : Bridge) (n : Nat) (z : Nat → Int) : (Int × Bool) × Dev :=
  let i := fun p => d.tqCurrent b p
  let v := fun p => d.tqVoltage b p
  let ia := clarkeA (i 0) (i 1) (i 2)
  let ib := clarkeB (i 1) (i 2)
  let t := vget d.vol.safe.tq b
  let pa := d.fluxNext b t.psA (clarkeA (v 0) (v 1) (v 2)) ia (z 0) n
  let pb := d.fluxNext b t.psB (clarkeB (v 1) (v 2)) ib (z 1) n
  -- the zero vector has no angle: an open one (log 38)
  let ang := if pa = 0 ∧ pb = 0 then ofSigned 32 (openIn (0, 4294967295) (z 2)) else ofSigned 32 (roundDiv (atanTurns pb pa) (2 ^ 32))
  let fast := match t.ang with
    | some a => decide (d.setVal (0x5003 + b) 8 * (2 ^ 32 * n : Nat) ≤ (toSigned 32 (ang + 2 ^ 32 - a)).natAbs * 4000000000)
    | none => false
  let d1 := d.modTq b fun t => { t with psA := pa, psB := pb, ang := some ang }
  if fast then ((sat32 (roundDiv (d.tqParam b 1 * roundDiv (pa * ib - pb * ia) (2 ^ 40)) (2 ^ 40)), false), d1)
  else
    let mag : Int := isqrtNear (ia * ia + ib * ib).toNat
    ((sat32 (roundDiv (d.tqParam b 1 * roundDiv (d.tqParam b 2 * mag) (2 ^ 40)) (2 ^ 40)), true), d1)

/-- The estimate of a GRID or DCDC bridge: the mean of the powers of the last 8 ticks (R376). -/
def Dev.tqPower (d : Dev) (b : Bridge) : (Int × Bool) × Dev :=
  let p := roundDiv (d.tqVoltage b 0 * d.tqCurrent b 0 + d.tqVoltage b 1 * d.tqCurrent b 1 + d.tqVoltage b 2 * d.tqCurrent b 2) 268435456
  let h := (p :: (vget d.vol.safe.tq b).hist).take 8
  ((sat32 (roundDiv (h.foldl (· + ·) 0) h.length), false), d.modTq b fun t => { t with hist := h })

/-- The envelope that Truss writes: the set's, and the narrower one of Causeway (R378, R380). -/
def Dev.envelope (d : Dev) (b : Bridge) (s lim : Nat) : Int :=
  let e := max 0 (roundDiv (d.tqParam b s) 4096)
  sat32 (if lim = 65535 then e else min e (roundDiv ((lim : Int) * 268435456) 1000))

/-- The torque check of bridge b (R376, R377), then the write of loop 6 (R378). -/
def Dev.torqueCheck (d : Dev) (b : Bridge) : Dev :=
  let d0 :=
    if d.role b = 0 then
      (d.set (SIO.TMSTAT_TMRUN b) 0).modTq b fun _ => { psA := 0, psB := 0, ang := none, hist := [], bad := 0, wrote := (vget d.vol.safe.tq b).wrote }
    else
      let o := d.opens 3
      let r := if d.role b = 1 then o.2.tqMotor b (max 1 d.vol.ce.len) o.1 else o.2.tqPower b
      let tm := r.1.1
      let low := r.1.2
      let tol := roundDiv (d.tqParam b 4) 4096
      let envP := roundDiv (d.tqParam b 5) 4096
      let envN := roundDiv (d.tqParam b 6) 4096
      let lp := d.sget (CE.LPARP_LPARP b 6)
      let ln := d.sget (CE.LPARN_LPARN b 6)
      let dem := d.sget (CE.DEM_DEM b)
      let envBad := decide (dem < -ln) || decide (lp < dem) ||
        (match (vget d.vol.safe.tq b).wrote with | some w => decide ((lp, ln) ≠ w) | none => false)
      let bad := envBad || (if low then decide (max envP envN + tol < tm) else decide (tm < -envN - tol) || decide (envP + tol < tm))
      ((((r.2.set (SIO.TMSTAT_TMRUN b) 1).sset (SIO.TM_TEST b) tm).setBit (SIO.TMSTAT_LOW b) low).modTq b fun t =>
        { t with bad := if bad then t.bad + 1 else 0 }).when envBad fun d => d.set (SIO.TMSTAT_ENVERR b) 1
  let w := (d0.envelope b 5 d.vol.safe.envP, d0.envelope b 6 d.vol.safe.envN)
  ((d0.sset (CE.LPARP_LPARP b 6) w.1).sset (CE.LPARN_LPARN b 6) w.2).modTq b fun t => { t with wrote := some w }

/-- TORQUE_CHECK (R376, R377): both bridges, then source 257. -/
def execTorqueCheck (s : State) : Host.Outcome State Fault Refusal :=
  s.lift fun d => if d.trussWorks then ((d.torqueCheck 0).torqueCheck 1).edge 257 else d

/-- TORQUE_MONITOR_TRIP (R377). -/
def execTorqueMonitorTrip (b : Bridge) (s : State) : Host.Outcome State Fault Refusal :=
  s.lift fun d =>
    if d.trussWorks = true ∧ max 1 (min 64 (d.setVal (0x5003 + b) 9)) ≤ (vget d.vol.safe.tq b).bad ∧ d.bit (SIO.TMSTAT_TQERR b) = false then
      ((d.set (SIO.TMSTAT_TQERR b) 1).countSat (SIO.TMSTAT_TRIPS b)).assertLine 51 (brMask b)
    else d

/-! ### Causeway -/

/-- CRC-32 with the reflected Castagnoli polynomial: one byte (R379). -/
def crcStep : Nat → Nat → Nat
  | 0, c => c
  | n + 1, c => crcStep n (if c % 2 = 1 then (c / 2) ^^^ 0x82F63B78 else c / 2)

/-- The CRC over bytes from an initial remainder. -/
def crcFrom : Nat → List (BitVec 8) → Nat
  | c, [] => c
  | c, b :: t => crcFrom (crcStep 8 (c ^^^ b.toNat)) t

/-- The CRC-32 of R379. -/
def crc32c (l : List (BitVec 8)) : Nat := crcFrom 0xFFFFFFFF l ^^^ 0xFFFFFFFF

/-- The ports of Causeway, or none (R379, R413). -/
def Dev.cwPorts (d : Dev) : List (Fin 4 × Bool) :=
  let a : Fin 4 := ⟨d.get SIO.CWCFG_PORTA % 4, Nat.mod_lt _ (by decide)⟩
  let b : Fin 4 := ⟨d.get SIO.CWCFG_PORTB % 4, Nat.mod_lt _ (by decide)⟩
  if a = b then [] else [(a, false), (b, true)].filter fun x => d.bit (CAN.CTL_FDEN x.1)

/-- A command is accepted (R381, R382). -/
def Dev.cwAccept (d : Dev) (c : CwCopy) (one : Bool) : Dev :=
  let step := (c.seq + 65536 - d.get SIO.CWSTAT_LASTSEQ) % 65536
  let d1 := (((d.set SIO.CWSTAT_LASTSEQ c.seq).countWrap SIO.CWCNT_ACCEPTED).when (decide (1 < step)) fun d => d.set SIO.CWSTAT_SEQGAP 1).modSafe
    fun s => { s with held := none, accData := c.data, cmd := some c.data, loss := false }
  (d1.when one fun d => ((d.set SIO.CWSTAT_ONEPATH 1).countSat SIO.CWCNT_ONEPATHS).edge 258).safetyFollow

/-- Copies that differ (R381). -/
def Dev.cwContent (d : Dev) : Dev := (d.set SIO.CWSTAT_CONTENT 1).assertLine 52 0

/-- The skew window in timebase ticks: 0.5 ms is 80,000. -/
def Dev.cwSkew (d : Dev) : Nat := 80000 * max 1 (min 40 (d.get SIO.CWCFG_SKEW))

/-- A valid command copy is judged (R381). -/
def Dev.cwJudge (d : Dev) (x : CwCopy) : Dev :=
  let ahead := (x.seq + 65536 - d.get SIO.CWSTAT_LASTSEQ) % 65536
  if 1 ≤ ahead ∧ ahead ≤ 32767 then
    match d.vol.safe.held with
    | none => d.modSafe fun s => { s with held := some x }
    | some h =>
      if h.copy ≠ x.copy ∧ h.seq = x.seq then
        if h.data = x.data ∧ (toSigned 32 (x.stamp + 2 ^ 32 - h.stamp)).natAbs ≤ d.cwSkew then d.cwAccept x false
        else (((d.modSafe fun s => { s with held := none }).countSat SIO.CWCNT_REJECTED).countSat SIO.CWCNT_REJECTED).cwContent
      else (d.cwAccept h true).modSafe fun s => { s with held := some x }
  else if ahead = 0 then
    if x.data ≠ d.vol.safe.accData then d.cwContent else d.set SIO.CWSTAT_SKEWERR 1
  else d.countSat SIO.CWCNT_REJECTED

/-- The content of a command copy on port p, if it is valid: a Kinak frame in the port's format (R379-R381, R413). -/
def Dev.cwParse (d : Dev) (p : Fin 4) (f : CanFrame) (stamp : Nat) : Option CwCopy :=
  let b0 := leNat (f.data.take 1)
  let body := f.data.take 10
  let crc := leNat ((f.data.drop 10).take 4)
  if (d.cwPorts.contains (p, decide (128 ≤ b0))) = true ∧ kSvc f = 0x1C0 ∧ kNode f = d.get SIO.CWTMO_SRCNODE ∧
      b0 % 128 = 1 ∧ leNat ((f.data.drop 1).take 1) = 6 ∧ 14 ≤ f.data.length ∧
      f.fmt.val = (if d.kfmt p = 2 then 4 else 3) ∧ d.isKinak f = true ∧ crc = crc32c (leList 2 (kNode f) ++ leList 2 (d.get KN.CTL_NODE) ++ body) then
    some { copy := decide (128 ≤ b0), seq := leNat ((f.data.drop 2).take 2), data := leNat ((f.data.drop 4).take 6), stamp := stamp }
  else none

/-- CAUSEWAY_COPY (R381); a port in internal loop-back receives nothing from the bus (R393). -/
def execCausewayCopy (p : Fin 4) (f : CanFrame) (age : Word) (s : State) : Host.Outcome State Fault Refusal :=
  s.lift fun d =>
    if d.trussWorks && d.portUp p && decide (d.get (CAN.CTL_LBK p) ≠ 2) && (d.cwPorts.any fun x => decide (x.1 = p)) then
      match d.cwParse p f (d.sofStamp age.toNat) with
      | some x => (d.edge 255).cwJudge x
      | none => (d.edge 255).countSat SIO.CWCNT_REJECTED
    else d

/-- CAUSEWAY_SKEW_EXPIRY (R381). -/
def execCausewaySkewExpiry (s : State) : Host.Outcome State Fault Refusal :=
  s.lift fun d => match d.vol.safe.held with | some h => if d.trussWorks then d.cwAccept h true else d | none => d

/-- CAUSEWAY_LOSS (R383), where Causeway is configured (Table 13-5). -/
def execCausewayLoss (s : State) : Host.Outcome State Fault Refusal :=
  s.lift fun d =>
    if d.get SIO.CWTMO_TMO = 0 ∨ d.get SIO.CWCFG_PORTA = d.get SIO.CWCFG_PORTB ∨ d.trussWorks = false then d
    else (((d.set SIO.CWSTAT_LOSS 1).modSafe fun s => { s with loss := true }).assertLine 52 0).safetyFollow

/-- The command for this frame takes effect (R382). -/
def Dev.cwApply (d : Dev) : Dev :=
  match d.vol.safe.cmd with
  | none => d
  | some c =>
    ((d.set SIO.SWREQ_CWREQ c).modSafe fun s => { s with cmd := none, envP := natField c 16 16, envN := natField c 32 16 }).safetyFollow

/-- The data of a status message (R380). -/
def Dev.cwStatusData (d : Dev) : List (BitVec 8) :=
  let tm := fun b : Nat => satBits 16 (roundDiv (d.sget (SIO.TM_TEST b) * 1000) 268435456)
  let b0 := d.get (SIO.STO_ACT 0) + 2 * d.get (SIO.STO_ACT 1) + 4 * b2n (decide (d.get (SIO.SS1_ST 0) ≠ 0)) +
    8 * b2n (decide (d.get (SIO.SS1_ST 1) ≠ 0)) + 16 * b2n (decide (d.get SIO.TPSTAT_TPERR ≠ 0)) +
    32 * b2n ([0, 1, 2, 3].any fun k => d.bit (SIO.CTRSTAT_FBERR k))
  let lines := (List.range 8).foldl (fun n k => n + 2 ^ k * d.get (FCOL.STATUS_L (46 + k))) 0
  [BitVec.ofNat 8 b0, BitVec.ofNat 8 (d.get SIO.CWSTAT_LASTSEQ)] ++ leList 2 (ofSigned 16 (tm 0)) ++ leList 2 (ofSigned 16 (tm 1)) ++
    [BitVec.ofNat 8 lines, 0#8]

/-- A copy of a status message for a port (R379, R413): channel 2, its CRC, as XL where `KFMT` is 2 and as FD otherwise. -/
def Dev.cwStatusFrame (d : Dev) (p : Fin 4) (copy : Bool) : CanFrame :=
  let body := [BitVec.ofNat 8 (2 + 128 * b2n copy), 8#8] ++ leList 2 d.vol.safe.statSeq ++ d.cwStatusData
  let crc := crc32c (leList 2 (d.get KN.CTL_NODE) ++ leList 2 (d.get SIO.CWTMO_SRCNODE) ++ body)
  d.kinakFrame (if d.kfmt p = 2 then 2 else 1) 2 (d.get KN.CTL_NODE) 0x1C1 (body ++ leList 4 crc)

/-- CAUSEWAY_STATUS (R380). -/
def execCausewayStatus (s : State) : Host.Outcome State Fault Refusal :=
  s.lift fun d =>
    if d.trussWorks && d.netWorks then
      (d.each d.cwPorts fun d x =>
        match [8, 9, 10, 11].find? fun mb => d.mbFree x.1 mb with
        | some mb => if d.portUp x.1 then d.mbFill x.1 mb 1 (d.cwStatusFrame x.1 x.2) else d
        | none => d).modSafe fun s => { s with statSeq := (s.statSeq + 1) % 65536 }
    else d

/-! ### Bridge start and stop -/

/-- The index of the start and stop object of bridge b. -/
def startObj (b : Bridge) : Nat := 0x3005 + 0x10 * b.val

/-- The conditions of a bridge start with the flag that each one sets when it fails (R169, R235, R246, R248, R266, R353,
R368); a condition without a flag names none. -/
def Dev.startChecks (d : Dev) (b : Bridge) : List (Bool × Option Fld) :=
  let mode := d.get (MOD.CTL_MODE b)
  let need := match d.ctrl b with | 0 => 2 | 1 => 1 | _ => 3
  let cm := d.get (CE.BCFG_CMDMODE b)
  [ (!d.bit (MOD.CTL_SRC b) && decide (mode = need) && decide (d.role b ≠ 3 ∨ d.ctrlField b = 0), some (CE.BSTAT_MODEMIS b)),
    ((decide (cm ≠ 1) || decide (d.role b = 1)) && (decide (cm ≠ 2) || decide (2 ≤ d.role b)), some (CE.BSTAT_MODEMIS b)),
    (d.slotsValid b, some (CE.BSTAT_INVALID b)),
    (decide (d.role b ≠ 1) || (if d.ctrl b = 2 then decide (d.get (POS.STAT_POSST (d.posSel b)) = 2)
      else decide (d.get (POS.ANGLE_ACTSRC (d.posSel b)) ≤ 1)), some (CE.SAFECTL_NOANGLE b)),
    (decide (d.role b ≠ 2) || decide (d.get (CE.PLLST_PLLST b) = 2), some (CE.PLLST_PLLNL b)),
    (decide (d.role b ≠ 3) || d.batteryOk b, some (CE.DCDCST_VBOUT b)),
    ((bridgeChans b).all d.armed, some (GL.BSTAT_NOTARMED b)),
    (decide (d.reaction b < 2), some (if b = 0 then FCOL.REACT_STREJA else FCOL.REACT_STREJB)),
    (!d.bit (SIO.STO_ACT b), none), (d.engIs b 1, none), (decide (d.get DE.STAT_OPSTATE = 3), none) ]

/-- The flag of every failed condition is set. -/
def Dev.flagChecks (d : Dev) : List (Bool × Option Fld) → Dev
  | [] => d
  | (false, some f) :: t => (d.set f 1).flagChecks t
  | _ :: t => d.flagChecks t

/-- The path test of a start begins (R370): until its end `GL.BSTATx.STO` shows whether the path follows, which is open. -/
def Dev.pathTestBegin (d : Dev) (b : Bridge) : Dev :=
  ((d.draw 1).2.set (GL.BSTAT_STO b) (d.draw 1).1).modEng b fun e => { e with pathTest := true }

/-- BRIDGE_START (R442): refused with 0x0622 and the flags of the failed conditions, or judged further at the end of the path
test (R370). -/
def execBridgeStart (b : Bridge) (s : State) : Host.Outcome State Fault Refusal :=
  s.lift fun d =>
    if (d.startChecks b).all fun c => c.1 then d.pathTestBegin b
    else (d.flagChecks (d.startChecks b)).abort (startObj b) 1 0x0622 0

/-- An orderly stop of bridge b (R352): a clamp for an ACTIVE bridge with `SRC` 0; with `SRC` 1 `OUTEN` is cleared. -/
def Dev.orderlyStop (d : Dev) (b : Bridge) : Dev :=
  if d.bit (MOD.CTL_SRC b) then ((d.set (MOD.CTL_OUTEN b) 0).updateRun b).drive
  else if d.active b && (d.engS b).stop.isNone then
    (d.modEng b fun e => { e with stop := some { c := 0, rate := (d.get FCOL.STOPCFG_STOPRATE : Int) * 4096, begun := false, low := 0 } }).set
      (if b = 0 then FCOL.REACT_STOPA else FCOL.REACT_STOPB) 1
  else d

/-- BRIDGE_STOP (R442): it acts on an ACTIVE bridge only; not in LOCKOUT (R441). -/
def execBridgeStop (b : Bridge) (s : State) : Host.Outcome State Fault Refusal :=
  s.lift fun d => if d.get DE.STAT_OPSTATE = 6 then d.abort (startObj b) 1 0x0622 0 else (d.when (d.active b) fun d => d.orderlyStop b).answer 0 0

/-! ### Clearing the causes of a bridge safe state -/

/-- Has the condition of each cause of bridge x gone (R280, R239, R246, R248, R356), in the order of `causeBits`? -/
def Dev.causeGone (d : Dev) (x : Bridge) : List Bool :=
  [ decide (d.lineReaction x < 3), decide (d.get KS.DBG_TGT = 0), d.works 4 0,
    (match d.role x with | 1 => !d.angleLost x | 2 => decide (d.get (CE.PLLST_PLLST x) = 2) | 3 => d.batteryOk x | _ => true),
    !d.twoLegs x ]

/-- Cause bits written 1 whose conditions have gone are cleared; the safe state and the reactions shown follow (R280, R352). -/
def Dev.clearCauses (d : Dev) (x : Bridge) (mask : Nat) : Dev :=
  let hit := ((causeBits x).zip (d.causeGone x)).zip (List.range 5)
  let d1 := d.each hit fun d e => if e.1.2 && natBit mask e.2 then d.set e.1.1 0 else d
  let d2 := if natBit mask 0 && decide (d.lineReaction x < 3) then
      { d1 with vol := { d1.vol with stopTimed := vset d1.vol.stopTimed x false } } else d1
  (d2.applySafe x).showReact

/-- BSTAT_CAUSE_CLEAR (R280). -/
def execBstatCauseClear (m : Master) (x : Bridge) (mask : BitVec 5) (s : State) : Host.Outcome State Fault Refusal :=
  s.lift fun d =>
    let a := 0x40500800 + 0x20 * x.val
    if d.accessAllowed m a true then (d.clearCauses x mask.toNat).busOk 0 else d.busError m a true

end Sys2Proof.Machine
end

