-- ==== Sys2Proof/Machine/Faults.lean ====
section
/-! DEFINITION. Chapter 12: interrupt sources and their delivery, fault lines, reactions, clearing, and semaphores. -/

namespace Sys2Proof.Machine

/-- Change the interrupt controller's own state. -/
def Dev.modFlt (d : Dev) (f : FltState → FltState) : Dev := { d with vol := { d.vol with flt := f d.vol.flt } }

/-! ### Interrupt sources -/

/-- A level source of block POS p (Table 12-1). -/
def Dev.posLevel (d : Dev) (p k : Nat) : Bool :=
  match k with
  | 0 => d.bit (POS.STAT_INDEX_MISMATCH p)
  | 6 => d.bit (POS.EMUCTL_LAG p) || d.bit (POS.EMUCTL_JUMP p)
  | 2 | 3 | 4 | 5 => d.bit (POS.CMPCTL_HIT p (k - 2))
  | _ => false

/-- A level source of modulator x: `SHOOT_REJ`, `DEFERRED`, `GRPLOST`. -/
def Dev.modLevel (d : Dev) (x k : Nat) : Bool :=
  match k with
  | 7 => d.bit (MOD.STAT_SHOOT_REJ x)
  | 8 => d.bit (MOD.GUARD_DEFERRED x)
  | 9 => d.bit (MOD.GUARD_GRPLOST x)
  | _ => false

/-- A level source of CAN port p: receive overflow, error warning, error passive, bus-off. -/
def Dev.canLevel (d : Dev) (p k : Nat) : Bool :=
  match k with
  | 2 => d.bit (CAN.STAT_RXOVF p)
  | 5 => d.bit (CAN.ERR_EWARN p)
  | 6 => decide (d.get (CAN.ERR_EST p) = 1)
  | 7 => decide (d.get (CAN.ERR_EST p) = 2)
  | _ => false

/-- Is level source i asserted (R340, Table 12-1)? -/
def Dev.srcLevel (d : Dev) (i : Nat) : Bool :=
  if i < 64 then d.bit (FCOL.STATUS_L i) && decide (1 ≤ d.classOf i)
  else if i < 72 then d.bit (Q.QSTAT_WM (i - 64))
  else if i < 80 then d.bit (Q.QSTAT_OVF (i - 72))
  else if i < 84 then d.bit (AS.GRP_LOSTF (i - 80))
  else if i = 84 then d.bit AS.SPARE_CALSTALL
  else if 96 ≤ i ∧ i < 128 then d.posLevel (i / 16 - 6) (i % 16)
  else if i = 130 ∨ i = 146 then d.bit (CE.SAT_SATIE (i / 16 - 8)) && decide (d.get (CE.SAT_SAT (i / 16 - 8)) ≠ 0)
  else if 160 ≤ i ∧ i < 192 then d.modLevel (i / 16 - 10) (i % 16)
  else if 204 ≤ i ∧ i < 216 then d.bit (GL.CHSTAT_ATBOUND (i - 204)) || d.bit (GL.CHSTAT_TINV (i - 204))
  else if i = 228 then d.bit TH.STAT_STALE
  else if i = 250 then decide (d.get SIO.TPSTAT_TPERR ≠ 0)
  else if 251 ≤ i ∧ i ≤ 254 then d.bit (SIO.CTRSTAT_FBERR (i - 251))
  else if i = 256 then d.bit SIO.CWSTAT_CONTENT
  else if 272 ≤ i ∧ i < 336 then d.canLevel (i / 16 - 17) (i % 16)
  else if i = 364 then [0, 1, 2, 3, 4, 5, 6, 7].any fun c => decide (d.get (CAP.STAT_ST c) = 3)
  else if i = 376 then [0, 1, 2, 3, 4, 5, 6, 7, 8].any fun n => d.bit (CPM.DOMCTL_REFUSED n)
  else false

/-- Source i becomes pending if it is an edge source that has fired, or a level source that is asserted and not active (R340, R343). -/
def Dev.pend (d : Dev) (i : Fin 512) : Dev :=
  if srcIsEdge i then
    if d.edges.contains i.val then { d with edges := d.edges.filter (· ≠ i.val) }.set (INTC.SRCCFG_PEND i) 1 else d
  else if d.srcLevel i && !d.bit (INTC.SRCCFG_ACTIVE i) then d.set (INTC.SRCCFG_PEND i) 1 else d

/-- Does target t exist and take deliveries (R341, R347, R357)? -/
def Dev.targetLive (d : Dev) (t : Fin 6) : Bool :=
  !d.vol.flt.dead &&
  (match t.val with
   | 2 => d.bit LC.BOOTSTAT_SPLIT0
   | 4 => d.bit LC.BOOTSTAT_SPLIT1
   | 5 => false
   | _ => true)

/-- Was the enable of source i for target t cleared just now (R345)? -/
def Dev.maskedNow (d : Dev) (t : Fin 6) (i : Fin 512) : Bool := d.vol.flt.masked.contains (t.val, i.val, d.now)

/-- Is source i delivered to target t (R342)? `late`: the pending line still shows this source, whose enable was cleared just now (R345). -/
def Dev.delivers (d : Dev) (t : Fin 6) (late : Option (Fin 512)) (i : Fin 512) : Bool :=
  d.bit (INTC.SRCCFG_PEND i) && !d.bit (INTC.SRCCFG_ACTIVE i) && (d.bit (INTC.EN_E t i) || (decide (late = some i) && d.maskedNow t i)) &&
  decide (d.get (INTC.THR_THR t) < d.get (INTC.SRCCFG_PRIO i))

/-- The pending line of target t: is any source delivered to it? -/
def Dev.irqLine (d : Dev) (t : Fin 6) : Bool := d.targetLive t && (List.finRange 512).any fun i => d.delivers t none i

/-- What the harts of a target take of a class-0 input with level `now`, from the samples of its running harts (R324, R325): a sampler that does not
see the present level yet still gives the one before, `old`. -/
def takeLevel (agree : Bool) (seen : List Bool) (old now : Bool) : Bool := taken0 agree (seen.map fun b => if b then now else old)

/-- The harts of target t take its pending line, and with it the non-maskable request of the collector where its level is known. -/
def Dev.takeIrq (d : Dev) (t : Fin 6) (k : Fin 5) (nmi : Option Bool) (agree : Bool) (seen : List Bool) : Dev :=
  let now := d.irqLine t
  d.modKs fun x =>
    { x with irq := vset x.irq k (takeLevel agree seen (vget x.irq k) now),
             nmi := match nmi with
               | some v => vset x.nmi k (takeLevel agree seen (vget x.nmi k) v)
               | none => x.nmi }

/-- Is span sp, or its hart 0, reached by one pending line that both its harts sample (R341)? -/
def Dev.spanSamples (d : Dev) (sp : Fin 2) (a b : Bool) : List Bool := if d.split sp then [a] else [a, b]

/-- The class-0 inputs reach the harts of all targets; a stopped Truss, a span in reset and a halted hart take none. -/
def Dev.takeLines (d : Dev) (nmi : Option Bool) (seen : BitVec 7) : Dev :=
  let x := fun j => seen.getLsbD j
  let m := fun t : Fin 3 => (vget d.vol.ks.incls t).1
  let d1 := d.when (decide (d.get KS.TSTAT_MODE ≠ 3)) fun d => d.takeIrq 0 0 nmi (m 0) (d.trussHarts.map fun h : Fin 3 => x h.val)
  let d2 := d1.when (d.spanRuns 0 0) fun d => d.takeIrq 1 1 nmi (m 1) (d.spanSamples 0 (x 3) (x 4))
  let d3 := d2.when (d.spanRuns 0 1) fun d => d.takeIrq 2 2 nmi false [x 4]
  let d4 := d3.when (d.spanRuns 1 2) fun d => d.takeIrq 3 3 nmi (m 2) (d.spanSamples 1 (x 5) (x 6))
  d4.when (d.spanRuns 1 3) fun d => d.takeIrq 4 4 nmi false [x 6]

/-- The pending lines and the non-maskable request reach the harts. The spec says nowhere when the collector makes that request, so that its level
is an open value (DESIGN CHOICE, log 188). -/
def Dev.sampleIrq (d : Dev) (seen : BitVec 7) : Dev := (d.draw 1).2.takeLines (some (decide ((d.draw 1).1 = 1))) seen

/-- The pending lines after a claim, a completion or a write of the controller: every running hart sees their levels (R346). -/
def Dev.settleIrq (d : Dev) : Dev := d.takeLines none 0x7F#7

/-- INTERRUPT_ASSERT (R324, R325, R340, R343): the source becomes pending, and the targets' pending lines reach their harts. -/
def execInterruptAssert (i : Fin 512) (seen : BitVec 7) (s : State) : Host.Outcome State Fault Refusal :=
  s.lift fun d => if d.running then (d.pend i).sampleIrq seen else d

/-- The delivered source with the highest priority, the lowest number on a tie. -/
def Dev.bestSource (d : Dev) : List (Fin 512) → Option (Fin 512)
  | [] => none
  | i :: rest =>
    match d.bestSource rest with
    | none => some i
    | some j => if d.get (INTC.SRCCFG_PRIO i) < d.get (INTC.SRCCFG_PRIO j) then some j else some i

/-- Target t claims source i (R342). -/
def Dev.claimBy (d : Dev) (t i : Nat) : Dev :=
  ((d.set (INTC.SRCCFG_PEND i) 0).set (INTC.SRCCFG_ACTIVE i) 1).modFlt fun f =>
    { f with claims := (i, t) :: f.claims, masked := f.masked.filter fun x => decide (x ≠ (t, i, d.now)) }

/-- CLAIM (R342, R345). -/
def execClaim (m : Master) (t : Fin 6) (late : Option (Fin 512)) (s : State) : Host.Outcome State Fault Refusal :=
  s.lift fun d =>
    let a := 0x40023004 + 0x10 * t.val
    if !d.accessAllowed m a false then d.busError m a false
    else
      match if d.targetLive t then d.bestSource ((List.finRange 512).filter fun i => d.delivers t late i) else none with
      | some i => (d.claimBy t i).settleIrq.busOk (2 ^ 31 + i.val)
      | none => d.busOk 0

/-- The master that is target t of the interrupt controller. -/
def targetMaster : Fin 6 → Option Master
  | 0 => some .truss | 1 => some .span0 | 2 => some .span0h1 | 3 => some .span1 | 4 => some .span1h1 | _ => none

/-- Source i is completed: a level source is sampled again (R343). -/
def Dev.complete (d : Dev) (i : Nat) : Dev :=
  let d1 := (d.set (INTC.SRCCFG_ACTIVE i) 0).modFlt fun f => { f with claims := f.claims.filter fun c => decide (c.1 ≠ i) }
  if srcIsEdge i then d1 else d1.when (d1.srcLevel i) fun d => d.set (INTC.SRCCFG_PEND i) 1

/-- INTERRUPT_COMPLETE (R343, R344, R348). -/
def execInterruptComplete (m : Master) (t : Fin 6) (src : BitVec 9) (s : State) : Host.Outcome State Fault Refusal :=
  s.lift fun d =>
    let a := 0x40023004 + 0x10 * t.val
    if !d.accessAllowed m a true || decide (targetMaster t ≠ some m) then d.busError m a true
    else if d.vol.flt.claims.contains (src.toNat, t.val) && d.bit (INTC.SRCCFG_ACTIVE src.toNat) then (d.complete src.toNat).settleIrq.busOk 0
    else (((d.countSat INTC.SPUR_SPURCNT).set INTC.SPUR_SPURSRC src.toNat).set INTC.SPUR_SPURTGT t).busOk 0

/-- INTC_SWSET (R340, R348). -/
def execIntcSwset (m : Master) (src : Fin 64) (s : State) : Host.Outcome State Fault Refusal :=
  s.lift fun d =>
    if d.accessAllowed m 0x40020008 true && (decide (m = .truss) || isSpan m) then (d.edge (384 + src)).busOk 0 else d.busError m 0x40020008 true

/-! ### Fault lines -/

/-- Is a condition of channel n true for some channel? -/
def anyChan (f : Chan → Bool) : Bool := allChans.any f

/-- Does the condition of an STO diagnostic of bridge x still hold (R370): a position of it ARMED that has not returned GATE_OFF, readers that have
disagreed in three frames, or the errors of the STO pin at its test pulses? -/
def Dev.stoFails (d : Dev) (x : Bridge) : Bool :=
  ((bridgeChans x).any fun n => decide (d.get (GL.CHSTAT_ST n) = 2) && decide ((d.gate n).rep ≠ some false)) ||
  decide (3 ≤ vget d.vol.safe.rdN x) || decide (d.get SIO.TPCFG_TPNERR + 1 ≤ vget d.vol.safe.errN ⟨x.val, by omega⟩)

/-- Does the condition of line l hold, or is a flag set that the line is tied to (R350)? -/
def Dev.lineNow (d : Dev) (l : Nat) : Bool :=
  match l with
  | 1 => [Supply.vcore, .vana, .vio].any fun v => !d.supplyUp v
  | 2 => !d.lands.failN
  | 7 => d.bit LC.BOOTSTAT_IMG_BAD
  | 8 => d.bit LC.BOOTSTAT_BIST_FAIL
  | 9 => d.bit PIER.CTL_WFAIL && decide (1 ≤ d.get DE.STAT_OPSTATE)
  | 10 => d.bit KS.TSTAT_DISS
  | 11 => d.bit KS.TSTAT_RETIRE
  | 12 => d.bit KS.TSTAT_DBL
  | 13 => d.bit KS.TSTAT_LATENT_DIV || d.bit (KS.SPSTAT_LATENT_DIV 0) || d.bit (KS.SPSTAT_LATENT_DIV 1)
  | 14 => d.bit (KS.SPSTAT_MISMATCH 0) || d.bit (KS.SPSTAT_MISMATCH 1)
  | 15 => d.bit (KS.SPSTAT_PARK 0) || d.bit (KS.SPSTAT_PARK 1)
  | 16 => d.bit KS.DBG_DBGLS
  | 17 => d.bit CE.TSTAT_LOSS
  | 20 => d.bit AS.SPARE_CALSTALL && decide (2 ≤ d.get AS.SPARE_CHAIN)
  | 21 => bridges.any fun b => d.active b && !d.slotsValid b
  | 22 | 23 =>
    let p := l - 22
    d.bit (POS.STAT_IDXFLT p) || d.bit (POS.STAT_QERR p) || d.bit (POS.STAT_HALL_INV p) || d.bit (POS.STAT_HALL_SEQ p) || d.bit (POS.STAT_RES_AMP p)
  | 24 | 25 => d.bit (POS.STAT_DISAGREE (l - 24))
  | 26 => bridges.any fun b => d.bit (CE.BANDEVT_OC b)
  | 27 => bridges.any fun b => d.bit (CE.SAFECTL_ANGLOSS b)
  | 28 => bridges.any fun b => d.bit (CE.PLLST_GRIDLOSS b)
  | 29 => d.bit CE.LIMPST_LIMPFLT && bridges.any fun b => d.limpDriven b
  | 30 => bridges.any fun b => d.bit (MOD.STAT_SHOOT_REJ b)
  | 31 => bridges.any fun b => d.bit (MOD.STAT_DBGHALT b) || d.bit (GL.BSTAT_HBEAT b)
  | 32 => anyChan fun n => d.bit (GL.CHSTAT_EPLOSS n) || d.bit (GL.CHSTAT_SPLOSS n)
  | 33 => anyChan fun n => decide (d.get (GL.CHSTAT_ST n) = 6)
  | 34 => anyChan fun n => d.bit (GL.CHSTAT_INTLKTMO n)
  | 35 => anyChan fun n => d.bit (GL.CHSTAT_DS n)
  | 36 => anyChan fun n => d.bit (GL.CHSTAT_HS n)
  | 37 => bridges.any fun b => d.bit (GL.BSTAT_TWOLEG b)
  | 38 => d.bit GL.DSCSTAT_FAIL
  | 39 => d.bit TH.STAT_SENSBRK
  | 40 => d.bit TH.STAT_HI || d.bit TH.STAT_LO
  | 41 => d.bit TH.STAT_STALE
  | 42 => d.bit TH.STAT_WARN
  | 43 => d.bit TH.STAT_TJSTOP || d.bit TH.STAT_ISLSTOP || d.bit TH.STAT_DIESTOP
  | 44 => anyChan fun n => decide (d.get (GL.CHSTAT_ST n) = 7)
  | 45 => d.bit TH.LATCH_DIE || d.bit TH.LATCH_BARRIER
  | 46 | 47 =>
    let x := l - 46
    d.bit (SIO.STO_GATEF x) || d.bit (SIO.STO_RDDIS x) || d.bit (SIO.STO_PATHF x) || natBit (d.get SIO.TPSTAT_TPERR) x ||
      (d.bit (SIO.STO_DIAGLAT x) && d.stoFails ⟨x % 2, Nat.mod_lt _ (by decide)⟩)
  | 48 => decide (4 ≤ d.get SIO.TPSTAT_TPERR) || decide (d.get SIO.TPSTAT_TPOERR ≠ 0)
  | 49 => decide (d.get SIO.TPSTAT_DISCERR ≠ 0)
  | 50 => [0, 1, 2, 3].any fun k => d.bit (SIO.CTRSTAT_FBERR k)
  | 51 => bridges.any fun b => d.bit (SIO.TMSTAT_TQERR b)
  | 52 => d.bit SIO.CWSTAT_LOSS || d.bit SIO.CWSTAT_CONTENT
  | 53 => d.vol.safe.noSet
  | 54 => allPorts.any fun p => d.bit (CAN.CTL_EN p) && decide (d.get (CAN.ERR_EST p) = 1)
  | 55 => allPorts.any fun p => d.bit (CAN.CTL_EN p) && decide (d.get (CAN.ERR_EST p) = 2)
  | 57 => d.bit LG.STAT_STERR || d.bit LG.STAT_RESTERR
  | 58 => d.vol.flt.dead
  | 63 => d.bit FCOL.REACT_PARERR
  | _ => false

/-- Is line l asserted now (R350)? -/
def Dev.lineAsserted (d : Dev) (l : Nat) : Bool := d.lineNow l || d.raised.any fun r => decide (r.1 = l)

/-- The bridges of an assertion (R349): `POSSEL` for lines 22-25, both for attribution M. -/
def Dev.attribution (d : Dev) (l br : Nat) : Nat :=
  if 22 ≤ l ∧ l ≤ 25 then (bridges.filter fun b => decide ((d.posSel b).val = l % 2)).foldl (fun n b => n + brMask b) 0
  else if br = 0 then 3 else br

/-! ### Reactions -/

/-- The reaction of bridge b is applied (R351, R352). -/
def Dev.react (d : Dev) (b : Bridge) : Dev :=
  if 3 ≤ d.reaction b then
    (d.when (d.bit (MOD.CTL_SRC b)) fun d => d.orderlyStop b).safeCause b (GL.BSTAT_FCOL b)
  else if d.reaction b = 2 then d.orderlyStop b else d

/-- Is a line of class 4 latched? -/
def Dev.class4 (d : Dev) : Bool := (List.range 64).any fun l => d.bit (FCOL.STATUS_L l) && decide (d.classOf l = 4)

/-- The reactions of all latched lines: orderly stops, safe states, the module safe state, and the operating state that
follows (R351-R353, R439). -/
def Dev.applyReactions (d : Dev) : Dev :=
  let d1 := (d.react 0).react 1
  let d2 := if d1.class4 then (d1.set FCOL.REACT_MSS 1).opTo 6
    else d1.when (decide (3 ≤ d1.reaction 0) && decide (3 ≤ d1.reaction 1) && decide (1 ≤ d1.get DE.STAT_OPSTATE) &&
      decide (d1.get DE.STAT_OPSTATE ≤ 4)) fun d => d.opTo 5
  d2.showReact

/-- A line is latched with its bridges (R350); a line of class 1 or above enters the history `0x4801`. -/
def Dev.latchLine (d : Dev) (r : Nat × Nat) : Dev :=
  let m := d.attribution r.1 r.2
  let d1 := ((d.set (FCOL.STATUS_L r.1) 1).when (natBit m 0) fun d => d.set (FCOL.BRA_L r.1) 1).when (natBit m 1) fun d => d.set (FCOL.BRB_L r.1) 1
  if d.bit (FCOL.STATUS_L r.1) = false ∧ 1 ≤ d.classOf r.1 then
    { d1 with nv := { d1.nv with faultHist := ((r.1 * 2 ^ 58 + d1.get (FCOL.BRA_L r.1) * 2 ^ 57 + d1.get (FCOL.BRB_L r.1) * 2 ^ 56 +
      d.kaCount % 2 ^ 56) :: d1.nv.faultHist).take 16 } }
  else d1

/-- The lines asserted now are shown. -/
def Dev.showRaw (d : Dev) : Dev := d.each (List.range 64) fun d l => d.setBit (FCOL.RAW_L l) (d.lineNow l)

/-- FAULT_LINE_LATCH (R350-R355, R417): every assertion that has arrived is latched; new lines of class 1 or above are reported
lowest first. -/
def execFaultLineLatch (s : State) : Host.Outcome State Fault Refusal :=
  s.lift fun d =>
    if !d.running || d.raised.isEmpty then d
    else
      let ts := d.get TB.CNT_W % 2 ^ 32
      let fresh := (List.range 64).filter fun l => (d.raised.any fun r => decide (r.1 = l)) && !d.bit (FCOL.STATUS_L l)
      let empty := (List.range 64).all fun l => !d.bit (FCOL.STATUS_L l)
      let d1 := { d.each d.raised Dev.latchLine with raised := [] }
      let d2 := match empty, fresh with
        | true, l :: _ => ((d1.set FCOL.FIRST_FVALID 1).set FCOL.FIRST_LINE l).set FCOL.FIRSTTS_TS ts
        | _, _ => d1
      let d3 := (d2.when (fresh.any fun l => decide (2 ≤ d2.classOf l)) fun d => d.fireCapture 5).applyReactions
      (d3.each (fresh.filter fun l => decide (1 ≤ d3.classOf l)) fun d l => d.faultReport l ts).showRaw

/-- ROOT_CLOCK_CHECK (R30, R78, R354): with the monitor armed, a count outside ±2 % of 240,000 raises the root-clock line (0), whose class is at least 3;
the duplicate path on the monitor oscillator requests the safe state at once, and `STATUS` is latched when FABCLK runs. -/
def execRootClockCheck (count : Nat) (s : State) : Host.Outcome State Fault Refusal :=
  s.lift fun d =>
    if d.monitorArmed = false ∨ (235200 ≤ count ∧ count ≤ 244800) then d
    else (d.assertLine 0 0).each bridges fun d b => d.safeCause b (GL.BSTAT_FCOL b)

/-- ORDERLY_STOP_TIMEOUT (R352). -/
def execOrderlyStopTimeout (b : Bridge) (s : State) : Host.Outcome State Fault Refusal :=
  s.lift fun d =>
    if (d.engS b).stop.isSome then
      let d1 := { d.set FCOL.REACT_STOPTO 1 with vol := { d.vol with stopTimed := vset d.vol.stopTimed b true } }
      ((d1.safeCause b (GL.BSTAT_FCOL b)).applyReactions)
    else d

/-! ### Clearing -/

/-- STATUS bit l is written 1 (R356): it clears with its bridges if the line is no longer asserted; `DIAGLAT` clears with line
46 or 47 (R370). -/
def Dev.clearLine (d : Dev) (l : Nat) : Dev :=
  if d.lineAsserted l then d
  else
    let d1 := ((d.set (FCOL.STATUS_L l) 0).set (FCOL.BRA_L l) 0).set (FCOL.BRB_L l) 0
    if h : 46 ≤ l ∧ l ≤ 47 ∧ d.bit (FCOL.STATUS_L l) = true then
      (d1.set (SIO.STO_DIAGLAT (l - 46)) 0).stoSource ⟨l - 46, by omega⟩ 4 false
    else d1

/-- Several bits are written 1; with nothing latched any more `FIRST` is free again. -/
def Dev.clearLines (d : Dev) (ls : List Nat) : Dev :=
  let d1 := d.each ls Dev.clearLine
  ((d1.when ((List.range 64).all fun l => !d1.bit (FCOL.STATUS_L l)) fun d => d.set FCOL.FIRST_FVALID 0).showReact).showRaw

/-- FAULT_STATUS_CLEAR (R356, R362). -/
def execFaultStatusClear (w : StatusClear) (s : State) : Host.Outcome State Fault Refusal :=
  s.lift fun d =>
    match w with
    | .reg m high v =>
      let a := if high then 0x40030014 else 0x40030010
      if !d.accessAllowed m a true then d.busError m a true
      else (d.clearLines (((List.range 32).filter fun j => natBit v.toNat j).map fun j => if high then 32 + j else j)).busOk 0
    | .object v =>
      if v.toNat < 64 then (d.clearLines [v.toNat]).answer 0 0
      else if v.toNat = 255 then (d.clearLines (List.range 64)).answer 0 0
      else d.abort 0x2801 1 0x0611 0

/-- The class of line l is written (R349): below its minimum nothing changes and `CLSREJ` is set; a line with minimum 4 is
fixed. -/
def Dev.writeClass (d : Dev) (l c : Nat) : Dev :=
  if lineClassMin l = 4 then (if min 4 c = 4 then d else d.set FCOL.CTL_CLSREJ 1)
  else if min 4 c < lineClassMin l then d.set FCOL.CTL_CLSREJ 1 else d.set (FCOL.CLS_C l) c

/-- CLASS_WRITE (R349, R360). -/
def execClassWrite (m : Master) (j : Fin 8) (v : Word) (s : State) : Host.Outcome State Fault Refusal :=
  s.lift fun d =>
    let a := 0x40030040 + 4 * j.val
    if !d.accessAllowed m a true then d.busError m a true
    else if d.bit FCOL.CTL_LOCK then d.busOk 0
    else ((d.each (List.range 8) fun d k => d.writeClass (8 * j.val + k) (natField v.toNat (4 * k) 3)).applyReactions).busOk 0

/-! ### Other errors -/

/-- PARITY_ERROR (R357). -/
def execParityError (intc : Bool) (s : State) : Host.Outcome State Fault Refusal :=
  s.lift fun d =>
    if !d.running then d
    else if intc then (d.modFlt fun f => { f with dead := true }).assertLine 58 0
    else (d.set FCOL.REACT_PARERR 1).assertLine 63 0

/-- FABRIC_TIMEOUT (R349): line 59. -/
def execFabricTimeout (_m : Master) (_a : Word) (s : State) : Host.Outcome State Fault Refusal :=
  s.lift fun d => if d.running then d.assertLine 59 0 else d

/-- ECC_ERROR (R349): lines 4-6. -/
def execEccError (k : EccKind) (s : State) : Host.Outcome State Fault Refusal :=
  s.lift fun d =>
    if d.running then
      (match k with | .corrected => d.assertLine 4 0 | .sram => d.assertLine 5 0 | .nonvolatile => d.assertLine 6 0)
    else d

/-! ### Semaphores -/

/-- SEMAPHORE_READ (R358). -/
def execSemaphoreRead (m : Master) (i : Fin 32) (s : State) : Host.Outcome State Fault Refusal :=
  s.lift fun d =>
    let a := 0x40030100 + 4 * i.val
    if !d.accessAllowed m a false then d.busError m a false
    else if d.bit (FCOL.SEM_TAKEN i) then d.busOk (256 + d.get (FCOL.SEM_OWNER i))
    else ((d.set (FCOL.SEM_TAKEN i) 1).set (FCOL.SEM_OWNER i) (reqbyCode m)).busOk (256 + reqbyCode m)

/-- SEMAPHORE_RELEASE (R358). -/
def execSemaphoreRelease (m : Master) (i : Fin 32) (s : State) : Host.Outcome State Fault Refusal :=
  s.lift fun d =>
    let a := 0x40030100 + 4 * i.val
    if !d.accessAllowed m a true then d.busError m a true
    else if d.bit (FCOL.SEM_TAKEN i) && decide (d.get (FCOL.SEM_OWNER i) = reqbyCode m) then
      ((d.set (FCOL.SEM_TAKEN i) 0).set (FCOL.SEM_OWNER i) 0).busOk 0
    else d.busOk 0

/-- FCOL_SWSET (R360): a bit of another master has no effect. -/
def execFcolSwset (m : Master) (v : BitVec 3) (s : State) : Host.Outcome State Fault Refusal :=
  s.lift fun d =>
    if !d.accessAllowed m 0x40030078 true then d.busError m 0x40030078 true
    else
      (match m with
       | .truss => d.when (natBit v.toNat 0) fun d => d.assertLine 60 0
       | .span0 | .span0h1 => d.when (natBit v.toNat 1) fun d => d.assertLine 61 0
       | .span1 | .span1h1 => d.when (natBit v.toNat 2) fun d => d.assertLine 62 0
       | _ => d).busOk 0

end Sys2Proof.Machine
end

