-- ==== Sys2Proof/Machine/Requests.lean ====
section
/-! DEFINITION. What the object dictionary shares with the blocks whose operations it starts (chapter 15): answers to requests,
stepped operations and their handles, stored values, and the values of DOMAIN objects. -/

namespace Sys2Proof.Machine

/-- Change the dictionary engine's own state. -/
def Dev.modDict (d : Dev) (f : DictState → DictState) : Dev := { d with vol := { d.vol with dict := f d.vol.dict } }

/-- The key of an object. -/
def objKey (i s : Nat) : Nat := i * 256 + s

/-- The value of an object that only the engine holds, d where it holds none. -/
def Dev.objVal (d : Dev) (i s dflt : Nat) : Nat := rfGet d.vol.objs (objKey i s) dflt

/-- Such an object takes a value. -/
def Dev.setObjVal (d : Dev) (i s v : Nat) : Dev :=
  { d with vol := { d.vol with objs := rfInsert (rfErase d.vol.objs (objKey i s)) (objKey i s) v } }

/-! ### Answers -/

/-- The body of a response (Table 15-7). -/
def respBody (op idx sub code detail : Nat) (data : List (BitVec 8)) : List (BitVec 8) :=
  leList 1 (op + 0x80) ++ leList 2 idx ++ leList 1 sub ++ leList 2 code ++ leList 2 detail ++ leList 2 data.length ++ data

/-- A request is answered to its requester: over its port (R409, R435), or in the registers of its target (Table 15-15). The data of a
local read are in memory already. -/
def Dev.reply (d : Dev) (r : Req) (code detail : Nat) (data : List (BitVec 8)) : Dev :=
  match r.src with
  | .kinak p node prio tag => d.sendMessage p node 0x011 prio tag (respBody r.op r.idx r.sub code detail data)
  | .local t =>
    (((d.set (DE.LCTL_BUSY t) 0).set (DE.LCTL_DONE t) 1).set (DE.LRSP_CODE t) code).set (DE.LRSP_LEN t) data.length
  | .gone => d

/-- A request is refused: the abort is recorded and answered (R431, R433). -/
def Dev.refuse (d : Dev) (r : Req) (code cause : Nat) : Dev :=
  (d.abort r.idx r.sub code cause).reply r code (d.abortDetail code cause) []

/-! ### The request that is served next (R437, R449) -/

/-- Is an index that of a customer object (R448)? -/
def isCustomer (i : Nat) : Bool := decide (0x9000 ≤ i) && decide (i ≤ 0xBFFF)

/-- The lowest enabled range that covers an index (R448). -/
def Dev.custRange (d : Dev) (i : Nat) : Option Nat :=
  (List.range 8).find? fun k => d.bit (DE.CUSTA_EN k) && decide (d.get (DE.CUSTA_LO k) ≤ i) && decide (i ≤ d.get (DE.CUSTB_HI k))

/-- Does a request wait for a server that has another one in progress (R449)? -/
def Dev.waitsServer (d : Dev) (r : Req) : Bool :=
  isCustomer r.idx &&
  (match d.custRange r.idx with
   | some k =>
     let s := d.get (DE.CUSTA_SERVER k)
     if h : 1 ≤ s ∧ s ≤ 4 then (vget d.vol.dict.cust ⟨s - 1, by omega⟩).isSome else false
   | none => false)

/-- The first request that does not wait, and the others. -/
def firstOf (waits : Req → Bool) : List Req → Option (Req × List Req)
  | [] => none
  | r :: t => if waits r then (firstOf waits t).map fun x => (x.1, r :: x.2) else some (r, t)

/-- The request that is served next, none in INIT or while a bridge start waits for its path test. -/
def Dev.nextReq (d : Dev) : Option (Req × List Req) :=
  if d.get DE.STAT_OPSTATE = 0 ∨ d.vol.dict.start.isSome = true then none else firstOf d.waitsServer d.vol.dict.queue

/-! ### Stepped operations -/

/-- The number of running operations is shown. -/
def Dev.showOps (d : Dev) : Dev := d.set DE.STAT_NRUN d.vol.dict.ops.length

/-- Is the operation of index i running? -/
def Dev.opRunning (d : Dev) (i : Nat) : Bool := d.vol.dict.ops.any fun o => decide (o.1 = i)

/-- The handle of operation i (Table 15-13). -/
def Dev.handle (d : Dev) (i : Nat) : Nat := rfGet d.vol.dict.handles i 0

/-- A handle takes its fields. -/
def Dev.setHandle (d : Dev) (i st prog result : Nat) : Dev :=
  d.modDict fun s => { s with handles := rfSet s.handles i 0 (st * 2 ^ 29 + prog * 2 ^ 16 + result) }

/-- A free place for operation i (R445)? -/
def Dev.opFree (d : Dev) (i : Nat) : Bool := !d.opRunning i && decide (d.vol.dict.ops.length < 4)

/-- Operation i starts (R443). -/
def Dev.opStart (d : Dev) (i : Nat) : Dev :=
  ((d.modDict fun s => { s with ops := s.ops ++ [(i, false)] }).setHandle i 1 0 0).showOps

/-- Operation i ends with a state of Table 15-13 and its result; source 338. -/
def Dev.opEnd (d : Dev) (i st result : Nat) : Dev :=
  (((d.modDict fun s => { s with ops := s.ops.filter fun o => decide (o.1 ≠ i) }).setHandle i st
    (if st = 2 then 100 else d.handle i / 2 ^ 16 % 256) result).showOps).edge 338

/-- A write starts operation i, or is refused by its start conditions: state, a free place, range (R432, R443, R445). -/
def Dev.opAdmit (d : Dev) (i sub : Nat) (stateOk rangeOk : Bool) : Dev × Bool :=
  if !stateOk then (d.abort i sub 0x0622 0, false)
  else if !d.opFree i then (d.abort i sub 0x0640 2, false)
  else if !rangeOk then (d.abort i sub 0x0611 0, false)
  else ((d.opStart i).answer 0 0, true)

/-- May operation i take its steps now: no request is to be served first, and it is the one whose turn it is (R443)? -/
def Dev.opTurn (d : Dev) (i : Nat) : Bool :=
  d.nextReq.isNone && (match d.vol.dict.ops with | o :: _ => decide (o.1 = i) | [] => false)

/-- The operation of index i takes its steps, if it was started, or is started with arguments by the write that this command stands for, and its
turn has come (R443, log 107). One whose cancel waits ends CANCELLED at this step boundary (R445). -/
def Dev.opBegin (d : Dev) (i sub : Nat) (args : List (Nat × Nat)) (stateOk rangeOk : Bool) : Dev × Bool :=
  if d.vol.dict.ops.contains (i, true) then (d.opEnd i 4 0, false)
  else if d.opRunning i then (d, d.opTurn i)
  else
    let a := d.opAdmit i sub stateOk rangeOk
    let d1 := args.foldl (fun d x => d.setObjVal i x.1 x.2) a.1
    if a.2 then (d1, d1.opTurn i) else a

/-- The operation ends as it should, or fails with a code. -/
def Dev.opDone (d : Dev) (i : Nat) : Dev := d.opEnd i 2 0
def Dev.opFail (d : Dev) (i code : Nat) : Dev := d.opEnd i 3 code

/-! ### Values -/

/-- The value of a DOMAIN object. -/
def Dev.domain (d : Dev) (i s : Nat) : List (BitVec 8) :=
  ((d.vol.dict.dom.find? fun e => decide (e.1 = objKey i s)).map fun e => e.2).getD []

/-- A DOMAIN object takes a value. -/
def Dev.setDomain (d : Dev) (i s : Nat) (v : List (BitVec 8)) : Dev :=
  d.modDict fun x => { x with dom := (x.dom.filter fun e => decide (e.1 ≠ objKey i s)) ++ [(objKey i s, v)] }

/-- The stored value of an MRAM or factory object (none: never written). -/
def Dev.stored (d : Dev) (i s : Nat) : Option Nat := rfFind d.nv.objs (objKey i s)

/-- The record of an object takes a value. -/
def Dev.setStored (d : Dev) (k v : Nat) : Dev := { d with nv := { d.nv with objs := rfInsert (rfErase d.nv.objs k) k v } }

/-! ### Customer servers -/

/-- The request that server s has in progress ends: with an answer of its own, or refused as late (R449). -/
def Dev.custLate (d : Dev) (s : Fin 4) : Dev :=
  match vget d.vol.dict.cust s with
  | some r => ((d.modDict fun x => { x with cust := vset x.cust s none }).set (DE.CREQ_VALID (s.val + 1)) 0).refuse r 0x0640 3
  | none => d

/-- A target is reset: its local request, queued, in service or waiting for a path test, loses its response (R451), and its customer request is refused (R449). -/
def Dev.targetReset (d : Dev) (t : Fin 5) : Dev :=
  let drop := fun r : Req => if r.src = .local t then { r with src := .gone } else r
  let d1 := (d.modDict fun x => { x with queue := x.queue.map drop, cust := x.cust.map (fun o => o.map drop), start := x.start.map drop }).set (DE.LCTL_BUSY t) 0
  if h : 0 < t.val then d1.custLate ⟨t.val - 1, by omega⟩ else d1

end Sys2Proof.Machine
end

