-- ==== Sys2Proof/Machine/Redundancy.lean ====
section
/-! DEFINITION. Chapter 11: the vote on Truss outputs, dissents, frames, the state scrub, lock-step spans and their resets,
asynchronous inputs, and debug halts. -/

namespace Sys2Proof.Machine

/-! ### Truss -/

/-- A bit is set in a field of Truss's harts. -/
def Dev.setHart (d : Dev) (f : Fld) (h : Fin 3) : Dev := d.set f (d.get f ||| 2 ^ h.val)

/-- Hart h of Truss is retired for good (R315). -/
def Dev.retire (d : Dev) (h : Fin 3) : Dev :=
  let d1 := ((((d.setHart KS.TSTAT_RETIRED h).setHart KS.TSTAT_HELDM h).set KS.TSTAT_RETIRE 1).set KS.TSTAT_MODE 1).assertLine 11 0
  { d1 with nv := { d1.nv with retired := d1.get KS.TSTAT_RETIRED } }

/-- The epochs of a list that lie within the last 1,000 ms. -/
def Dev.lastSecond (d : Dev) (l : List Nat) : List Nat := l.filter fun t => decide (d.now < t + 4000000)

/-- One more dissent is counted, since reset and over life. -/
def Dev.countDissent (d : Dev) : Dev :=
  let d1 := d.countSat KS.TCNT_DISSENTS
  { d1 with nv := { d1.nv with lifeDissents := min (d1.nv.lifeDissents + 1) (2 ^ 32 - 1) } }

/-- Has the scrub flagged hart h by its signature in this epoch (log 189)? -/
def Dev.signedNow (d : Dev) (h : Fin 3) : Bool := decide (d.vol.ks.signed = some (d.now, h))

/-- A dissent of a hart that is held already is counted only; a voted output and a signature of one cycle count once, with the kind of the
output (R317). -/
def Dev.dissentHeld (d : Dev) (kind : Nat) (h : Fin 3) (a : Nat) : Dev :=
  if kind ≤ 3 ∧ d.signedNow h = true then
    ((d.set KS.TLAST_KIND kind).set KS.TADDR_ADDR a).modKs fun k => { k with signed := none }
  else d.countDissent

/-- Hart h of Truss dissents (R313): recorded and held; a second one while another is held stops Truss (R317), and the third
flag within 1,000 ms retires the hart (R315). -/
def Dev.dissent (d : Dev) (kind : Nat) (h : Fin 3) (a : Nat) : Dev :=
  if natBit (d.get KS.TSTAT_HELDM) h then d.dissentHeld kind h a
  else
    let times := d.now :: d.lastSecond (vget d.vol.ks.flags h)
    let d1 := ((((((d.countDissent.set KS.TSTAT_DISS 1).set KS.TSTAT_DHART h).set KS.TLAST_KIND kind).set KS.TLAST_HART h).set KS.TADDR_ADDR
      (if kind ≤ 3 then a else 0)).assertLine 10 0).modKs fun k => { k with flags := vset k.flags h times }
    if d.get KS.TSTAT_HELDM ≠ 0 then (d1.setHart KS.TSTAT_HELDM h).trussStop
    else
      let d2 := (d1.setHart KS.TSTAT_HELDM h).set KS.TSTAT_MODE 1
      if 3 ≤ times.length then d2.retire h else d2

/-- The `KIND` of an output (Table 11-8). -/
def busKind : BusOut → Nat
  | .fetch _ => 0
  | .load _ _ => 1
  | .store _ _ _ => 2
  | _ => 3

/-- The address of an output, 0 for one that has none. -/
def busAddr : BusOut → Nat
  | .fetch a | .load a _ | .store a _ _ => a.toNat
  | _ => 0

/-- Target t gives output c to the fabric; a suppressed output leaves nothing there. -/
def Dev.giveOut (d : Dev) (t : Fin 3) (c : BusOut) : Dev := d.modKs fun k => { k with out := vset k.out t c }

/-- A voted output names its dissenter, with the kind and the address of the copy that differs (log 156). -/
def Dev.outVoted (d : Dev) (h : Fin 3) (own majority : BusOut) : Dev := (d.dissent (busKind own) h (busAddr own)).giveOut 0 majority

/-- A hart that the scrub has flagged in this cycle gave its copy still: where it differs, the voted output names the hart (R317). -/
def Dev.lateVote (d : Dev) (c : Fin 3 → BusOut) (majority : BusOut) : Dev :=
  d.each ((List.finRange 3).filter fun h : Fin 3 => natBit (d.get KS.TSTAT_HELDM) h && d.signedNow h && decide (c h ≠ majority)) fun d h =>
    d.dissent (busKind (c h)) h (busAddr (c h))

/-- TRUSS_OUTPUT (R310, R313, R316, R317, R332): the majority of three copies, or the two equal copies of a pair, is forwarded; in
debug the output of the hart that the debugger acts on goes on unchecked; with no majority nothing is forwarded from then on. -/
def execTrussOutput (c0 c1 c2 : BusOut) (s : State) : Host.Outcome State Fault Refusal :=
  s.lift fun d =>
    let c := pick3 c0 c1 c2
    if !d.running || decide (d.get KS.TSTAT_MODE = 3) then d
    else
      match d.trussHarts with
      | [_, _, _] =>
        if c0 = c1 then
          if c1 = c2 then d.giveOut 0 c0 else d.outVoted 2 c2 c0
        else if c1 = c2 then d.outVoted 0 c0 c1
        else if c0 = c2 then d.outVoted 1 c1 c0
        else d.trussStop.giveOut 0 .none
      | [p, q] => if c p = c q then (d.lateVote c (c p)).giveOut 0 (c p) else d.trussStop.giveOut 0 .none
      | [p] => d.giveOut 0 (c p)
      | _ => d

/-- The held harts that are not retired. -/
def Dev.heldHarts (d : Dev) : List (Fin 3) :=
  (List.finRange 3).filter fun h => natBit (d.get KS.TSTAT_HELDM) h && !natBit (d.get KS.TSTAT_RETIRED) h

/-- A held hart runs again (Table 11-3). -/
def Dev.rejoin (d : Dev) (h : Fin 3) : Dev :=
  let m := d.get KS.TSTAT_HELDM - 2 ^ h.val
  ((d.set KS.TSTAT_HELDM m).set KS.TSTAT_MODE (if m = 0 then 0 else 1)).countSat KS.TCNT_REINT

/-- The signatures of Truss differ: flag, record and line 13 (R331). -/
def Dev.latentTruss (d : Dev) : Dev :=
  ((d.set KS.TSTAT_LATENT_DIV 1).set KS.SCRUBST_LASTDIV (d.get KS.SCRUBST_LASTDIV ||| 1)).assertLine 13 0

/-- The harts that this resynchronisation point reintegrates: the held ones, but for one that the scrub of the same point has flagged, which waits for
the next point (R314, R331). -/
def Dev.dueHarts (d : Dev) : List (Fin 3) := d.heldHarts.filter fun h => !d.signedNow h

/-- The harts due are loaded from hart p; each runs again, or, where its signature differs (R331), dissents and is retired (R315). -/
def Dev.reload3 (d : Dev) (p : Fin 3) (g : Fin 3 → BitVec 64) : Dev :=
  (d.each d.dueHarts fun d h => if g h = g p then d.rejoin h else (d.latentTruss.dissent 4 h 0).retire h).trussShort

/-- Reintegration (R314-R316, R329, R331, R334): the harts due are loaded from the majority, whose words and signatures must be equal, or after a
debug halt from the one hart that ran on. -/
def Dev.reintegrate (d : Dev) (w : Fin 3 → List Word) (g : Fin 3 → BitVec 64) : Dev :=
  if d.dueHarts.isEmpty then d
  else
    let d1 := d.modKs fun k => { k with reint := some d.now }
    match d.trussHarts with
    | p :: q :: _ =>
      if w p ≠ w q then d1.trussStop
      else if g p = g q then d1.reload3 p g
      else d1.latentTruss.trussStop
    | [p] => d1.reload3 p g
    | [] => d

/-- The classes of target t that are in mode AGREE take their values from `INCLSt` (R326). -/
def Dev.inclsInForce (d : Dev) (t : Fin 3) : Dev :=
  d.modKs fun k => { k with incls := vset k.incls t (d.bit (KS.INCLS_C0 t), d.bit (KS.INCLS_C1 t)) }

/-- The work of the resident firmware once a frame (R335): the readers, Causeway, SS1 and the contactors. -/
def Dev.frameWork (d : Dev) (levels : List Nat) : Dev :=
  let d1 := ((((d.readLevels levels).readerCheck 0).readerCheck 1).cwApply.ss1Return 0).ss1Return 1
  d1.each [0, 1, 2, 3] Dev.ctrFrame

/-- TRUSS_FRAME (R314, R326, R335); reader 2 is sampled in any case (R364). -/
def execTrussFrame (w0 w1 w2 : List Word) (g0 g1 g2 : BitVec 64) (levels : List (BitVec 10)) (s : State) : Host.Outcome State Fault Refusal :=
  s.lift fun d =>
    let d0 := d.when d.sioWorks fun d => d.sampleLevels (levels.map (·.toNat))
    if !d.trussWorks then d0
    else
      let d1 := (d0.inclsInForce 0).reintegrate (pick3 w0 w1 w2) (pick3 g0 g1 g2)
      if d1.get KS.TSTAT_MODE = 3 then d1 else d1.frameWork (levels.map (·.toNat))

/-! ### Span resets -/

/-- SPAN_RESOURCE_RELEASE (R359): the semaphores and claims of the span or hart with index i, whose tag is 3 + i and whose
target is 1 + i, at once; its requests to and from the dictionary end (R449, R451). DMA channels and mailboxes follow, in the order of Table 12-5, before
the reset is released. -/
def Dev.releaseSpan (d : Dev) (i : Fin 4) : Dev :=
  let d1 := d.each (List.range 32) fun d k =>
    if d.bit (FCOL.SEM_TAKEN k) && decide (d.get (FCOL.SEM_OWNER k) = 3 + i) then
      ((d.set (FCOL.SEM_TAKEN k) 0).set (FCOL.SEM_OWNER k) 0).countSat FCOL.RELSTAT_SEMREL
    else d
  (d1.each (d1.vol.flt.claims.filter fun c => decide (c.2 = 1 + i.val)) fun d c => d.complete c.1).targetReset ⟨i.val + 1, by omega⟩

/-- Span sp as a target (Table 11-1). -/
def spanTarget (sp : Fin 2) : Fin 3 := ⟨sp.val + 1, by omega⟩

/-- Target t is out of debug. -/
def Dev.leaveDebug (d : Dev) (t : Fin 3) : Dev :=
  d.when (natBit (d.get KS.DBG_TGT) t) fun d => d.set KS.DBG_TGT (d.get KS.DBG_TGT - 2 ^ t.val)

/-- A reset of span sp, or of its hart h if it is split, begins (Table 11-4): nothing of it goes on, its resources are released; the lowest cause
counts (R319). A halt by the debugger ends with it (log 157). -/
def Dev.spanReset (d : Dev) (sp h : Fin 2) (cause : Nat) : Dev :=
  let i := d.spanIdx sp h
  let c := match vget d.vol.ks.pending i with | some x => min x cause | none => cause
  let d1 := d.when (!d.split sp) fun d => ((d.set (KS.SPSTAT_MODE sp) 1).leaveDebug (spanTarget sp)).giveOut (spanTarget sp) .none
  (d1.modKs fun k =>
    { k with pending := vset k.pending i (some c), halted := vset k.halted i false,
             began := if (vget k.pending i).isSome then k.began else vset k.began i d.now }).releaseSpan i

/-- Has the reset of lock-step span sp begun in this cycle, so that a further cause still arises in it (R319; log 189)? -/
def Dev.resetNow (d : Dev) (sp : Fin 2) : Bool :=
  !d.split sp && (vget d.vol.ks.pending (d.spanIdx sp 0)).isSome && decide (vget d.vol.ks.began (d.spanIdx sp 0) = d.now)

/-- Are the copies, signatures and samples of span sp compared? -/
def Dev.compared (d : Dev) (sp : Fin 2) : Bool := d.lockstep sp || d.resetNow sp

/-- SPAN_OUTPUT (R318, R332): equal copies are forwarded; copies that differ are suppressed, and the address of hart 1's copy is recorded, the one
that is compared (log 156); in debug the output of hart 0 goes on unchecked. -/
def execSpanOutput (sp : Fin 2) (c0 c1 : BusOut) (s : State) : Host.Outcome State Fault Refusal :=
  s.lift fun d =>
    if d.compared sp then
      if c0 = c1 then d.when (d.lockstep sp) fun d => d.giveOut (spanTarget sp) c0
      else (((d.set (KS.SPSTAT_MISMATCH sp) 1).set (KS.SPADDR_ADDR sp) (busAddr c1)).assertLine 14 0).spanReset sp 0 1
    else if d.spanRuns sp (d.spanIdx sp 0) && decide (d.get (KS.SPSTAT_MODE sp) = 3) then d.giveOut (spanTarget sp) c0
    else d

/-- The span is parked (R320). -/
def Dev.park (d : Dev) (sp : Fin 2) : Dev := ((d.set (KS.SPSTAT_MODE sp) 2).set (KS.SPSTAT_PARK sp) 1).assertLine 15 0

/-- Is f a function ID of span sp, or of its hart h if it is split (Table 1-8)? -/
def Dev.spanOwns (d : Dev) (sp h : Fin 2) (f : Nat) : Bool :=
  let lo := 0x40 + 0x40 * sp.val + (if d.split sp then 0x20 * h.val else 0)
  decide (lo ≤ f) && decide (f < lo + if d.split sp then 0x20 else 0x40)

/-- The DMA channels that the reset of a span stops: those it owns, of the ones with a transfer under way (R359). -/
def Dev.dmaStops (d : Dev) (sp h : Fin 2) (busy : BitVec 16) : List (Fin 16) :=
  (List.finRange 16).filter fun c => busy.getLsbD c && d.spanOwns sp h (d.get (OWN.R_OWNER 0 (16 + c)))

/-- They stop with an abort status, and are counted. -/
def Dev.dmaAbort (d : Dev) (cs : List (Fin 16)) : Dev :=
  { d with dma := cs.foldl (fun v c => vset v c { vget v c with aborted := true }) d.dma }.countBySat FCOL.RELSTAT_DMAABT cs.length

/-- SPAN_RESET_RELEASE (R318, R320, R326, R359). -/
def execSpanResetRelease (sp h : Fin 2) (dma : BitVec 16) (s : State) : Host.Outcome State Fault Refusal :=
  s.lift fun d =>
    let i := d.spanIdx sp h
    match vget d.vol.ks.pending i with
    | none => d
    | some cause =>
      let times := d.now :: d.lastSecond (vget d.vol.ks.resets sp)
      let counted := decide (1 ≤ cause) && decide (cause ≤ 3)
      let d1 := (((((d.dmaAbort (d.dmaStops sp h dma)).flushMailboxes (3 + i)).countSat (KS.SPSTAT_RESETS sp)).set (KS.SPSTAT_CAUSE sp) cause).inclsInForce
        ⟨sp.val + 1, by omega⟩).modKs fun k =>
          { k with pending := vset k.pending i none,
                   resets := if counted then vset k.resets sp times else k.resets }
      if d.split sp then d1
      else if counted && decide (max 1 (d.get (KS.SPCTL_SPRMAX sp)) ≤ times.length) then d1.park sp
      else d1.set (KS.SPSTAT_MODE sp) 0

/-- A restart of a span, or of a split hart, with cause 4; the count of R320 starts again (R321, R323). -/
def Dev.spanRestart (d : Dev) (sp : Fin 2) : Dev :=
  if d.works 2 1 then
    (d.modKs fun k => { k with resets := vset k.resets sp [] }).spanReset sp (if d.bit (KS.SPCTL_HSEL sp) then 1 else 0) 4
  else d

/-- SPAN_RESTART (R321, R336). -/
def execSpanRestart (m : Master) (sp : Fin 2) (s : State) : Host.Outcome State Fault Refusal :=
  s.lift fun d =>
    let a := 0x40040100 + 0x20 * sp.val
    if d.accessAllowed m a true then (d.spanRestart sp).busOk 0 else d.busError m a true

/-! ### Scrub and asynchronous inputs -/

/-- LATENT_DIVERGENCE in Truss (R331): of three harts the odd one dissents; otherwise there is no majority. -/
def Dev.trussDiverged (d : Dev) (t0 t1 t2 : BitVec 64) : Dev :=
  let d1 := d.latentTruss
  let odd := fun h : Fin 3 => (d1.dissent 4 h 0).modKs fun k => { k with signed := some (d.now, h) }
  if d.trussHarts.length = 3 then
    if t0 = t1 then odd 2 else if t1 = t2 then odd 0 else if t0 = t2 then odd 1 else d1.trussStop
  else d1.trussStop

/-- Has this resynchronisation point reintegrated harts? -/
def Dev.reintNow (d : Dev) : Bool := decide (d.vol.ks.reint = some d.now)

/-- The scrub of Truss (R329-R331); a reintegration at the same point takes its place, and debug and a stop exclude it. A hart that
an output has flagged before it counts once, with the output's kind (R317). -/
def Dev.scrubTruss (d : Dev) (t0 t1 t2 : BitVec 64) : Dev :=
  let v := fun h : Fin 3 => if h = 0 then t0 else if h = 1 then t1 else t2
  if 2 ≤ d.get KS.TSTAT_MODE ∨ d.heldHarts.isEmpty = false ∨ d.reintNow = true then d
  else if (d.trussHarts.any fun p => d.trussHarts.any fun q => decide (v p ≠ v q)) then d.trussDiverged t0 t1 t2
  else d

/-- The scrub of span sp (R330, R331). -/
def Dev.scrubSpan (d : Dev) (sp : Fin 2) (x y : BitVec 64) : Dev :=
  if d.compared sp && decide (x ≠ y) then
    (((d.set (KS.SPSTAT_LATENT_DIV sp) 1).set KS.SCRUBST_LASTDIV (d.get KS.SCRUBST_LASTDIV ||| 2 ^ (sp.val + 1))).assertLine 13 0).spanReset sp 0 2
  else d

/-- STATE_SCRUB (R329-R331). -/
def execStateScrub (t0 t1 t2 a0 a1 b0 b1 : BitVec 64) (s : State) : Host.Outcome State Fault Refusal :=
  s.lift fun d =>
    if !d.running then d
    else ((((d.countWrap KS.SCRUBST_SCRUBS).set KS.SCRUBST_LASTDIV (if d.reintNow then d.get KS.SCRUBST_LASTDIV % 2 else 0)).scrubTruss t0 t1 t2).scrubSpan 0 a0 a1).scrubSpan 1 b0 b1

/-- Of three harts a disagreeing one dissents; in a pair a disagreement of its harts stops Truss, and one of the held hart is only counted
(R317, R328). -/
def Dev.trussInput (d : Dev) (apart : Fin 3 → Bool) : Dev :=
  if 2 ≤ d.get KS.TSTAT_MODE then d
  else if d.trussHarts.length = 2 && d.trussHarts.any apart then d.trussStop
  else d.each ((List.finRange 3).filter apart) fun d h => d.dissent 5 h 0

/-- A disagreement of a lock-step span resets it (R328). -/
def Dev.spanInput (d : Dev) (sp : Fin 2) (apart : Bool) : Dev := d.when (d.compared sp && apart) fun d => d.spanReset sp 0 3

/-- The samples of class 1 are checked against the agreed value where the target is in AGREE (R328). -/
def Dev.judgeTime (d : Dev) (t : Fin 3) (x : Fin 3 → Nat) : Dev :=
  if !(vget d.vol.ks.incls t).2 then d
  else if t = 0 then d.trussInput fun h => apart1 (agreed1 (d.trussHarts.map x)) (x h)
  else d.spanInput (if t = 1 then 0 else 1) (apart1 (min (x 0) (x 1)) (max (x 0) (x 1)))

/-- The same for the samples of one class-0 line in eight consecutive cycles. -/
def Dev.judgeLine (d : Dev) (t : Fin 3) (x : Fin 3 → BitVec 8) : Dev :=
  if !(vget d.vol.ks.incls t).1 then d
  else if t = 0 then d.trussInput fun h => apart0 (d.trussHarts.map x) (x h)
  else d.spanInput (if t = 1 then 0 else 1) (apart0 [x 0, x 1] (x 0) || apart0 [x 0, x 1] (x 1))

/-- INPUT_DISAGREEMENT (R328). -/
def execInputDisagreement (t : Fin 3) (x : Samples) (s : State) : Host.Outcome State Fault Refusal :=
  s.lift fun d =>
    if !d.running then d
    else
      match x with
      | .line x0 x1 x2 => d.judgeLine t (pick3 x0 x1 x2)
      | .time x0 x1 x2 => d.judgeTime t fun h => (pick3 x0 x1 x2 h).toNat

/-- The CSR `time` as a hart of master m reads it (R324, R325): of the samples, what the target takes; and the samples are checked. -/
def Dev.timeCsr (d : Dev) (m : Master) (base : Nat) (high : Bool) (k : Fin 3 → Nat) : Dev :=
  let x := fun h : Fin 3 => (base + k h) % 2 ^ 64
  let v := fun t l => taken1 (vget d.vol.ks.incls t).2 l
  let ans := fun (d : Dev) (t : Nat) => d.busOk (if high then t / 2 ^ 32 else t % 2 ^ 32)
  match m with
  | .truss => (ans d (v 0 (d.trussHarts.map x))).judgeTime 0 x
  | .span0 => if d.lockstep 0 then (ans d (v 1 [x 0, x 1])).judgeTime 1 x else ans d (x 0)
  | .span1 => if d.lockstep 1 then (ans d (v 2 [x 0, x 1])).judgeTime 2 x else ans d (x 0)
  | .span0h1 | .span1h1 => ans d (x 0)
  | _ => d

/-- The 64-bit field, the address of its low word and the latch of the high one, of a ledger pair (R496). -/
def ledgerPair (i : Fin 5) : Fld × Nat × Fld :=
  match i with
  | 0 => (LG.IMP_W, 0x40A00030, LG.TOTH_LATCH 0)
  | 1 => (LG.EXP_W, 0x40A00038, LG.TOTH_LATCH 1)
  | 2 => (LG.DIS_W, 0x40A00040, LG.TOTH_LATCH 2)
  | 3 => (LG.CHG_W, 0x40A00048, LG.TOTH_LATCH 3)
  | _ => (LG.SEQ_W, 0x40A00058, LG.SEQH_LATCH)

/-- A read of the low word at address a of a value of 64 bits, which latches the high word. -/
def Dev.latchRead (d : Dev) (m : Master) (a v : Nat) (f : Fld) : Dev :=
  if d.accessAllowed m a false then (d.set f (v / 2 ^ 32)).busOk (v % 2 ^ 32) else d.busError m a false

/-- TIMEBASE_READ (R324, R325, R396, R469, R470, R496, Table 14-8): a read of a lower register latches the upper half; the CSRs are read in every state
of the network domain, and take no bus error; until the domain is lowered, and T0 with K0 latched, the timebase counts. -/
def execTimebaseRead (m : Master) (r : TimeRead) (s : State) : Host.Outcome State Fault Refusal :=
  s.lift fun d =>
    match r with
    | .cntl => d.latchRead m 0x40C00000 (d.get TB.CNT_W) TB.CNTH_LATCH
    | .netl => d.latchRead m 0x40C00008 d.netTime TB.NETH_LATCH
    | .kacntl => d.latchRead m 0x40000880 (d.get PIER.KACNT_W) PIER.KACNTH_LATCH
    | .ledger i => d.latchRead m (ledgerPair i).2.1 (d.get (ledgerPair i).1) (ledgerPair i).2.2
    | .csr high k0 k1 k2 =>
      if !d.masterExists m then d
      else if d.domainUp 7 then d.timeCsr m (d.get TB.CNT_W) high fun h => (pick3 k0 k1 k2 h).toNat
      else d.timeCsr m (d.sleepTime s.mem) high fun _ => 0

/-! ### Debug -/

/-- Is debug access to target t open (Table 3-12)? -/
def Dev.debugOpen (d : Dev) (t : Fin 3) : Bool :=
  match d.get LC.LCSTATE_STATE with
  | 0 | 1 => true
  | 2 => decide (t ≠ 0)
  | 3 | 4 => decide (t ≠ 0) && d.vol.start.custAuth
  | 5 => d.vol.start.makerAuth
  | _ => false

/-- A modulator that runs sends both bridges to their safe state (R226). -/
def Dev.debugSafe (d : Dev) : Dev :=
  if bridges.any fun b => d.bit (MOD.CTL_RUN b) then
    d.each bridges fun d b => ((d.set (MOD.STAT_DBGHALT b) 1).assertLine 31 (brMask b)).safeCause b (GL.BSTAT_HALT b)
  else d

/-- The first halt of a lock-step target in a power-on period leaves its flag (R333). -/
def Dev.debugFlag (d : Dev) : Dev :=
  if d.pier.dbgSeen then d
  else
    let n := min (d.nv.dbgCount + 1) 65535
    (({ d with pier := { d.pier with dbgSeen := true }, nv := { d.nv with dbgls := true, dbgCount := n } }.set KS.DBG_DBGLS 1).set
      KS.DBG_DBGCNT n).assertLine 16 0

/-- The bit of target t in `TGT`. -/
def Dev.inDebug (d : Dev) (t : Fin 3) : Bool := natBit (d.get KS.DBG_TGT) t

/-- All harts of Truss but the first that runs are held for the debugger: hart 0, or the next one if hart 0 is held (log 155). -/
def Dev.holdOthers (d : Dev) : Dev := d.each d.trussHarts.tail fun d h => d.setHart KS.TSTAT_HELDM h

/-- Hart h of split span sp is halted or runs again. -/
def Dev.haltSplit (d : Dev) (sp h : Fin 2) (v : Bool) : Dev := d.modKs fun k => { k with halted := vset k.halted (d.spanIdx sp h) v }

/-- DEBUG_HALT (R332-R334, R226). -/
def execDebugHalt (t : Fin 3) (h : Fin 2) (s : State) : Host.Outcome State Fault Refusal :=
  s.lift fun d =>
    if !d.running || !d.debugOpen t || d.inDebug t then d
    else if t = 0 then
      if d.get KS.TSTAT_MODE = 3 then d
      else ((d.set KS.DBG_TGT (d.get KS.DBG_TGT ||| 1)).set KS.TSTAT_MODE 2).holdOthers.debugFlag.debugSafe
    else
      let sp : Fin 2 := if t = 1 then 0 else 1
      if d.lockstep sp then ((d.set KS.DBG_TGT (d.get KS.DBG_TGT ||| 2 ^ t.val)).set (KS.SPSTAT_MODE sp) 3).debugFlag.debugSafe
      else if d.split sp && d.spanRuns sp (d.spanIdx sp h) then (d.haltSplit sp h true).debugSafe
      else d

/-- DEBUG_RESUME (R334): a span is compared again at once; Truss runs on the one hart, uncompared, up to its next frame; a split hart runs on. -/
def execDebugResume (t : Fin 3) (h : Fin 2) (s : State) : Host.Outcome State Fault Refusal :=
  s.lift fun d =>
    if !d.running then d
    else if d.inDebug t then
      if t = 0 then d.leaveDebug 0
      else
        let sp : Fin 2 := if t = 1 then 0 else 1
        (d.leaveDebug t).when (decide (d.get (KS.SPSTAT_MODE sp) = 3)) fun d => d.set (KS.SPSTAT_MODE sp) 0
    else if t = 0 then d
    else (d.haltSplit (if t = 1 then 0 else 1) h false).settleIrq

/-- May the lock-step-debug flag be cleared now (R333)? -/
def Dev.dbglsClearable (d : Dev) : Bool :=
  match d.get LC.LCSTATE_STATE with
  | 1 | 2 => true
  | 3 | 4 => d.vol.start.custAuth
  | 5 => d.vol.start.makerAuth
  | _ => false

/-- A write of `0x4710:03` (R333, R339), its checks in the order of R432; with PWR_FAIL_N low it is applied and not stored (R429). -/
def Dev.dbglsWrite (d : Dev) (v : Bool) : Dev :=
  if !d.dbglsClearable then d.abort 0x4710 3 0x0630 0
  else if d.get DE.STAT_OPSTATE = 6 then d.abort 0x4710 3 0x0622 0
  else if v then d.abort 0x4710 3 0x0611 0
  else
    let d1 := d.set KS.DBG_DBGLS 0
    if d.lands.failN then { d1 with nv := { d1.nv with dbgls := false } }.answer 0 0
    else { d1 with resp := { code := 0, detail := 2, data := 0, len := 0 } }

/-- DBGLS_CLEAR (R333, R339). -/
def execDbglsClear (v : Bool) (s : State) : Host.Outcome State Fault Refusal := s.lift fun d => d.dbglsWrite v

end Sys2Proof.Machine
end

