-- ==== Sys2Proof/Machine/RegWrite.lean ====
section
/-! DEFINITION. A write of a register (R10-R13, R31-R35): who may write it, which field takes what, the lock bits, and what
follows at once. -/

namespace Sys2Proof.Machine

/-! ### Lock bits -/

/-- The lock bit of a block (R13). -/
def lockFld : LockBlock → Fld
  | .analog => AS.CTL_LOCK
  | .pos p => POS.CTL_LOCK p
  | .engine => CE.CTL_LOCK
  | .modulator x => MOD.CTL_LOCK x
  | .gate => GL.CTL_LOCK
  | .thermal => TH.CTL_LOCK
  | .keystone => KS.CTL_LOCK
  | .collector => FCOL.CTL_LOCK
  | .safety => SIO.CTL_LOCK
  | .can p => CAN.CTL_LOCK p
  | .kinak => KN.CTL_LOCK
  | .dictionary => DE.CTL_LOCK
  | .ledger => LG.CTL_LOCK

/-- The lock bit that governs the RWL fields at an address. -/
def lockAt (a : Nat) : Option Fld :=
  match a / 0x10000 with
  | 0x4010 | 0x4011 => some AS.CTL_LOCK
  | 0x4020 => some (POS.CTL_LOCK 0)
  | 0x4021 => some (POS.CTL_LOCK 1)
  | 0x4030 => some CE.CTL_LOCK
  | 0x4040 => some (MOD.CTL_LOCK 0)
  | 0x4041 => some (MOD.CTL_LOCK 1)
  | 0x4050 => some GL.CTL_LOCK
  | 0x4060 => some TH.CTL_LOCK
  | 0x4004 => some KS.CTL_LOCK
  | 0x4003 => some FCOL.CTL_LOCK
  | 0x4070 => some SIO.CTL_LOCK
  | 0x4080 => some (if a % 0x10000 < 0x8000 then CAN.CTL_LOCK 0 else KN.CTL_LOCK)
  | 0x4081 => some (CAN.CTL_LOCK 1)
  | 0x4082 => some (CAN.CTL_LOCK 2)
  | 0x4083 => some (CAN.CTL_LOCK 3)
  | 0x4090 => some DE.CTL_LOCK
  | 0x40A0 => some LG.CTL_LOCK
  | _ => none

/-- Is the block at an address locked? -/
def Dev.lockedAt (d : Dev) (a : Nat) : Bool := match lockAt a with | some f => d.bit f | none => false

/-! ### Who may write -/

/-- The span of a server or local target number 1-4 (R341). -/
def targetSpan (t : Nat) : Nat := if t = 1 ∨ t = 2 then 0 else if t = 3 ∨ t = 4 then 1 else 2

/-- The span that master m is or belongs to. -/
def spanOf : Master → Nat
  | .span0 | .span0h1 => 0
  | .span1 | .span1h1 => 1
  | _ => 3

/-- Is m the master behind target t of Table 12-2 (a lock-step span answers for its first target)? -/
def isTarget (m : Master) (t : Nat) : Bool :=
  match m with
  | .truss => decide (t = 0) | .span0 => decide (t = 1) | .span0h1 => decide (t = 2) | .span1 => decide (t = 3)
  | .span1h1 => decide (t = 4) | _ => false

/-- The writers that a chapter names for an address of the interrupt controller (R348). Target 5 is no master: its `THR5` is one of the other
registers, written by Truss and both spans (DEDUCED, log 179). -/
def intcWriter (m : Master) (o : Nat) : Bool :=
  if 0x1000 ≤ o ∧ o < 0x1100 then decide (m = .truss)
  else if 0x2000 ≤ o ∧ o < 0x2180 ∧ o % 0x40 < 8 then decide (m = .truss)
  else if 0x3000 ≤ o ∧ o < 0x3050 then isTarget m ((o - 0x3000) / 0x10)
  else decide (m = .truss) || isSpan m

/-- The writers of the dictionary engine's registers (R450). -/
def Dev.deWriter (d : Dev) (m : Master) (o : Nat) : Bool :=
  if 0x100 ≤ o ∧ o < 0x150 then isTarget m ((o - 0x100) / 0x10)
  else if 0x200 ≤ o ∧ o < 0x240 then
    decide (m = .truss) || (isSpan m && decide (targetSpan (d.get (DE.CUSTA_SERVER ((o - 0x200) / 8))) = spanOf m))
  else if 0x310 ≤ o ∧ o < 0x350 then isTarget m ((o - 0x300) / 0x10)
  else true

/-- The writers of the domain requests and of the Pier (R455, R477): `PDCTLd`, `CTL`, `WCFGs` and `KAALM` Truss and the dictionary engine, the
registers that hold W1C fields alone Truss. -/
def pierWriter (m : Master) (o : Nat) : Bool :=
  if (0x204 ≤ o ∧ o < 0x224) ∨ (0x800 ≤ o ∧ o < 0x804) ∨ (0x810 ≤ o ∧ o < 0x834) ∨ (0x888 ≤ o ∧ o < 0x890) then isTrussOrDict m
  else if 0x898 ≤ o ∧ o < 0x8A0 then decide (m = .truss)
  else true

/-- The writers that the chapters name beyond Table 1-5 and R35: ownership of slices, compare units and timers (R109, R156, R398),
sync groups (R112), loop 6 (R181), the modulators (R202), the INTC (R348), mailboxes (R399), the engine (R450), domain requests
and the Pier (R455, R477), the ledger (R496). -/
def Dev.chapterWriter (d : Dev) (m : Master) (a : Nat) : Bool :=
  let o := a % 0x10000
  match a / 0x10000 with
  | 0x4000 => pierWriter m o
  | 0x4002 => intcWriter m o
  | 0x4010 =>
    if 0x10 ≤ o ∧ o < 0x20 then isTrussOrDict m
    else if 0x100 ≤ o ∧ o < 0x180 then d.mayClaimId m (d.get (OWN.R_OWNER 1 ((o - 0x100) / 4)))
    else true
  | 0x4020 => if 0x100 ≤ o ∧ o < 0x140 then d.mayClaimId m (d.get (OWN.R_OWNER 2 ((o - 0x100) / 0x10))) else true
  | 0x4021 => if 0x100 ≤ o ∧ o < 0x140 then d.mayClaimId m (d.get (OWN.R_OWNER 3 ((o - 0x100) / 0x10))) else true
  | 0x4030 =>
    if [0, 1].any fun b => decide (a = (CE.LPARP_LPARP b 6).addr) || decide (a = (CE.LPARN_LPARN b 6).addr) then decide (m = .truss) else true
  | 0x4040 | 0x4041 => isTrussOrDict m
  | 0x4080 | 0x4081 | 0x4082 | 0x4083 => if 0x400 ≤ o ∧ o < 0x800 then mbWritable m ((o - 0x400) / 0x20) else true
  | 0x4090 => d.deWriter m o
  | 0x40A0 => if o = 0x1C then decide (m = .truss) else if o < 0x1C then isTrussOrDict m else true
  | 0x40C0 => if 0x100 ≤ o ∧ o < 0x180 then d.mayClaimId m (d.get (OWN.R_OWNER 5 ((o - 0x100) / 0x10))) else true
  | _ => true

/-- May master m write the register at address a now? A chapter's narrower set of writers is one of its registers; a reserved offset has the writers
of its window (R31, R35). -/
def Dev.mayWrite (d : Dev) (m : Master) (a : Nat) : Bool := d.accessAllowed m a true && ((regFields a).isNone || d.chapterWriter m a)

/-! ### What a field takes -/

/-- May master m clear a W1C field at an address: of the Pier and the domain requests Truss only (R477)? -/
def w1cWriter (m : Master) (a : Nat) : Bool := decide (m = .truss) || !(decide (0x40000200 ≤ a) && decide (a < 0x40000900))

/-- Does a word of master m write 1 to a W1C field that it may not clear (R477)? -/
def w1cBarred (m : Master) (a v : Nat) : Bool :=
  !w1cWriter m a && ((regFields a).getD []).any fun f => decide (f.acc = .w1c) && decide (v / 2 ^ f.lo % 2 ^ f.width ≠ 0)

/-- The value that a field stores: `DMASK` has bit 0 clear and bit 1 set (Table 16-12); bits 3:0 of `RXBASE` read 0 (Table 14-7). -/
def storedValue (f : Fld) (v : Nat) : Nat :=
  if f.lo = 0 ∧ (List.finRange 4).any (fun p => decide (f = CAN.RXBASE_BASE p)) = true then v / 16 * 16 else
  if f.addr / 0x10000 = 0x4000 ∧ 0x40000810 ≤ f.addr ∧ f.addr < 0x40000834 ∧ f.lo = 8 then v % 512 / 4 * 4 + 2 else v

/-- A field takes its bits of a written word (R11); a field with a behaviour of its own takes nothing here. -/
def Dev.fieldWrite (d : Dev) (m : Master) (w : Nat) (f : Fld) : Dev :=
  let v := w / 2 ^ f.lo % 2 ^ f.width
  if f.beh || fieldFixed f then d
  else
    match f.acc with
    | .rw => d.set f (storedValue f v)
    | .w1c => d.set f (d.get f &&& (2 ^ f.width - 1 - v))
    | .w1s => d.set f (d.get f ||| v)
    | .rwl => if d.lockedAt f.addr then d else d.set f v
    | .ro | .wo => d

/-! ### What follows a write -/

/-- The prescalers of modulator x start anew where `PSC` was written (R223). -/
def Dev.reloadPsc (d : Dev) (x : Bridge) (o : Nat) : Dev :=
  d.modMod x fun m => { m with psc := .ofFn fun k => if 0x40 + 4 * k.val = o then 0 else vget m.psc k }

/-- The modulators' registers: `SRC`, `OUTEN` (R204), events, refresh, mask (R218, R220, R223), the block table and its start (R221). -/
def Dev.modFollow (d : Dev) (x : Bridge) (o : Nat) : Dev :=
  if o = 0 then d.modCtlFollow x
  else if 0x40 ≤ o ∧ o < 0x5C then d.reloadPsc x o
  else if o = 0x64 then d.judgePump x
  else if o = 0x68 then d.drive
  else if 0x70 ≤ o ∧ o < 0x7C then d.commutate x d.cycle
  else d

/-- `AS.CTL.EN` goes from 0 to 1: the continuous scans start (R111); from 1 to 0: every conversion stops, and with it a triggered set and the
work of a calibration slot (R131, log 134). -/
def Dev.analogFollow (d0 d : Dev) : Dev :=
  if d0.bit AS.CTL_EN = d.bit AS.CTL_EN then d
  else if d.bit AS.CTL_EN then (d.modAna fun a => { a with scan := a.scan.map SliceScan.restart }).showBusy
  else (d.abandonVisit.modAna fun a => { a with scan := a.scan.map SliceScan.stopped }).showBusy

/-- A position block's registers: its state (R154), health, validity and angles (R136, R153), the emulator (R161). -/
def Dev.posFollow (d0 d : Dev) (p : Fin 2) (o : Nat) : Dev :=
  if o = 0 then ((d.posControl p).posShowHealth p).posShow p d.cycle
  else if o = 0x04 ∨ o = 0x08 ∨ o = 0x0C ∨ o = 0x34 then (d.posShowHealth p).posShow p d.cycle
  else if o = 0x1C then d.posShowHealth p
  else if o = 0x200 then d.emuFollow p (!d0.bit (POS.EMUCTL_EN p) && d.bit (POS.EMUCTL_EN p))
  else d

/-- The command by timeout ends where `AUTO`, `CMDTMO` or `CMDSRC` no longer allow it (R252). -/
def Dev.actFollow (d : Dev) : Dev :=
  d.each [0, 1] fun d b => if d.bit CE.LIMPCFG_AUTO && decide (d.get CE.LIMPTMO_CMDTMO ≠ 0) && decide (d.cmdSrc b = 0) then d else d.clearAct b

/-- `CE.CTL.EN` goes from 0 to 1: the next tick has no predecessor and its nominal length (R508); the command source (R252). -/
def Dev.engineFollow (d0 d : Dev) (o : Nat) : Dev :=
  if o = 0 then
    if !d0.bit CE.CTL_EN && d.bit CE.CTL_EN then d.modCe fun c => { c with lastTick := none, nominal := true } else d
  else d.actFollow

/-- The gate link's registers: a mirrored one is to be sent to its island (R261), and the method of a discharge follows `MODE` (R281). -/
def Dev.gateFollow (d : Dev) (o : Nat) : Dev :=
  if h : 0x100 ≤ o ∧ o < 0x400 then
    d.modGate ⟨(o - 0x100) / 0x40, by omega⟩ fun g => { g with sync := union g.sync (mirroredBy (o % 0x40)) }
  else if o = 0x900 then d.dscFollow
  else d

/-- The sources whose enable a write of `ENtw` has just cleared (R345). -/
def Dev.enFollow (d0 d : Dev) (o : Nat) : Dev :=
  if 0x2000 ≤ o ∧ o < 0x2180 then
    let t := (o - 0x2000) / 0x40
    let gone := (List.range 32).filter fun j =>
      let i := 32 * (o % 0x40 / 4) + j
      d0.bit (INTC.EN_E t i) && !d.bit (INTC.EN_E t i)
    { d with vol := { d.vol with flt := { d.vol.flt with
        masked := (gone.map fun j => (t, 32 * (o % 0x40 / 4) + j, d.now)) ++ d.vol.flt.masked.filter fun x => decide (x.2.2 = d.now) } } }
  else d

/-- A contactor that a write of `DRV` closes is counted (Table 13-5). -/
def Dev.ctrFollow (d0 d : Dev) : Dev :=
  d.each [0, 1, 2, 3] fun d k => if !d0.bit (SIO.CTRCFG_DRV k) && d.bit (SIO.CTRCFG_DRV k) then d.countWrap (SIO.CTRSTAT_OPS k) else d

/-- What follows at once from a write at address a, where d0 was the device before it: conversions (R111, R131), sensor states (R154), the engine (R508), the
modulators, the enables of the interrupt controller (R345), the islands (R261), node sets (R296), safety inputs and requests (R365, R371), the lost count of a receive ring (R403). -/
def Dev.followWrite (d0 d : Dev) (a : Nat) : Dev :=
  let o := a % 0x10000
  match a / 0x10000 with
  | 0x4002 => (d0.enFollow d o).settleIrq
  | 0x4010 => if o = 0 then d0.analogFollow d else d
  | 0x4020 => (d0.posFollow d 0 o).commutate 0 d.cycle
  | 0x4021 => (d0.posFollow d 1 o).commutate 1 d.cycle
  | 0x4030 => d0.engineFollow d o
  | 0x4040 => d.modFollow 0 o
  | 0x4041 => d.modFollow 1 o
  | 0x4050 => d.gateFollow o
  | 0x4060 => if 0x400 ≤ o ∧ o < 0xA00 then d0.judgeNodes d else d
  | 0x4070 => (d0.ctrFollow d).safetyFollow
  | 0x4080 | 0x4081 | 0x4082 | 0x4083 =>
    let p := a / 0x10000 - 0x4080
    if o = 0x18 ∧ d0.bit (CAN.STAT_RXOVF p) = true ∧ d.bit (CAN.STAT_RXOVF p) = false then d.set (CAN.RXSTAT_LOST p) 0 else d
  | _ => d

/-- The fields of the register at address a take the written word; a reserved offset takes nothing (R31). -/
def Dev.regFieldsWrite (d : Dev) (m : Master) (a v : Nat) : Dev :=
  match regFields a with
  | some fs => d.followWrite (d.each fs fun d f => d.fieldWrite m v f) a
  | none => d

/-- A write by master m that the rules allow, or turn away (R34, R477). -/
def Dev.regWrite (d : Dev) (m : Master) (a v : Nat) : Dev :=
  if d.mayWrite m a && !w1cBarred m a v then (d.regFieldsWrite m a v).busOk 0 else d.busError m a true

/-- REGISTER_WRITE (R10-R13, R31-R35). An address outside the peripheral windows is no register and takes nothing here. -/
def execRegisterWrite (m : Master) (a d : Word) (s : State) : Host.Outcome State Fault Refusal :=
  s.lift fun dev => dev.regWrite m a.toNat d.toNat

/-- The word that sets a lock bit gives the register its values first (R13), `MODE` of a modulator under R201. -/
def Dev.lockWord (d : Dev) (m : Master) (k : LockBlock) (v : Nat) : Dev :=
  match k with
  | .modulator x => (d.modCtlWrite x v true).regFieldsWrite m (MOD.CTL_LOCK x).addr v
  | _ => d.regFieldsWrite m (lockFld k).addr v

/-- LOCK_SET (R13): the register takes the values first, then the block is locked. -/
def execLockSet (m : Master) (k : LockBlock) (d : Word) (s : State) : Host.Outcome State Fault Refusal :=
  s.lift fun dev =>
    let f := lockFld k
    if dev.mayWrite m f.addr then
      ((dev.lockWord m k d.toNat).when (natBit d.toNat f.lo) fun d => d.set f 1).busOk 0
    else dev.busError m f.addr true

end Sys2Proof.Machine
end

