-- ==== Sys2Proof/Machine/Ledger.lean ====
section
/-! DEFINITION. Chapter 17, the energy ledger: pairs, conversion, the account second, records and their stores, the restore at a
start, and the export. -/

namespace Sys2Proof.Machine

/-- Change the ledger's own state. -/
def Dev.modLg (d : Dev) (f : LedgerState → LedgerState) : Dev := { d with vol := { d.vol with lg := f d.vol.lg } }

/-- Does the ledger integrate: its domain works and its account runs (R486)? -/
def Dev.lgRuns (d : Dev) : Bool := d.works 4 3 && d.bit LG.CTL_RUN

/-- A flag of the interval in progress is set (Table 17-2). -/
def Dev.lgFlag (d : Dev) (i : Nat) : Dev := d.set LG.STAT_FLAGS (d.get LG.STAT_FLAGS ||| 2 ^ i)

/-- One more of accumulator i (0 import, 1 export, 2 discharge, 3 charge). -/
def Dev.lgAdd (d : Dev) (i : Fin 4) (x : Int) : Dev := d.modLg fun l => { l with acc := vset l.acc i ((vget l.acc i + x.toNat) % 2 ^ 96) }

/-! ### Pairs and conversion -/

/-- The cycles since the last pair (R481). -/
def Dev.lgGap (d : Dev) (n : Nat) : Nat := match d.vol.lg.lastN with | some k => n - k | none => 48

/-- A pair of codes at ADCCLK cycle n is integrated (R481, R483). -/
def Dev.lgPair (d : Dev) (v i : Int) (n : Nat) : Dev :=
  let dn := d.lgGap n
  let d1 := if 2400 < dn then
      ((d.modLg fun l => { l with gap := l.gap + (dn - 48) }).lgFlag 2).when (decide (240000 < dn - 48)) fun d => d.assertLine 57 0
    else d
  let k : Int := if 2400 < dn then 48 else dn
  let vv := v - d.sget LG.OFS_OFSV
  let ii := (i - d.sget LG.OFS_OFSI) * (if d.bit LG.CTL_IPOL then -1 else 1)
  let p := vv * ii * k
  let d2 := if 0 < p then d1.lgAdd 0 p else d1.lgAdd 1 (-p)
  (if 0 < ii then d2.lgAdd 2 (ii * k) else d2.lgAdd 3 (-ii * k)).modLg fun l => { l with lastN := some n }

/-- LEDGER_PAIR (R480, R481, R483): a presented result of one of the ledger's tags, at ADCCLK cycle n. -/
def Dev.lgResult (d : Dev) (tag : Nat) (code : Int) (ovr : Bool) (n : Nat) : Dev :=
  if !d.lgRuns || !(decide (tag = d.get LG.SRC_VTAG) || decide (tag = d.get LG.SRC_ITAG)) then d
  else
    let d1 := (d.when ovr fun d => (d.lgFlag 3).modLg fun l => { l with ovr := true }).when (decide (2 ≤ d.get AS.SPARE_CHAIN)) fun d => d.lgFlag 1
    if tag = d.get LG.SRC_VTAG then d1.modLg fun l => { l with lastV := some code }
    else match d1.vol.lg.lastV with
      | some v => d1.lgPair v code n
      | none => d1

/-- One accumulator is converted into whole units with its gain (R481). -/
def Dev.lgConv (d : Dev) (i : Fin 4) (f gain : Fld) : Dev :=
  let t := vget d.vol.lg.acc i * d.get gain + vget d.vol.lg.rem i
  (d.set f (d.get f + t / 2 ^ 64)).modLg fun l => { l with acc := vset l.acc i 0, rem := vset l.rem i (t % 2 ^ 64) }

/-- All four accumulators are converted. -/
def Dev.lgConvert (d : Dev) : Dev :=
  (((d.lgConv 0 LG.IMP_W LG.GAINE_GAINE).lgConv 1 LG.EXP_W LG.GAINE_GAINE).lgConv 2 LG.DIS_W LG.GAINA_GAINA).lgConv 3 LG.CHG_W LG.GAINA_GAINA

/-- The energy of the epoch so far, import less export, in the units of the accumulators: with what a store has converted in it. -/
def Dev.epochEnergy (d : Dev) : Int := ((vget d.vol.lg.acc 0 : Nat) : Int) - ((vget d.vol.lg.acc 1 : Nat) : Int) + d.vol.lg.epoch

/-- The mean power of the epoch in W, the fraction dropped (17, the hill-climbing example: 203,989.5 W reads 203,989): 1 mWh per ms is
3,600 W. DEDUCED (log 57). -/
def Dev.lgPower (d : Dev) : Int :=
  sat32 (d.epochEnergy * d.get LG.GAINE_GAINE * 3600 / 2 ^ 64)

/-- LEDGER_CONVERSION_EPOCH (R481). -/
def execLedgerConversionEpoch (s : State) : Host.Outcome State Fault Refusal :=
  s.lift fun d => if d.lgRuns then ((d.sset LG.PWR_PWR d.lgPower).lgConvert).modLg fun l => { l with epoch := 0 } else d

/-! ### Records -/

/-- Addresses of Table 17-1: running slot, wear slot (false: A), event record, history record. -/
def lgSlot (b : Bool) : Nat := if b then 0x101F0100 else 0x101F0000
def lgWear (b : Bool) : Nat := if b then 0x101F0800 else 0x101F0200
def lgEvent (k : Nat) : Nat := 0x101F0E00 + 0x100 * k
def lgHist (h : Nat) : Nat := 0x101F1200 + 0x100 * (h % 238)

/-- The device identity `0x1018:05`. -/
def Dev.identity (d : Dev) : Nat := (d.stored 0x1018 5).getD (Config.factory (objKey 0x1018 5))

/-- The wear block of the counters as they stand (Table 17-1). -/
def wearBytes (w : Vector (Vector Nat 32) 12) : List (BitVec 8) := w.toList.flatMap fun p => p.toList.flatMap fun c => leList 4 c

/-- The calibration that `CALCHG` watches. -/
def Dev.lgCalNow (d : Dev) : List Nat :=
  [d.get LG.GAINE_GAINE, d.get LG.GAINA_GAINA, d.get LG.OFS_OFSV, d.get LG.OFS_OFSI, d.get LG.SRC_VTAG, d.get LG.SRC_ITAG]

/-- The account code of a record (Table 17-2). -/
def Dev.lgAccount (d : Dev) : Nat := if d.get LG.CTL_ACCT = 1 then 1 else 2

/-- The first 192 bytes of a record (Table 17-2). -/
def Dev.recordBody (d : Dev) (kind reason flags : Nat) (digest : List (BitVec 8)) : List (BitVec 8) :=
  leList 4 0x1ED98620 ++ [BitVec.ofNat 8 kind, BitVec.ofNat 8 d.lgAccount, BitVec.ofNat 8 (d.get LC.LCSTATE_STATE), BitVec.ofNat 8 reason] ++
  leList 8 (d.get LG.SEQ_W + 1) ++ leList 8 d.kaCount ++ leList 8 d.identity ++ leList 8 (d.get LG.IMP_W) ++ leList 8 (d.get LG.EXP_W) ++
  leList 8 (vget d.vol.lg.rem 0) ++ leList 8 (vget d.vol.lg.rem 1) ++ leList 8 (d.get LG.DIS_W) ++ leList 8 (d.get LG.CHG_W) ++
  leList 8 (vget d.vol.lg.rem 2) ++ leList 8 (vget d.vol.lg.rem 3) ++ leList 4 (d.get LG.EFC_EFC) ++ leList 4 d.vol.lg.efcRem ++
  leList 4 (d.get LG.CAP_CAP) ++ leList 2 d.vol.lg.calN ++ leList 2 flags ++ d.vol.lg.bins.toList.flatMap (fun n => leList 4 n) ++
  leList 4 (d.get LG.SECS_V) ++ leList 4 (d.get LG.GAPS_V) ++ leList 4 (d.get LG.ORS_V) ++ digest

/-- A copy of a record as another kind, with the next sequence number, signed anew (R486, R488): whether it is unsigned is its own (R489). -/
def Dev.recordCopy (d : Dev) (body : List (BitVec 8)) (kind reason : Nat) : List (BitVec 8) :=
  body.take 4 ++ [BitVec.ofNat 8 kind] ++ (body.drop 5).take 1 ++ [BitVec.ofNat 8 (d.get LC.LCSTATE_STATE), BitVec.ofNat 8 reason] ++
  leList 8 (d.get LG.SEQ_W + 1) ++ leList 8 d.kaCount ++ (body.drop 0x18).take (0x6E - 0x18) ++
  leList 2 (leNat ((body.drop 0x6E).take 2) / 2 * 2) ++ (body.drop 0x70).take (0xC0 - 0x70)

/-- Does `CALCHG` apply: the calibration differs from that of the last record? It counts with the record that is made. -/
def Dev.lgCalCheck (d : Dev) : Dev :=
  if d.nv.lgCal = d.lgCalNow ∨ d.nv.lgCal = [] then d else (d.lgFlag 5).modLg fun l => { l with calN := (l.calN + 1) % 65536 }

/-- `FLAGS` of a fresh interval: `UNSIGNED` where the key store is empty (R489, Table 17-4). -/
def Dev.lgFlags0 (d : Dev) : Nat := if d.vol.start.keys.device then 0 else 1

/-- A store closes its interval and fixes its record (Table 17-3): for a running record the accumulators are converted and the wear
block is written to the older slot; a history record copies the running one. The calibration and its count are those of the last record until the
new one is written. -/
def Dev.storeBegin (d : Dev) (mem : Mem) (kind reason : Nat) : Dev × Mem :=
  if kind = 0 then
    let d1 := ((d.modLg fun l => { l with epoch := d.epochEnergy }).lgConvert.when (decide (2 ≤ d.get AS.SPARE_CHAIN)) fun d => d.lgFlag 1).lgCalCheck
    let w := if d1.domainUp 6 then d1.vol.th.wear else d1.nv.wear
    let d2 := { d1 with nv := { d1.nv with wear := w } }
    let bytes := wearBytes w
    let flags := d2.get LG.STAT_FLAGS
    let st : LgStore := { kind := 0, reason := reason, addr := lgSlot d2.vol.lg.slotB, body := d2.recordBody 0 reason flags (sha256 bytes), flags := flags,
                          cal := d2.lgCalNow, calN := d2.vol.lg.calN }
    (((d2.set LG.STAT_FLAGS d2.lgFlags0).set LG.STAT_BUSY 1).modLg fun l => { l with store := some st, calN := d.vol.lg.calN }, mem.writeBytes (lgWear d2.vol.lg.wslotB) bytes)
  else
    let st : LgStore := { kind := 1, reason := reason, addr := lgHist (d.get LG.STAT_HISTIDX),
                          body := d.recordCopy (mem.readBytes (lgSlot (!d.vol.lg.slotB)) 0xC0) 1 reason, flags := 0, cal := [], calN := 0 }
    ((d.set LG.STAT_BUSY 1).modLg fun l => { l with store := some st }, mem)

/-- The signed record of 192 bytes, or the unsigned one with its digest (R489). -/
def sealRecord (keys : Bool) (body : List (BitVec 8)) (sig : Nat) : List (BitVec 8) :=
  if keys then body ++ beList 64 sig
  else
    let f := leNat ((body.drop 0x6E).take 2)
    let b := body.take 0x6E ++ leList 2 (f ||| 1) ++ body.drop 0x70
    b ++ sha256 b ++ List.replicate 32 0#8

/-- What a written record leaves: for the next store the older slots, or the same ones after a bad read-back, and the calibration of a running record
as the last one's (R488). -/
def Dev.nextSlots (d : Dev) (st : LgStore) (ok : Bool) : Dev :=
  if !ok then d
  else if st.kind = 0 then
    { d with nv := { d.nv with lgCal := st.cal } }.modLg fun l => { l with slotB := !l.slotB, wslotB := !l.wslotB, calN := st.calN }
  else if st.kind = 1 then d.set LG.STAT_HISTIDX ((d.get LG.STAT_HISTIDX + 1) % 238)
  else d

/-- The record is written (R489, R490). -/
def Dev.storeEnd (d : Dev) (mem : Mem) (sig : Nat) (ok : Bool) : Dev × Mem :=
  match d.vol.lg.store with
  | none => (d, mem)
  | some st =>
    let keys := d.vol.start.keys.device
    let d1 := (((d.set LG.SEQ_W (d.get LG.SEQ_W + 1)).set LG.STAT_BUSY 0).modLg fun l => { l with store := none }).when keys fun d => d.edge 354
    let d2 := (d1.when (decide (st.kind = 0 ∧ st.reason = 0)) fun d => d.edge 352).when (decide (st.reason = 1)) fun d => d.edge 353
    ((d2.when (!ok) fun d => (d.set LG.STAT_STERR 1).assertLine 57 0).nextSlots st ok, mem.writeBytes st.addr (sealRecord keys st.body sig))

/-- A whole store at once, after the one in progress, the signatures open values: where the spec bounds the store by the operation that makes it. -/
def Dev.storeNow (d : Dev) (mem : Mem) (kind reason : Nat) : Dev × Mem :=
  let q := d.draw 512
  let p := if d.vol.lg.store.isSome then q.2.storeEnd mem q.1 true else (d, mem)
  let r := p.1.storeBegin p.2 kind reason
  let s := r.1.draw 512
  s.2.storeEnd r.2 s.1 true

/-- A store in progress whose record is not yet written is abandoned: its interval goes on (R491). -/
def Dev.storeAbandon (d : Dev) : Dev :=
  match d.vol.lg.store with
  | none => d
  | some st =>
    (((d.set LG.STAT_FLAGS (d.get LG.STAT_FLAGS ||| (st.flags - if natBit st.flags 5 then 32 else 0))).set LG.STAT_BUSY 0).modLg fun l =>
      { l with store := none, reqs := if st.kind = 0 then l.reqs else l.reqs ++ [(st.kind, st.reason)] })

/-- The store at the falling edge of PWR_FAIL_N (R490, R491). -/
def Dev.storePowerFail (d : Dev) (mem : Mem) : Dev × Mem :=
  if d.lgRuns then d.storeAbandon.storeBegin mem 0 1 else (d, mem)

/-- A store is requested; it is made after the one in progress (R491). -/
def Dev.storeRequest (d : Dev) (kind reason : Nat) : Dev := d.modLg fun l => { l with reqs := l.reqs ++ [(kind, reason)] }

/-- LEDGER_STORE (R490): the oldest requested store begins, when none is in progress. -/
def execLedgerStore (s : State) : Host.Outcome State Fault Refusal :=
  s.liftMem fun d mem =>
    match d.vol.lg.reqs with
    | (k, r) :: rest =>
      if d.lgRuns && d.vol.lg.store.isNone then (d.modLg fun l => { l with reqs := rest }).storeBegin mem k r else (d, mem)
    | [] => (d, mem)

/-- RECORD_SIGNED (R489, R490). -/
def execRecordSigned (sig : BitVec 512) (readBackOk : Bool) (s : State) : Host.Outcome State Fault Refusal :=
  s.liftMem fun d mem => d.storeEnd mem sig.toNat readBackOk

/-- STORE (R490, R496). -/
def execStore (m : Master) (s : State) : Host.Outcome State Fault Refusal :=
  s.lift fun d =>
    if !d.mayWrite m 0x40A0001C then d.busError m 0x40A0001C true
    else ((d.when d.lgRuns fun d => d.storeRequest 0 6).busOk 0)

/-! ### The account second -/

/-- The temperature of the second, none where its source is stale (R484). -/
def Dev.lgTemp (d : Dev) : Option Int :=
  if d.get LG.CTL_TSRC = 1 then
    let c := d.get LG.CTL_TCH
    if d.bit (TH.HKVAL_BRK c) then none else some (d.sget (TH.HKVAL_VAL c))
  else match d.vol.dict.tempAt with
    | some t => if d.now < t + 40000000 then some (toSigned 16 (d.objVal 0x6010 1 0)) else none
    | none => none

/-- The bin of a temperature in 0.01 °C. -/
def tempBin (t : Int) : Fin 9 :=
  if t < 0 then 0 else if t < 1000 then 1 else if t < 2000 then 2 else if t < 3000 then 3 else if t < 4000 then 4 else if t < 5000 then 5
  else if t < 6000 then 6 else 7

/-- One more second of a bin. -/
def Dev.binAdd (d : Dev) (b : Fin 9) : Dev := d.modLg fun l => { l with bins := vset l.bins b ((vget l.bins b + 1) % 2 ^ 32) }

/-- The temperature bin of the second. -/
def Dev.lgBin (d : Dev) : Dev :=
  match d.lgTemp with
  | some t => d.binAdd (tempBin t)
  | none => (d.binAdd 8).lgFlag 4

/-- The equivalent full cycles of the second (R484). -/
def Dev.lgCycles (d : Dev) : Dev :=
  let add := (d.get LG.DIS_W + 2 ^ 64 - d.vol.lg.disAt) % 2 ^ 64 * 1000
  let d1 := d.modLg fun l => { l with disAt := d.get LG.DIS_W }
  let cap := d.get LG.CAP_CAP
  if cap = 0 then d1.lgFlag 9
  else
    let r := d.vol.lg.efcRem + add
    (d1.set LG.EFC_EFC (d.get LG.EFC_EFC + r / cap)).modLg fun l => { l with efcRem := r % cap }

/-- Whole gap seconds, the over-range second, and the second itself (R483). -/
def Dev.lgSeconds (d : Dev) : Dev :=
  let d1 := (d.set LG.GAPS_V (d.get LG.GAPS_V + d.vol.lg.gap / 240000000)).when d.vol.lg.ovr fun d => d.countWrap LG.ORS_V
  (d1.countWrap LG.SECS_V).modLg fun l => { l with gap := l.gap % 240000000, ovr := false }

/-- HISTORY_RECORD (R496): at every `HISTPER` hours of account time, 0 as 1 and above 168 as 168. DEDUCED (log 128): where the
account seconds reach a multiple of them. -/
def Dev.lgHistory (d : Dev) : Dev :=
  if d.get LG.SECS_V % (3600 * max 1 (min 168 (d.get LG.HIST_HISTPER))) = 0 then d.storeRequest 1 0 else d

/-- LEDGER_SECOND (R484, R490, R491): a boundary during a store skips its own. -/
def execLedgerSecond (s : State) : Host.Outcome State Fault Refusal :=
  s.liftMem fun d mem =>
    if !d.lgRuns then (d, mem)
    else
      let d1 := d.lgBin.lgCycles.lgSeconds.lgHistory
      if d1.vol.lg.store.isSome then (d1, mem) else d1.storeBegin mem 0 0

/-! ### The restore at a start -/

/-- Bytes kept in the stored values, under a leading 1 that gives their number. -/
def bytesCode (l : List (BitVec 8)) : Nat := leNat l + 256 ^ l.length
def bytesDecode (n : Nat) : List (BitVec 8) := leList (Nat.log2 n / 8) n

/-- Bytes of the factory object `0x101A:s`: the public key of the device (s = 1), Lenresa's certificate; open where nothing has written them. -/
def Dev.factoryBytes (d : Dev) (s : Nat) : List (BitVec 8) :=
  match d.stored 0x101A s with
  | some v => bytesDecode v
  | none => (List.range (if s = 1 then 64 else 1 + Config.factory (objKey 0x101A s) % 1024)).map fun k =>
      BitVec.ofNat 8 (Config.factory (objKey 0x101A s * 65536 + 1 + k))

/-- Does the signature of the record at address a verify under the device public key (R488, R495)? -/
def Dev.recordSigned (d : Dev) (mem : Mem) (a : Nat) : Bool :=
  let k := d.factoryBytes 1
  ecdsaVerifies (ofBeList (k.take 32)) (ofBeList (k.drop 32)) (ofBeList (sha256 (mem.readBytes a 0xC0)))
    (ofBeList (mem.readBytes (a + 0xC0) 32)) (ofBeList (mem.readBytes (a + 0xE0) 32))

/-- Is the record at address a valid: its magic, its identity, and its signature or digest (R492)? -/
def Dev.recordValid (d : Dev) (mem : Mem) (a : Nat) : Bool :=
  let body := mem.readBytes a 0xC0
  decide (mem.readLE a 4 = 0x1ED98620) && decide (mem.readLE (a + 0x18) 8 = d.identity) &&
  (if natBit (mem.readLE (a + 0x6E) 2) 0 then decide (mem.readBytes (a + 0xC0) 32 = sha256 body)
   else d.recordSigned mem a)

/-- The address of the valid record with the highest sequence among some addresses. -/
def Dev.newestRecord (d : Dev) (mem : Mem) (l : List Nat) : Option Nat :=
  l.foldl (fun best a =>
    if !d.recordValid mem a then best
    else match best with
      | none => some a
      | some b => if mem.readLE (b + 8) 8 < mem.readLE (a + 8) 8 then some a else some b) none

/-- All event and history records. -/
def lgOthers : List Nat := (List.range 4).map lgEvent ++ (List.range 238).map lgHist

/-- The account is taken from the record at address a. -/
def Dev.lgLoad (d : Dev) (mem : Mem) (a : Nat) : Dev :=
  let g := fun o n => mem.readLE (a + o) n
  ((d.setAll [(LG.IMP_W, g 0x20 8), (LG.EXP_W, g 0x28 8), (LG.DIS_W, g 0x40 8), (LG.CHG_W, g 0x48 8), (LG.EFC_EFC, g 0x60 4), (LG.SEQ_W, g 8 8),
    (LG.SECS_V, g 0x94 4), (LG.GAPS_V, g 0x98 4), (LG.ORS_V, g 0x9C 4)])).modLg fun l =>
    { l with rem := .ofFn fun i => if i.val < 2 then g (0x30 + 8 * i.val) 8 else g (0x40 + 8 * i.val) 8, efcRem := g 0x64 4, disAt := g 0x40 8,
             calN := g 0x6C 2, bins := .ofFn fun i => g (0x70 + 4 * i.val) 4 }

/-- The wear counters in a wear slot. -/
def wearRead (mem : Mem) (a : Nat) : Vector (Vector Nat 32) 12 := .ofFn fun n => .ofFn fun b => mem.readLE (a + 0x80 * n.val + 4 * b.val) 4

/-- Does the wear slot match the record at address r? -/
def wearMatches (mem : Mem) (b : Bool) (r : Nat) : Bool := decide (sha256 (mem.readBytes (lgWear b) 0x600) = mem.readBytes (r + 0xA0) 32)

/-- The counters take a value, in force and stored. -/
def Dev.setWear (d : Dev) (w : Vector (Vector Nat 32) 12) : Dev :=
  { d with nv := { d.nv with wear := w }, vol := { d.vol with th := { d.vol.th with wear := w } } }

/-- At a start, the wear counters that belong to record r, or to another running record (`WEARBAD`), or zero (R492); the next store writes the
other slot. A wake of the engine leaves the counters, which have gone on counting (R494). -/
def Dev.wearLoad (d : Dev) (mem : Mem) (r : Nat) (start : Bool) : Dev :=
  match [false, true].find? fun b => wearMatches mem b r with
  | some b => (d.when start fun d => d.setWear (wearRead mem (lgWear b))).modLg fun l => { l with wslotB := !b }
  | none =>
    if !start then d
    else
      let bad := (d.lgFlag 8).assertLine 57 0
      match [false, true].find? fun b => [false, true].any fun x => d.recordValid mem (lgSlot x) && wearMatches mem b (lgSlot x) with
      | some b => (bad.setWear (wearRead mem (lgWear b))).modLg fun l => { l with wslotB := !b }
      | none => bad.setWear (.replicate 12 (.replicate 32 0))

/-- The next history slot: after the newest valid history record. -/
def Dev.histNext (d : Dev) (mem : Mem) : Nat :=
  match d.newestRecord mem ((List.range 238).map lgHist) with
  | some a => ((a - 0x101F1200) / 0x100 + 1) % 238
  | none => 0

/-- The sequence number of the newest valid record of any kind (R489). -/
def Dev.newestSeq (d : Dev) (mem : Mem) : Nat :=
  match d.newestRecord mem ([lgSlot false, lgSlot true] ++ lgOthers) with
  | some a => mem.readLE (a + 8) 8
  | none => 0

/-- The record from which the account resumes (R492): the newest valid running record, else the newest of the others. -/
def Dev.lgSource (d : Dev) (mem : Mem) : Option Nat :=
  match d.newestRecord mem [lgSlot false, lgSlot true] with
  | some a => some a
  | none => d.newestRecord mem lgOthers

/-- The account, the wear counters and the flags of a start or a wake (R492, R493). -/
def Dev.lgResume (d : Dev) (mem : Mem) (start : Bool) : Dev :=
  let d0 := (d.set LG.STAT_HISTIDX (d.histNext mem)).set LG.STAT_FLAGS d.lgFlags0
  match d0.newestRecord mem [lgSlot false, lgSlot true] with
  | some a =>
    let d1 := ((d0.lgLoad mem a).modLg fun l => { l with slotB := decide (a = lgSlot false) }).wearLoad mem a start
    d1.when (!([1, 2, 5] : List Nat).contains (mem.readLE (a + 7) 1)) fun d => d.lgFlag 6
  | none =>
    match d0.newestRecord mem lgOthers with
    | some a => (((((d0.lgLoad mem a).wearLoad mem a start).lgFlag 7).lgFlag 6).set LG.STAT_RESTERR 1).assertLine 57 0
    | none => d0.when start fun d => d.setWear (.replicate 12 (.replicate 32 0))

/-- The ledger resumes from its newest record (R492, R493): flags `CUT`, `RESTORED`; with no record at all it starts from zero. The sequence goes on
from the newest record of all (R489). -/
def Dev.lgRestore (d : Dev) (mem : Mem) (start : Bool) : Dev :=
  (d.lgResume mem start).when (d.lgSource mem).isSome fun x => x.set LG.SEQ_W (d.newestSeq mem)

/-- The event record of a life-cycle state at its first start, signed with an open value (R486). -/
def Dev.lgEventWrite (d : Dev) (mem : Mem) (k : Nat) : Dev × Mem :=
  let src := match d.newestRecord mem ([lgSlot false, lgSlot true] ++ lgOthers) with
    | some a => mem.readBytes a 0xC0
    | none => d.recordBody 0 3 0 (sha256 (wearBytes d.nv.wear))
  let s := d.draw 512
  let keys := d.vol.start.keys.device
  ((s.2.set LG.SEQ_W (d.get LG.SEQ_W + 1)).when keys fun d => d.edge 354, mem.writeBytes (lgEvent k) (sealRecord keys (d.recordCopy src 2 3) s.1))

/-- The account starts at zero; TRACTION also clears the wear record (R486, R494). -/
def Dev.lgClear (d : Dev) (wear : Bool) : Dev :=
  let d1 := (d.setAll [(LG.IMP_W, 0), (LG.EXP_W, 0), (LG.DIS_W, 0), (LG.CHG_W, 0), (LG.EFC_EFC, 0), (LG.SECS_V, 0), (LG.GAPS_V, 0), (LG.ORS_V, 0)]).modLg
    fun l => { l with rem := .replicate 4 0, efcRem := 0, disAt := 0, bins := .replicate 9 0, gap := 0 }
  d1.when wear fun d => d.setWear (.replicate 12 (.replicate 32 0))

/-- `ACCT` for a life-cycle state (R486). -/
def acctOf (lc : Nat) : Nat := if lc = 0 then 0 else if lc ≤ 2 then 1 else if lc ≤ 4 then 2 else 3

/-- May the ledger's slice be claimed for function 0x0B: one slice number, two tags, its owner 0x0B or free, and its block on (R480)? -/
def Dev.lgSliceOk (d : Dev) : Bool :=
  let v := d.get LG.SRC_VTAG
  let i := d.get LG.SRC_ITAG
  d.domainUp 3 && decide (v ≠ i) && decide (v / 4 = i / 4) && (decide (d.get (OWN.R_OWNER 1 (v / 4)) = 0x0B) || decide (d.get (OWN.R_OWNER 1 (v / 4)) = 0))

/-- Resident firmware claims the slice and converts both inputs continuously (R480). -/
def Dev.lgSlice (d : Dev) : Dev :=
  let k := d.get LG.SRC_VTAG / 4
  let mask := 2 ^ (d.get LG.SRC_VTAG % 4) ||| 2 ^ (d.get LG.SRC_ITAG % 4)
  let d1 := (((d.set (OWN.R_OWNER 1 k) 0x0B).set (OWN.R_REQ 1 k) 0x0B).set (AS.SLCFG_MODE k) 2).set (AS.SLCFG_SMASK k) mask
  let c : Fin 32 := ⟨k % 32, by omega⟩
  let scan := (vget d1.vol.ana.scan c).reconfigure 2 mask (d1.get (AS.SLCFG_TMASK k))
  { d1 with vol := { d1.vol with ana := { d1.vol.ana with scan := vset d1.vol.ana.scan c scan } } }

/-- Was the record of the account made in an earlier life-cycle state than lc, or on entry to lc, whose own account no record holds yet (R486)? -/
def Dev.lgForeign (d : Dev) (mem : Mem) (lc : Nat) : Bool :=
  match d.lgSource mem with
  | some a => decide (mem.readLE (a + 6) 1 < lc) || decide (mem.readLE (a + 4) 1 = 2)
  | none => true

/-- The ledger starts: event record, account, slice, `RUN` (R480, R486). -/
def Dev.lgStart (d : Dev) (mem : Mem) : Dev × Mem :=
  let lc := d.get LC.LCSTATE_STATE
  let d0 := d.set LG.CTL_ACCT (acctOf lc)
  let foreign := d0.lgForeign mem lc
  let first := decide (2 ≤ lc) && decide (lc ≤ 5) && foreign && !d0.recordValid mem (lgEvent (lc - 2))
  let r := if first then d0.lgEventWrite mem (lc - 2) else (d0, mem)
  let d1 := if foreign ∧ lc = 2 then r.1.lgClear false else if foreign ∧ lc = 3 then r.1.lgClear true else r.1
  if 1 ≤ lc ∧ lc ≤ 4 then
    if d1.lgSliceOk then (d1.lgSlice.set LG.CTL_RUN 1, r.2) else ((d1.set LG.STAT_RESTERR 1).assertLine 57 0, r.2)
  else (d1.set LG.CTL_RUN 0, r.2)

/-! ### Export -/

/-- A slot as it is exported: an unwritten one as 0xFF (R495). -/
def exportSlot (mem : Mem) (a : Nat) : List (BitVec 8) :=
  if mem.readLE a 4 = 0x1ED98620 then mem.readBytes a 256 else List.replicate 256 0xFF#8

/-- The running record, its wear slot, and the next history slot; with the ledger's domain off, of the newest valid record. -/
def Dev.runningSlot (d : Dev) (mem : Mem) : Nat :=
  if d.domainUp 4 then lgSlot (!d.vol.lg.slotB) else (d.newestRecord mem [lgSlot false, lgSlot true]).getD (lgSlot false)
def Dev.wearSlot (d : Dev) (mem : Mem) : Bool :=
  if d.domainUp 4 then !d.vol.lg.wslotB else wearMatches mem true (d.runningSlot mem)
def Dev.histSlot (d : Dev) (mem : Mem) : Nat := if d.domainUp 4 then d.get LG.STAT_HISTIDX else d.histNext mem

/-- The records of a selection (R495). -/
def Dev.exportData (d : Dev) (mem : Mem) (sel : Nat) : List (BitVec 8) :=
  match sel with
  | 0 => exportSlot mem (d.runningSlot mem)
  | 1 => (List.range 4).flatMap fun k => exportSlot mem (lgEvent k)
  | 2 =>
    let first := d.objVal 0x7040 2 0
    (List.range (max 1 (min 238 (d.objVal 0x7040 3 1)))).flatMap fun j => exportSlot mem (lgHist (d.histSlot mem + 2 * 238 - 1 - (first + j) % 238))
  | _ => mem.readBytes (lgWear (d.wearSlot mem)) 0x600

/-- LEDGER_EXPORT (R495, Table 15-14): in every state but INIT. -/
def execLedgerExport (sel : BitVec 8) (s : State) : Host.Outcome State Fault Refusal :=
  s.liftMem fun d mem =>
    let b := d.opBegin 0x7040 1 [(1, sel.toNat)] (decide (1 ≤ d.get DE.STAT_OPSTATE)) (decide (sel.toNat ≤ 3))
    let sel' := b.1.objVal 0x7040 1 0
    if !b.2 then (b.1, mem)
    else
      let r := if sel' = 0 ∧ b.1.lgRuns = true then b.1.storeNow mem 0 4 else (b.1, mem)
      ((r.1.setDomain 0x7040 4 (r.1.exportData r.2 sel')).opDone 0x7040, r.2)

end Sys2Proof.Machine
end

