-- ==== Sys2Proof/Machine/Capture.lean ====
section
/-! DEFINITION. Chapter 17, compressed capture: samples, the block coder, the segment ring, triggers and stops, read-out. -/

namespace Sys2Proof.Machine

/-- Capture channel c. -/
def Dev.capCh (d : Dev) (c : Fin 8) : CapChan := vget d.vol.cap c

/-- Change capture channel c. -/
def Dev.modCap (d : Dev) (c : Fin 8) (f : CapChan → CapChan) : Dev := { d with vol := { d.vol with cap := vset d.vol.cap c (f (vget d.vol.cap c)) } }

/-- Does capture work? -/
def Dev.capWorks (d : Dev) : Bool := d.works 8 4

/-- Is channel c RUNNING or TRIGGERED? -/
def Dev.capActive (d : Dev) (c : Fin 8) : Bool := decide (d.get (CAP.STAT_ST c) = 1) || decide (d.get (CAP.STAT_ST c) = 2)

/-- All channels. -/
def capChans : List (Fin 8) := List.finRange 8

/-! ### Samples -/

/-- CAPTURE_SAMPLE_KEPT (R497, R503): a sample enters the FIFO of 1,024, or is lost. -/
def Dev.capKeep (d : Dev) (c : Fin 8) (x : Int) : Dev :=
  if (d.capCh c).fifo.length < 1024 then d.modCap c fun k => { k with fifo := k.fifo ++ [(x, d.get TB.CNT_W % 2 ^ 32)] }
  else ((d.countSat (CAP.STAT_LOST c)).set (CAP.STAT_GAPF c) 1).modCap c fun k => { k with gap := true }

/-- A sample of channel c's source: every (`DECM1` + 1)-th is kept, or the mean of each group (R497). -/
def Dev.capTake (d : Dev) (c : Fin 8) (x : Int) : Dev :=
  let k := d.capCh c
  let n := d.get (CAP.CFG_DECM1 c) + 1
  let last := decide (n ≤ k.decN + 1)
  let d1 := d.modCap c fun k => { k with decN := if last then 0 else k.decN + 1, decSum := if last then 0 else k.decSum + x }
  if d.bit (CAP.CFG_AVG c) then (if last then d1.capKeep c (roundDiv (k.decSum + x) n) else d1)
  else if k.decN = 0 then d1.capKeep c x else d1

/-- Does channel c take source `src` of type `sig` (true: an internal signal; other codes act as 0x1F) (R497)? -/
def Dev.capSource (d : Dev) (c : Fin 8) (sig : Bool) (src : Nat) : Bool :=
  let s := d.get (CAP.CFG_SRC c)
  decide (d.bit (CAP.CFG_STYPE c) = sig) && decide ((if sig ∧ 0x21 < s then 0x1F else s) = src)

/-- A sample of a source reaches capture. -/
def Dev.capSample (d : Dev) (sig : Bool) (src : Nat) (x : Int) : Dev :=
  if d.capWorks && d.bit CAP.CTL_EN then
    d.each capChans fun d c => if d.capActive c && d.capSource c sig src then d.capTake c x else d
  else d

/-! ### The coder (R498, R499) -/

/-- Samples fit 16 bits. -/
def clamp16 (x : Int) : Int := clampInt (-32768) 32767 x

/-- The residuals m of samples x, with the decoded samples before them newest first. -/
def residuals (pord near : Nat) : List Int → List Int → List Nat
  | _, [] => []
  | hist, x :: t =>
    let h := fun i => hist.getD i 0
    let pred := if pord = 0 then 0 else if pord = 1 then h 0 else clamp16 (2 * h 0 - h 1)
    let e := x - pred
    let mag := (e.natAbs + near) / (2 * near + 1)
    let q : Int := if e < 0 then -mag else mag
    let xr := clamp16 (pred + q * ((2 * near + 1 : Nat) : Int))
    (if 0 ≤ q then (2 * q).toNat else (-2 * q - 1).toNat) :: residuals pord near (xr :: hist) t

/-- The bits of one residual under Rice parameter k. -/
def riceLen (k m : Nat) : Nat := if m / 2 ^ k < 24 then m / 2 ^ k + 1 + k else 41

/-- n bits of a number, most significant first. -/
def bitsOf : Nat → Nat → List Bool
  | 0, _ => []
  | n + 1, v => natBit v n :: bitsOf n v

/-- One residual as bits. -/
def riceBits (k m : Nat) : List Bool :=
  if m / 2 ^ k < 24 then List.replicate (m / 2 ^ k) true ++ [false] ++ bitsOf k m else List.replicate 24 true ++ bitsOf 17 m

/-- The parameter that gives a group the fewest bits, the lowest on a tie. -/
def bestRice (g : List Nat) : Nat :=
  ((List.range 16).foldl (fun (b : Nat × Nat) k =>
    let n := g.foldl (fun s m => s + riceLen k m) 0
    if n < b.2 then (k, n) else b) (0, g.foldl (fun s m => s + riceLen 0 m) 0)).1

/-- The first n groups of 16. -/
def groups16 : Nat → List Nat → List (List Nat)
  | 0, _ => []
  | n + 1, l => l.take 16 :: groups16 n (l.drop 16)

/-- Nibbles packed two per byte, the first in the high one. -/
def packNibbles : List Nat → List (BitVec 8)
  | a :: b :: t => BitVec.ofNat 8 (16 * a + b) :: packNibbles t
  | [a] => [BitVec.ofNat 8 (16 * a)]
  | [] => []

/-- n bytes of bits, most significant first, filled up with zeros. -/
def packBits : Nat → List Bool → List (BitVec 8)
  | 0, _ => []
  | n + 1, l => BitVec.ofNat 8 ((l.take 8 ++ List.replicate (8 - l.length) false).foldl (fun v b => 2 * v + b2n b) 0) :: packBits n (l.drop 8)

/-- 16-bit samples as bytes. -/
def rawSamples (l : List Int) : List (BitVec 8) := l.flatMap fun x => leList 2 (ofSigned 16 x)

/-- The coded payload of a block (R498, R499). -/
def codedPayload (pord near : Nat) (x : List Int) : List (BitVec 8) :=
  let m := residuals pord near (x.take pord).reverse (x.drop pord)
  let gs := groups16 ((m.length + 15) / 16) m
  let bits := gs.flatMap fun g => g.flatMap (riceBits (bestRice g))
  rawSamples (x.take pord) ++ packNibbles (gs.map bestRice) ++ packBits ((bits.length + 7) / 8) bits

/-- The flags of a block: samples lost before it, trigger sample in it, last of the run. -/
structure BlockFlags where
  gap  : Bool
  trig : Bool
  last : Bool

/-- A block: header and payload, padded to a multiple of 4 bytes (Table 17-5). -/
def blockBytes (c pord near num : Nat) (f : BlockFlags) (s : List (Int × Nat)) : List (BitVec 8) :=
  let x := s.map fun e => e.1
  let coded := codedPayload pord near x
  let raw := decide (2 * x.length < coded.length)
  let pay := if raw then rawSamples x else coded
  let head := [0xCA#8, BitVec.ofNat 8 (c + 8 * b2n raw + 16 * near), BitVec.ofNat 8 (pord + 4 * b2n f.gap + 8 * b2n f.trig + 16 * b2n f.last), 0#8] ++
    leList 2 pay.length ++ leList 2 x.length ++ leList 4 num ++ leList 4 (match s with | e :: _ => e.2 | [] => 0)
  head ++ pay ++ List.replicate ((4 - pay.length % 4) % 4) 0#8

/-! ### The segment ring (R500) -/

/-- The segments of channel c, ascending. -/
def Dev.capSegs (d : Dev) (c : Fin 8) : List Nat := (List.range 12).filter fun i => natBit (d.get (CAP.BUF_SEGMASK c)) i

/-- Place of an offset in the ring. -/
def ringPlace (segs : List Nat) (o : Nat) : Nat := (segs.takeWhile fun s => decide (s ≠ o / 65536)).length * 65536 + o % 65536

/-- The start of the segment after that of offset o. -/
def nextSeg (segs : List Nat) (o : Nat) : Nat :=
  match (segs.dropWhile fun s => decide (s ≠ o / 65536)).drop 1 with
  | s :: _ => s * 65536
  | [] => segs.headD 0 * 65536

/-- Free bytes of the ring from `WP` up to the oldest block. -/
def Dev.ringFree (d : Dev) (c : Fin 8) : Nat :=
  let segs := d.capSegs c
  let total := segs.length * 65536
  match (d.capCh c).blocks with
  | [] => total
  | (o, _) :: _ => (ringPlace segs o + total - ringPlace segs (d.get (CAP.WP_WP c))) % max 1 total

/-- Does block b of the list reach into the n bytes from offset w? -/
def overlaps (w n : Nat) (b : Nat × Nat) : Bool := decide (b.1 < w + n) && decide (w < b.1 + b.2)

/-- `OLD` advances past every block that n bytes at `WP` cover. -/
def Dev.dropCovered (d : Dev) (c : Fin 8) (n : Nat) : Dev :=
  let w := d.get (CAP.WP_WP c)
  let keep := (d.capCh c).blocks.dropWhile (overlaps w n)
  let lost := decide (keep.length < (d.capCh c).blocks.length)
  ((d.modCap c fun k => { k with blocks := keep }).when lost fun d => d.set (CAP.STAT_OVWR c) 1).set (CAP.OLD_OLD c)
    (match keep with | (o, _) :: _ => o | [] => w)

/-- The end of a segment: with fewer than 1,040 bytes left a header 0xCB is written, if it fits, and the next segment follows. -/
def Dev.segmentEnd (d : Dev) (mem : Mem) (c : Fin 8) : Dev × Mem :=
  let w := d.get (CAP.WP_WP c)
  let room := 65536 - w % 65536
  if w % 65536 = 0 then (d.set (CAP.WP_WP c) (nextSeg (d.capSegs c) (w - 1)), mem)
  else if room < 1040 then
    (d.set (CAP.WP_WP c) (nextSeg (d.capSegs c) w),
     if 16 ≤ room then mem.writeBytes (0x23000000 + w) ([0xCB#8] ++ List.replicate 15 0#8) else mem)
  else (d, mem)

/-- A run ends with a state; source 365. -/
def Dev.capEnd (d : Dev) (c : Fin 8) (st : Nat) : Dev :=
  (((d.set (CAP.STAT_ST c) st).set (CAP.CFG_EN c) 0).modCap c fun k => { k with fifo := [], decN := 0, decSum := 0 }).edge 365

/-- The block of the first n kept samples is written (R498-R500); `ending`: the run stops with it. -/
def Dev.capBlock (d : Dev) (mem : Mem) (c : Fin 8) (n : Nat) (ending : Bool) : Dev × Mem :=
  let k := d.capCh c
  let s := k.fifo.take n
  let trig := match k.trigAt with | some t => decide (t < n) && decide (k.after = none) | none => false
  let after := if trig then some 0 else k.after.map fun a => a + 1
  let post := d.get (CAP.BUF_POST c)
  let done := decide (0 < post) && decide (after = some post)
  let num := d.get (CAP.BLK_BLOCKS c)
  let pord := min 2 (d.get (CAP.CFG_PORD c))
  let near := d.get (CAP.CFG_NEAR c)
  let len := (blockBytes c pord near num ⟨k.gap, trig, false⟩ s).length
  let stopPolicy := !d.bit (CAP.BUF_POLICY c)
  let d0 := if stopPolicy then d else d.dropCovered c len
  let w := d0.get (CAP.WP_WP c)
  let d1 := ((d0.set (CAP.WP_WP c) (w + len)).set (CAP.BLK_BLOCKS c) (num + 1)).modCap c fun k =>
    { k with fifo := k.fifo.drop n, gap := false, after := after, blocks := k.blocks ++ [(w, len)],
             trigAt := match k.trigAt with | some t => if trig then none else some (t - n) | none => none }
  let d2 := (d1.when trig fun d => (d.set (CAP.TRG_TBLK c) w).set (CAP.TRG_TIDX c) (k.trigAt.getD 0)).edge (356 + c)
  let r := d2.segmentEnd mem c
  let full := stopPolicy && decide (r.1.ringFree c < 1040)
  let m := r.2.writeBytes (0x23000000 + w) (blockBytes c pord near num ⟨k.gap, trig, ending || done || full⟩ s)
  (if ending then r.1 else if done then r.1.capEnd c 4 else if full then r.1.capEnd c 3 else r.1, m)

/-- CAPTURE_BLOCK_WRITE (R498-R500): a block of 512 kept samples, coded and written whole. -/
def execCaptureBlockWrite (c : Fin 8) (s : State) : Host.Outcome State Fault Refusal :=
  s.liftMem fun d mem =>
    if d.capWorks && d.capActive c && decide (512 ≤ (d.capCh c).fifo.length) then d.capBlock mem c 512 false else (d, mem)

/-! ### Start (R501) -/

/-- The lowest segment of channel c that does not belong to `FID`, or is in use by another enabled channel. -/
def Dev.capBadSeg (d : Dev) (c : Fin 8) : Option Nat :=
  (d.capSegs c).find? fun i => decide (d.get (OWN.R_OWNER 4 i) ≠ d.get (CAP.BUF_FID c)) ||
    capChans.any fun e => decide (e ≠ c) && d.bit (CAP.CFG_EN e) && natBit (d.get (CAP.BUF_SEGMASK e)) i

/-- May the run start for master m? -/
def Dev.capStartOk (d : Dev) (m : Master) (c : Fin 8) : Bool :=
  decide (d.get (CAP.BUF_SEGMASK c) ≠ 0) && (d.capBadSeg c).isNone && d.mayClaimId m (d.get (CAP.BUF_FID c))

/-- The detail of a refused start: the owner of the lowest failing segment (R501, Table 15-5). -/
def Dev.capDetail (d : Dev) (c : Fin 8) : Nat :=
  match d.capBadSeg c with
  | some i => d.get (OWN.R_OWNER 4 i)
  | none => match d.capSegs c with | i :: _ => d.get (OWN.R_OWNER 4 i) | [] => 0

/-- A run starts. -/
def Dev.capStart (d : Dev) (c : Fin 8) : Dev :=
  let base := (d.capSegs c).headD 0 * 65536
  ((d.setAll [(CAP.CFG_EN c, 1), (CAP.STAT_ST c, 1), (CAP.STAT_LOST c, 0), (CAP.WP_WP c, base), (CAP.OLD_OLD c, base), (CAP.BLK_BLOCKS c, 0)])).modCap c
    fun _ => CapChan.reset

/-- The last block of a stopped channel: what is still sampled is stored, and the channel ends with code 5 (R502). -/
def Dev.capLastBlock (r : Dev × Mem) (c : Fin 8) : Dev × Mem :=
  if !r.1.capActive c then r
  else if (r.1.capCh c).fifo.length = 0 then (r.1.capEnd c 5, r.2)
  else
    let q := r.1.capBlock r.2 c (min (r.1.capCh c).fifo.length 512) true
    (q.1.capEnd c 5, q.2)

/-- The partial block is written with `END`, whole blocks before it, and the channel stops (R502). -/
def Dev.capStop (d : Dev) (mem : Mem) (c : Fin 8) : Dev × Mem :=
  if d.capActive c then Dev.capLastBlock (if 512 < (d.capCh c).fifo.length then d.capBlock mem c 512 false else (d, mem)) c
  else (d, mem)

/-- The fields of `CFGc` but `EN`, and those of `BUFc`. -/
def capCfgFields (c : Fin 8) : List Fld := [CAP.CFG_AVG c, CAP.CFG_PORD c, CAP.CFG_NEAR c, CAP.CFG_STYPE c, CAP.CFG_SRC c, CAP.CFG_DECM1 c]
def capBufFields (c : Fin 8) : List Fld := [CAP.BUF_FID c, CAP.BUF_POLICY c, CAP.BUF_TSRC c, CAP.BUF_POST c, CAP.BUF_SEGMASK c]

/-- A write of `CFGc` or `BUFc` by master m (R501); the flag says whether a start was refused. Through an object a refused one leaves the fields as
they are (R433). -/
def Dev.capWrite (d : Dev) (mem : Mem) (m : Master) (c : Fin 8) (buf : Bool) (v : Nat) : Dev × Mem × Bool :=
  if d.capActive c then
    if !buf && !natBit v 31 then ((d.capStop mem c).1, (d.capStop mem c).2, false) else (d.set (CAP.STAT_CFGERR c) 1, mem, false)
  else if buf then (d.writeFields (capBufFields c) v, mem, false)
  else
    let d1 := d.writeFields (capCfgFields c) v
    if !natBit v 31 then (d1.set (CAP.CFG_EN c) 0, mem, false)
    else if d1.capStartOk m c then (d1.capStart c, mem, false)
    else ((if m = .dict then d else d1).set (CAP.STAT_CFGERR c) 1, mem, true)

/-- CAPTURE_START (R501): through the object a refused start answers 0x0650. -/
def execCaptureStart (m : Master) (obj : Bool) (c : Fin 8) (buf : Bool) (v : Word) (s : State) : Host.Outcome State Fault Refusal :=
  s.liftMem fun d mem =>
    let a := 0x40A10100 + 0x20 * c.val + (if buf then 4 else 0)
    let w := if obj then .dict else m
    if !d.mayWrite w a then (d.busError w a true, mem)
    else
      let r := d.capWrite mem w c buf v.toNat
      if !obj then (r.1.busOk 0, r.2.1)
      else if r.2.2 then (r.1.abort 0x2B00 (2 * c.val + (if buf then 2 else 1)) 0x0650 (r.1.capDetail c), r.2.1)
      else (r.1.answer 0 0, r.2.1)

/-! ### Triggers and stops (R502) -/

/-- The first trigger while RUNNING: the next kept sample is the trigger sample. -/
def Dev.capTrigger (d : Dev) (c : Fin 8) : Dev :=
  if d.get (CAP.STAT_ST c) = 1 then
    let n := (d.capCh c).fifo.length
    (((d.set (CAP.STAT_ST c) 2).set (CAP.STAT_TRIGF c) 1).setAll [(CAP.TRG_TBLK c, d.get (CAP.WP_WP c)), (CAP.TRG_TIDX c, n % 512)]).modCap c
      fun k => { k with trigAt := some n }
  else d

/-- CAPTURE_TRIGGER (R502): a fired source triggers the channels that selected it. -/
def execCaptureTrigger (n : Fin 8) (s : State) : Host.Outcome State Fault Refusal :=
  s.lift fun d =>
    if d.capTrig.contains n.val && decide (1 ≤ n.val) && decide (n.val ≤ 5) then
      let d1 := { d with capTrig := d.capTrig.filter (· ≠ n.val) }
      if d.capWorks then d1.each capChans fun d c => if d.get (CAP.BUF_TSRC c) = n.val then d.capTrigger c else d
      else d1
    else d

/-- The channels that a command names, and whether it may act; through the object every one in the mask. -/
def Dev.capCmd (d : Dev) (w : CapCmd) : List (Fin 8) :=
  match w with
  | .reg m c => if d.mayWrite m (0x40A10118 + 0x20 * c.val) then [c] else []
  | .object mask => if d.capWorks then capChans.filter fun c => natBit mask.toNat c.val else []

/-- The answer to a capture command. -/
def Dev.capAnswer (d : Dev) (w : CapCmd) : Dev :=
  match w with
  | .reg m c => if d.mayWrite m (0x40A10118 + 0x20 * c.val) then d.busOk 0 else d.busError m (0x40A10118 + 0x20 * c.val) true
  | .object _ => d.answer 0 0

/-- SWTRIG (R502). -/
def execSwtrig (w : CapCmd) (s : State) : Host.Outcome State Fault Refusal :=
  s.lift fun d => (d.each (d.capCmd w) Dev.capTrigger).capAnswer w

/-- Several channels stop. -/
def Dev.capStopAll : List (Fin 8) → Dev → Mem → Dev × Mem
  | [], d, mem => (d, mem)
  | c :: t, d, mem => Dev.capStopAll t (d.capStop mem c).1 (d.capStop mem c).2

/-- STOP (R502). -/
def execStop (w : CapCmd) (s : State) : Host.Outcome State Fault Refusal :=
  s.liftMem fun d mem =>
    let r := Dev.capStopAll (d.capCmd w) d mem
    (r.1.capAnswer w, r.2)

/-- CAPTURE_STOP_ALL (R502). -/
def execCaptureStopAll (m : Master) (v : Bool) (s : State) : Host.Outcome State Fault Refusal :=
  s.liftMem fun d mem =>
    if !d.mayWrite m 0x40A10000 then (d.busError m 0x40A10000 true, mem)
    else if v then ((d.set CAP.CTL_EN 1).busOk 0, mem)
    else
      let r := Dev.capStopAll capChans d mem
      ((r.1.set CAP.CTL_EN 0).busOk 0, r.2)

/-- The stored blocks of a channel, oldest first. -/
def Dev.capData (d : Dev) (mem : Mem) (c : Fin 8) : List (BitVec 8) := (d.capCh c).blocks.flatMap fun b => mem.readBytes (0x23000000 + b.1) b.2

/-- CAPTURE_READOUT (R504, Table 15-14). -/
def execCaptureReadout (c : BitVec 8) (s : State) : Host.Outcome State Fault Refusal :=
  s.lift fun d =>
    let b := d.opBegin 0x7050 1 [(1, c.toNat)] (decide (1 ≤ d.get DE.STAT_OPSTATE)) (decide (c.toNat ≤ 7))
    let n := b.1.objVal 0x7050 1 0
    if !b.2 then b.1
    else if h : n < 8 then
      if b.1.capActive ⟨n, h⟩ then b.1.opFail 0x7050 0x0622
      else
        let x := b.1.capData s.mem ⟨n, h⟩
        ((b.1.setDomain 0x7050 3 x).setObjVal 0x7050 2 x.length).opDone 0x7050
    else b.1.opFail 0x7050 0x0611

end Sys2Proof.Machine
end

