-- ==== Sys2Proof/Machine/PosEvents.lean ====
section
/-! DEFINITION. Chapter 05: the edge commands of the position blocks, with the block commutation that follows them (R221). -/

namespace Sys2Proof.Machine

/-- ENCODER_EDGE (R139-R141, R157). -/
def execEncoderEdge (p : Fin 2) (a b : Bool) (t : Nat) (s : State) : Host.Outcome State Fault Refusal :=
  s.lift fun d => (d.encoderEdge p a b t).commutate p t

/-- INDEX_EVENT (R142-R144, R221). -/
def execIndexEvent (p : Fin 2) (z : Bool) (s : State) : Host.Outcome State Fault Refusal :=
  s.lift fun d => (d.zLevel p z).commutate p (d.pos p).winT1

/-- HALL_TIMEOUT (R146, R221), 20 ms after the last edge. -/
def execHallTimeout (p : Fin 2) (s : State) : Host.Outcome State Fault Refusal :=
  s.lift fun d => (d.hallIdle p).commutate p ((d.pos p).hallT + 8000000)

/-- HALL_EDGE (R145, R146, R221). -/
def execHallEdge (p : Fin 2) (c : BitVec 3) (t : Nat) (s : State) : Host.Outcome State Fault Refusal :=
  s.lift fun d => (d.hallEdge p c.toNat t).commutate p t

/-- RESOLVER_PERIOD_END (R148-R150). -/
def execResolverPeriodEnd (p : Fin 2) (rs : List ResSample) (t : Nat) (s : State) : Host.Outcome State Fault Refusal :=
  s.lift fun d => (d.resolverPeriod p rs t).commutate p t

end Sys2Proof.Machine
end

