-- ==== Sys2Proof/Machine/Result.lean ====
section
/-! DEFINITION. The two commands that reach many blocks at once: a conversion result presented to the band unit, the thermal
sums, the ledger and capture (R19, R116), and a tick (R20, R171). -/

namespace Sys2Proof.Machine

/-! ### The band unit -/

/-- The CECLK cycle in which the result sampled at ADCCLK cycle n is presented (Table 1-2). -/
def presentedAt (n : Nat) : Nat := n * 5 / 3 + 41

/-- The error of code x against the extrapolated centre of phase p at CECLK cycle t, in codes / 2^64 (R183). -/
def Dev.bandError (d : Dev) (b : Bridge) (p : Fin 3) (x : Int) (t : Nat) : Int :=
  let e := d.engS b
  let nn : Int := (t : Int) - e.tload
  x * 2 ^ 64 - (vget e.cen p * 2 ^ 48 + vget e.slp p * nn * 2 ^ 16 + vget e.crv p * nn * nn / 2)

/-- The leg state that the band wants for phase p: 2 HIGH, 1 LOW (R183). -/
def Dev.bandWant (d : Dev) (b : Bridge) (p : Fin 3) (x : Int) (t : Nat) : Nat :=
  let err := d.bandError b p x t
  let h := vget (d.engS b).h p * 2 ^ 48
  if h < err then 1 else if err < -h then 2 else vget (d.engS b).leg p

/-- The dwell of a leg of bridge b in CECLK cycles (R185): dead time and `MINPULSE`. -/
def Dev.bandDwell (d : Dev) (b : Bridge) : Nat := 2 * max 10 (min 400 (d.get (MOD.DEAD_DT b))) + (d.snapOf b).minPulse

/-- BAND_DECISION (R183): phase p is judged by code x presented in cycle t; the decision is issued in the next cycle. -/
def Dev.bandJudge (d : Dev) (b : Bridge) (p : Fin 3) (x : Int) (t : Nat) : Dev :=
  let w := d.bandWant b p x t
  if w = vget (d.engS b).leg p then d
  else if t < vget (d.engS b).tchg p + d.bandDwell b then d.countSat (CE.BANDEVT_DWELLHOLD b)
  else
    (d.modEng b fun e =>
      { e with leg := vset e.leg p w, tchg := vset e.tchg p t,
               ncount := if w = 2 then vset e.ncount p (vget e.ncount p + 1) else e.ncount,
               ton := if w = 2 then vset e.ton p (some t) else e.ton,
               tU := if w = 2 ∧ p = 0 then (vget e.ton 0).map fun t0 => t - t0 else e.tU }).bandLeg b p w (t + 1)

/-- PHASE_OVER_CURRENT (R186): every result of slots 0-2, in every mode and state. -/
def Dev.phaseOverCurrent (d : Dev) (b : Bridge) (x : Int) : Dev :=
  if (d.snapOf b).oclim < x.natAbs then (d.set (CE.BANDEVT_OC b) 1).assertLine 26 (brMask b) else d

/-- The slot-0 current while an active short circuit is applied (R242): below -256 codes, and then above +256 codes, a zero crossing is due. -/
def Dev.ascSample (d : Dev) (b : Bridge) (p : Fin 3) (x : Int) : Dev :=
  if p = 0 ∧ d.ascApplied b = true ∧ d.works 4 3 = true then
    d.modEng b fun e => { e with ascX := if x < -256 then 1 else if 256 < x ∧ e.ascX = 1 then 2 else e.ascX }
  else d

/-- A result in the current slot of phase p of bridge b (R183, R186, R242, R293). -/
def Dev.phaseResult (d : Dev) (b : Bridge) (p : Fin 3) (x : Int) (t : Nat) : Dev :=
  let d1 := ((d.when (d.works 4 3) fun d => d.phaseOverCurrent b x).condLoss b p x t).ascSample b p x
  if d1.works 4 3 && d1.active b && decide ((d1.snapOf b).ctrl = 0) then d1.bandJudge b p x t else d1

/-- The bridges and phases whose current slot has a tag, as the last snapshot took it (R172). -/
def Dev.phasesOfTag (d : Dev) (tag : Nat) : List (Bridge × Fin 3) :=
  ([(0, 0), (0, 1), (0, 2), (1, 0), (1, 1), (1, 2)] : List (Bridge × Fin 3)).filter fun bp =>
    decide (vget (d.snapOf bp.1).tags bp.2 = tag)

/-- RESULT_PRESENTED (R103-R106, R111, R116, R118): the result of input i of slice k, sampled at ADCCLK cycle n. -/
def execResultPresented (k : Fin 32) (i : Fin 4) (v : Int) (vref n : Nat) (s : State) : Host.Outcome State Fault Refusal :=
  s.lift fun d =>
    if !(d.sliceLive k && (vget d.vol.ana.scan k).expects i) then d
    else
      let r := d.present k i v vref n
      let d1 := r.2.each (r.2.phasesOfTag r.1.tag) fun d bp => d.phaseResult bp.1 bp.2 r.1.code (presentedAt n)
      (d1.lgResult r.1.tag r.1.code r.1.ovr n).capSample false r.1.tag r.1.code

/-! ### The tick -/

/-- The samples that a tick gives to capture (R497): the probes of both bridges, and the angles of both position blocks. -/
def Dev.tickSamples (d : Dev) : Dev :=
  let d1 := d.each ([0, 1] : List Bridge) fun d b => d.each (List.range 16) fun d k =>
    d.capSample true (16 * b.val + k) (toSigned 16 (d.probe b k))
  d1.each [0, 1] fun d p => d.capSample true (0x20 + p) (toSigned 16 (d.get (POS.ANGLE_ANG_E p) / 64))

/-- The interrupt sources that the tick unit claims at its snapshot (R347): those that requested the tick and that no other target has claimed. -/
def Dev.tickClaims (d : Dev) : List Nat :=
  d.vol.ce.tickSrcs.filter fun i => d.bit (INTC.SRCCFG_PEND i) && !d.bit (INTC.SRCCFG_ACTIVE i)

/-- TICK_START (R20, R21, R171, R347): the snapshot, both bridges in their turn (Table 6-3), the end of the dataflow, capture; the tick unit's sources
are claimed with the snapshot and completed at the end. -/
def execTickStart (guardA guardB : Bool) (s : State) : Host.Outcome State Fault Refusal :=
  s.lift fun d =>
    if d.tickDue then
      let n := d.tickCycles
      let l := d.tickClaims
      let d1 := d.tickBegin.each l fun d i => d.claimBy 5 i
      (((((d1.tickBridge 0 n 770 guardA).tickBridge 1 n 1550 guardB).tickEnd n).each l Dev.complete).when (!l.isEmpty) Dev.settleIrq).tickSamples
    else d

end Sys2Proof.Machine
end

