-- ==== Sys2Proof/Machine/Objects.lean ====
section
/-! DEFINITION. The objects that the spec's tables define (Tables 4-19 to 17-7 and 15-16): type, access, gates, persistence,
default, range, and the register fields behind each; and how a stored value reaches its fields. -/

namespace Sys2Proof.Machine

/-- What lies behind an object: a whole register (R427), fields at given places of the value, or a value of the engine's own. -/
inductive Mirror where
  | reg (a : Nat)
  | part (fs : List (Fld × Nat))
  | held
deriving DecidableEq, Repr

/-- An object: type code (Table 15-2), base access (0 RO, 1 RW, 2 WO), gates and persistence as in a descriptor (Table 15-8),
default, range, and what it mirrors. -/
structure Obj where
  ty    : Nat
  acc   : Nat
  gates : Nat
  pers  : Nat
  dflt  : Nat
  lo    : Int
  hi    : Int
  mir   : Mirror
deriving DecidableEq, Repr

/-- The size of a type in bytes; 0 for STRING and DOMAIN. -/
def tySize (t : Nat) : Nat :=
  match t with
  | 1 | 2 | 6 => 1
  | 3 | 7 | 0xB => 2
  | 4 | 8 | 0xA | 0xC => 4
  | 5 | 9 => 8
  | _ => 0

/-- Is a type signed (Q types carry their sign in their registers)? -/
def tySigned (t : Nat) : Bool := decide (6 ≤ t) && decide (t ≤ 9)

/-- The range of a type. -/
def tyLo (t : Nat) : Int := if tySigned t then -(2 ^ (8 * tySize t - 1)) else 0
def tyHi (t : Nat) : Int := if t = 1 then 1 else if tySigned t then 2 ^ (8 * tySize t - 1) - 1 else 2 ^ (8 * tySize t) - 1

/-! ### Gates (Table 15-3), as bits of a descriptor -/

def gRun : Nat := 1
def gServ : Nat := 2
def gTrac : Nat := 4
def gGrid : Nat := 8
def gSet : Nat := 32
def gNext : Nat := 64

/-! ### Kinds of objects -/

/-- The value that the reset of a register's writable fields spells, or the fields of a part. -/
def partDefault (fs : List (Fld × Nat)) : Nat := fs.foldl (fun v f => v + f.1.rst * 2 ^ f.2) 0

/-- A field that software can write as a value. -/
def Fld.writable (f : Fld) : Bool := (decide (f.acc = .rw) || decide (f.acc = .rwl)) && !fieldFixed f

/-- The writable fields of the register at an address, with their places. -/
def regPart (a : Nat) : List (Fld × Nat) := (((regFields a).getD []).filter Fld.writable).map fun f => (f, f.lo)

/-- A stored object of a whole register. -/
def oReg (g a : Nat) : Obj := ⟨4, 1, g, 1, partDefault (regPart a), 0, 2 ^ 32 - 1, .reg a⟩

/-- A stored object of a type over fields. -/
def oPart (ty g : Nat) (fs : List (Fld × Nat)) : Obj := ⟨ty, 1, g, 1, partDefault fs, tyLo ty, tyHi ty, .part fs⟩

/-- A stored object of the writable fields of a register. -/
def oFields (g a : Nat) : Obj := oPart 4 g (regPart a)

/-- A stored object of a type over one field, with a range. -/
def oRange (ty g : Nat) (f : Fld) (lo hi : Int) : Obj := ⟨ty, 1, g, 1, f.rst, lo, hi, .part [(f, 0)]⟩

/-- A monitored register, and a monitored value. -/
def oMon (a : Nat) : Obj := ⟨4, 0, 0, 0, 0, 0, 2 ^ 32 - 1, .reg a⟩
def oSee (ty : Nat) (f : Fld) : Obj := ⟨ty, 0, 0, 0, f.rst, tyLo ty, tyHi ty, .part [(f, 0)]⟩
def oRead (ty pers : Nat) : Obj := ⟨ty, 0, 0, pers, 0, tyLo ty, tyHi ty, .held⟩

/-- A volatile or stored value that the engine handles by itself. -/
def oHeld (ty acc g pers dflt : Nat) : Obj := ⟨ty, acc, g, pers, dflt, tyLo ty, tyHi ty, .held⟩

/-- A DOMAIN object of a limit, empty by default; and one that always holds its n bytes, which are its default length. -/
def oDomain (acc pers limit : Nat) : Obj := ⟨0xE, acc, 0, pers, 0, 0, limit, .held⟩
def oBytes (acc pers n : Nat) : Obj := { oDomain acc pers n with dflt := n }

/-! ### The tables -/

/-- A row: the first index, the number of further indices with their stride, the first and the last sub-index, and the object
of the j-th index and the k-th sub-index of the row. -/
structure ObjRow where
  i0 : Nat
  n  : Nat
  st : Nat
  s0 : Nat
  s1 : Nat
  obj : Nat → Nat → Obj

/-- Rows of Table 4-19. DESIGN CHOICE (log 136): `0x2103:04` (`CHKLVL`) may be written in RUN, as its row in the table, which names no such bar,
says; the text beside it (R134) bars every write in RUN. -/
def objAnalog : List ObjRow := [
  ⟨0x2100, 1, 1, 1, 0x20, fun _ k => oReg gRun (AS.SLCFG_MODE k).addr⟩,
  ⟨0x2101, 1, 1, 1, 4, fun _ k => oRange 2 gRun (AS.GRP_TSRC k) 0 7⟩,
  ⟨0x2102, 1, 1, 1, 8, fun _ k => oReg gRun (Q.QCTL_EN k).addr⟩,
  ⟨0x2103, 1, 1, 1, 1, fun _ _ => oPart 1 gRun [(AS.CALCTL_CALEN, 0)]⟩,
  ⟨0x2103, 1, 1, 2, 2, fun _ _ => oRange 3 gRun AS.CALCTL_CALGAP 150 1470⟩,
  ⟨0x2103, 1, 1, 3, 3, fun _ _ => { oHeld 2 2 0 0 0 with hi := 31 }⟩,
  ⟨0x2103, 1, 1, 4, 4, fun _ _ => oRange 2 0 AS.CTL_CHKLVL 0 3⟩,
  ⟨0x4100, 1, 1, 1, 0x22, fun _ k => oMon (AS.SLST_SERVER k).addr⟩,
  ⟨0x4101, 1, 1, 1, 1, fun _ _ => oMon AS.SPARE_CHAIN.addr⟩,
  ⟨0x4101, 1, 1, 2, 2, fun _ _ => oRead 5 1⟩,
  ⟨0x4101, 1, 1, 3, 3, fun _ _ => oRead 3 1⟩,
  ⟨0x4102, 1, 1, 1, 8, fun _ k => oMon (Q.QSTAT_LEVEL k).addr⟩,
  ⟨0x4103, 1, 1, 1, 0x80, fun _ k => oMon (Q.LAST_V k).addr⟩ ]

/-- Rows of Table 5-14; POS1 at index + 1 (R166). -/
def objPosition : List ObjRow := [
  ⟨0x2200, 2, 1, 1, 1, fun p _ => oReg (gRun + gTrac) (POS.CTL_EN p).addr⟩,
  ⟨0x2200, 2, 1, 2, 5, fun p k => oReg (gRun + gTrac) ((POS.CTL_EN p).addr + 4 + 4 * k)⟩,
  ⟨0x2200, 2, 1, 6, 7, fun p k => oReg (gRun + gTrac) ((POS.CTL_EN p).addr + 0x30 + 4 * k)⟩,
  ⟨0x2200, 2, 1, 8, 8, fun p _ => oReg (gRun + gTrac) (POS.RESCFG_EXCDIV p).addr⟩,
  ⟨0x2200, 2, 1, 9, 9, fun p _ => oPart 4 (gRun + gTrac) [(POS.RESAMP_NOM p, 0)]⟩,
  ⟨0x2200, 2, 1, 0xA, 0xA, fun p _ => oReg 0 (POS.SPDCFG_WIN p).addr⟩,
  ⟨0x2202, 2, 1, 1, 8, fun p k => oFields (gRun + gTrac) ((POS.CTL_EN p).addr + 0x300 + 4 * k)⟩,
  ⟨0x2204, 2, 1, 1, 0x10, fun _ _ => oHeld 4 1 0 0 0⟩,
  ⟨0x2206, 2, 1, 1, 1, fun p _ => oReg 0 (POS.EMUCTL_EN p).addr⟩,
  ⟨0x4200, 2, 1, 1, 1, fun p _ => oMon (POS.ANGLE_ANG_E p).addr⟩,
  ⟨0x4200, 2, 1, 2, 2, fun p _ => oMon (POS.ANGM_ANG_M p).addr⟩,
  ⟨0x4200, 2, 1, 3, 3, fun _ _ => oRead 8 0⟩,
  ⟨0x4200, 2, 1, 4, 4, fun p _ => oMon (POS.STAT_POSST p).addr⟩,
  ⟨0x4200, 2, 1, 5, 5, fun p _ => oSee 8 (POS.COUNT_COUNT p)⟩,
  ⟨0x4200, 2, 1, 6, 6, fun p _ => oMon (POS.IDXCAP_IDXCAP p).addr⟩,
  ⟨0x4200, 2, 1, 7, 7, fun p _ => oSee 3 (POS.RESAMP_MEAS p)⟩ ]

/-- Object k of the loops: `KP`, `KIT`, `ILIM`, `LPARP`, `LPARN` of loops 0-6; loop 5 RO (Table 6-10). -/
def oLoop (b k : Nat) : Obj :=
  let a := (CE.LKP_KP b (k / 5)).addr + 4 * (k % 5)
  if k / 5 = 5 then { oReg gRun a with acc := 0 } else oReg gRun a

/-- Rows of Table 6-10; bridge B at index + 0x10 (R199). -/
def objEngine : List ObjRow := [
  ⟨0x2300, 2, 0x10, 1, 1, fun b _ => { oReg gRun (CE.BCFG_ROLE b).addr with dflt := 0 }⟩,
  ⟨0x2300, 2, 0x10, 2, 2, fun b _ => oReg gRun (CE.BASE_BASEV b).addr⟩,
  ⟨0x2300, 2, 0x10, 3, 3, fun b _ => oReg gRun (CE.BASEW_BASESPD b).addr⟩,
  ⟨0x2301, 2, 0x10, 1, 0x18, fun b k => oReg gRun ((CE.INSLOT_EN b 0).addr + 4 * k)⟩,
  ⟨0x2302, 2, 0x10, 1, 5, fun b k => oReg 0 ((CE.BANDCTL_FTGT b).addr + 4 * k)⟩,
  ⟨0x2303, 2, 0x10, 1, 0x23, fun b k => oLoop b k⟩,
  ⟨0x2304, 2, 0x10, 1, 5, fun b k => oReg gRun ((CE.CRKP_CRKP b).addr + 4 * k)⟩,
  ⟨0x2304, 2, 0x10, 6, 6, fun b _ => oReg gRun (CE.OMFLOOR_OMFLOOR b).addr⟩,
  ⟨0x2305, 2, 0x10, 1, 4, fun b k => oReg 0 ((CE.RUP_RUP b (k / 2)).addr + 4 * (k % 2))⟩,
  ⟨0x2306, 2, 0x10, 1, 4, fun b k => { oReg gRun ((CE.TSTCFG_TYPE b).addr + 4 * k) with pers := 0, dflt := 0 }⟩,
  ⟨0x3000, 2, 0x10, 1, 1, fun _ _ => { oHeld 2 1 (gRun + gTrac) 1 0 with hi := 1 }⟩,
  ⟨0x3001, 2, 0x10, 1, 2, fun _ _ => oHeld 8 1 0 0 0⟩,
  ⟨0x3002, 2, 0x10, 1, 2, fun _ _ => oHeld 4 1 0 0 0⟩,
  ⟨0x3002, 2, 0x10, 3, 3, fun _ _ => oHeld 4 1 0 1 200000⟩,
  ⟨0x3002, 2, 0x10, 4, 4, fun _ _ => oHeld 4 1 0 1 0⟩,
  ⟨0x3003, 2, 0x10, 1, 4, fun _ _ => oHeld 4 1 0 1 0⟩,
  ⟨0x3005, 2, 0x10, 1, 1, fun _ _ => { oHeld 2 2 0 0 0 with lo := 1, hi := 2 }⟩,
  ⟨0x3006, 2, 0x10, 1, 1, fun _ _ => oHeld 1 2 0 0 0⟩,
  ⟨0x4300, 2, 0x10, 1, 1, fun b _ => oMon (CE.WIN_WIN b).addr⟩,
  ⟨0x4300, 2, 0x10, 2, 2, fun _ _ => oRead 8 0⟩,
  ⟨0x4300, 2, 0x10, 3, 3, fun b _ => oMon (CE.SAT_SAT b).addr⟩,
  ⟨0x4300, 2, 0x10, 4, 4, fun b _ => oMon (CE.BSTAT_ST b).addr⟩,
  ⟨0x4300, 2, 0x10, 5, 7, fun b k => oMon (CE.BANDST_H b k).addr⟩,
  ⟨0x4300, 2, 0x10, 8, 9, fun _ _ => oRead 8 0⟩,
  ⟨0x4300, 2, 0x10, 0xA, 0xA, fun _ _ => oMon CE.TSTAT_TICKS.addr⟩ ]

/-- Rows of Table 7-7; modulator B at index + 0x10 (R230). -/
def objModulator : List ObjRow := [
  ⟨0x2400, 2, 0x10, 1, 1, fun x _ => oPart 4 gRun [(MOD.CTL_MODE x, 1), (MOD.CTL_RLD x, 4), (MOD.CTL_GRP x, 6), (MOD.CTL_RATIO x, 7),
    (MOD.CTL_DITH x, 8)]⟩,
  ⟨0x2400, 2, 0x10, 2, 2, fun x _ => oRange 3 gRun (MOD.DEAD_DT x) 10 400⟩,
  ⟨0x2400, 2, 0x10, 3, 3, fun x _ => oRange 4 gRun (MOD.PRD_PRD x) 4800 16777214⟩,
  ⟨0x2400, 2, 0x10, 4, 4, fun x _ => oReg gRun (MOD.WIN_WEN x).addr⟩,
  ⟨0x2400, 2, 0x10, 5, 5, fun x _ => oReg gRun (MOD.RFSH_RFW x).addr⟩,
  ⟨0x2400, 2, 0x10, 6, 8, fun x k => oReg gRun ((MOD.BLKTBL0_SECT0 x).addr + 4 * k)⟩,
  ⟨0x2401, 2, 0x10, 1, 7, fun x k => oFields 0 (MOD.EV_PSC x k).addr⟩,
  ⟨0x2402, 2, 0x10, 1, 1, fun x _ => { oReg gServ (MOD.OMASK_OMASK x).addr with pers := 0 }⟩,
  ⟨0x2402, 2, 0x10, 2, 2, fun x _ => { oPart 2 gServ [(MOD.CTL_SRC x, 0), (MOD.CTL_OUTEN x, 1), (MOD.CTL_SV x, 2)] with pers := 0, hi := 7 }⟩,
  ⟨0x2403, 2, 0x10, 1, 6, fun x k => { oReg gServ ((MOD.PRD_PRD x).addr + (if k = 0 then 0 else 4 + 4 * k)) with pers := 0, dflt := 0 }⟩,
  ⟨0x2403, 2, 0x10, 7, 8, fun x k => { oReg gServ ((MOD.VA_VA x).addr + 4 * k) with pers := 0 }⟩,
  ⟨0x2403, 2, 0x10, 9, 9, fun _ _ => oHeld 1 2 gServ 0 0⟩,
  ⟨0x4400, 2, 0x10, 1, 1, fun x _ => oMon (MOD.STAT_RFINS x).addr⟩,
  ⟨0x4400, 2, 0x10, 2, 2, fun x _ => oMon (MOD.GUARD_PEND x).addr⟩,
  ⟨0x4400, 2, 0x10, 3, 3, fun x _ => oMon (MOD.CNT_CNT x).addr⟩,
  ⟨0x4400, 2, 0x10, 4, 4, fun _ _ => oRead 4 0⟩ ]

/-- Rows of Table 8-10; bridge B at index + 0x10, but for 0x2350 and 0x4350 (R254). -/
def objField : List ObjRow := [
  ⟨0x2330, 2, 0x10, 1, 1, fun b _ => { oReg (gRun + gTrac) (CE.MOTKT_KT b).addr with lo := 1, hi := 2 ^ 31 - 1 }⟩,
  ⟨0x2330, 2, 0x10, 2, 7, fun b k => oReg (gRun + gTrac) ((CE.MOTKR_KR b).addr + 4 * k)⟩,
  ⟨0x2330, 2, 0x10, 8, 8, fun b _ => oReg (gRun + gTrac) (CE.IDDIS_IDDIS b).addr⟩,
  ⟨0x2331, 2, 0x10, 1, 1, fun b _ => oReg (gRun + gTrac) (CE.SAFE_ASCSPD b).addr⟩,
  ⟨0x2331, 2, 0x10, 2, 2, fun b _ => oPart 1 (gRun + gTrac) [(CE.SAFECTL_ASCEN b, 0)]⟩,
  ⟨0x2350, 1, 1, 1, 3, fun _ k => oReg (gRun + gTrac) (CE.LIMPCFG_LMODE.addr + 4 * k)⟩,
  ⟨0x2350, 1, 1, 4, 4, fun _ _ => oReg gTrac CE.LIMPTMO_CMDTMO.addr⟩,
  ⟨0x4330, 2, 0x10, 1, 1, fun b _ => oMon (CE.SAFECTL_SSPAT b).addr⟩,
  ⟨0x4330, 2, 0x10, 2, 2, fun _ _ => oRead 8 0⟩,
  ⟨0x4330, 2, 0x10, 3, 3, fun _ _ => oRead 8 0⟩,
  ⟨0x4350, 1, 1, 1, 1, fun _ _ => oMon CE.LIMPST_RAW.addr⟩,
  ⟨0x8000, 2, 0x10, 1, 1, fun _ _ => { oHeld 2 1 (gRun + gGrid) 1 0 with hi := 3 }⟩,
  ⟨0x8001, 2, 0x10, 1, 7, fun b k => oReg (gRun + gGrid) ((CE.PLLCFG_FNOM b).addr + 4 * k)⟩,
  ⟨0x8002, 2, 0x10, 1, 1, fun b _ => oReg (gRun + gGrid) (CE.DCDC_VBMIN b).addr⟩,
  ⟨0x8003, 2, 0x10, 1, 1, fun b _ => { oMon (CE.PLLST_PLLST b).addr with gates := gGrid }⟩,
  ⟨0x8003, 2, 0x10, 2, 2, fun b _ => { oMon (CE.PLLANG_THGRID b).addr with gates := gGrid }⟩,
  ⟨0x8003, 2, 0x10, 3, 3, fun _ _ => { oRead 8 0 with gates := gGrid }⟩,
  ⟨0x8003, 2, 0x10, 4, 4, fun b _ => { oMon (CE.DCDCST_VBOUT b).addr with gates := gGrid }⟩ ]

/-- Rows of Table 9-9. -/
def objGate : List ObjRow := [
  ⟨0x2500, 12, 1, 1, 2, fun n k => oReg gRun ((GL.CHCFG_EN n).addr + 4 * k)⟩,
  ⟨0x2500, 12, 1, 3, 3, fun n _ => oPart 4 gRun [(GL.CHSTR_INITON n, 0), (GL.CHSTR_INITOFF n, 8)]⟩,
  ⟨0x2500, 12, 1, 4, 4, fun n _ => oReg 0 (GL.CHTGT_TTON n).addr⟩,
  ⟨0x2500, 12, 1, 5, 7, fun n k => oReg gRun ((GL.CHDES_DSTHR n).addr + 4 * k)⟩,
  ⟨0x2510, 1, 1, 1, 1, fun _ _ => oPart 4 gRun [(GL.DSCCTL_VTHR, 0), (GL.DSCCTL_MODE, 8)]⟩,
  ⟨0x3020, 1, 1, 1, 1, fun _ _ => ⟨1, 1, 0, 0, 0, 0, 1, .part [(GL.DSCCTL_REQ, 0)]⟩⟩,
  ⟨0x3021, 1, 1, 1, 1, fun _ _ => { oHeld 2 2 0 0 0 with hi := 11 }⟩,
  ⟨0x4500, 12, 1, 1, 1, fun n _ => oMon (GL.CHSTAT_ST n).addr⟩,
  ⟨0x4500, 12, 1, 2, 2, fun n _ => oMon (GL.CHTIME_TONM n).addr⟩,
  ⟨0x4500, 12, 1, 3, 3, fun n _ => oMon (GL.CHSTR_STON n).addr⟩,
  ⟨0x4500, 12, 1, 4, 4, fun n _ => oSee 7 (GL.CHTEMP_TDIE n)⟩,
  ⟨0x4500, 12, 1, 5, 5, fun n _ => oSee 3 (GL.CHSUP_VPOS n)⟩,
  ⟨0x4510, 1, 1, 1, 1, fun _ _ => oMon GL.DSCSTAT_ST.addr⟩,
  ⟨0x4510, 1, 1, 2, 3, fun _ k => oMon (GL.BSTAT_PAT k).addr⟩ ]

/-- Rows of Table 10-6. -/
def objThermal : List ObjRow := [
  ⟨0x2600, 1, 1, 1, 0x18, fun _ k => oReg gRun (TH.HKTHR_THI k).addr⟩,
  ⟨0x2601, 1, 1, 1, 0xC, fun _ k => oReg gRun (TH.NTC_RNOM k).addr⟩,
  ⟨0x2610, 12, 1, 1, 4, fun n k => oReg gRun ((TH.PMCFG_NODES n).addr + 4 * k)⟩,
  ⟨0x2610, 12, 1, 5, 5, fun n _ => oReg gRun (TH.PMTHR_TJWARN n).addr⟩,
  ⟨0x2610, 12, 1, 6, 6, fun _ _ => oHeld 4 1 gRun 1 0⟩,
  ⟨0x2620, 1, 1, 1, 0x80, fun _ k => oReg gRun ((TH.NR_RTH 0).addr + 4 * k)⟩,
  ⟨0x2630, 2, 1, 1, 3, fun x k => oReg gRun ((TH.DERT_TDSTART x).addr + 4 * k)⟩,
  ⟨0x2640, 1, 1, 1, 1, fun _ _ => oFields gRun TH.CTL_EN.addr⟩,
  ⟨0x2640, 1, 1, 2, 2, fun _ _ => oPart 7 gRun [(TH.TBRKR_TBRK, 0)]⟩,
  ⟨0x3030, 1, 1, 1, 2, fun _ k => { oPart 7 0 [(TH.TCOOL_TCOOL k, 0)] with pers := 0 }⟩,
  ⟨0x4600, 1, 1, 1, 0x18, fun _ k => oSee 7 (TH.HKVAL_VAL k)⟩,
  ⟨0x4601, 1, 1, 1, 0xC, fun _ k => oMon (TH.PMTJ_TJ k).addr⟩,
  ⟨0x4602, 1, 1, 1, 1, fun _ _ => oMon TH.STAT_WARN.addr⟩,
  ⟨0x4602, 1, 1, 2, 2, fun _ _ => oMon TH.DIE_TDIE.addr⟩,
  ⟨0x4602, 1, 1, 3, 3, fun _ _ => oMon TH.LATCH_DIE.addr⟩,
  ⟨0x4602, 1, 1, 4, 4, fun _ _ => oRead 5 1⟩,
  ⟨0x4602, 1, 1, 5, 6, fun _ k => oMon (TH.DERLIM_DLIM k).addr⟩ ]

/-- Rows of Tables 11-9 and 12-7; the class objects keep their minima by their own check (R349). -/
def objFault : List ObjRow := [
  ⟨0x2700, 1, 1, 1, 3, fun _ k => { oPart 2 (gRun + gNext) [(KS.INCLS_C0 k, 0), (KS.INCLS_C1 k, 1)] with hi := 3 }⟩,
  ⟨0x2700, 1, 1, 4, 5, fun _ k => oRange 2 gRun (KS.SPCTL_SPRMAX k) 1 7⟩,
  ⟨0x2701, 1, 1, 1, 2, fun _ _ => oHeld 1 2 gServ 0 0⟩,
  ⟨0x4700, 1, 1, 1, 4, fun _ k => oMon (KS.TSTAT_MODE.addr + 4 * k)⟩,
  ⟨0x4700, 1, 1, 5, 5, fun _ _ => oMon KS.SCRUBST_SCRUBS.addr⟩,
  ⟨0x4700, 1, 1, 6, 7, fun _ k => oMon (KS.SPSTAT_MODE k).addr⟩,
  ⟨0x4700, 1, 1, 8, 8, fun _ _ => oMon KS.DBG_TGT.addr⟩,
  ⟨0x4710, 1, 1, 1, 1, fun _ _ => oRead 2 1⟩,
  ⟨0x4710, 1, 1, 2, 2, fun _ _ => oRead 4 1⟩,
  ⟨0x4710, 1, 1, 3, 3, fun _ _ => oHeld 1 1 0 1 0⟩,
  ⟨0x4710, 1, 1, 4, 4, fun _ _ => oRead 3 1⟩,
  ⟨0x4710, 1, 1, 5, 5, fun _ _ => oRead 4 2⟩,
  ⟨0x2800, 1, 1, 1, 8, fun _ k => oReg gRun (FCOL.CLS_C (8 * k)).addr⟩,
  ⟨0x2800, 1, 1, 9, 9, fun _ _ => oPart 5 gRun ((List.range 64).map fun l => (FCOL.FNEN_L l, l))⟩,
  ⟨0x2800, 1, 1, 0xA, 0xA, fun _ _ => oReg gRun FCOL.STOPCFG_STOPTMO.addr⟩,
  ⟨0x2801, 1, 1, 1, 1, fun _ _ => oHeld 2 2 0 0 0⟩,
  ⟨0x4800, 1, 1, 1, 1, fun _ _ => { oPart 5 0 ((List.range 64).map fun l => (FCOL.STATUS_L l, l)) with acc := 0, pers := 0 }⟩,
  ⟨0x4800, 1, 1, 2, 2, fun _ _ => oMon FCOL.REACT_CLASSA.addr⟩,
  ⟨0x4800, 1, 1, 3, 3, fun _ _ => oMon FCOL.FIRST_LINE.addr⟩,
  ⟨0x4800, 1, 1, 4, 4, fun _ _ => oMon INTC.SPUR_SPURCNT.addr⟩,
  ⟨0x4801, 1, 1, 1, 0x10, fun _ _ => oRead 5 1⟩ ]

/-- Rows of Table 13-6. -/
def objSafety : List ObjRow := [
  ⟨0x5000, 1, 1, 1, 0xC, fun _ k => { oHeld 4 1 gSet 1 (safetyDefault 0x5000 (k + 1)) with hi := 2 ^ 32 - 1 }⟩,
  ⟨0x5001, 1, 1, 1, 4, fun _ k => oHeld 3 1 gSet 1 (safetyDefault 0x5001 (k + 1))⟩,
  ⟨0x5002, 1, 1, 1, 4, fun _ k => oHeld 4 1 gSet 1 (safetyDefault 0x5002 (k + 1))⟩,
  ⟨0x5003, 2, 1, 1, 6, fun _ k => oHeld 0xA 1 gSet 1 (safetyDefault 0x5003 (k + 1))⟩,
  ⟨0x5003, 2, 1, 7, 8, fun _ k => oHeld 3 1 gSet 1 (safetyDefault 0x5003 (k + 7))⟩,
  ⟨0x5003, 2, 1, 9, 9, fun _ _ => { oHeld 2 1 gSet 1 8 with lo := 1, hi := 64 }⟩,
  ⟨0x5003, 2, 1, 0xA, 0xA, fun b _ => oHeld 4 1 gSet 1 (safetyDefault (0x5003 + b) 10)⟩,
  ⟨0x5005, 1, 1, 1, 2, fun _ k => oHeld 4 1 gSet 1 (safetyDefault 0x5005 (k + 1))⟩,
  ⟨0x5FFF, 1, 1, 1, 1, fun _ _ => oRead 4 1⟩,
  ⟨0x5FFF, 1, 1, 2, 2, fun _ _ => oRead 3 1⟩,
  ⟨0x3040, 1, 1, 1, 1, fun _ _ => ⟨2, 1, 0, 0, 0, 0, 3, .part [(SIO.SWREQ_OBJSS1, 0)]⟩⟩,
  ⟨0x3041, 1, 1, 1, 4, fun _ k => ⟨1, 1, 0, 0, 0, 0, 1, .part [(SIO.CTRCFG_DRV k, 0)]⟩⟩,
  ⟨0x4900, 1, 1, 1, 2, fun _ k => oMon (SIO.INSTAT_DEM.addr + 4 * k)⟩,
  ⟨0x4900, 1, 1, 3, 4, fun _ k => oMon (SIO.STO_ACT k).addr⟩,
  ⟨0x4900, 1, 1, 5, 6, fun _ k => oMon (SIO.SS1_ST k).addr⟩,
  ⟨0x4900, 1, 1, 7, 0xA, fun _ k => oMon (SIO.CTRSTAT_FB k).addr⟩,
  ⟨0x4900, 1, 1, 0xB, 0xC, fun _ k => oMon (SIO.TMSTAT_TMRUN k).addr⟩,
  ⟨0x4900, 1, 1, 0xD, 0xE, fun _ _ => oRead 8 0⟩,
  ⟨0x4900, 1, 1, 0xF, 0x10, fun _ k => oMon (SIO.CWSTAT_LOSS.addr + 4 * k)⟩,
  ⟨0x4900, 1, 1, 0x11, 0x11, fun _ _ => oRead 3 1⟩ ]

/-- An entry of the forwarding table as one value: `FWDBe` above `FWDAe`. -/
def oFwd (e : Nat) : Obj :=
  oPart 5 (gRun + gNext) (regPart (KN.FWDA_EN e).addr ++ (regPart (KN.FWDB_HI e).addr).map fun f => (f.1, f.2 + 32))

/-- Rows of Table 14-9. -/
def objComm : List ObjRow := [
  ⟨0x1010, 1, 1, 1, 1, fun _ _ => { oHeld 3 1 (gRun + gNext) 1 1 with hi := 16383 }⟩,
  ⟨0x1011, 1, 1, 1, 4, fun _ k => { oFields (gRun + gNext) (CAN.CTL_EN k).addr with dflt := 0x543 }⟩,
  ⟨0x1012, 1, 1, 1, 0xC, fun _ k => oReg (gRun + gNext) ((CAN.NBT_BRP (k / 3)).addr + 4 * (k % 3))⟩,
  ⟨0x1013, 1, 1, 1, 2, fun _ k => oReg (gRun + gNext) (KN.CFG_HBPER.addr + 4 * k)⟩,
  ⟨0x1013, 1, 1, 3, 3, fun _ _ => oPart 3 (gRun + gNext) [(KN.TSNODE_TSNODE, 0)]⟩,
  ⟨0x1014, 1, 1, 1, 4, fun _ k => oReg (gRun + gNext) (KN.LOCAL_HI k).addr⟩,
  ⟨0x1015, 1, 1, 1, 1, fun _ _ => oPart 1 (gRun + gNext) [(KN.FWD_FWDEN, 0)]⟩,
  ⟨0x1016, 2, 1, 1, 0x80, fun j k => oFwd (128 * j + k)⟩,
  ⟨0x4A00, 1, 1, 1, 4, fun _ k => oMon (CAN.ERR_TEC k).addr⟩,
  ⟨0x4A00, 1, 1, 5, 8, fun _ k => oMon (CAN.STAT_CFGREJ k).addr⟩,
  ⟨0x4A00, 1, 1, 9, 9, fun _ _ => oMon KN.STAT_TSVALID.addr⟩,
  ⟨0x4A00, 1, 1, 0xA, 0xA, fun _ _ => oRead 5 0⟩ ]

/-- Rows of Tables 15-16 and 15-14 that no other chapter gives. -/
def objKey1 : List ObjRow := [
  ⟨0x1000, 1, 1, 1, 1, fun _ _ => { oRead 4 2 with dflt := 0x8620 }⟩,
  ⟨0x1001, 1, 1, 1, 1, fun _ _ => oSee 2 DE.STAT_OPSTATE⟩,
  ⟨0x1001, 1, 1, 2, 2, fun _ _ => oSee 3 DE.CNT_STREJ⟩,
  ⟨0x1001, 1, 1, 3, 3, fun _ _ => { oHeld 2 2 0 0 0 with lo := 1, hi := 4 }⟩,
  ⟨0x1018, 1, 1, 1, 1, fun _ _ => { oRead 4 2 with dflt := 0x4C4E5253 }⟩,
  ⟨0x1018, 1, 1, 2, 4, fun _ _ => oRead 4 2⟩,
  ⟨0x1018, 1, 1, 5, 5, fun _ _ => oRead 5 2⟩,
  ⟨0x1019, 1, 1, 1, 1, fun _ _ => oRead 4 2⟩,
  ⟨0x1019, 1, 1, 2, 2, fun _ _ => { oRead 3 2 with dflt := 2104 }⟩,
  ⟨0x101A, 1, 1, 1, 1, fun _ _ => oBytes 0 2 64⟩,
  ⟨0x101A, 1, 1, 2, 2, fun _ _ => oDomain 0 2 1024⟩,
  ⟨0x2010, 1, 1, 1, 4, fun _ k => ⟨1, 1, 0, 3, 0, 0, 1,
    .part [([LC.BOOTOPT_SPLIT0, LC.BOOTOPT_SPLIT1, LC.BOOTOPT_ENC_REQ, LC.BOOTOPT_NETLOAD_EN].getD k LC.BOOTOPT_SPLIT0, 0)]⟩⟩,
  ⟨0x2010, 1, 1, 5, 5, fun _ _ => ⟨2, 1, 0, 3, 0, 0, 3, .part [(LC.BOOTOPT_BANK_POL, 0)]⟩⟩,
  ⟨0x2010, 1, 1, 6, 6, fun _ _ => oBytes 1 3 64⟩,
  ⟨0x4B00, 1, 1, 1, 1, fun _ _ => oMon DE.STAT_OPSTATE.addr⟩,
  ⟨0x4B00, 1, 1, 2, 2, fun _ _ => { oPart 5 0 [(DE.LASTAB_INDEX, 48), (DE.LASTAB_SUB, 40), (DE.LASTCODE_DETAIL, 16), (DE.LASTCODE_CODE, 0)] with acc := 0, pers := 0 }⟩,
  ⟨0x4B00, 1, 1, 3, 4, fun _ _ => oRead 3 1⟩ ]

/-- Rows of the stepped operations (Table 15-14, R444, R445) and of Tables 16-13 and 17-7. -/
def objKey2 : List ObjRow := [
  ⟨0x7001, 1, 1, 1, 1, fun _ _ => oHeld 3 2 0 0 0⟩,
  ⟨0x7002, 1, 1, 1, 1, fun _ _ => { oHeld 2 2 0 0 0 with hi := 1 }⟩,
  ⟨0x7004, 1, 1, 1, 1, fun _ _ => oHeld 2 2 0 0 0⟩,
  ⟨0x7002, 2, 2, 2, 2, fun _ _ => oHeld 4 2 0 0 0⟩,
  ⟨0x7002, 2, 2, 3, 3, fun _ _ => oDomain 2 0 4080⟩,
  ⟨0x7002, 2, 2, 4, 4, fun _ _ => { oHeld 2 2 0 0 0 with lo := 1, hi := 2 }⟩,
  ⟨0x7010, 1, 1, 1, 1, fun _ _ => oBytes 0 0 16⟩,
  ⟨0x7010, 1, 1, 2, 2, fun _ _ => oHeld 2 1 0 0 0⟩,
  ⟨0x7010, 1, 1, 3, 4, fun _ _ => oDomain 2 0 64⟩,
  ⟨0x7010, 1, 1, 5, 5, fun _ _ => { oHeld 2 2 0 0 0 with lo := 1, hi := 1 }⟩,
  ⟨0x7020, 1, 1, 1, 1, fun _ _ => oHeld 4 2 0 0 0⟩,
  ⟨0x7020, 1, 1, 2, 2, fun _ _ => oRead 4 0⟩,
  ⟨0x7030, 1, 1, 1, 1, fun _ _ => oHeld 1 2 0 0 0⟩,
  ⟨0x7040, 1, 1, 1, 1, fun _ _ => { oHeld 2 2 0 0 0 with hi := 3 }⟩,
  ⟨0x7040, 1, 1, 2, 2, fun _ _ => { oHeld 3 1 0 0 0 with hi := 237 }⟩,
  ⟨0x7040, 1, 1, 3, 3, fun _ _ => { oHeld 3 1 0 0 1 with lo := 1, hi := 238 }⟩,
  ⟨0x7040, 1, 1, 4, 4, fun _ _ => oDomain 0 0 60928⟩,
  ⟨0x7050, 1, 1, 1, 1, fun _ _ => { oHeld 2 2 0 0 0 with hi := 7 }⟩,
  ⟨0x7050, 1, 1, 2, 2, fun _ _ => oRead 4 0⟩,
  ⟨0x7050, 1, 1, 3, 3, fun _ _ => oDomain 0 0 786432⟩,
  ⟨0x2900, 1, 1, 1, 1, fun _ _ => oFields gRun PIER.CTL_WAKE_TMO.addr⟩,
  ⟨0x2900, 1, 1, 2, 0xA, fun _ k => { oReg gRun (PIER.WCFG_EN (k + 1)).addr with dflt := if k = 0 then 0x8001FE04 else 0x0001FE00 }⟩,
  ⟨0x2900, 1, 1, 0xB, 0xB, fun _ _ => { oPart 5 0 [(PIER.KAALML_V, 0), (PIER.KAALMH_V, 32)] with pers := 0 }⟩,
  ⟨0x3050, 1, 1, 1, 1, fun _ _ => { oHeld 2 2 0 0 0 with lo := 2, hi := 2 }⟩,
  ⟨0x3050, 1, 1, 2, 8, fun _ k => { oPart 2 0 [(PIER.PDCTL_REQ (k + 2), 0)] with pers := 0, hi := 3 }⟩,
  ⟨0x3050, 1, 1, 9, 9, fun _ _ => oHeld 1 2 gServ 0 0⟩,
  ⟨0x4C00, 1, 1, 1, 8, fun _ k => oMon (PIER.PDCTL_ST (k + 1)).addr⟩,
  ⟨0x4C01, 1, 1, 1, 8, fun _ k => oMon (PIER.REF_BLOCK (k + 1)).addr⟩,
  ⟨0x4C02, 1, 1, 1, 3, fun _ k => oMon (PIER.WSTAT_PEND.addr + 4 * k)⟩,
  ⟨0x4C02, 1, 1, 4, 4, fun _ _ => oSee 5 PIER.KACNT_W⟩,
  ⟨0x4C02, 1, 1, 5, 5, fun _ _ => oSee 5 PIER.GAP_W⟩,
  ⟨0x4C03, 1, 1, 1, 1, fun _ _ => oMon BIST.STAT_PHASE.addr⟩,
  ⟨0x4C03, 1, 1, 2, 3, fun _ _ => oRead 4 1⟩ ]

/-- Rows of Table 17-7. -/
def objLedger : List ObjRow := [
  ⟨0x2A00, 1, 1, 1, 4, fun _ k => oReg (gRun + gNext) (LG.SRC_VTAG.addr + 4 * k)⟩,
  ⟨0x2A00, 1, 1, 5, 5, fun _ _ => oReg (gRun + gNext) LG.CAP_CAP.addr⟩,
  ⟨0x2A00, 1, 1, 6, 6, fun _ _ => oPart 4 (gRun + gNext) [(LG.CTL_IPOL, 0), (LG.CTL_TSRC, 4), (LG.CTL_TCH, 8), (LG.HIST_HISTPER, 16)]⟩,
  ⟨0x2B00, 1, 1, 1, 0x10, fun _ k => oReg 0 ((CAP.CFG_EN (k / 2)).addr + 4 * (k % 2))⟩,
  ⟨0x3060, 1, 1, 1, 2, fun _ _ => oHeld 2 2 0 0 0⟩,
  ⟨0x4D00, 1, 1, 1, 8, fun _ k => oMon (CAP.STAT_ST k).addr⟩,
  ⟨0x4D01, 1, 1, 1, 8, fun _ k => oMon (CAP.BLK_BLOCKS k).addr⟩,
  ⟨0x6000, 1, 1, 1, 4, fun _ k => { oSee 5 ([LG.IMP_W, LG.EXP_W, LG.DIS_W, LG.CHG_W].getD k LG.IMP_W) with pers := 1 }⟩,
  ⟨0x6000, 1, 1, 5, 8, fun _ k => { oSee 4 ([LG.EFC_EFC, LG.SECS_V, LG.GAPS_V, LG.ORS_V].getD k LG.EFC_EFC) with pers := 1 }⟩,
  ⟨0x6000, 1, 1, 9, 9, fun _ _ => { oSee 5 LG.SEQ_W with pers := 1 }⟩,
  ⟨0x6000, 1, 1, 0xA, 0xB, fun _ _ => oRead 3 1⟩,
  ⟨0x6001, 1, 1, 1, 9, fun _ _ => oRead 4 1⟩,
  ⟨0x6002, 1, 1, 1, 1, fun _ _ => oMon LG.STAT_FLAGS.addr⟩,
  ⟨0x6002, 1, 1, 2, 2, fun _ _ => oSee 8 LG.PWR_PWR⟩,
  ⟨0x6010, 1, 1, 1, 1, fun _ _ => oHeld 7 1 0 0 0⟩,
  ⟨0x6020, 1, 1, 1, 0xC, fun _ _ => oBytes 0 1 128⟩ ]

/-- Every row. -/
def objRows : List ObjRow :=
  objComm ++ objKey1 ++ objAnalog ++ objPosition ++ objEngine ++ objModulator ++ objField ++ objGate ++ objThermal ++ objFault ++ objSafety ++
    objLedger ++ objKey2

/-- Does a row cover index i? -/
def ObjRow.covers (r : ObjRow) (i : Nat) : Bool := decide (r.i0 ≤ i) && decide ((i - r.i0) % r.st = 0) && decide ((i - r.i0) / r.st < r.n)

/-- Is index i that of a stepped operation (Table 15-14)? -/
def isOp (i : Nat) : Bool := [0x7001, 0x7002, 0x7004, 0x7010, 0x7012, 0x7020, 0x7030, 0x7040, 0x7050].contains i

/-- The highest sub-index of index i; 0 where the index is not defined (R422, R444). -/
def maxSub (i : Nat) : Nat := if isOp i then 0xFF else (objRows.filter fun r => r.covers i).foldl (fun n r => max n r.s1) 0

/-- The object of an index and sub-index, of those that the spec defines (log 63). -/
def objOf (i s : Nat) : Option Obj :=
  if s = 0 ∧ maxSub i ≠ 0 then some { oRead 2 0 with dflt := maxSub i }
  else if isOp i && decide (s = 0xFF) then some (oRead 4 0)
  else if isOp i && decide (s = 0xFE) then some (oHeld 1 2 0 0 0)
  else if i = 0x7012 then
    (match s with
     | 1 => some (oHeld 2 2 0 0 0)
     | 2 => some (oDomain 2 0 64)
     | 3 => some { oHeld 2 2 0 0 0 with lo := 1, hi := 1 }
     | _ => none)
  else
    (objRows.find? fun r => r.covers i && decide (r.s0 ≤ s) && decide (s ≤ r.s1)).map fun r => r.obj ((i - r.i0) / r.st) (s - r.s0)

end Sys2Proof.Machine
end

