-- ==== Sys2Proof/Machine/ObjValue.lean ====
section
/-! DEFINITION. The values of objects: what a read returns (R424, R435, and the chapters' tables), the ranges that a write
keeps (R425), and how a stored value reaches its fields at the restore of a start or a wake (R430, R452). -/

namespace Sys2Proof.Machine

/-! ### Registers and parts as one value -/

/-- Fields at their places as one number. -/
def Dev.partValue (d : Dev) (fs : List (Fld × Nat)) : Nat := fs.foldl (fun v f => v + d.get f.1 * 2 ^ f.2) 0

/-- A field as it reads: with `RATIO` 1 a compare holds a Q1.23 value, sign-extended on read (R15, R208). -/
def Dev.readFld (d : Dev) (f : Fld) : Nat :=
  if [0, 1].any fun x => d.bit (MOD.CTL_RATIO x) && [0, 1, 2, 3, 4].any fun i => decide (f.addr = (MOD.CMP_CMP x i).addr) then
    ofSigned 28 (toSigned 24 (d.get f % 16777216))
  else d.get f

/-- The word of the register at an address; WO fields read 0 (R11). -/
def Dev.regWord (d : Dev) (a : Nat) : Nat :=
    ((((regFields a).getD []).filter fun f => decide (f.acc ≠ .wo) && decide (f.lo + f.width ≤ 32)).foldl (fun v f => v + d.readFld f * 2 ^ f.lo) 0)

/-- The address of the register behind an object. -/
def Obj.addr (o : Obj) : Option Nat :=
  match o.mir with
  | .reg a => some a
  | .part (f :: _) => some f.1.addr
  | _ => none

/-- The fields behind an object that a write of it writes, with their places. -/
def Obj.fields (o : Obj) : List (Fld × Nat) :=
  match o.mir with
  | .reg a => regPart a
  | .part fs => fs
  | .held => []

/-- Is the domain of an object's register up? -/
def Dev.objUp (d : Dev) (o : Obj) : Bool :=
  match o.addr with
  | some a => match windowDomain a with
    | some p => d.domainUp p
    | none => true
  | none => true

/-! ### Values of the engine's own -/

/-- A factory value that nothing has written in this model's life: the constant of the table, or the chip's own (open). -/
def Dev.factory (d : Dev) (i s dflt : Nat) : Nat := (d.stored i s).getD (if dflt ≠ 0 then dflt else Config.factory (objKey i s))

/-- Kinds of scaled values in mA, mV and 0.01 % (R199). -/
def Dev.milliAmps (d : Dev) (b : Bridge) (x : Int) : Int := sat32 (roundDiv (x * d.get (CE.BASE_BASEI b) * 100) 268435456)
def Dev.milliVolts (d : Dev) (b : Bridge) (x : Int) : Int := sat32 (roundDiv (x * d.get (CE.BASE_BASEV b) * 100) 268435456)
/-- A speed in rev/s (Q16.16) in 0.1 rpm. -/
def deciRpm (x : Int) : Int := sat32 (roundDiv (x * 600) 65536)
def centiPercent (x : Int) : Int := sat32 (roundDiv (x * 10000) 268435456)

/-- Bridge B where an index is that of bridge A + 0x10; `0x4330` is bridge A's (Table 8-10). -/
def bridgeOf (i : Nat) : Bridge := if i / 16 = 0x433 then 0 else if i / 16 = 0x434 then 1 else if i / 16 % 2 = 1 then 1 else 0

/-- The flags of the newest running record (R487). -/
def Dev.lastFlags (d : Dev) (mem : Mem) : Nat :=
  match d.newestRecord mem [lgSlot false, lgSlot true] with
  | some a => mem.readLE (a + 0x6E) 2
  | none => 0

/-- A field of the record from which the account resumes: what MRAM holds of a total while the ledger's domain is off (R506). -/
def Dev.lgKept (d : Dev) (mem : Mem) (o n : Nat) : Nat :=
  match d.lgSource mem with
  | some a => mem.readLE (a + o) n
  | none => 0

/-- The unit i and register of a compare object (R166): sub-indices 1-4 of unit 0, 5-8 of unit 1, and so on. -/
def Dev.cmpObject (d : Dev) (p s : Nat) : Nat :=
  let i := (s - 1) / 4
  match (s - 1) % 4 with
  | 0 => d.regWord (POS.CMPCTL_ARM p i).addr
  | 1 => d.get (POS.CMPVAL_CMPVAL p i)
  | 2 => d.get (POS.CMPSTEP_CMPSTEP p i)
  | _ => d.get (POS.CMPCTL_ARM p i)

/-- The value of an object of monitoring, of identity or of the records that no field mirrors. -/
def Dev.heldSee (d : Dev) (mem : Mem) (i s : Nat) (o : Obj) : Nat :=
  let b := bridgeOf i
  match i with
  | 0x4101 => if s = 2 then d.nv.convRecord else d.nv.failovers
  | 0x4300 | 0x4310 =>
    ofSigned 32 (if s = 2 then centiPercent (d.sget (CE.DEM_DEM b)) else if s = 8 then d.milliAmps b (d.engS b).id else d.milliAmps b (d.engS b).iq)
  | 0x4330 | 0x4340 =>
    ofSigned 32 (if s = 2 then deciRpm (d.sget (CE.SAFESPD_SSPD b)) else d.milliAmps b (d.sget (CE.FWID_IDFW b)))
  | 0x4200 | 0x4201 => ofSigned 32 (deciRpm (d.sget (POS.SPEED_SPEED (i - 0x4200))))
  | 0x8003 | 0x8013 => ofSigned 32 (d.milliVolts b (d.sget (CE.PLLVD_VDG b)))
  | 0x4400 | 0x4410 => (roundDiv 24000000000 (max 1 (d.modS b).act.prd)).toNat
  | 0x4602 => d.nv.thLatch
  | 0x4710 => if s = 1 then d.nv.retired else if s = 2 then d.nv.lifeDissents else if s = 3 then b2n d.nv.dbgls else if s = 4 then d.nv.dbgCount
      else d.factory i s 0
  | 0x4801 => d.nv.faultHist.getD (s - 1) 0
  | 0x4900 => if s = 0x11 then (d.stored i s).getD 0 else ofSigned 32 (centiPercent (d.sget (SIO.TM_TEST (s - 0xD))))
  | 0x4A00 => d.netTime
  | 0x4C03 => (d.stored i s).getD 0
  | 0x6000 => if s ≠ 0xA then d.lastFlags mem else if d.domainUp 4 then d.vol.lg.calN else d.lgKept mem 0x6C 2
  | 0x6001 => if d.domainUp 4 then d.vol.lg.bins.toList.getD (s - 1) 0 else d.lgKept mem (0x70 + 4 * (s - 1)) 4
  | 0x7020 => d.handle i
  | 0x5FFF | 0x4B00 => (d.stored i s).getD 0
  | _ =>
    if i = 0x3000 ∨ i = 0x3010 ∨ i = 0x8000 ∨ i = 0x8010 then d.get (CE.BCFG_ROLE b)
    else if 0x2610 ≤ i ∧ i ≤ 0x261B then d.get (TH.NR_RTH (d.get (TH.PMCFG_FIRST (i - 0x2610))))
    else if 0x2204 ≤ i ∧ i ≤ 0x2205 then d.cmpObject (i - 0x2204) s
    else if o.pers = 2 then d.factory i s o.dflt
    else if 0x5000 ≤ i ∧ i ≤ 0x5005 then d.setVal i s
    else d.objVal i s o.dflt

/-- The bytes of a DOMAIN object. -/
def Dev.domainSee (d : Dev) (i s : Nat) : List (BitVec 8) :=
  match i with
  | 0x2010 => leList 32 d.vol.start.otpSlots.1 ++ leList 32 d.vol.start.otpSlots.2
  | 0x101A => d.factoryBytes s
  | 0x6020 =>
    if h : s - 1 < 12 then (vget (if d.domainUp 6 then d.vol.th.wear else d.nv.wear) ⟨s - 1, h⟩).toList.flatMap fun n => leList 4 n else []
  | _ => d.domain i s

/-- The value of an object as bytes. -/
def Dev.objBytes (d : Dev) (mem : Mem) (i s : Nat) (o : Obj) : List (BitVec 8) :=
  if s = 0 then leList 1 o.dflt
  else if isOp i && decide (s = 0xFF) then leList 4 (d.handle i)
  else if o.ty = 0xE then d.domainSee i s
  else
    leList (tySize o.ty) (match o.mir with
      | .reg a => d.regWord a - (if i = 0x2300 ∨ i = 0x2310 then (if s = 1 then d.get (CE.BCFG_ROLE (bridgeOf i)) else 0) else 0)
      | .part fs => d.partValue fs
      | .held => d.heldSee mem i s o)

/-! ### Ranges (R425) -/

/-- The fields for which a register map states a range, with that range. -/
def rangeRows : List (Fld × Nat × Nat) :=
  [(AS.CALCTL_CALGAP, 150, 1470), (GL.DSCCTL_VTHR, 20, 60), (LG.HIST_HISTPER, 0, 168)] ++
  ((List.range 4).flatMap fun p => [(CAN.NBT_SJW p, 1, 128), (CAN.NBT_TSEG1 p, 2, 256), (CAN.NBT_TSEG2 p, 1, 128), (CAN.NBT_BRP p, 1, 512),
    (CAN.DBT_SJW p, 1, 31), (CAN.DBT_TSEG1 p, 1, 255), (CAN.DBT_TSEG2 p, 1, 31), (CAN.DBT_BRP p, 1, 31),
    (CAN.XBT_SJW p, 1, 31), (CAN.XBT_TSEG1 p, 1, 255), (CAN.XBT_TSEG2 p, 1, 31), (CAN.XBT_BRP p, 1, 31)]) ++
  ([0, 1].flatMap fun p => [(POS.ENCCFG_IDXTOL p, 1, 255), (POS.GEOM_MOT_PP p, 1, 31), (POS.RESCFG_EXCDIV p, 500, 2500),
    (POS.SPDCFG_WIN p, 10, 1000), (POS.EMUCTL_LINESM1 p, 63, 65535), (POS.EMUCTL_MINSP p, 40, 255)]) ++
  ([0, 1].flatMap fun b => [(CE.BANDCTL_FTGT b, 100, 10000), (MOD.DEAD_DT b, 10, 400), (MOD.PRD_PRD b, 4800, 16777214),
    (MOD.WIN_WLEN b, 60, 300), (MOD.RFSH_RFMAX b, 10, 10000), (MOD.RFSH_RFW b, 20, 250)]) ++
  ((List.range 8).map fun q => (Q.QCTL_WMARK q, 1, 511)) ++
  ((List.range 12).flatMap fun n => [(GL.CHTGT_TTOFF n, 10, 1000), (GL.CHTGT_TTON n, 10, 1000), (GL.CHDES_BLANK n, 15, 150),
    (GL.CHDES_DSFILT n, 0, 40), (GL.CHDES_DSTHR n, 12, 48), (GL.CHSTO_STOT1 n, 10, 200), (GL.CHSTO_STOLVL n, 8, 30), (GL.CHRTY_RWAIT n, 1, 1000)])

/-- Is a field's value within the range that its register map states? -/
def fieldInRange (f : Fld) (v : Nat) : Bool :=
  match rangeRows.find? fun r => decide (r.1.key = f.key) with
  | some r => decide (r.2.1 ≤ v) && decide (v ≤ r.2.2)
  | none => true

/-- Is a value within the range of its object and of the fields behind it? -/
def Obj.inRange (o : Obj) (v : Nat) : Bool :=
  let x : Int := if tySigned o.ty then toSigned (8 * tySize o.ty) v else v
  decide (o.lo ≤ x) && decide (x ≤ o.hi) && (decide (o.ty ≠ 0xA) || decide (natField v 23 8 ≠ 255)) &&
  (decide (o.acc = 0) || o.fields.all fun f => fieldInRange f.1 (natField v f.2 f.1.width))

/-- The fields take their bits of a value. -/
def Dev.setPart (d : Dev) (fs : List (Fld × Nat)) (v : Nat) : Dev := d.each fs fun d f => d.set f.1 (storedValue f.1 (natField v f.2 f.1.width))

/-- Would the value leave a node set invalid that is not so now (R296)? -/
def Dev.breaksNodes (d : Dev) (o : Obj) (v : Nat) : Bool :=
  let bad (d : Dev) (n : Chan) := decide (0 < d.nodesSet n) && !d.nodesValid n
  allChans.any fun n => bad (d.setPart o.fields v) n && !bad d n

/-- The value that object i, s has or was last given: a record still to be stored, the stored one, the register's (R427, R429). -/
def Dev.objLast (d : Dev) (i s a : Nat) : Nat :=
  match d.vol.dict.stores.reverse.find? fun e => decide (e.1 = objKey i s) with
  | some e => e.2
  | none => (d.stored i s).getD (d.regWord a)

/-- Do the words of `POS.CTL` and `POS.GEOM` go together (R138): in resolver mode `MOT_PP` is a multiple of the resolver's speed? -/
def resolverFits (ctl geom : Nat) : Bool :=
  decide (natField ctl 1 3 ≠ 3) || decide (max 1 (natField geom 0 5) % (natField geom 8 3 + 1) = 0)

/-- A write of `POS.CTL` (s = 1) or `POS.GEOM` (s = 3) of block p fits the other register, and the value that the other object was last given. -/
def Dev.resolverOk (d : Dev) (p s v : Nat) : Bool :=
  let ctl := (POS.CTL_EN p).addr
  let geom := (POS.GEOM_MOT_PP p).addr
  let i := 0x2200 + p
  if s = 1 then resolverFits v (d.regWord geom) && resolverFits v (d.objLast i 3 geom)
  else if s = 3 then resolverFits (d.regWord ctl) v && resolverFits (d.objLast i 1 ctl) v
  else true

/-- The range checks of single objects: the resolver's pole pairs (R138), classes (R349), node sets (R296), NTC models (R289), the ledger's tags
(R480), the roles of `0x8000`. -/
def Dev.objRangeOk (d : Dev) (i s : Nat) (o : Obj) (v : Nat) : Bool :=
  o.inRange v &&
  (if i = 0x2200 ∨ i = 0x2201 then d.resolverOk (i - 0x2200) s v
   else if i = 0x2800 ∧ s ≤ 8 then
    (List.range 8).all fun k => decide (lineClassMin (8 * (s - 1) + k) ≤ min 4 (natField v (4 * k) 3))
   else if (0x2610 ≤ i ∧ i ≤ 0x261B) ∨ i = 0x2620 then !d.breaksNodes o v
   else if i = 0x2A00 ∧ s = 1 then
    decide (natField v 8 7 / 4 = natField v 0 7 / 4) && decide (natField v 8 7 ≠ natField v 0 7)
   else if i = 0x2601 then decide (natField v 16 16 ≠ 0) && decide (natField v 0 16 ≠ 0)
   else if i = 0x8000 ∨ i = 0x8010 then decide (v ≠ 1)
   else true)

/-! ### Restoring stored values (R430, R452) -/

/-- Fields that no stored value carries: `EN` of the gate and capture channels, the role, the discharge request (Tables 9-9, 17-7,
6-10), the fixed bits of `FNEN` (R355). -/
def notStored (f : Fld) : Bool :=
  ([0, 1].any fun b => decide (f.key = (CE.BCFG_ROLE b).key)) || decide (f.key = GL.DSCCTL_REQ.key) ||
  ([8, 12, 45, 63].any fun l => decide (f.key = (FCOL.FNEN_L l).key)) ||
  ((List.range 12).any fun n => decide (f.key = (GL.CHCFG_EN n).key)) || ((List.range 8).any fun c => decide (f.key = (CAP.CFG_EN c).key))

/-- The limits that the objects of `0x3002` and `0x3003` stand for reach their loops (R180, R199). -/
def Dev.convertLimit (d : Dev) (i s v : Nat) : Dev :=
  let b := bridgeOf i
  let o := d.opens 1
  if i % 16 = 3 then
    match s with
    | 1 => o.2.sset (CE.LPARP_LPARP b 1) (o.2.objectPu b 1 v (o.1 0))
    | 2 => o.2.sset (CE.LPARN_LPARN b 1) (o.2.objectPu b 1 v (o.1 0))
    | 3 => o.2.sset (CE.LPARP_LPARP b 2) (o.2.objectPu b 2 v (o.1 0))
    | _ => o.2.sset (CE.LPARP_LPARP b 3) (o.2.objectPu b 2 v (o.1 0))
  else d

/-- The value of an object reaches its fields, or the engine's memory; a slice's configuration only while the dictionary engine may
claim for its owner (R109). -/
def Dev.loadObj (d : Dev) (i s v : Nat) : Dev :=
  match objOf i s with
  | none => d
  | some o =>
    if i = 0x2100 ∧ d.mayClaimId .dict (d.get (OWN.R_OWNER 1 (s - 1))) = false then d
    else
      match o.mir with
      | .held => if i / 16 = 0x300 ∨ i / 16 = 0x301 then (d.setObjVal i s v).convertLimit i s v else d.setObjVal i s v
      | _ => d.setPart (o.fields.filter fun f => !notStored f.1) v

/-- The stored MRAM values whose object satisfies p reach their fields, indices rising. -/
def Dev.loadStored (d : Dev) (p : Nat → Obj → Bool) : Dev :=
  d.each d.nv.objs fun d kv =>
    match objOf (kv.1 / 256) (kv.1 % 256) with
    | some o => if o.pers = 1 && p (kv.1 / 256) o then d.loadObj (kv.1 / 256) (kv.1 % 256) kv.2 else d
    | none => d

end Sys2Proof.Machine
end

