-- ==== Sys2Proof/Machine/Power.lean ====
section
/-! DEFINITION. Chapter 16: domain requests, entries into retention and off, wakes, wake attempts and their failure, shelf, the
shutdown with test, and the power-fail input. -/

namespace Sys2Proof.Machine

/-- Change what the Pier keeps. -/
def Dev.modPier (d : Dev) (f : PierState → PierState) : Dev := { d with pier := f d.pier }

/-- The power domains 2-8. -/
def sleepDomains : List (Fin 9) := [2, 3, 4, 5, 6, 7, 8]

/-- The state of domain p as `ST` shows it. -/
def Dev.domSt (d : Dev) (p : Fin 9) : Nat := d.get (PIER.PDCTL_ST p)

/-- The clock domains of a power domain that nothing else shares (Table 16-1). -/
def domainClocks (p : Fin 9) : List (Fin 9) :=
  match p with
  | 1 => [2, 4] | 2 => [1] | 3 => [5] | 4 => [0, 3] | 5 => [6] | 6 => [8] | 7 => [7] | _ => []

/-- The state of domain p is shown; in RET and OFF its clocks stop, and when it is on those run that are not gated (R25, R454). -/
def Dev.setSt (d : Dev) (p : Fin 9) (v : Nat) : Dev :=
  (d.set (PIER.PDCTL_ST p) v).when (decide (v ≠ 3)) fun d =>
    d.each (domainClocks p) fun d n => d.setBit (CPM.DOMCTL_ACTIVE n) (decide (v = 0) && !d.bit (CPM.DOMCTL_GATE n))

/-- n open bytes (log 2). -/
def Dev.drawBytes (d : Dev) (n : Nat) : List Byte × Dev :=
  ((List.range n).map fun k => BitVec.ofNat 8 (Config.freeNat (d.free + k)), { d with free := d.free + n })

/-! ### What a loss of power leaves (R74, R77, R303) -/

/-- Registers that a reset other than power-on leaves: the Pier's, `LC.RSTCAUSE`, and the latch of R303. -/
def keptAddr (a : Nat) : Bool := decide (windowDomain a = some 0) || decide (a = 0x40010004) || decide (a = TH.LATCH_DIE.addr)

/-- The registers of domain p return to their reset values. -/
def Dev.resetDomain (d : Dev) (p : Fin 9) : Dev := d.resetRegs fun a => decide (windowDomain a = some p) && !keptAddr a

/-- The memories of a domain (Table 1-5) that lose power in OFF. -/
def clearSram (mem : Mem) (p : Fin 9) : Mem :=
  match p with
  | 1 => mem.clearRange 0x21000000 0x210C0000
  | 2 => mem.clearRange 0x20000000 0x20200000
  | 4 => mem.clearRange 0x22000000 0x22040000
  | 7 => mem.clearRange 0x24000000 0x24040000
  | 8 => mem.clearRange 0x23000000 0x230C0000
  | _ => mem

/-- What domains that lose their power leave in memory: the time of a NETWORK domain that ran (R468), no SRAM, and their directory words (R459). -/
def Dev.offMem (d : Dev) (doms : List (Fin 9)) (mem : Mem) : Mem :=
  doms.foldl offWord (doms.foldl clearSram (if doms.contains 7 && d.netclkRuns then latchTime d mem else mem))

/-- The blocks of domain p return to their start; a retention keeps the converters' trims (Table 16-4). -/
def Dev.restartBlocks (d : Dev) (p : Fin 9) (ret : Bool) : Dev :=
  let v := d.vol
  let v' : Vol :=
    match p with
    | 3 => { v with ana := { AnaState.reset with trims := if ret then d.vol.ana.trims else AnaState.reset.trims } }
    | 4 => { v with gl := { v.gl with since := .replicate 12 none }, pos := Vol.reset.pos, eng := Vol.reset.eng, ce := Vol.reset.ce, mod := Vol.reset.mod, lg := Vol.reset.lg }
    | 5 => { v with gl := v.gl.restart }
    | 6 => { v with th := { ThermState.reset with wear := d.nv.wear } }
    | 7 => { v with net := Vol.reset.net }
    | 8 => { v with cap := Vol.reset.cap }
    | _ => v
  { d with vol := v' }

/-! ### Save lists (R458, R459) -/

/-- Fields that a save list leaves out although they are RW (R133, R165, R229, R285, R505). -/
def unsaved : List Fld :=
  ([0, 1].flatMap fun x => [ MOD.CTL_EN x, MOD.CTL_OUTEN x, MOD.CTL_SRC x, MOD.OMASK_OMASK x]) ++
  ([0, 1].flatMap fun p => (List.range 4).map fun i => POS.CMPCTL_ARM p i) ++
  ([0, 1].flatMap fun b => [ CE.TSTCFG_HOLD b, CE.TSTCFG_PRBSN b, CE.TSTCFG_TYPE b, CE.TSTCFG_POINT b, CE.TSTAMP_AMP b, CE.TSTF_F1 b, CE.TSTF_F0 b,
    CE.TSTLEN_LEN b]) ++
  ((List.range 12).map fun n => GL.CHCFG_EN n) ++ ((List.range 8).map fun c => CAP.CFG_EN c) ++ ((List.range 8).map fun q => Q.QPTR_RIDX q) ++ [GL.DSCCTL_REQ]

/-- Is a field one of an owner register (R43, log 133)? -/
def ownerField (f : Fld) : Bool := decide (0xF000 ≤ f.addr % 0x10000) && decide (f.addr % 0x1000 ≠ 0xFFC)

/-- RO fields that keep their value: owner registers (R43), the chain of spares with what serves each slice number (R133), and the node address of
the start, to which `KN.CTL.NODE` returns (R407, Table 14-8). -/
def savedRo (f : Fld) : Bool :=
  ownerField f || decide (f.addr = AS.SPARE_CHAIN.addr) || decide (f = KN.CTL_NODE) ||
  ((List.range 34).any fun k => decide (f = AS.SLST_SERVER k) || decide (f = AS.SLST_FAILED k) || decide (f = AS.SLST_SUBST k))

/-- Is a field on the save list of its domain (Table 16-4)? -/
def savedField (f : Fld) : Bool :=
  match f.acc with
  | .rw | .rwl => !unsaved.any fun u => decide (u.key = f.key)
  | .w1s => decide (f.key ≠ AS.CALCTL_CALNOW.key)
  | .ro => savedRo f
  | .w1c => ownerField f
  | .wo => false

/-- Is a key of the register file on the save list of domain p? -/
def savedKey (p : Fin 9) (k : Nat) : Bool :=
  decide (windowDomain (k / 32) = some p) &&
  (match regFields (k / 32) with
   | some fs => fs.any fun f => decide (f.key = k) && savedField f
   | none => false)

/-- Words of the save list, and the address of its area. -/
def Dev.saveArea (d : Dev) (p : Fin 9) : Nat × Nat :=
  match p with
  | 2 => (120 * ((if d.bit LC.BOOTSTAT_SPLIT0 then 2 else 1) + if d.bit LC.BOOTSTAT_SPLIT1 then 2 else 1), 0x201FF800)
  | 3 => (184, 0x30000100)
  | 4 => (336, 0x300003E0)
  | 5 => (88, 0x30000920)
  | 6 => (236, 0x30000A80)
  | 7 => (1216, 0x2403E000)
  | _ => (32, 0x30000E30)

/-- The save list is written: the values, their words in the area (in an open order) with the CRC that closes them, the directory and its CRC (R458,
Table 16-5). -/
def Dev.save (d : Dev) (mem : Mem) (p : Fin 9) (st : Nat) : Dev × Mem :=
  let w := d.saveArea p
  let b := d.drawBytes (4 * (w.1 - 1))
  let c := crc32c b.1
  (b.2.modPier fun q => { q with saves := vset q.saves p (some (d.regs.filter fun kv => savedKey p kv.1)) },
   (((mem.writeBytes w.2 b.1).writeWord (w.2 + 4 * (w.1 - 1)) c).writeWord (0x30000000 + 4 * (p.val - 1)) (w.1 * 2 ^ 16 + st * 2 ^ 8 + 1)).writeWord
     (0x30000020 + 4 * (p.val - 1)) c)

/-- Do the directory and the CRC of domain p's list pass the check before a restore (R460)? -/
def Dev.listOk (d : Dev) (mem : Mem) (p : Fin 9) : Bool :=
  let e := mem.readLE (0x30000000 + 4 * (p.val - 1)) 4
  natBit e 0 && decide (mem.readLE (0x30000020 + 4 * (p.val - 1)) 4 = crc32c (mem.readBytes (d.saveArea p).2 (4 * (e / 2 ^ 16 - 1))))

/-- Without a save list no copy is valid. -/
def Dev.saveNone (d : Dev) (mem : Mem) (p : Fin 9) (st : Nat) : Dev × Mem :=
  (d.modPier fun q => { q with saves := vset q.saves p none }, mem.writeWord (0x30000000 + 4 * (p.val - 1)) (st * 2 ^ 8))

/-! ### Entries (R455-R457) -/

/-- A request or an entry is refused with a block code (R457). -/
def Dev.entryRefused (d : Dev) (p : Fin 9) (code : Nat) : Dev :=
  (((d.set (PIER.PDCTL_REFUSED p) 1).countSat (PIER.REF_REFCNT p)).set (PIER.REF_BLOCK p) code).edge 381

/-- An entry is aborted by a wake or a request for ON (R456): the domain stays in the state it was in. -/
def Dev.entryAbort (d : Dev) (p : Fin 9) : Dev :=
  if (vget d.pier.entering p).isSome then
    (((((d.modPier fun q => { q with entering := vset q.entering p none }).setSt p (vget d.pier.enterFrom p)).set (PIER.PDCTL_ABORTED p) 1).countSat
      (PIER.REF_ABTCNT p)).set (PIER.REF_BLOCK p) 7).edge 381
  else d

/-- ENTRY_ABORT (R456). -/
def execEntryAbort (dom : Fin 9) (s : State) : Host.Outcome State Fault Refusal := s.lift fun d => d.entryAbort dom

/-- The block code that refuses an entry, 0 for none: the cases of R455 (code 1), then Table 16-3; the scrub of the spans counts for an entry
into retention. -/
def Dev.entryBlock (d : Dev) (p : Fin 9) (off scrubBad : Bool) : Nat :=
  if d.domSt p = 3 ∨ (p = 1 ∧ off = false) ∨ (p = 1 ∧ (sleepDomains.any fun q => decide (d.domSt q ≠ 2)) = true) then 1
  else if (p = 3 ∨ p = 4 ∨ p = 5 ∨ p = 7) ∧ d.anyBridgeActive = true then 2
  else if p = 6 ∧ d.anyBridgeActive = true then 3
  else if p = 2 ∧ off = false ∧ scrubBad = true then 4
  else if p = 8 ∧ ((List.range 8).any fun c => d.bit (CAP.CFG_EN c)) = true then 5
  else if p = 1 ∧ (d.vol.dict.ops.isEmpty = false ∨ d.vol.dict.stores.isEmpty = false) then 6
  else 0

/-- A request for RET or OFF (R455-R457); an accepted one of the network domain aborts the pending mailboxes (R420). -/
def Dev.entryRequest (d : Dev) (p : Fin 9) (off scrubBad : Bool) : Dev :=
  let d1 := d.set (PIER.PDCTL_REQ p) (if off then 2 else 1)
  if d.domSt p = (if off then 2 else 1) then d1
  else
    let k := d.entryBlock p off scrubBad
    if k ≠ 0 then d1.entryRefused p k
    else
      let d2 := (d1.modPier fun q => { q with entering := vset q.entering p (some (if off then 2 else 1)), enterFrom := vset q.enterFrom p (d.domSt p) }).setSt p 3
      d2.when (decide (p = 7)) Dev.abortPending

/-- A write of `PDCTLd.REQ` by master m, who may be Truss or the dictionary engine (R455). -/
def Dev.domReq (d : Dev) (m : Master) (p : Fin 9) (f : Dev → Dev) : Dev :=
  let a := 0x40000200 + 4 * p.val
  if !d.mayWrite m a then d.busError m a true else if p = 0 then d.busOk 0 else (f d).busOk 0

/-- A request for RET (R455-R457, R338): the entry of the spans begins with a scrub of the signatures of their harts; a difference refuses it and
resets the span. -/
def Dev.retRequest (d : Dev) (dom : Fin 9) (a0 a1 b0 b1 : BitVec 64) : Dev :=
  let bad := (d.lockstep 0 && decide (a0 ≠ a1)) || (d.lockstep 1 && decide (b0 ≠ b1))
  let d1 := d.entryRequest dom false bad
  d1.when (decide (dom = 2) && decide (d.domSt 2 = 0) && bad) fun d => (d.scrubSpan 0 a0 a1).scrubSpan 1 b0 b1

/-- DOMAIN_RET_REQUEST (R455-R457, R338). -/
def execDomainRetRequest (m : Master) (dom : Fin 9) (a0 a1 b0 b1 : BitVec 64) (s : State) : Host.Outcome State Fault Refusal :=
  s.lift fun d => d.domReq m dom fun d => d.retRequest dom a0 a1 b0 b1

/-- DOMAIN_OFF_REQUEST (R455-R457). -/
def execDomainOffRequest (m : Master) (dom : Fin 9) (s : State) : Host.Outcome State Fault Refusal :=
  s.lift fun d => d.domReq m dom fun d => d.entryRequest dom true false

/-- What the blocks of a domain do before it is isolated: the ledger's exit store (R490), the residual half-cycles (R298), the abort of what is
pending now in the mailboxes (R420). -/
def Dev.quiesce (d : Dev) (mem : Mem) (p : Fin 9) : Dev × Mem :=
  if p = 4 ∧ d.lgRuns = true then d.storeNow mem 0 5 else if p = 6 then (d.rainflowFlush, mem) else if p = 7 then (d.abortPending, mem) else (d, mem)

/-- The domain is isolated, saved, and lowered to RET (1) or OFF (2) (Table 16-2, R458, R468). -/
def Dev.lower (d : Dev) (mem : Mem) (p : Fin 9) (st : Nat) : Dev × Mem :=
  let q := (d.when (decide (p = 3)) Dev.abandonVisit).quiesce mem p
  let mem1 := if p = 7 ∧ q.1.netclkRuns = true then latchTime q.1 q.2 else q.2
  let r := if st = 1 ∨ (p ≠ 2 ∧ p ≠ 7) then q.1.save mem1 p st else q.1.saveNone mem1 p st
  let d1 := ((r.1.resetDomain p).restartBlocks p (decide (st = 1))).modPier fun x => { x with entering := vset x.entering p none }
  (d1.setSt p st, if st = 2 then clearSram r.2 p else r.2)

/-- Every domain but the Pier is off: shelf (R454, R459, R468). -/
def Dev.toShelf (d : Dev) (mem : Mem) : Dev × Mem :=
  let d1 := { d.resetRegs fun a => !keptAddr a with
    vol := d.vol.restart, raised := [], edges := [], capTrig := [], access := none, dma := .replicate 16 { err := false, aborted := false },
    pier := { d.pier with entering := .replicate 9 none, waking := .replicate 9 none, shutdown := false } }
  (d1.each [1, 2, 3, 4, 5, 6, 7, 8] fun d p => d.setSt p 2, d.offMem ([1, 2, 3, 4, 5, 6, 7, 8].filter fun p => decide (d.domSt p ≠ 2)) mem)

/-- DOMAIN_QUIESCED (R456, R458, R468): a network entry waits while a frame is in arbitration or on the bus (R420). -/
def execDomainQuiesced (dom : Fin 9) (s : State) : Host.Outcome State Fault Refusal :=
  s.liftMem fun d mem =>
    match vget d.pier.entering dom with
    | none => (d, mem)
    | some st =>
      if dom = 1 then d.toShelf mem
      else if dom = 7 ∧ (allPorts.any fun p => (d.canPort p).cur.isSome) = true then (d, mem)
      else d.lower mem dom st

/-- NETWORK_QUIESCE_TIMEOUT (R457): a frame that is in arbitration or on the bus still refuses the entry, code 8, and the domain stays in the state
it was in. -/
def execNetworkQuiesceTimeout (s : State) : Host.Outcome State Fault Refusal :=
  s.lift fun d =>
    if (vget d.pier.entering 7).isSome && allPorts.any fun p => (d.canPort p).cur.isSome then
      ((d.modPier fun q => { q with entering := vset q.entering 7 none }).setSt 7 (vget d.pier.enterFrom 7)).entryRefused 7 8
    else d

/-! ### Wakes (R461-R464) -/

/-- Is the fabric off? -/
def Dev.inShelf (d : Dev) : Bool := decide (d.domSt 1 = 2)

/-- The supplies that a wake from shelf needs, in their order: the fabric VIO and VCORE, the analogue and thermal domains VANA and VREF as well (R60,
R464). -/
def Dev.wakeNeeds (d : Dev) : List Supply :=
  if d.pier.episode.contains 3 || d.pier.episode.contains 6 then [.vio, .vana, .vref, .vcore] else [.vio, .vcore]

/-- Are they all within their ranges, in their order? -/
def Dev.wakeSupplies (d : Dev) : Bool := decide ((d.lands.rise.filter fun v => d.wakeNeeds.contains v) = d.wakeNeeds)

/-- Is some domain waking? -/
def Dev.anyWaking (d : Dev) : Bool := sleepDomains.any fun p => (vget d.pier.waking p).isSome

/-- A reset of Table 3-1 is recorded with a cause bit (R77). -/
def Dev.resetCause (d : Dev) (f : Fld) : Dev := (d.set f 1).countSat LC.RSTCAUSE_COUNT

/-- The source of code c is pending, and the wake in progress serves it. -/
def Dev.pendSource (d : Dev) (c : Nat) : Dev :=
  (d.set PIER.WSTAT_PEND (d.get PIER.WSTAT_PEND ||| 2 ^ (c - 1))).modPier fun q => { q with served := q.served ||| 2 ^ (c - 1) }

/-- A domain in RET or OFF begins to wake; an entry under way is aborted (R456, R463). -/
def Dev.wakeOne (d : Dev) (p : Fin 9) : Dev :=
  let d := d.entryAbort p
  if d.domSt p = 1 ∨ d.domSt p = 2 then
    (d.modPier fun q => { q with waking := vset q.waking p (some (decide (d.domSt p = 1))) }).setSt p 3
  else d

/-- Is a domain in RET or OFF, or on its way from one of these to the other? -/
def Dev.asleep (d : Dev) (p : Fin 9) : Bool :=
  let st := if (vget d.pier.entering p).isSome then vget d.pier.enterFrom p else d.domSt p
  decide (st = 1) || decide (st = 2)

/-- Domains join the episode. -/
def Dev.joinEpisode (d : Dev) (doms : List (Fin 9)) : Dev :=
  d.modPier fun q => { q with episode := sleepDomains.filter fun p => q.episode.contains p || doms.contains p }

/-- An attempt begins: its number and the phase of `WSTATE`. -/
def Dev.attempt (d : Dev) (n phase : Nat) : Dev := (d.set PIER.WSTAT_ATTEMPT n).set PIER.WSTAT_WSTATE phase

/-- A new episode with its first attempt. -/
def Dev.newEpisode (d : Dev) (phase : Nat) : Dev := (d.modPier fun q => { q with rcTried := false, causes := [] }).attempt 1 phase

/-- The wake of domains that are asleep while the fabric is on. -/
def Dev.wakeFabricOn (d : Dev) (sleeping : List (Fin 9)) : Dev :=
  (((d.each sleeping Dev.wakeOne).joinEpisode sleeping).when (sleeping.any fun p => decide (d.domSt p = 2)) fun d =>
    d.resetCause LC.RSTCAUSE_WAKE).newEpisode 2

/-- An event during a wake from shelf whose switches are closed: domains that this wake does not bring up wait for a second one (R462); an event
that names none joins the wake while it lasts. -/
def Dev.wakeLater (d : Dev) (c : Nat) (doms : List (Fin 9)) : Dev :=
  let more := doms.filter fun p => d.asleep p && !d.pier.episode.contains p
  if !more.isEmpty then
    (d.set PIER.WSTAT_PEND (d.get PIER.WSTAT_PEND ||| 2 ^ (c - 1))).modPier fun q =>
      { q with laterPend := q.laterPend ||| 2 ^ (c - 1), later := sleepDomains.filter fun p => q.later.contains p || more.contains p }
  else d.when (decide (d.vol.start.phase = .rc) || decide (d.vol.start.phase = .bist) || doms.any fun p => (vget d.pier.waking p).isSome) fun d => d.pendSource c

/-- The second wake of R462 begins when the first has ended. -/
def Dev.secondWake (d : Dev) : Dev :=
  if d.pier.laterPend = 0 then d
  else
    let d1 := (d.set PIER.WSTAT_PEND d.pier.laterPend).modPier fun q => { q with served := q.laterPend, laterPend := 0, later := [] }
    if d.inShelf then (d1.modPier fun q => { q with episode := d.pier.later, shelfWake := true }).newEpisode 1
    else
      let sleeping := d.pier.later.filter d.asleep
      if sleeping.isEmpty then (d1.set PIER.WSTAT_PEND 0).modPier fun q => { q with served := 0 } else d1.wakeFabricOn sleeping

/-- Is a wake from shelf in progress? One whose start has stopped in LOCKOUT is over. -/
def Dev.wakingShelf (d : Dev) : Bool := d.pier.shelfWake && decide (d.vol.start.phase ≠ .stopped)

/-- A wake event of source code c for some domains (R461, R462); the fabric is one of them always, so that its entry is aborted (R456). In the
back-off the event waits for the third attempt (R465), during a shutdown with test for shelf (R471). -/
def Dev.wakeEvent (d0 : Dev) (c : Nat) (doms : List (Fin 9)) : Dev :=
  let d := d0.entryAbort 1
  if d.inShelf then
    let d1 := ((d.pendSource c).joinEpisode doms).modPier fun q => { q with shelfWake := true }
    if d.pier.shelfWake then d1 else d1.newEpisode 1
  else if d.opRunning 0x7030 then (d.pendSource c).joinEpisode doms
  else if d.wakingShelf then d.wakeLater c doms
  else
    let sleeping := doms.filter d.asleep
    if d.get PIER.WSTAT_WSTATE = 5 then
      if sleeping.isEmpty then d.each doms Dev.entryAbort else ((d.each doms Dev.entryAbort).pendSource c).joinEpisode sleeping
    else
    if sleeping.isEmpty && !(doms.any fun p => decide (d.domSt p = 3) && (vget d.pier.waking p).isSome) then d.each doms Dev.entryAbort
    else if d.anyWaking then (((d.each doms Dev.wakeOne).pendSource c).joinEpisode sleeping)
    else ((d.each doms Dev.entryAbort).pendSource c).wakeFabricOn sleeping

/-- The domains of a source's `DMASK` (Table 16-12), and FABRIC (R461). -/
def Dev.maskDomains (d : Dev) (c : Nat) : List (Fin 9) := 1 :: sleepDomains.filter fun p => natBit (d.get (PIER.WCFG_DMASK c)) p.val

/-- An event of source c of Table 16-6, if enabled. -/
def Dev.sourceEvent (d : Dev) (c : Nat) : Dev := if d.bit (PIER.WCFG_EN c) then d.wakeEvent c (d.maskDomains c) else d

/-- WAKE_PIN (R461). -/
def execWakePin (k : Fin 4) (s : State) : Host.Outcome State Fault Refusal := s.lift fun d => d.sourceEvent (k.val + 1)

/-- KEEPALIVE_ALARM (R461): the keep-alive counter equals `KAALM`. -/
def execKeepaliveAlarm (s : State) : Host.Outcome State Fault Refusal :=
  s.lift fun d => if d.kaCount = d.get PIER.KAALML_V + 2 ^ 32 * d.get PIER.KAALMH_V then d.sourceEvent 5 else d

/-- CAN_WAKE_ACTIVITY (R461): only while VIO is within range. -/
def execCanWakeActivity (p : Fin 4) (s : State) : Host.Outcome State Fault Refusal :=
  s.lift fun d => if d.supplyUp .vio then d.sourceEvent (p.val + 6) else d

/-- A request for ON (R455, R456, R461): a software wake (code 10), or the abort of an entry; `REQ` 3 acts as 0. -/
def Dev.onRequest (d : Dev) (dom : Fin 9) (req : Nat) : Dev :=
  let d1 := d.set (PIER.PDCTL_REQ dom) req
  if (vget d.pier.entering dom).isNone ∧ d.domSt dom = 3 then d1.entryRefused dom 1 else d1.wakeEvent 10 [dom]

/-- DOMAIN_ON_REQUEST (R455, R456, R461). -/
def execDomainOnRequest (m : Master) (dom : Fin 9) (s : State) : Host.Outcome State Fault Refusal :=
  s.lift fun d => d.domReq m dom fun d => d.onRequest dom 0

/-- The lowest code of sources whose bits are given (R462), 0 for none. -/
def lowestSource (bits : Nat) : Nat := ((List.range 10).find? fun j => natBit bits j).elim 0 (· + 1)

/-- The wake in the forerunner's layout (R467): bits 6:0 of the sources pending at its success. -/
def wakeBits (pend : Nat) : Nat :=
  pend % 32 + (if pend / 32 % 16 = 0 then 0 else 32) + (if natBit pend 9 then 64 else 0)

/-- A wake succeeds (R462, R467): the events of a second one stay pending. -/
def Dev.wakeSuccess (d : Dev) : Dev :=
  if d.pier.served = 0 then d
  else
    (((d.set PIER.WSTAT_LASTSRC (lowestSource d.pier.served)).set PIER.LW6410_SRC6410
      (d.get PIER.LW6410_SRC6410 / 128 * 128 + wakeBits d.pier.served)).set PIER.WSTAT_PEND d.pier.laterPend).modPier fun q => { q with served := 0 }

/-! ### What follows when a domain is on again -/

/-- Spare p has been put in the place that the failed-converter record names (R129). -/
def Dev.rebuildSpare (d : Dev) (p : Nat) : Dev :=
  let r := d.nv.convRecord
  let lo := 40 + 8 * p
  let k := natField r lo 6
  if natBit r (lo + 6) then
    (((d.set (spareUsed p) 1).set (spareFor p) k).set (AS.SLST_SERVER k) (spareServer p)).set (AS.SLST_SUBST k) 1
  else d

/-- The chain of spares is rebuilt from the record `0x4101:02` (R129): failed slices are not used, and a slice number that no spare serves
is out of service. -/
def Dev.rebuildChain (d : Dev) : Dev :=
  let r := d.nv.convRecord
  let d1 := d.each (List.range 34) fun d k => d.setBit (AS.SLST_FAILED k) (natBit r k)
  let d2 := ((d1.setBit (spareFail 0) (natBit r 32)).setBit (spareFail 1) (natBit r 33))
  let d3 := (d2.rebuildSpare 0).rebuildSpare 1
  let d4 := d3.each (List.range 32) fun d k => d.when (natBit r k && decide (d.get (AS.SLST_SERVER k) = 0)) fun d => d.set (AS.SLST_SERVER k) 3
  let gone (p : Nat) := natBit r (32 + p) || natBit r (46 + 8 * p)
  let d5 := d4.when (gone d4.rotSpare) fun d => d.set AS.SPARE_ROTSP (1 - d.rotSpare)
  d5.enterChain (if (List.range 32).any fun k => decide (d4.get (AS.SLST_SERVER k) = 3) then 3 else b2n (gone 0) + b2n (gone 1))

/-- Converter c in the calibration of R132: passed, its trims open; failed, its trims and age as they were and its residual open (R123).
A converter marked failed before is not used again (R129). -/
def Dev.calibrateOne (d : Dev) (failed : List (Fin 34)) (c : Fin 34) : Dev :=
  if d.bit (AS.SLST_FAILED c) then d
  else if failed.contains c then (d.draw 8).2.set (AS.SLST_CHKERR c) (d.draw 8).1
  else d.trimOpen c

/-- The calibration of all converters after the domain is switched on (R132), and the failures of it by R124-R128: a spare in no slice's
place first, then the slice numbers whose converter failed, ascending. -/
def Dev.calibrateAll (d : Dev) (failed : List (Fin 34)) : Dev :=
  let d1 := d.each (List.finRange 34) fun d c => d.calibrateOne failed c
  let d2 := d1.each [0, 1] fun d p =>
    d.when (failed.contains (spareIndex p) && !d.bit (spareFail p) && !d.bit (spareUsed p)) fun d => d.spareCalFails p
  d2.each (List.finRange 32) fun d k =>
    d.when (failed.contains (d.serverIndex k) && decide (d.get (AS.SLST_SERVER k) ≠ 3)) fun d => d.replaceServer k

/-- The scans follow the configuration that the domain has when it is released (R111, R133). -/
def Dev.startScans (d : Dev) : Dev :=
  d.modAna fun a => { a with scan := .ofFn fun k => ((SliceScan.reset k).reconfigure (d.get (AS.SLCFG_MODE k)) (d.get (AS.SLCFG_SMASK k)) (d.get (AS.SLCFG_TMASK k))).restart }

/-- The blocks with a lock bit in domain p. -/
def domainLocks (p : Fin 9) : List LockBlock :=
  match p with
  | 1 => [.keystone, .collector, .dictionary]
  | 3 => [.analog]
  | 4 => [.pos 0, .pos 1, .engine, .modulator 0, .modulator 1, .ledger]
  | 5 => [.gate]
  | 6 => [.thermal]
  | 7 => [.can 0, .can 1, .can 2, .can 3, .kinak]
  | _ => []

/-- Resident firmware sets the lock bits of domain p. -/
def Dev.lockDomain (d : Dev) (p : Fin 9) : Dev := d.each (domainLocks p) fun d k => d.set (lockFld k) 1

/-- The domain in which an object's value acts: that of its register, or the engine's for its command and limit objects. -/
def objDomain (i : Nat) (o : Obj) : Option (Fin 9) :=
  match o.addr with
  | some a => windowDomain a
  | none => if 0x3001 ≤ i ∧ i ≤ 0x301F then some 4 else none

/-- Indices whose objects are loaded at the CAN-ports event (R414). -/
def atPorts (i : Nat) : Bool := decide (0x1010 ≤ i) && decide (i ≤ 0x1017)

/-- The objects of the ports reach their registers (R414); each port's `EN` follows its object. -/
def Dev.loadPorts (d : Dev) : Dev :=
  let d1 := d.loadStored fun i _ => atPorts i
  (d1.each allPorts fun d p => d.loadObj 0x1011 (p.val + 1) ((d.stored 0x1011 (p.val + 1)).getD 0x543)).set KN.CTL_NODE ((d.stored 0x1010 1).getD 1)

/-- The domain in which an object's value is held: that of its register, or of the block behind it (R452). -/
def objHome (i : Nat) (o : Obj) : Option (Fin 9) :=
  match o.addr with
  | some a => windowDomain a
  | none =>
    if i = 0x4101 ∨ i = 0x4602 then none
    else if 0x3001 ≤ i ∧ i ≤ 0x301F then some 4
    else
      match i / 256 with
      | 0x21 => some 3
      | 0x22 | 0x24 | 0x42 | 0x43 | 0x44 | 0x80 => some 4
      | 0x26 => some 6
      | _ => if i = 0x3021 then some 5 else if i = 0x3060 then some 8 else none

/-- Values that wait for the wake of domain p reach their objects, in the order of their acceptance (R429, R452). -/
def Dev.loadWaiting (d : Dev) (p : Fin 9) (l : List (Nat × Nat)) : Dev :=
  let mine := fun kv : Nat × Nat => match objOf (kv.1 / 256) (kv.1 % 256) with
    | some o => decide (objHome (kv.1 / 256) o = some p) && !atPorts (kv.1 / 256)
    | none => false
  (d.each (l.filter mine) fun d (kv : Nat × Nat) => d.loadObj (kv.1 / 256) (kv.1 % 256) kv.2).modDict fun x =>
    { x with onWake := x.onWake.filter fun kv => !mine kv }

/-- The values of a domain at its release: from its save list, or from the stored objects with the lock bits again (R452, R458); those of the
ports not before the CAN-ports event. -/
def Dev.domainValues (d : Dev) (p : Fin 9) (ret : Bool) : Dev :=
  match ret, vget d.pier.saves p with
  | true, some l => ({ d with regs := l.foldl (fun rf kv => rfInsert (rfErase rf kv.1) kv.1 kv.2) d.regs } : Dev).loadWaiting p d.vol.dict.onWake
  | true, none => d.loadWaiting p d.vol.dict.onWake
  | false, _ =>
    ((((d.loadStored fun i o => decide (objDomain i o = some p) && !atPorts i).loadWaiting p (d.vol.dict.stores ++ d.vol.dict.onWake)).when
      (decide (p = 6)) d.judgeNodes).when (decide (p = 7) && d.spansOut) Dev.loadPorts).when d.vol.dict.locked fun d =>
      d.lockDomain p

/-- The role of bridge b at a start (R254): the object open in the life-cycle state, `0x8000` first where both are. -/
def Dev.storedRole (d : Dev) (b : Bridge) : Nat :=
  let grid := (d.stored (0x8000 + 0x10 * b.val) 1).getD 0
  let trac := (d.stored (0x3000 + 0x10 * b.val) 1).getD 0
  match d.get LC.LCSTATE_STATE with
  | 0 | 6 => 0
  | 3 => trac
  | 4 => grid
  | _ => if grid ≠ 0 then grid else trac

/-- The control-engine domain starts: ledger (R486, R492), and at a start of the module the roles (R254). -/
def Dev.startEngine (d : Dev) (mem : Mem) (start : Bool) : Dev × Mem :=
  let r := (d.takeSnap.lgRestore mem start).lgStart mem
  (r.1.when start fun d => d.each bridges fun d b => d.roleWrite b (d.storedRole b), r.2)

/-- The rules of the blocks after a wake: R132 and R131; R486 and R492; R306; R468; R338; and the STO and safe states shown again; the position
blocks start in UNREF (R165). -/
def Dev.afterWake (d : Dev) (mem : Mem) (p : Fin 9) (ret quiet : Bool) (failed : List (Fin 34)) : Dev × Mem :=
  match p with
  | 2 => (if ret then d else d.each [0, 1] fun d sp => (d.spanReset sp 0 0).when (d.split sp) fun d => d.spanReset sp 1 0, mem)
  | 3 => ((((if ret then d else d.rebuildChain).calibrateAll failed).startScans).when (!ret) fun d => d.set AS.CTL_EN 1, mem)
  | 4 => (((d.each [0, 1] fun d p => d.posControl p).each bridges fun d x =>
      d.modMod x fun m => { m with act := d.shadow x }).startEngine mem quiet)
  | 5 => ((d.each bridges fun d b => d.setBit (GL.BSTAT_STO b) (d.bit (SIO.STO_ACT b))).applyReactions, mem)
  | 7 => (if d.netclkRuns then (if quiet then d.loadTime mem else d.correctTime mem)
      else d.set TB.CNT_W (mem.readLE 0x30000040 8), mem)
  | _ => (d, mem)

/-- The wake is over when no domain wakes any more; a second one follows at once (R462). -/
def Dev.wakeDone (d : Dev) : Dev :=
  if d.anyWaking then d
  else
    let d1 := (d.wakeSuccess.set PIER.WSTAT_WSTATE 0).modPier fun q => { q with episode := [] }
    if d1.wakingShelf then d1 else d1.secondWake

/-- WAKE_POWER_GOOD (R458, R460, R463, R464): a domain whose list fails its check, in memory or (`damaged`) as it is read back, starts as from OFF.
During a start from shelf the sources 379 and 382 wait for the STANDBY event. -/
def execWakePowerGood (dom : Fin 9) (damaged : Bool) (calFailed : List (Fin 34)) (s : State) : Host.Outcome State Fault Refusal :=
  s.liftMem fun d mem =>
    match vget d.pier.waking dom with
    | none => (d, mem)
    | some fromRet =>
      if d.vol.start.phase = .held ∨ d.vol.start.phase = .rc ∨ d.vol.start.phase = .bist then (d, mem)
      else
        let quiet := d.pier.shelfWake
        let ret := fromRet && !damaged && d.listOk mem dom
        let d1 := (d.modPier fun q => { q with waking := vset q.waking dom none }).setSt dom 0
        let d2 := d1.when (fromRet && !ret) fun d => (d.set PIER.RMCHK_CRCERR (d.get PIER.RMCHK_CRCERR ||| 2 ^ (dom.val - 1))).edge 383
        let r := (d2.domainValues dom ret).afterWake mem dom ret quiet calFailed
        (((r.1.when (!quiet) fun d => d.edge 379).wakeDone), r.2)

/-- The internal reset is released: the boot ROM runs, with `BOOT_MODE` sampled (Table 3-3, R72). -/
def Dev.release (d : Dev) (mode : Nat) : Dev :=
  { d with vol := { d.vol with start := { d.vol.start with phase := .rc, releasedAt := d.now, bootMode := mode } },
           pier := { d.pier with faultLow := false } }

/-! ### Wake failure (R465, R466) -/

/-- An attempt n begins; with the fabric on the domains of the episode are switched on again, and source 380 fires (R465). -/
def Dev.retry (d : Dev) (n : Nat) : Dev :=
  if d.inShelf then d.attempt n 1 else ((d.each d.pier.episode Dev.wakeOne).attempt n 2).edge 380

/-- A domain is switched off without an entry. -/
def Dev.switchOff (d : Dev) (p : Fin 9) : Dev :=
  ((d.resetDomain p).restartBlocks p false).modPier (fun q => { q with waking := vset q.waking p none }) |>.setSt p 2

/-- Every domain that the episode switched on is switched off again: from shelf all of them (R465, R466). -/
def Dev.episodeOff (d : Dev) (mem : Mem) : Dev × Mem :=
  if d.pier.shelfWake then (if d.inShelf then (d, mem) else d.toShelf mem)
  else
    let on := d.pier.episode.filter fun p => (vget d.pier.waking p).isSome || decide (d.domSt p = 0)
    (d.each on Dev.switchOff, d.offMem on mem)

/-- The cause of an attempt's failure (Table 16-8): a supply that the domains need is missing; a power switch; the crystal or the root PLL, of
which the operand tells. -/
def Dev.wakeCause (d : Dev) (crystal : Bool) : Nat :=
  if d.get PIER.WSTAT_WSTATE = 3 ∨ d.get PIER.WSTAT_WSTATE = 6 then (if crystal then 6 else 5)
  else if !d.inShelf then 4
  else if !d.supplyUp .vcore then 1
  else if !d.supplyUp .vio then 2
  else if d.wakeNeeds.contains .vana && !(d.supplyUp .vana && d.supplyUp .vref) then 3
  else 4

/-- The third attempt failed: causes, `EPISODES`, `WFAIL`, and bit 7 of `LW6410` (R466, R467). -/
def Dev.wakeFailed (d : Dev) : Dev :=
  let c := fun k => d.pier.causes.getD k 0
  let d1 := ((((d.set PIER.WFAILR_CAUSE1 (c 0)).set PIER.WFAILR_CAUSE2 (c 1)).set PIER.WFAILR_CAUSE3 (c 2)).countSat PIER.WFAILR_EPISODES).set
    PIER.CTL_WFAIL 1
  ((((d1.set PIER.LW6410_SRC6410 (d.get PIER.LW6410_SRC6410 % 128 + 128)).set PIER.WSTAT_PEND 0).set PIER.WSTAT_WSTATE 0).modPier fun q =>
    { q with episode := [], shelfWake := false, rcTried := false, served := 0 }).secondWake

/-- What an attempt on the RC fallback found: in `RCDIAG`, and in the Pier area, whose layout is not given (R465, Table 16-5). -/
def Dev.rcOutcome (d : Dev) (mem : Mem) (diag : Nat) : Dev × Mem :=
  let b := (d.set PIER.WFAILR_RCDIAG (diag / 2 * 2 + 1)).drawBytes 48
  (b.2, mem.writeBytes 0x30000050 b.1)

/-- WAKE_ATTEMPT_TIMEOUT (R465, R466): `crystal` tells whether the crystal runs, `otp` whether the diagnostics of an attempt on the RC fallback read
the OTP equal. -/
def execWakeAttemptTimeout (crystal otp : Bool) (s : State) : Host.Outcome State Fault Refusal :=
  s.liftMem fun d mem =>
    let n := d.get PIER.WSTAT_ATTEMPT
    let st := d.get PIER.WSTAT_WSTATE
    if st = 0 ∨ st = 4 ∨ st = 5 ∨ (d.anyWaking = false ∧ d.pier.shelfWake = false) then (d, mem)
    else
      let cause := d.wakeCause crystal
      let r := if st = 6 then d.rcOutcome mem (1 + 2 * b2n otp + 4 * b2n crystal + 8 * b2n (d.wakeNeeds.all d.supplyUp)) else (d, mem)
      let d1 := r.1.modPier fun q => { q with causes := q.causes ++ [cause],
                                              rcTried := q.rcTried || (decide (n = 1) && decide (cause = 5) && d.bit PIER.CTL_RCFB) }
      let p := d1.episodeOff r.2
      if n ≤ 1 then (p.1.retry 2, p.2) else if n = 2 then (p.1.set PIER.WSTAT_WSTATE 5, p.2) else (p.1.wakeFailed, p.2)

/-- WAKE_BACKOFF_END (R465). -/
def execWakeBackoffEnd (s : State) : Host.Outcome State Fault Refusal :=
  s.lift fun d => if d.get PIER.WSTAT_WSTATE = 5 then d.retry 3 else d

/-- WFAIL_CLEAR (R466, R479): `0x3050:09` in SERVICE. -/
def execWfailClear (v : Bool) (s : State) : Host.Outcome State Fault Refusal :=
  s.lift fun d =>
    if d.get DE.STAT_OPSTATE ≠ 4 then d.abort 0x3050 9 0x0622 0
    else if v then (d.set PIER.CTL_WFAIL 0).answer 0 0
    else d.abort 0x3050 9 0x0611 0

/-- VKA_LOW (R470): a report only. -/
def execVkaLow (s : State) : Host.Outcome State Fault Refusal := s.lift fun d => d.set PIER.CTL_VKALOW 1

/-- LW6410_READ (R467). -/
def execLw6410Read (m : Master) (s : State) : Host.Outcome State Fault Refusal :=
  s.lift fun d =>
    if d.running && d.accessAllowed m 0x40000848 false then
      (d.set PIER.LW6410_SRC6410 (d.get PIER.LW6410_SRC6410 % 128)).busOk (d.get PIER.LW6410_SRC6410)
    else d.busError m 0x40000848 false

/-! ### Shelf and the shutdown with test (R471-R475, R479) -/

/-- All domains that are on enter OFF, and the fabric follows: shelf. -/
def Dev.allOff : List (Fin 9) → Dev → Mem → Dev × Mem
  | [], d, mem => d.toShelf mem
  | p :: t, d, mem =>
    if d.domSt p = 2 then Dev.allOff t d mem
    else
      let r := d.lower mem p 2
      Dev.allOff t r.1 r.2

/-- May shelf be entered: no bridge is active, no stepped operation runs (Table 16-13), and the state is not LOCKOUT (R441)? -/
def Dev.shelfOk (d : Dev) : Bool := !d.anyBridgeActive && d.vol.dict.ops.isEmpty && decide (d.get DE.STAT_OPSTATE ≠ 6)

/-- ENTER_SHELF (R479): the write of 2 to `0x3050:01` unless that has been accepted, then shelf. -/
def execEnterShelf (s : State) : Host.Outcome State Fault Refusal :=
  s.liftMem fun d mem =>
    if !d.running then (d, mem)
    else if d.pier.shutdown || d.shelfOk then Dev.allOff sleepDomains.reverse (d.answer 0 0) mem
    else (d.abort 0x3050 1 0x0622 0, mem)

/-- The address of copy c of a record (log 191): below the self-test record. -/
def recordPlace (k c : Nat) : Nat := 0x101E0000 + 16 * (Config.recordAt (2 * k + c) % 0xFF0)

/-- The value of an object is stored as one record in each of two copies, each with its CRC-32; what else a record holds is open (R428, R429). -/
def Dev.storeRecord (d : Dev) (mem : Mem) (k v : Nat) : Dev × Mem :=
  let b := d.drawBytes 12
  let r := b.1 ++ leList 4 (crc32c b.1)
  (b.2.setStored k v, (mem.writeBytes (recordPlace k 0) r).writeBytes (recordPlace k 1) r)

/-- Records of a list of values, in its order. -/
def Dev.storeRecords : List (Nat × Nat) → Dev → Mem → Dev × Mem
  | [], d, mem => (d, mem)
  | kv :: t, d, mem =>
    let r := d.storeRecord mem kv.1 kv.2
    Dev.storeRecords t r.1 r.2

/-- Accepted MRAM values that wait are all written (R429, R471). -/
def Dev.flushStores (d : Dev) (mem : Mem) : Dev × Mem :=
  Dev.storeRecords d.vol.dict.stores (d.modDict fun x => { x with stores := [] }) mem

/-- Reflected CRC-32 of the save lists and the self-test record: the polynomial of R379. -/
def recordCrc (l : List (BitVec 8)) : Nat := crc32c l

/-- The start count (`0x4C03:03`). -/
def Dev.startCount (d : Dev) : Nat := (d.stored 0x4C03 3).getD 0

/-- The self-test record (Table 16-11). -/
def Dev.bistRecord (d : Dev) (pass : Bool) (part domains ms : Nat) : List (BitVec 8) :=
  let b := leList 4 0xB1578620 ++ leList 4 (d.startCount + 1) ++ leList 4 ((if pass then 2 ^ 31 else 0) + 2 * domains) ++
    leList 4 (if pass then 0 else part) ++ leList 8 d.kaCount ++ leList 4 ms
  b ++ leList 4 (recordCrc b)

/-- Wake events that the shutdown recorded are served in shelf (R471). -/
def Dev.servePending (d : Dev) : Dev :=
  if d.get PIER.WSTAT_PEND = 0 then d else (d.modPier fun q => { q with shelfWake := true }).newEpisode 1

/-- The domains that passed the test (Table 16-11): all, or not that of the failing partition. -/
def passedDomains (pass : Bool) (part domains : BitVec 8) : Nat :=
  if pass then 255 else domains.toNat - (if natBit domains.toNat (part.toNat / 16 - 1) then 2 ^ (part.toNat / 16 - 1) else 0)

/-- What a shutdown does at its start write (Table 16-9, R478): channels disabled, roles OFF, contactors open; the test is in preparation. -/
def Dev.shutdownBegin (d : Dev) : Dev :=
  let d1 := d.each allChans fun d n => d.chanDisable n
  let d2 := d1.each bridges fun d b => (d.set (CE.BCFG_ROLE b) 0).engineTo b 0
  (d2.each (List.range 4) fun d k => d.set (SIO.CTRCFG_DRV k) 0).set BIST.STAT_PHASE 1

/-- SHUTDOWN_WITH_TEST (R471-R475): the residual half-cycles (R298), the mailboxes' abort, the final store, the waiting values, the test with its
record, during which the islands hold their switches off, and shelf. -/
def execShutdownWithTest (pass : Bool) (part domains : BitVec 8) (ms : BitVec 32) (s : State) : Host.Outcome State Fault Refusal :=
  s.liftMem fun d mem =>
    let b := d.opBegin 0x7030 1 [] (d.running && [1, 2, 4, 5, 6].contains (d.get DE.STAT_OPSTATE)) true
    let d9 := b.1.when (!d.opRunning 0x7030 && b.1.opRunning 0x7030) Dev.shutdownBegin
    if !b.2 then (d9, mem)
    else
      let d0 := ((d9.when (d.domainUp 6) Dev.rainflowFlush).when (d.domainUp 7) Dev.abortPending).silenceIslands
      let r := if d0.lgRuns then d0.storeNow mem 0 2 else (d0, mem)
      let f := r.1.flushStores r.2
      let d1 := f.1
      let mem2 := f.2.writeBytes 0x101EFF00 (d1.bistRecord pass part.toNat (passedDomains pass part domains) ms.toNat)
      let d2 := d1.when (!pass) fun d => (d.setStored (objKey 0x4C03 2) ((d.stored 0x4C03 2).getD 0 + 1)).modPier fun q => { q with faultLow := true }
      let r2 := d2.toShelf (sleepDomains.foldl clearSram mem2)
      (r2.1.servePending, r2.2)

/-! ### The power-fail input (R62, R491) -/

/-- PWR_FAIL_N_FALL (R62, R490, R491): line 2, source 378, and the power-fail store. -/
def execPwrFailNFall (s : State) : Host.Outcome State Fault Refusal :=
  s.liftMem fun d mem =>
    let d1 := { d with lands := { d.lands with failN := false } }
    if d.running then ((d1.assertLine 2 0).edge 378).storePowerFail mem else (d1, mem)

/-- PWR_FAIL_N_RISE (R491). -/
def execPwrFailNRise (s : State) : Host.Outcome State Fault Refusal :=
  s.lift fun d => { d with lands := { d.lands with failN := true } }

end Sys2Proof.Machine
end

