-- ==== Sys2Proof/Machine/SafetySet.lean ====
section
/-! DEFINITION. The safety parameter set (R384-R387): the staging copy, its activation, its load at a start, and the check of the
working copy. -/

namespace Sys2Proof.Machine

/-- The RWL fields of the register at an address, with their places. -/
def rwlPart (a : Nat) : List (Fld × Nat) := (((regFields a).getD []).filter fun f => decide (f.acc = .rwl) && !fieldFixed f).map fun f => (f, f.lo)

/-- The registers that the set loads: object (index, sub-index) and its fields (Table 13-6). -/
def safetyMap : List (Nat × Nat × List (Fld × Nat)) :=
  ((List.range 10).map fun i => (0x5000, i + 1, rwlPart (SIO.INCFG_FILT i).addr)) ++
  [(0x5000, 0xB, rwlPart SIO.TPCFG_DISC.addr), (0x5000, 0xC, [(SIO.CTL_TPEN, 0)])] ++
  ([0, 1].map fun x => (0x5001, x + 1, [(SIO.SS1_SS1T x, 0)])) ++ ([0, 1].map fun x => (0x5001, x + 3, [(SIO.SS1R_SS1RATE x, 0)])) ++
  ((List.range 4).map fun k => (0x5002, k + 1, rwlPart (SIO.CTRCFG_FBTMO k).addr)) ++
  [(0x5005, 1, rwlPart SIO.CWCFG_PORTA.addr), (0x5005, 2, rwlPart SIO.CWTMO_TMO.addr)]

/-- The objects of the set in ascending order. -/
def safetyKeys : List (Nat × Nat) :=
  ((List.range 12).map fun k => (0x5000, k + 1)) ++ ((List.range 4).map fun k => (0x5001, k + 1)) ++ ((List.range 4).map fun k => (0x5002, k + 1)) ++
  ((List.range 10).map fun k => (0x5003, k + 1)) ++ ((List.range 10).map fun k => (0x5004, k + 1)) ++ [(0x5005, 1), (0x5005, 2)]

/-- The size of an object of the set. -/
def safetySize (i s : Nat) : Nat := match objOf i s with | some o => tySize o.ty | none => 0

/-- The values of a set as bytes: ascending index and sub-index, each little-endian at its size (R385). -/
def setBytes (v : Nat → Nat → Nat) : List (BitVec 8) := safetyKeys.flatMap fun k => leList (safetySize k.1 k.2) (v k.1 k.2)

/-! ### Start and check -/

/-- The set stored in MRAM becomes the set in force and loads the RWL fields of the safety I/O block, which is then locked in every life-cycle
state; the inputs act as it says (R364, R365). With no valid set none is used, the fields keep their reset values, and the safety-parameter line
stands at class 4 (R386, R387). -/
def Dev.loadSafety (d : Dev) (ok : Bool) : Dev :=
  let d1 := d.modSafe fun x => { x with set := d.nv.objs.filter (fun kv => decide (0x5000 ≤ kv.1 / 256) && decide (kv.1 / 256 ≤ 0x5005)), noSet := !ok }
  let d2 := if ok then (d1.each safetyMap fun d m => d.setPart m.2.2 (d.setVal m.1 m.2.1)).setStored (objKey 0x5FFF 1) (crc32c (setBytes d1.setVal))
    else (d1.modSafe fun x => { x with set := [] }).assertLine 53 0
  (d2.set SIO.CTL_LOCK 1).safetyFollow

/-- Do the RWL fields equal the working copy? -/
def Dev.safetyEqual (d : Dev) : Bool :=
  safetyMap.all fun m => m.2.2.all fun f => decide (d.get f.1 = natField (d.setVal m.1 m.2.1) f.2 f.1.width)

/-- SAFETY_SET_CHECK (R386): a bad CRC of the working copy as Truss SRAM gives it back, or an RWL field that differs from it, raises the
safety-parameter line. -/
def execSafetySetCheck (copy : List (BitVec 8)) (s : State) : Host.Outcome State Fault Refusal :=
  s.lift fun d =>
    if !d.trussWorks || d.vol.safe.noSet || (decide (crc32c copy = crc32c (setBytes d.setVal)) && d.safetyEqual) then d else d.assertLine 53 0

/-! ### Staging and activation -/

/-- The staging value of an object of the set; it starts as that in force (log 79). -/
def Dev.stagingVal (d : Dev) (i s : Nat) : Nat := (rfFind d.vol.safe.staging (objKey i s)).getD (d.setVal i s)

/-- May the staging copy be written: SERVICE with both roles OFF, and in TRACTION and SECOND_LIFE a customer authentication (R384)? The abort
code, 0 for none. -/
def Dev.stagingBar (d : Dev) : Nat :=
  if (d.get LC.LCSTATE_STATE = 3 ∨ d.get LC.LCSTATE_STATE = 4) ∧ d.vol.start.custAuth = false then 0x0630
  else if d.get DE.STAT_OPSTATE ≠ 4 ∨ d.role 0 ≠ 0 ∨ d.role 1 ≠ 0 then 0x0622
  else 0

/-- The staging copy takes a value. -/
def Dev.setStaging (d : Dev) (i s v : Nat) : Dev :=
  d.modSafe fun x => { x with staging := rfInsert (rfErase x.staging (objKey i s)) (objKey i s) v }

/-- Is a value of the set within its range: its object's, and 0-8 for `ENVP` and `ENVN` (Table 13-6)? -/
def safetyRange (i s v : Nat) : Bool :=
  match objOf i s with
  | none => false
  | some o => o.inRange v &&
    (decide (i ≠ 0x5003 ∧ i ≠ 0x5004) || decide (s ≠ 5 ∧ s ≠ 6) || (decide (0 ≤ f32Fix v) && decide (f32Fix v ≤ f32Fix 0x41000000)))

/-- SAFETY_PARAM_WRITE (R384, R432). -/
def execSafetyParamWrite (i : BitVec 16) (sub : BitVec 8) (v : Word) (s : State) : Host.Outcome State Fault Refusal :=
  s.lift fun d =>
    if !(decide (0x5000 ≤ i.toNat) && decide (i.toNat ≤ 0x5005)) then d.abort i.toNat sub.toNat 0x0609 0
    else if (objOf i.toNat sub.toNat).isNone then d.abort i.toNat sub.toNat 0x060A 0
    else if sub = 0 then d.abort i.toNat sub.toNat 0x0602 0
    else if d.stagingBar ≠ 0 then d.abort i.toNat sub.toNat d.stagingBar 0
    else if !safetyRange i.toNat sub.toNat (v.toNat % 256 ^ safetySize i.toNat sub.toNat) then d.abort i.toNat sub.toNat 0x0611 0
    else (d.setStaging i.toNat sub.toNat (v.toNat % 256 ^ safetySize i.toNat sub.toNat)).answer 0 0

/-- The staging copy is checked and stored (R385): its CRC, then its ranges. -/
def Dev.activate (d : Dev) (crc : Nat) : Dev :=
  if crc ≠ crc32c (setBytes d.stagingVal) then d.opFail 0x7020 0x0660
  else if !(safetyKeys.all fun k => safetyRange k.1 k.2 (d.stagingVal k.1 k.2)) then d.opFail 0x7020 0x0611
  else
    let d1 := d.each safetyKeys fun x k => x.setStored (objKey k.1 k.2) (d.stagingVal k.1 k.2)
    (d1.setStored (objKey 0x5FFF 2) (((d.stored 0x5FFF 2).getD 0 + 1) % 65536)).opDone 0x7020

/-- SAFETY_ACTIVATION (R385): the stepped operation 0x7020, in SERVICE; the new set takes effect at the next start. -/
def execSafetyActivation (crc : Word) (s : State) : Host.Outcome State Fault Refusal :=
  s.lift fun d =>
    let b := d.opBegin 0x7020 1 [(1, crc.toNat)] (decide (d.get DE.STAT_OPSTATE = 4)) true
    if b.2 then b.1.activate (b.1.objVal 0x7020 1 0) else b.1

end Sys2Proof.Machine
end

