-- ==== Sys2Proof/Machine/Start.lean ====
section
/-! DEFINITION. Chapter 03: resets, the start sequence, boot options and host images, the flash controller, and the life-cycle
states. -/

namespace Sys2Proof.Machine

/-- Change what the start holds. -/
def Dev.modStart (d : Dev) (f : StartState → StartState) : Dev := { d with vol := { d.vol with start := f d.vol.start } }

/-! ### The flash controller (R90, R91) -/

/-- The bank of a flash address. -/
def bankOf (a : Nat) : Nat := if a < 0x08800000 then 0 else 1

/-- The bytes that a flash command changes: first address and number. -/
def FlashCmd.span (c : FlashCmd) : Nat × Nat :=
  if c.code = 1 then (c.addr, 16) else if c.code = 2 then (c.addr / 8192 * 8192, 8192) else (0x08000000 + 0x800000 * bankOf c.addr, 0x800000)

/-- A program or erase that fails or is cut off leaves open contents. -/
def Dev.flashOpen (d : Dev) (mem : Mem) (c : FlashCmd) : Dev × Mem :=
  let b := d.drawBytes c.span.2
  (b.2, mem.writeBytes c.span.1 b.1)

/-- Is the line erased? -/
def lineErased (mem : Mem) (a : Nat) : Bool := (mem.readBytes a 16).all fun b => decide (b = 0xFF#8)

/-- FLASH_COMMAND_DONE (R90, Table 3-8). -/
def execFlashCommandDone (readBackOk : Bool) (s : State) : Host.Outcome State Fault Refusal :=
  s.liftMem fun d mem =>
    match d.vol.start.flash with
    | none => (d, mem)
    | some c =>
      let d1 := (d.modStart fun x => { x with flash := none }).set LC.FLCTL_BUSY 0
      if !readBackOk || (decide (c.code = 1) && !lineErased mem c.addr) then (d1.set LC.FLCTL_ERR 1).flashOpen mem c
      else if c.code = 1 then (d1, mem.writeLE c.addr 16 c.line)
      else (d1, mem.clearRange c.span.1 (c.span.1 + c.span.2))

/-- Does host firmware execute in place from the bank of an address (R91)? -/
def Dev.bankRuns (d : Dev) (a : Nat) : Bool :=
  match d.vol.start.runBank with
  | some b => decide (b.val = bankOf a) && !d.bit LC.BOOTSTAT_ENC
  | none => false

/-- A flash command written by master m (R90). -/
def Dev.flashCommand (d : Dev) (m : Master) (code : Nat) : Dev :=
  let a := d.get LC.FLADDR_V
  if !d.accessAllowed m 0x40010400 true then d.busError m 0x40010400 true
  else if d.bit LC.FLCTL_BUSY then (d.set LC.FLCTL_OVERRUN 1).busOk 0
  else if a < 0x08000000 ∨ 0x09000000 ≤ a ∨ (code = 1 ∧ a % 16 ≠ 0) ∨ d.bankRuns a = true then (d.set LC.FLCTL_REFUSED 1).busOk 0
  else
    let line := [0, 1, 2, 3].foldl (fun n i => n + d.get (LC.FLDATA_V i) * 2 ^ (32 * i)) 0
    ((d.set LC.FLCTL_BUSY 1).modStart fun x => { x with flash := some { code := code, addr := a, line := line } }).busOk 0

/-- FLASH_PROGRAM, FLASH_ERASE_SECTOR and FLASH_ERASE_BANK (R90). -/
def execFlashProgram (m : Master) (s : State) : Host.Outcome State Fault Refusal := s.lift fun d => d.flashCommand m 1
def execFlashEraseSector (m : Master) (s : State) : Host.Outcome State Fault Refusal := s.lift fun d => d.flashCommand m 2
def execFlashEraseBank (m : Master) (s : State) : Host.Outcome State Fault Refusal := s.lift fun d => d.flashCommand m 3

/-! ### Resets (R74-R77) -/

/-- The bits of `LC.RSTCAUSE` that a cause sets (Table 3-1). -/
def RstCause.bits : RstCause → List Fld
  | .por => [LC.RSTCAUSE_POR]
  | .supply .vcore => [LC.RSTCAUSE_SUPPLY, LC.RSTCAUSE_VCORE_LOW]
  | .supply .vana => [LC.RSTCAUSE_SUPPLY, LC.RSTCAUSE_VANA_LOW]
  | .supply .vio => [LC.RSTCAUSE_SUPPLY, LC.RSTCAUSE_VIO_LOW]
  | .supply .vref => []
  | .pin => [LC.RSTCAUSE_PIN]
  | .soft => [LC.RSTCAUSE_SOFT]
  | .lct => [LC.RSTCAUSE_LCT]
  | .wake => [LC.RSTCAUSE_WAKE]

/-- The blocks outside the Pier return to their start, and the internal reset is held; what the sequencer of the Pier had under way ends. -/
def Dev.resetBlocks (d : Dev) : Dev :=
  ({ d.resetRegs (fun a => !keptAddr a) with
    vol := d.vol.restart, raised := [], edges := [], capTrig := [], access := none, dma := .replicate 16 { err := false, aborted := false },
    pier := { d.pier with entering := .replicate 9 none, waking := .replicate 9 none, episode := [], shelfWake := false, served := 0, laterPend := 0, later := [],
                          shutdown := false, bist := none } }).set PIER.WSTAT_WSTATE 0

/-- The module latch of R303, which a supply reset with `VCORE_LOW` clears. -/
def Dev.clearThLatch (d : Dev) : Dev := ((d.set TH.LATCH_DIE 0).set TH.LATCH_BARRIER 0).set TH.LATCH_ISL 0

/-- A reset of every block except the Pier, with its causes (R74, R77); one with `VCORE_LOW` clears the latch of R303. A flash command cut off
leaves its target open. -/
def Dev.resetAll (d : Dev) (mem : Mem) (cs : List RstCause) : Dev × Mem :=
  let f := match d.vol.start.flash with | some c => d.flashOpen mem c | none => (d, mem)
  let d1 := f.1.resetBlocks.when (cs.contains (.supply .vcore)) Dev.clearThLatch
  ((d1.each (cs.flatMap RstCause.bits) fun d f => d.set f 1).countSat LC.RSTCAUSE_COUNT, f.2)

/-- A reset request: it waits for the end of a fuse word's burn (R76); in shelf the internal reset is held already, and
only the latch of R303 follows. -/
def Dev.requestReset (d : Dev) (mem : Mem) (c : RstCause) : Dev × Mem :=
  if d.inShelf then (d.when (decide (c = .supply .vcore)) Dev.clearThLatch, mem)
  else if d.vol.start.burn.isSome then ({ d with lands := { d.lands with resetPending := d.lands.resetPending ++ [c] } }, mem)
  else d.resetAll mem [c]

/-- POWER_ON_RESET (R74, R77): the whole module with the Pier; retention memory and the SRAMs lose their contents. VKA has risen now, so that a supply
which was up before it is out of order, and the release waits until all come up after it (R60). A fuse word that was being burned is burned or
not (R97). -/
def execPowerOnReset (s : State) : Host.Outcome State Fault Refusal :=
  s.liftMem fun d mem =>
    let f := match d.vol.start.flash with | some c => d.flashOpen mem c | none => (d, mem)
    let b := f.1.draw 1
    let nv := match d.vol.start.burn with
      | some x =>
        if h : x.target < 7 ∧ b.1 = 1 then
          let t : Fin 7 := ⟨x.target, h.1⟩
          if x.word = 0 then { d.nv with fuses := { d.nv.fuses with word1 := vset d.nv.fuses.word1 t true } }
          else { d.nv with fuses := { d.nv.fuses with word2 := vset d.nv.fuses.word2 t true } }
        else d.nv
      | none => d.nv
    ({ Dev.reset with vol := d.vol.restart, now := d.now, free := b.2.free, nv := nv, lands := { d.lands with resetPending := [], rise := [] }, bus := d.bus, resp := d.resp },
     ([1, 2, 4, 7, 8].foldl clearSram f.2).clearRange 0x30000000 0x30001000)

/-- A supply is within its range, or not; one that comes back has risen last (R60). -/
def Dev.setSupply (d : Dev) (v : Supply) (ok : Bool) : Dev :=
  { d with lands := { d.lands with rise :=
      if ok then (if d.supplyUp v then d.lands.rise else d.lands.rise ++ [v]) else d.lands.rise.filter fun x => decide (x ≠ v) } }

/-- SUPPLY_UNDERVOLTAGE (R61): line 1. -/
def execSupplyUndervoltage (v : Supply) (s : State) : Host.Outcome State Fault Refusal :=
  s.lift fun d => (d.setSupply v false).when (d.running && supplyWatched v) fun d => d.assertLine 1 0

/-- SUPPLY_RESTORED (R61, R350): the line is no longer asserted by this supply. -/
def execSupplyRestored (v : Supply) (s : State) : Host.Outcome State Fault Refusal := s.lift fun d => d.setSupply v true

/-- SUPPLY_RESET (R61, R74): VREF has no reset threshold. -/
def execSupplyReset (v : Supply) (s : State) : Host.Outcome State Fault Refusal :=
  s.liftMem fun d mem => if supplyWatched v then (d.setSupply v false).requestReset mem (.supply v) else (d.setSupply v false, mem)

/-- PIN_RESET (R66, R74). -/
def execPinReset (s : State) : Host.Outcome State Fault Refusal := s.liftMem fun d mem => d.requestReset mem .pin

/-- SOFTWARE_RESET (R75). -/
def execSoftwareReset (m : Master) (d : Word) (s : State) : Host.Outcome State Fault Refusal :=
  s.liftMem fun dev mem =>
    if !dev.accessAllowed m 0x40010010 true then (dev.busError m 0x40010010 true, mem)
    else if d = 0x5EC00D1E#32 then (dev.busOk 0).requestReset mem .soft
    else (dev.busOk 0, mem)

/-! ### Fuses and life-cycle states (R92-R98) -/

/-- The state in force: the highest whose two words both read programmed, BLANK where none does (R96). -/
def Fuses.state (f : Fuses) : Nat :=
  (List.finRange 7).foldl (fun n k => if vget f.word1 k && vget f.word2 k && decide (1 ≤ k.val) then k.val else n) 0

/-- The states with exactly one word programmed (R97). -/
def Fuses.half (f : Fuses) : List (Fin 7) := (List.finRange 7).filter fun k => decide (1 ≤ k.val) && (vget f.word1 k != vget f.word2 k)

/-- Both words of a state are programmed. -/
def Fuses.program (f : Fuses) (k : Fin 7) : Fuses := { f with word1 := vset f.word1 k true, word2 := vset f.word2 k true }

/-- The effect of reaching a state on keys and customer material (Table 3-11, R98, R101). Key slots are fuses, which erasing burns to 1 (log 88). -/
def NonVol.lifeEffect (n : NonVol) (k : Nat) : NonVol :=
  match k with
  | 1 => { n with devKey := true, fuses := { n.fuses with maker := Config.makerHash } }
  | 5 => { n with fwKey := none, fuses := { n.fuses with slot0 := 2 ^ 256 - 1, slot1 := 2 ^ 256 - 1 },
                  objs := n.objs.filter fun kv => !isCustomer (kv.1 / 256) }
  | 6 => { n with devKey := false, fwKey := none,
                  fuses := { n.fuses with hukGone := true, maker := 2 ^ 256 - 1, slot0 := 2 ^ 256 - 1, slot1 := 2 ^ 256 - 1 } }
  | _ => n

/-- The words of an interrupted burn are completed (R97). -/
def Dev.fixWords (d : Dev) : Dev :=
  let h := d.nv.fuses.half
  if h.isEmpty then d
  else
    let f := h.foldl Fuses.program d.nv.fuses
    ({ d with nv := { d.nv with fuses := f } }.set LC.LCSTATE_BURN_FIX 1).set LC.LCSTATE_STATE f.state

/-- An interrupted transition is completed (R97): its burn, and in MAKER without a device key what Table 3-11 creates there; the other effects are
those of R98. -/
def Dev.fixBurn (d : Dev) : Dev :=
  let d1 := d.fixWords
  if d1.nv.fuses.state = 1 ∧ d1.nv.devKey = false then { d1 with nv := d1.nv.lifeEffect 1 } else d1

/-- In RETURN and END whatever remains of the material is erased (R98). -/
def Dev.eraseKeys (d : Dev) : Dev :=
  let st := d.get LC.LCSTATE_STATE
  if (st = 5 ∨ st = 6) ∧ d.nv.lifeEffect st ≠ d.nv then { d with nv := d.nv.lifeEffect st }.set LC.LCSTATE_ERASED 1 else d

/-- The boot mode in force (Table 3-5). -/
def Dev.bootMode (d : Dev) : Nat :=
  let st := d.get LC.LCSTATE_STATE
  match d.vol.start.bootMode with
  | 1 => if st = 1 ∨ st = 2 ∨ st = 5 ∨ ((st = 3 ∨ st = 4) ∧ d.bit LC.BOOTOPT_NETLOAD_EN = true) then 1 else 0
  | 2 => 2
  | 3 => if st ≤ 1 then 3 else 0
  | _ => 0

/-- Is scan access through TEST0-TEST3 open (R83, Table 3-12): in maker test mode in BLANK and MAKER, or in RETURN after a maker authentication? -/
def Dev.scanOpen (d : Dev) : Bool :=
  (decide (d.bootMode = 3) && decide (d.get LC.LCSTATE_STATE ≤ 1)) || (decide (d.get LC.LCSTATE_STATE = 5) && d.vol.start.makerAuth)

/-- The volatile key store is cleared, until the next start loads it (R100). -/
def Dev.clearKeys (d : Dev) : Dev := d.modStart fun x => { x with keys := KeyStore.empty }

/-- The volatile key store is loaded (R99); with the unique key gone nothing can be unwrapped (R101), and with scan access open it stays empty
(R100). -/
def Dev.loadKeys (d : Dev) : Dev :=
  if d.scanOpen then d.clearKeys
  else
    let live := !d.nv.fuses.hukGone
    let k : KeyStore := { device := d.nv.devKey && live, fw := if live then d.nv.fwKey else none, slots := some (d.nv.fuses.slot0, d.nv.fuses.slot1) }
    d.modStart fun x => { x with keys := k }

/-- The fields of `LC.BOOTOPT` below `ARB`. -/
def optFields : List Fld :=
  [LC.BOOTOPT_SPLIT0, LC.BOOTOPT_SPLIT1, LC.BOOTOPT_ENC_REQ, LC.BOOTOPT_NETLOAD_EN, LC.BOOTOPT_BANK_POL, LC.BOOTOPT_KEY0_REV, LC.BOOTOPT_KEY1_REV]

/-- The OTP is read: state, boot options, split spans, and the records that persist; the causes that persist raise their lines again (R82, R84, R96,
R361). -/
def Dev.latchOtp (d : Dev) : Dev :=
  let f := d.nv.fuses
  let d1 := ((d.set LC.LCSTATE_STATE f.state).writeFields optFields f.opt).set LC.BOOTOPT_ARB f.arb
  let d2 := (d1.setBit LC.BOOTSTAT_SPLIT0 (natBit f.opt 0)).setBit LC.BOOTSTAT_SPLIT1 (natBit f.opt 1)
  let d3 := (d2.when (natBit f.opt 0) fun d => d.set (KS.SPSTAT_MODE 0) 4).when (natBit f.opt 1) fun d => d.set (KS.SPSTAT_MODE 1) 4
  let d4 := d3.when (decide (d.nv.retired ≠ 0)) fun d =>
    ((d.set KS.TSTAT_RETIRED d.nv.retired).set KS.TSTAT_HELDM d.nv.retired).set KS.TSTAT_MODE 1 |>.assertLine 11 0 |>.trussShort
  let d5 := (d4.setBit KS.DBG_DBGLS d.nv.dbgls).set KS.DBG_DBGCNT d.nv.dbgCount
  let d6 := (d5.when d.nv.dbgls fun d => d.assertLine 16 0).when (d.bit TH.LATCH_DIE || d.bit TH.LATCH_BARRIER) fun d => d.assertLine 45 0
  let d7 := d6.when (!d.lands.failN) fun d => d.assertLine 2 0
  (d7.modStart fun x => { x with otpSlots := (f.slot0, f.slot1) }).each bridges fun d b => d.setBit (GL.BSTAT_STO b) (d.bit (SIO.STO_ACT b))

/-- INTERNAL_RESET_RELEASE (Table 3-3, R60): the boot ROM starts and reads the OTP. -/
def execInternalResetRelease (mode : BitVec 2) (s : State) : Host.Outcome State Fault Refusal :=
  s.lift fun d =>
    if !d.running && !d.inShelf && d.suppliesUp then (d.release mode.toNat).latchOtp else d

/-- SHELF_WAKE (R464): with every supply in range that the domains need the fabric is powered and starts, and the domains of the episode wake with
it; on the RC fallback after a failure of the crystal (R465). -/
def execShelfWake (mode : BitVec 2) (s : State) : Host.Outcome State Fault Refusal :=
  s.lift fun d =>
    if d.inShelf && d.pier.shelfWake && decide (d.get PIER.WSTAT_WSTATE ≠ 5) && d.wakeSupplies then
      ((((d.setSt 1 0).each d.pier.episode Dev.wakeOne).resetCause LC.RSTCAUSE_WAKE).set PIER.WSTAT_WSTATE (if d.pier.rcTried then 6 else 3)).release mode.toNat |>.latchOtp
    else d

/-! ### The root (R81) -/

/-- ROOT_LOCK_TIMEOUT (R81): not for a wake from shelf, which has its own path (R465). -/
def execRootLockTimeout (s : State) : Host.Outcome State Fault Refusal :=
  s.lift fun d => if d.vol.start.phase = .rc ∧ d.pier.shelfWake = false then d.set LC.BOOTSTAT_ROOT_FAIL 1 else d

/-- ROOT_LOCK_RETRY (R81): the ROM tries again; a lock is ROOT_PLL_LOCKED, and nothing else changes. -/
def execRootLockRetry (s : State) : Host.Outcome State Fault Refusal := s.lift fun d => d

/-! ### Host images (R83, R85-R89) -/

/-- Is an image started from flash: normal mode, in any state but BLANK and END (Tables 3-5, 3-12)? -/
def Dev.imageMode (d : Dev) : Bool := decide (d.bootMode = 0) && decide (1 ≤ d.get LC.LCSTATE_STATE) && decide (d.get LC.LCSTATE_STATE ≤ 5)

/-- The first byte of a bank. -/
def bankBase (b : Fin 2) : Nat := 0x08000000 + 0x800000 * b.val

/-- Does a header lie at an address: the magic word (Table 3-7)? -/
def imageMagic (mem : Mem) (a : Nat) : Bool := decide (mem.readLE a 4 = 0x5E0C8620)

/-- Does the header at an address keep the limits of Table 3-7: level, body length, flags, reserved bytes (log 131)? -/
def headerForm (mem : Mem) (a : Nat) : Bool :=
  let flags := mem.readLE (a + 0x10) 4
  decide (mem.readLE (a + 8) 4 ≤ 63) && decide (mem.readLE (a + 0xC) 4 ≤ if natBit flags 0 then 1572864 else 8388352) &&
  decide (flags < 4) && decide (mem.readLE (a + 0x1C) 4 = 0) && decide (mem.readLE (a + 0xD0) 48 = 0)

/-- Does the image name a key that the module accepts (R86, Table 3-12): that of an unrevoked key slot in the states that start customer-signed
images, the maker's in the others? -/
def Dev.imageKeyOk (d : Dev) (mem : Mem) (a : Nat) : Bool :=
  let h := keyHash (mem.readBytes (a + 0x40) 64)
  let one := natBit (mem.readLE (a + 0x10) 4) 1
  if 2 ≤ d.get LC.LCSTATE_STATE ∧ d.get LC.LCSTATE_STATE ≤ 4 then
    (match d.vol.start.keys.slots with
     | some k => decide (h = if one then k.2 else k.1) && !(if one then d.bit LC.BOOTOPT_KEY1_REV else d.bit LC.BOOTOPT_KEY0_REV)
     | none => false)
  else decide (h = d.nv.fuses.maker)

/-- Does the signature of the header at an address verify (Table 3-7)? -/
def imageSigned (mem : Mem) (a : Nat) : Bool :=
  let k := mem.readBytes (a + 0x40) 64
  let e := ofBeList (sha256 (mem.readBytes a 0x80 ++ mem.readBytes (a + 0xC0) 0x40))
  ecdsaVerifies (ofBeList (k.take 32)) (ofBeList (k.drop 32)) e (ofBeList (mem.readBytes (a + 0x80) 32)) (ofBeList (mem.readBytes (a + 0xA0) 32))

/-- Does the digest of the stored body match (Table 3-7)? -/
def bodyMatches (mem : Mem) (a : Nat) : Bool :=
  decide (sha256 (mem.readBytes (a + 0x100) (mem.readLE (a + 0xC) 4)) = mem.readBytes (a + 0x20) 32)

/-- Is the image at an address valid (R86)? An encrypted one needs the customer firmware key in the key store (R100). -/
def Dev.imageValid (d : Dev) (mem : Mem) (a : Nat) : Bool :=
  imageMagic mem a && headerForm mem a && d.imageKeyOk mem a && decide (d.get LC.BOOTOPT_ARB ≤ mem.readLE (a + 8) 4) &&
  (!d.bit LC.BOOTOPT_ENC_REQ || natBit (mem.readLE (a + 0x10) 4) 0) &&
  (!natBit (mem.readLE (a + 0x10) 4) 0 || d.vol.start.keys.fw.isSome) && bodyMatches mem a && imageSigned mem a

/-- The banks that are tried, first choice first (R86, Table 3-6): under 0b00 and 0b11 those with a header, the higher version first and
bank 0 on a tie. -/
def Dev.bankOrder (d : Dev) (mem : Mem) : List (Fin 2) :=
  match d.get LC.BOOTOPT_BANK_POL with
  | 1 => [0]
  | 2 => [1]
  | _ => ((if mem.readLE (bankBase 0 + 4) 4 < mem.readLE (bankBase 1 + 4) 4 then [1, 0] else [0, 1] : List (Fin 2)).filter fun b =>
      imageMagic mem (bankBase b))

/-- The body of an encrypted image is decrypted into application SRAM with AES-256 in counter mode, under the customer firmware key (R89). -/
def Dev.decryptImage (d : Dev) (mem : Mem) (a : Nat) : Dev × Mem :=
  let n := mem.readLE (a + 0xC) 4
  let ks := aesKeys (beList 32 (d.vol.start.keys.fw.getD 0))
  (d.set LC.BOOTSTAT_ENC 1,
   mem.writeBytes 0x20000000 (aesCounter ks (mem.readBytes (a + 0xC0) 16) ((n + 15) / 16) 0 (mem.readBytes (a + 0x100) n)))

/-- The image at an address starts: its entry offsets are known, and an encrypted body is decrypted (R89, Table 3-7). -/
def Dev.runImage (d : Dev) (mem : Mem) (a : Nat) : Dev × Mem :=
  let d1 := d.modStart fun x => { x with entry := .ofFn fun s => mem.readLE (a + 0x14 + 4 * s.val) 4 }
  if natBit (mem.readLE (a + 0x10) 4) 0 then d1.decryptImage mem a else (d1, mem)

/-- The host image is chosen and started (R86, R87, R89). -/
def Dev.startImage (d : Dev) (mem : Mem) : Dev × Mem :=
  if !d.imageMode then (d, mem)
  else
    let order := d.bankOrder mem
    let ok := fun b => d.imageValid mem (bankBase b)
    let bad := order.any fun b => imageMagic mem (bankBase b) && !ok b
    let d1 := d.when bad fun d => (d.set LC.BOOTSTAT_IMG_BAD 1).assertLine 7 0
    match order.find? ok with
    | none => (d1, mem)
    | some b =>
      let d2 := ((d1.set LC.BOOTSTAT_IMG_SRC b.val).setBit LC.BOOTSTAT_FALLBACK (decide (order.head? ≠ some b))).modStart fun x => { x with runBank := some b }
      d2.runImage mem (bankBase b)

/-! ### The dictionary restore (R254, R361, R386, R430, R492) -/

/-- Is a key that of a record of an MRAM or factory object outside the safety parameter set (R430)? -/
def recordKey (k : Nat) : Bool :=
  !(decide (0x5000 ≤ k / 256) && decide (k / 256 ≤ 0x5FFF)) &&
  (match objOf (k / 256) (k % 256) with
   | some o => decide (o.pers = 1) || decide (o.pers = 2)
   | none => false)

/-- Copies of records are repaired and counted (R430): one bad copy is rewritten, two bad copies become the default. -/
def Dev.repairCopies (d : Dev) (ones boths : List Nat) : Dev :=
  let one := ones.filter recordKey
  let both := boths.filter recordKey
  let n := fun (d : Dev) s k => d.setStored (objKey 0x4B00 s) (min 65535 ((d.stored 0x4B00 s).getD 0 + k))
  let d1 := d.when (!one.isEmpty) fun d => n d 3 one.length
  d1.when (!both.isEmpty) fun d =>
    (n { d with nv := { d.nv with objs := d.nv.objs.filter fun kv => !both.contains kv.1 } } 4 both.length).assertLine 56 0

/-- The Pier's registers keep their values over a reset, and take those of their objects, stored or default (R477, R479). -/
def Dev.restorePier (d : Dev) : Dev :=
  d.each ((List.range 10).map (· + 1)) fun d s =>
    match objOf 0x2900 s with
    | some o => d.loadObj 0x2900 s ((d.stored 0x2900 s).getD o.dflt)
    | none => d

/-- Every stored value reaches its register, but those of the ports, of the safety set, and of domains that are not on (R430, R452). -/
def Dev.restoreObjects (d : Dev) : Dev :=
  let d1 := (d.loadStored fun i o => !atPorts i && (match objDomain i o with | some p => d.domainUp p | none => true)).restorePier
  ((d1.when (d.domainUp 6) d.judgeNodes).when (d.domainUp 4) fun d => d.each [0, 1] fun d p => d.posControl p).modKs fun k => { k with incls := .ofFn fun t => (d1.bit (KS.INCLS_C0 t), d1.bit (KS.INCLS_C1 t)) }

/-- The analogue domain starts: chain, calibration, scans, `EN` (R129, R131, R132). -/
def Dev.startAnalog (d : Dev) (failed : List (Fin 34)) : Dev := ((d.rebuildChain.calibrateAll failed).startScans).set AS.CTL_EN 1

/-- The end of the restored start: a failed self-test stops the start in LOCKOUT (R79, R80). -/
def Dev.bootPhase (e : Dev × Mem) : Dev × Mem :=
  if e.1.bit LC.BOOTSTAT_BIST_FAIL then (((e.1.opTo 6).modStart fun x => { x with phase := .stopped }).wakeDone, e.2)
  else (e.1.modStart fun x => { x with phase := .restored }, e.2)

/-- The events of Table 3-3 from 6.0 ms to 18.0 ms; the safety parameter set is checked before the dictionary is restored (R386). A failed full BIST stops the start there, in LOCKOUT (R80). -/
def Dev.bootRestore (d : Dev) (mem : Mem) (one both : List Nat) (sets : Nat) (failed : List (Fin 34)) : Dev × Mem :=
  let r := d.startImage mem
  let d1 := (r.1.when (decide (sets = 1)) fun d => d.setStored (objKey 0x4900 0x11) (((d.stored 0x4900 0x11).getD 0 + 1) % 65536)).loadSafety (decide (sets ≠ 2))
  let d2 := (d1.repairCopies one both).restoreObjects
  let d3 := d2.when (d.domainUp 3) fun d => d.startAnalog failed
  Dev.bootPhase (if d.domainUp 4 then d3.startEngine r.2 true else (d3, r.2))

/-! ### The self-test record (R79, R474) -/

/-- Is the record valid for the running start: magic, check value, a pass, and the sequence of this start? -/
def Dev.recordOk (d : Dev) (mem : Mem) : Bool :=
  decide (mem.readLE 0x101EFF00 4 = 0xB1578620) && decide (mem.readLE 0x101EFF1C 4 = recordCrc (mem.readBytes 0x101EFF00 0x1C)) &&
  decide (mem.readLE 0x101EFF04 4 = d.startCount) && natBit (mem.readLE 0x101EFF08 4) 31

/-- The wake from shelf succeeds with the lock (R464, R467); after attempts on the RC oscillator the diagnostics are left (R465). -/
def Dev.wakeLocked (d : Dev) (mem : Mem) : Dev × Mem :=
  if !d.pier.shelfWake then (d, mem)
  else
    let b := d.draw 1
    let r := if d.pier.rcTried then b.2.rcOutcome mem (0xD + 2 * b.1) else (d, mem)
    (r.1.wakeSuccess.set PIER.WSTAT_WSTATE 4, r.2)

/-- The key-store event (Table 3-3). -/
def Dev.keyEvent (d : Dev) : Dev := d.fixBurn.eraseKeys.loadKeys

/-- ROOT_PLL_LOCKED (Table 3-3): the wake succeeds, keys are loaded, the start is counted, and the record is consumed: with a valid one, or after
the full BIST, the start goes on to the dictionary restore; without one the key store is cleared and the full BIST runs (R79, R100, R476). -/
def execRootPllLocked (badOne badBoth : List Nat) (sets : Fin 3) (calFailed : List (Fin 34)) (s : State) :
    Host.Outcome State Fault Refusal :=
  s.liftMem fun d mem =>
    if d.vol.start.phase ≠ .rc then (d, mem)
    else
      let w := d.wakeLocked mem
      let d1 := w.1.keyEvent
      match d.pier.bist with
      | some _ => (d1.modPier fun q => { q with bist := none }).bootRestore w.2 badOne badBoth sets calFailed
      | none =>
        let d2 := d1.setStored (objKey 0x4C03 3) ((d1.startCount + 1) % 2 ^ 32)
        let mem2 := w.2.writeWord 0x101EFF00 0
        if d2.recordOk w.2 then
          let d3 := ((d2.set LC.BOOTSTAT_QUICK 1).set BIST.STAT_PHASE 4).set BIST.STAT_PASS (w.2.readLE 0x101EFF08 4 / 2 % 256)
          d3.bootRestore mem2 badOne badBoth sets calFailed
        else
          ((d2.silenceIslands.setAll [(BIST.STAT_PHASE, 2), (BIST.STAT_DOM, 3)]).modStart fun x =>
            { x with phase := .bist, keys := KeyStore.empty, bistAt := d.now }, mem2)

/-- START_BIST_COMPLETE (R80, R349, R472, R476): the SRAMs are zero, the outcome goes to the Pier, and the start begins again from its first event; a
failed test raises the self-test line (8). -/
def execStartBistComplete (pass : Bool) (part : BitVec 8) (sig : BitVec 64) (s : State) : Host.Outcome State Fault Refusal :=
  s.liftMem fun d mem =>
    if d.vol.start.phase ≠ .bist then (d, mem)
    else
      let p := d.pier
      let st := d.vol.start
      let d1 := { d.silenceIslands.resetBlocks with pier := { p with bist := some pass } }
      let d2 := (d1.modStart fun x => { x with phase := .rc, releasedAt := st.releasedAt, bootMode := st.bootMode }).set PIER.WSTAT_WSTATE
        (d.get PIER.WSTAT_WSTATE)
      let d3 := (d2.each [1, 2, 3, 4, 5, 6, 7, 8] fun x q => x.setSt q (d.domSt q)).latchOtp
      let d4 := ((d3.set LC.BOOTSTAT_BIST_RUN 1).setBit LC.BOOTSTAT_BIST_FAIL (!pass)).setAll
        [(BIST.STAT_PHASE, if pass then 4 else 5), (BIST.STAT_FAILPART, if pass then 0 else part.toNat),
         (BIST.STAT_PASS, if pass then 255 else 255 - 2 ^ (part.toNat / 16 - 1)),
         (BIST.SIGL_V, if pass then 0 else sig.toNat % 2 ^ 32), (BIST.SIGH_V, if pass then 0 else sig.toNat / 2 ^ 32)]
      (d4.when (!pass) fun d => (d.setStored (objKey 0x4C03 2) ((d.stored 0x4C03 2).getD 0 + 1)).assertLine 8 0, [1, 2, 4, 7, 8].foldl clearSram mem)

/-! ### The end of the start -/

/-- Sources 379 and 382 of a wake from shelf (R464). -/
def Dev.shelfSources (d : Dev) : Dev :=
  if d.pier.shelfWake then
    ((d.edge 379).edge 382).modPier fun q => { q with shelfWake := false, rcTried := false }
  else d

/-- CAN_PORTS_EVENT (Table 3-3, R414, R439, R464, R466). -/
def execCanPortsEvent (s : State) : Host.Outcome State Fault Refusal :=
  s.lift fun d =>
    if d.vol.start.phase ≠ .restored then d
    else
      let d1 := ((d.when (d.domainUp 7) Dev.loadPorts).shelfSources.modStart fun x => { x with phase := .ports }).opTo 1
      (d1.when (d.bit PIER.CTL_WFAIL) fun d => d.assertLine 9 0).wakeDone

/-- The module enters READY; the first entry of a start leaves its time in `T_READY` (R82), and at the first entry in TRACTION and SECOND_LIFE resident firmware sets the lock bits (R418 and its like). -/
def Dev.enterReady (d : Dev) : Dev :=
  let lc := d.get LC.LCSTATE_STATE
  ((d.opTo 2).when (decide (d.get LC.BOOTSTAT_T_READY = 0)) fun d =>
      d.set LC.BOOTSTAT_T_READY (min 65535 ((d.now - d.vol.start.releasedAt) / 40))).when (!d.vol.dict.locked && (decide (lc = 3) || decide (lc = 4))) fun d =>
    (d.each [1, 3, 4, 5, 6, 7] fun d p => d.when (d.domainUp p) fun d => d.lockDomain p).modDict fun x => { x with locked := true }

/-- START_SEQUENCE_COMPLETE (Table 3-3, R439): from STANDBY to READY, or to SAFE; `T_READY` in 10 µs. -/
def execStartSequenceComplete (s : State) : Host.Outcome State Fault Refusal :=
  s.lift fun d =>
    if d.vol.start.phase ≠ .ports then d
    else
      let d1 := d.modStart fun x => { x with phase := .complete }
      if d1.get DE.STAT_OPSTATE ≠ 1 then d1
      else if 3 ≤ d1.reaction 0 ∧ 3 ≤ d1.reaction 1 then d1.opTo 5
      else d1.enterReady

/-! ### Transitions (R93-R96) -/

/-- LC_NONCE_READ (R94): the nonce is drawn and read. -/
def execLcNonceRead (nonce : BitVec 128) (s : State) : Host.Outcome State Fault Refusal :=
  s.lift fun d => if d.running then (d.modStart fun x => { x with nonce := some { value := nonce.toNat, readAt := d.now } }).answer nonce.toNat 16 else d

/-- NONCE_LAPSE (R94). -/
def execNonceLapse (s : State) : Host.Outcome State Fault Refusal := s.lift fun d => d.modStart fun x => { x with nonce := none }

/-- The message that the signatures of a request cover (R94): device identity, present and target state, nonce. -/
def Dev.transMessage (d : Dev) (dst nonce : Nat) : List (BitVec 8) :=
  leList 8 (d.factory 0x1018 5 0) ++ leList 1 (d.get LC.LCSTATE_STATE) ++ leList 1 dst ++ leList 16 nonce

/-- Does the customer signature staged at `0x7010:03` verify under a key whose hash the key store holds for a slot that is not revoked (R99, log 132)?
A slot written since the start is not in the store yet (R84). -/
def Dev.customerSigned (d : Dev) (dst nonce : Nat) : Bool :=
  let ok := fun h => signedUnder h (sha256 (d.transMessage dst nonce)) (d.domain 0x7010 3)
  match d.vol.start.keys.slots with
  | some k => (!d.bit LC.BOOTOPT_KEY0_REV && ok k.1) || (!d.bit LC.BOOTOPT_KEY1_REV && ok k.2)
  | none => false

/-- The maker key's hash: as burned, and in BLANK, where it is not burned yet, the one that the chip will burn (Table 3-11; DEDUCED, log 180). -/
def Dev.makerHash (d : Dev) : Nat := if d.get LC.LCSTATE_STATE = 0 then Config.makerHash else d.nv.fuses.maker

/-- Does the maker signature staged at `0x7010:04` verify under the maker key? -/
def Dev.makerSigned (d : Dev) (dst nonce : Nat) : Bool :=
  signedUnder d.makerHash (sha256 (d.transMessage dst nonce)) (d.domain 0x7010 4)

/-- The signatures that a transition needs: customer, maker (Table 3-11); none where there is no such transition. BLANK to MAKER exists in maker
test mode only. An authentication asks for the present state where Table 3-12 opens something to one (log 86). -/
def Dev.transAuth (d : Dev) (dst : Nat) : Option (Bool × Bool) :=
  match d.get LC.LCSTATE_STATE, dst with
  | 0, 1 => if d.bootMode = 3 then some (false, false) else none
  | 1, 2 => some (false, true)
  | 2, 3 => some (true, false)
  | 3, 4 => some (true, false)
  | 2, 5 | 3, 5 | 4, 5 => some (true, true)
  | 0, 6 | 1, 6 | 5, 6 => some (false, true)
  | 2, 6 | 3, 6 | 4, 6 => some (true, false)
  | 3, 3 | 4, 4 => some (true, false)
  | 5, 5 => some (false, true)
  | _, _ => none

/-- A failed signature check is counted (R95). -/
def Dev.sigFailed (d : Dev) : Dev := (d.modPier fun q => { q with sigFails := q.sigFails + 1 }).opFail 0x7010 0x0660

/-- An authentication as in R94 opens what verified signatures stand for until the next reset (Table 3-12); before scan access opens with it, the
key store is cleared (R100). -/
def Dev.authenticate (d : Dev) (cust maker : Bool) : Dev :=
  let d1 := d.modStart fun x => { x with custAuth := x.custAuth || cust, makerAuth := x.makerAuth || maker }
  d1.when d1.scanOpen Dev.clearKeys

/-- The nonce is spent (R95). -/
def Dev.spendNonce (d : Dev) : Dev := d.modStart fun x => { x with nonce := none }

/-- The checks of an accepted start (R95): the transition, then its signatures over the outstanding nonce, which is spent. A verified
authentication opens what Table 3-12 names and ends the operation (log 86). -/
def Dev.transition (d : Dev) (dst : Nat) : Dev :=
  let d1 := d.spendNonce
  let cust := match d.vol.start.nonce with | some n => d.customerSigned dst n.value | none => false
  let maker := match d.vol.start.nonce with | some n => d.makerSigned dst n.value | none => false
  match d.transAuth dst with
  | none => d1.opFail 0x7010 0x0630
  | some n =>
    if (n.1 && !cust) || (n.2 && !maker) then d1.sigFailed
    else if dst = d.get LC.LCSTATE_STATE then (d1.authenticate n.1 n.2).opDone 0x7010
    else ((d1.modStart fun x => { x with burn := some { target := dst, word := 0 } }).set LC.LCSTATE_PEND 1).set LC.LCSTATE_PEND_TO dst

/-- Has the eighth signature check since power-on failed (R95)? -/
def Dev.sigBarred (d : Dev) : Bool := decide (8 ≤ d.pier.sigFails)

/-- May a start of the operation 0x7010 be judged further: operating state and roles (R95)? -/
def Dev.transState (d : Dev) : Bool :=
  (decide (d.get DE.STAT_OPSTATE = 1) || decide (d.get DE.STAT_OPSTATE = 4)) && decide (d.role 0 = 0) && decide (d.role 1 = 0)

/-- LC_TRANSITION_START (R94, R95, R443): after eight failed checks every request is refused; the state and the roles are judged at the write, the
rest in the operation. -/
def execLcTransitionStart (target : BitVec 8) (s : State) : Host.Outcome State Fault Refusal :=
  s.lift fun d =>
    if d.vol.start.burn.isSome then d.abort 0x7010 5 0x0640 2
    else if d.sigBarred then (if d.opRunning 0x7010 then d.opFail 0x7010 0x0660 else d.abort 0x7010 5 0x0660 0).spendNonce
    else
      let b := d.opBegin 0x7010 5 [(2, target.toNat)] d.transState true
      if b.2 then b.1.transition (b.1.objVal 0x7010 2 0) else if b.1.opRunning 0x7010 then b.1 else b.1.spendNonce

/-- FUSE_BURN_COMPLETE (R76, R96): the word is programmed; a reset that waits takes effect, or the second word is burned; after it the effect of the
state and the life-cycle-transition reset follow. -/
def execFuseBurnComplete (word : Fin 2) (s : State) : Host.Outcome State Fault Refusal :=
  s.liftMem fun d mem =>
    match d.vol.start.burn with
    | none => (d, mem)
    | some b =>
      if h : b.target < 7 ∧ b.word = word.val then
        let t : Fin 7 := ⟨b.target, h.1⟩
        let waiting := d.lands.resetPending
        let d0 := { d with lands := { d.lands with resetPending := [] } }
        let f := d.nv.fuses
        if word = 0 then
          let d1 := { d0 with nv := { d.nv with fuses := { f with word1 := vset f.word1 t true } } }
          if waiting.isEmpty then (d1.modStart fun x => { x with burn := some { b with word := 1 } }, mem) else d1.resetAll mem waiting
        else
          ({ d0 with nv := { d.nv with fuses := { f with word2 := vset f.word2 t true } }.lifeEffect b.target }).resetAll mem (waiting ++ [RstCause.lct])
      else (d, mem)

/-! ### Boot options (R84) -/

/-- The bits of `opt` that an object of 0x2010 writes: place and width. -/
def optPlace (sub : Nat) : Nat × Nat := if sub = 5 then (4, 2) else (sub - 1, 1)

/-- A write of value v to sub-index k of 0x2010 (R84, R432): in PROVISION; a bit goes from 0 to 1 only; it takes effect at the next reset.
DESIGN CHOICE (log 90): the customer firmware key, for which the spec has no object, comes into OTP with the first write of a key slot. -/
def Dev.bootOption (d : Dev) (k v : Nat) : Dev :=
  let f := d.nv.fuses
  if 6 < k then d.abort 0x2010 k 0x060A 6
  else if d.get LC.LCSTATE_STATE ≠ 2 then d.abort 0x2010 k 0x0630 0
  else if k = 0 then d.abort 0x2010 k 0x0602 0
  else if d.get DE.STAT_OPSTATE = 6 then d.abort 0x2010 k 0x0622 0
  else if k = 6 then
    let old := f.slot0 + f.slot1 * 2 ^ 256
    if old &&& v ≠ old then d.abort 0x2010 k 0x0611 0
    else { d with nv := { d.nv with fwKey := some (d.nv.fwKey.getD Config.fwKey), fuses := { f with slot0 := v % 2 ^ 256, slot1 := v / 2 ^ 256 } } }.answer 0 0
  else
    let w := optPlace k
    let old := natField f.opt w.1 w.2
    if 2 ^ w.2 ≤ v ∨ old &&& v ≠ old then d.abort 0x2010 k 0x0611 0
    else { d with nv := { d.nv with fuses := { f with opt := f.opt ||| (v * 2 ^ w.1) } } }.answer 0 0

/-- BOOT_OPTION_WRITE (R84). -/
def execBootOptionWrite (sub : BitVec 8) (value : BitVec 512) (s : State) : Host.Outcome State Fault Refusal :=
  s.lift fun d => d.bootOption sub.toNat value.toNat

/-- The floor and the revocations are burned, if none of them would fall. -/
def Dev.burnFloor (d : Dev) (arb : Nat) (rev0 rev1 custOk : Bool) : Dev :=
  let f := d.nv.fuses
  if !custOk then d.opFail 0x7012 0x0660
  else if arb < f.arb then d.opFail 0x7012 0x0611
  else ({ d with nv := { d.nv with fuses := { f with arb := arb, opt := f.opt ||| (b2n rev0 * 64 + b2n rev1 * 128) } } }).opDone 0x7012

/-- ARB_RAISE (R84): the stepped operation 0x7012, in TRACTION and SECOND_LIFE, with a customer signature; not in LOCKOUT (R441). -/
def execArbRaise (arb : Fin 64) (rev0 rev1 : Bool) (custOk : Bool) (s : State) : Host.Outcome State Fault Refusal :=
  s.lift fun d =>
    let lc := d.get LC.LCSTATE_STATE
    if !d.opRunning 0x7012 && decide (lc ≠ 3) && decide (lc ≠ 4) then d.abort 0x7012 3 0x0630 0
    else
      let b := d.opBegin 0x7012 3 [(1, arb.val + b2n rev0 * 64 + b2n rev1 * 128)] (decide (d.get DE.STAT_OPSTATE ≠ 6)) true
      let v := b.1.objVal 0x7012 1 0
      if b.2 then b.1.burnFloor (v % 64) (natBit v 6) (natBit v 7) custOk else b.1

end Sys2Proof.Machine
end

