-- ==== Sys2Proof/Machine/Service.lean ====
section
/-! DEFINITION. The access service of the dictionary engine: its queue, the checks that every request passes, reads and descriptors
(R422-R437, R451), and the requests of customer objects (R448, R449). -/

namespace Sys2Proof.Machine

/-! ### The queue (R437) -/

/-- The number of queued requests is shown. -/
def Dev.showQueue (d : Dev) : Dev := d.set DE.STAT_QLEVEL d.vol.dict.queue.length

/-- A request reaches the engine; a full queue answers it at once. -/
def Dev.enqueue (d : Dev) (r : Req) : Dev :=
  if d.vol.dict.queue.length < 16 then (d.modDict fun x => { x with queue := x.queue ++ [r] }).showQueue
  else (d.countSat DE.CNT_QFULL).refuse r 0x0640 1

/-- The request that a body spells (Table 15-6): the length of a read part follows `n`, its offset the header. -/
def parseReq (src : ReqSrc) (b : List (BitVec 8)) : Req :=
  let n := leNat ((b.drop 4).take 2)
  { src := src, op := leNat (b.take 1), idx := leNat ((b.drop 1).take 2), sub := leNat ((b.drop 3).take 1), n := n,
    off := leNat ((b.drop 6).take 4), data := (b.drop 6).take n }

/-- REQUEST_ENQUEUE (R434, R437, R440): the oldest message for the engine. An object request enters the queue; an operating-state command
with another code than 1-4 is answered 0x0611; one with such a code is a STATE_COMMAND. -/
def execRequestEnqueue (s : State) : Host.Outcome State Fault Refusal :=
  s.lift fun d =>
    match d.vol.net.inbox with
    | [] => d
    | k :: t =>
      let d1 := d.modNet fun n => { n with inbox := t }
      if d.get DE.STAT_OPSTATE = 0 then d
      else if k.svc = 0x010 then d1.enqueue (parseReq (.kinak k.port k.node k.prio k.tag) k.body)
      else if k.svc = 0x012 then
        let c := leNat (k.body.take 1)
        if 1 ≤ c ∧ c ≤ 4 then d
        else (d1.abort 0x1001 3 0x0611 0).sendMessage k.port k.node 0x013 k.prio k.tag (leList 1 c ++ leList 1 (d.get DE.STAT_OPSTATE) ++ leList 2 0x0611)
      else d1

/-- The next request, if it is of a kind, taken from the queue. -/
def Dev.serve (d : Dev) (p : Req → Bool) : Option (Req × Dev) :=
  match d.nextReq with
  | some (r, t) => if p r then some (r, (d.modDict fun x => { x with queue := t }).showQueue) else none
  | none => none

/-! ### The checks of R432 -/

/-- Is that domain up? -/
def Dev.homeUp (d : Dev) (i : Nat) (o : Obj) : Bool := match objHome i o with | some p => d.domainUp p | none => true

/-- Refused in the life-cycle state: 0x0630 (Table 15-3, Table 3-12, R84, R384, R446, Table 17-7). -/
def Dev.lifeBar (d : Dev) (i s : Nat) (o : Obj) (w : Bool) : Bool :=
  let lc := d.get LC.LCSTATE_STATE
  (decide (o.gates / gTrac % 2 = 1) && !([1, 2, 3, 5].contains lc)) || (decide (i / 0x1000 = 8) && !([1, 2, 4, 5].contains lc)) ||
  (w && decide (s ≠ 0) && ((decide (i = 0x2010) && decide (lc ≠ 2)) ||
    (((decide (i = 0x2A00) && decide (s ≤ 4)) || (decide (0x5000 ≤ i) && decide (i ≤ 0x5005))) && (decide (lc = 3) || decide (lc = 4)) &&
      !d.vol.start.custAuth) ||
    (decide (i = 0x7012) && decide (s = 3) && decide (lc ≠ 3) && decide (lc ≠ 4))))

/-- The access of an object is refused: 0x0601 or 0x0602, 0 for none (Table 15-3, Table 15-4, R109, R181). -/
def Dev.accessBar (d : Dev) (r : Req) (o : Obj) (w : Bool) : Nat :=
  let lc := d.get LC.LCSTATE_STATE
  if w then
    if (r.idx = 0x2303 ∨ r.idx = 0x2313) ∧ 0x1F ≤ r.sub ∧ r.src ≠ .local 0 then 0x0601
    else if r.idx = 0x2100 ∧ 1 ≤ r.sub ∧ d.mayClaimId .dict (d.get (OWN.R_OWNER 1 (r.sub - 1))) = false then 0x0601
    else if o.acc ≠ 0 then 0
    else if o.pers = 2 ∧ r.sub ≠ 0 ∧ (lc = 1 ∨ (lc = 5 ∧ d.vol.start.makerAuth = true)) then 0
    else 0x0602
  else if o.acc = 2 then 0x0601 else 0

/-- Is a write refused by the operating state alone (Table 15-3, Table 15-12, R384)? -/
def Dev.stateBar (d : Dev) (i s v : Nat) (o : Obj) : Bool :=
  let st := d.get DE.STAT_OPSTATE
  (decide (o.gates % 2 = 1) && decide (st = 3)) || (decide (o.gates / gSet % 2 = 1) && decide (d.stagingBar = 0x0622)) ||
  (decide (st = 6) && !((decide (i = 0x2801) && decide (s = 1)) || (decide (i = 0x3041) && decide (v = 0)) ||
    (decide (i = 0x7040) && decide (1 ≤ s) && decide (s ≤ 3)) || (decide (i = 0x2103) && decide (s = 3)) || (decide (i = 0x7030) && decide (s = 1)) || (decide (i = 0x7050) && decide (s = 1))))

/-- The start object of each stepped operation (Table 15-14). -/
def startSub (i : Nat) : Nat :=
  match i with
  | 0x7002 | 0x7004 => 4
  | 0x7010 => 5
  | 0x7012 => 3
  | _ => 1

/-- Is a write refused in the state of the block behind the object: a domain in retention or off (R452), the chain of spares (Table 4-19), the
modulator's source (R230), the engine (R168), a latch (R278), a contactor (R373), shelf (Table 16-13)? -/
def Dev.blockBar (d : Dev) (i s v : Nat) (o : Obj) : Bool :=
  (decide (o.pers = 0) && !d.homeUp i o) ||
  (match i with
   | 0x2103 => decide (s = 3) && decide (2 ≤ d.get AS.SPARE_CHAIN)
   | 0x2403 => !d.bit (MOD.CTL_SRC 0)
   | 0x2413 => !d.bit (MOD.CTL_SRC 1)
   | 0x3000 | 0x8000 => !(d.engIs 0 0 || d.engIs 0 1)
   | 0x3010 | 0x8010 => !(d.engIs 1 0 || d.engIs 1 1)
   | 0x3021 => if h : v < 12 then !d.latchClearable ⟨v, h⟩ else false
   | 0x3041 => if h : 1 ≤ s ∧ s ≤ 4 then decide (v = 1) && (decide (d.get DE.STAT_OPSTATE = 6) || d.openCause ⟨s - 1, by omega⟩) else false
   | 0x3050 => decide (s = 1) && !d.shelfOk
   | _ => false)

/-- Is the data of a write of the object's length (R425)? -/
def lengthOk (r : Req) (o : Obj) : Bool :=
  decide (r.data.length = r.n) && (if o.ty = 0xE then decide ((r.n : Int) ≤ o.hi) else decide (r.n = tySize o.ty))

/-- May the value be written: the object's range and its own conditions (R425, R84, R339, R362, R389)? -/
def Dev.valueOk (d : Dev) (i s v : Nat) (o : Obj) : Bool :=
  decide (o.ty = 0xE) ||
  (d.objRangeOk i s o v &&
    (match i with
     | 0x2103 => decide (s ≠ 3) || decide (v ≤ 31)
     | 0x2801 => decide (v < 64) || decide (v = 255)
     | 0x3005 | 0x3015 => decide (v = 1) || decide (v = 2)
     | 0x7030 => decide (s ≠ 1) || decide (v = 1)
     | _ => if 0x5000 ≤ i ∧ i ≤ 0x5005 then safetyRange i s v else true))

/-- The existence of an object: 0x0609, 0x060A with the highest sub-index, or none (R422). -/
def existBar (i s : Nat) : Nat × Nat :=
  if (objOf i s).isSome then (0, 0) else if maxSub i = 0 then (0x0609, 0) else (0x060A, maxSub i)

/-- The checks of a read of any kind: abort code and cause, 0 for none. -/
def Dev.readBar (d : Dev) (r : Req) (o : Obj) : Nat × Nat :=
  if d.lifeBar r.idx r.sub o false then (0x0630, 0)
  else if d.accessBar r o false ≠ 0 then (d.accessBar r o false, 0)
  else if (o.gates / gServ % 2 = 1 ∧ d.get DE.STAT_OPSTATE ≠ 4) ∨ d.homeUp r.idx o = false then (0x0622, 0)
  else (0, 0)

/-- The checks of a write before its object's own. -/
def Dev.writeBar (d : Dev) (r : Req) (o : Obj) : Nat × Nat :=
  let v := leNat r.data
  if d.lifeBar r.idx r.sub o true then (0x0630, 0)
  else if d.accessBar r o true ≠ 0 then (d.accessBar r o true, 0)
  else if (o.gates / gServ % 2 = 1 ∧ d.get DE.STAT_OPSTATE ≠ 4) ∨ d.stateBar r.idx r.sub v o = true ∨ d.blockBar r.idx r.sub v o = true then (0x0622, 0)
  else if isOp r.idx = true ∧ r.sub = startSub r.idx then (0, 0)
  else if lengthOk r o = false ∨ d.valueOk r.idx r.sub v o = false then (0x0611, 0)
  else (0, 0)

/-! ### Answers with data -/

/-- Does a buffer lie in application SRAM, and is that powered? -/
def Dev.bufferOk (d : Dev) (a n : Nat) : Bool := decide (0x20000000 ≤ a) && decide (a + n ≤ 0x20200000) && d.domainUp 2

/-- The request is answered with what `resp` holds and with data, which a local requester finds in its buffer (R451). -/
def Dev.finish (d : Dev) (mem : Mem) (r : Req) (data : List (BitVec 8)) : Dev × Mem :=
  (d.reply r d.resp.code d.resp.detail data,
   match r.src with
   | .local t => if d.bufferOk (d.get (DE.LBUF_ADDR t)) data.length then mem.writeBytes (d.get (DE.LBUF_ADDR t)) data else mem
   | _ => mem)

/-- The request is answered with data. -/
def Dev.finishData (d : Dev) (mem : Mem) (r : Req) (data : List (BitVec 8)) : Dev × Mem :=
  (d.answer (leNat data) data.length).finish mem r data

/-! ### Reads (R435, R436) -/

/-- The value of an object for a reader; a read of `0x7010:01` draws the nonce (R94), one of `0x4C02:03` clears bit 7 of `LW6410` (R467). -/
def Dev.readValue (d : Dev) (mem : Mem) (i s : Nat) (o : Obj) (nonce : Nat) : List (BitVec 8) × Dev :=
  if i = 0x7010 ∧ s = 1 then (leList 16 nonce, d.modStart fun x => { x with nonce := some { value := nonce, readAt := d.now } })
  else (d.objBytes mem i s o, d.when (decide (i = 0x4C02) && decide (s = 3)) fun d => d.set PIER.LW6410_SRC6410 (d.get PIER.LW6410_SRC6410 % 128))

/-- A request for an object that passes its checks goes on; another is refused. -/
def Dev.checked (d : Dev) (mem : Mem) (r : Req) (bar : Obj → Nat × Nat) (go : Obj → Dev × Mem) : Dev × Mem :=
  match objOf r.idx r.sub with
  | none => (d.refuse r (existBar r.idx r.sub).1 (existBar r.idx r.sub).2, mem)
  | some o => if (bar o).1 = 0 then go o else (d.refuse r (bar o).1 (bar o).2, mem)

/-- OBJECT_READ (R432, R435): also a request with an operation that Table 15-6 does not have. -/
def execObjectRead (nonce : BitVec 128) (s : State) : Host.Outcome State Fault Refusal :=
  s.liftMem fun d mem =>
    match d.serve fun r => !isCustomer r.idx && !(decide (2 ≤ r.op) && decide (r.op ≤ 4)) with
    | none => (d, mem)
    | some (r, d1) =>
      d1.checked mem r (fun o => if r.op = 1 then d1.readBar r o else (0x0611, 0)) fun o =>
        let x := d1.readValue mem r.idx r.sub o nonce.toNat
        if 4086 < x.1.length then (d1.refuse r 0x0611 0, mem) else x.2.finishData mem r x.1

/-- READ_PART (R435). -/
def execReadPart (nonce : BitVec 128) (s : State) : Host.Outcome State Fault Refusal :=
  s.liftMem fun d mem =>
    match d.serve fun r => !isCustomer r.idx && decide (r.op = 3) with
    | none => (d, mem)
    | some (r, d1) =>
      d1.checked mem r (fun o => if (d1.readBar r o).1 ≠ 0 then d1.readBar r o else if 1 ≤ r.n ∧ r.n ≤ 4086 then (0, 0) else (0x0611, 0)) fun o =>
        let x := d1.readValue mem r.idx r.sub o nonce.toNat
        x.2.finishData mem r ((x.1.drop r.off).take r.n)

/-- The limits of an F32 object as bits: 0 to 8 for `ENVP` and `ENVN` (Table 13-6), else the finite numbers. -/
def f32Limits (i s : Nat) : Nat × Nat := if (i = 0x5003 ∨ i = 0x5004) ∧ (s = 5 ∨ s = 6) then (0, 0x41000000) else (0xFF7FFFFF, 0x7F7FFFFF)

/-- The descriptor of an object (Table 15-8). -/
def descriptor (i s : Nat) (o : Obj) : List (BitVec 8) :=
  let gates := o.gates ||| (if i / 0x1000 = 8 then gGrid else 0)
  let dflt := if tySigned o.ty then ofSigned 64 (toSigned (8 * tySize o.ty) o.dflt) else o.dflt
  leList 1 o.ty ++ leList 1 o.acc ++ leList 1 gates ++ leList 1 o.pers ++
  (if o.ty = 0xE then leList 8 0 ++ leList 8 o.hi.toNat ++ leList 8 o.dflt
   else if o.ty = 0xA then leList 8 (f32Limits i s).1 ++ leList 8 (f32Limits i s).2 ++ leList 8 dflt
   else leList 8 (ofSigned 64 o.lo) ++ leList 8 (ofSigned 64 o.hi) ++ leList 8 dflt) ++ leList 4 0

/-- DESCRIBE (R436): no gate applies. -/
def execDescribe (s : State) : Host.Outcome State Fault Refusal :=
  s.liftMem fun d mem =>
    match d.serve fun r => !isCustomer r.idx && decide (r.op = 4) with
    | none => (d, mem)
    | some (r, d1) => d1.checked mem r (fun _ => (0, 0)) fun o => d1.finishData mem r (descriptor r.idx r.sub o)

/-! ### Local requests (R451) -/

/-- LOCAL_REQUEST (R437, R450, R451): a write of `LCTLt`, with `GO` as bit 31; a write of 1 while `BUSY` submits nothing. -/
def execLocalRequest (m : Master) (t : Fin 5) (v : Word) (s : State) : Host.Outcome State Fault Refusal :=
  s.lift fun d =>
    let a := 0x40900100 + 0x10 * t.val
    if !d.mayWrite m a then d.busError m a true
    else
      let d1 := (d.regFieldsWrite m a v.toNat).busOk 0
      if !natBit v.toNat 31 || d.bit (DE.LCTL_BUSY t) then d1
      else
        let n := d1.get (DE.LRSP_LEN t)
        (d1.set (DE.LCTL_BUSY t) 1).enqueue
          { src := .local t, op := d1.get (DE.LCTL_OP t), idx := d1.get (DE.LCTL_INDEX t), sub := d1.get (DE.LCTL_SUB t), n := n,
            off := d1.get (DE.LPART_OFFSET t),
            data := if d1.get (DE.LCTL_OP t) = 2 then s.mem.readBytes (d1.get (DE.LBUF_ADDR t)) n else [] }

/-! ### Customer objects (R448, R449) -/

/-- Can server s (0-3 for targets 1-4) take a request: its span is powered, split where it is a hart's, and not parked (R341, R449)? -/
def Dev.serverPresent (d : Dev) (s : Fin 4) : Bool :=
  let sp : Fin 2 := if s.val < 2 then 0 else 1
  d.domainUp 2 && (decide (s.val % 2 = 0) || d.split sp) && decide (d.get (KS.SPSTAT_MODE sp) ≠ 2)

/-- The data that the engine hands to a server: the data of a write, the offset of a read part. -/
def Req.handed (r : Req) : List (BitVec 8) := if r.op = 3 then leList 4 r.off else r.data

/-- A request is handed to its server. -/
def Dev.handOver (d : Dev) (mem : Mem) (r : Req) (s : Fin 4) : Dev × Mem :=
  let t := s.val + 1
  let d1 := (d.setAll [(DE.CREQ_VALID t, 1), (DE.CREQ_OP t, r.op), (DE.CREQ_SUB t, r.sub), (DE.CREQ_INDEX t, r.idx), (DE.CINF_RLEN t, r.handed.length)]).edge 336
  (d1.modDict fun x => { x with cust := vset x.cust s (some r) },
   if d.bufferOk (d.get (DE.CBUF_ADDR t)) r.handed.length then mem.writeBytes (d.get (DE.CBUF_ADDR t)) r.handed else mem)

/-- CUSTOMER_REQUEST (R448, R449). -/
def execCustomerRequest (s : State) : Host.Outcome State Fault Refusal :=
  s.liftMem fun d mem =>
    match d.serve fun r => isCustomer r.idx with
    | none => (d, mem)
    | some (r, d1) =>
      match d1.custRange r.idx with
      | none => (d1.refuse r 0x0609 0, mem)
      | some k =>
        let sv := d1.get (DE.CUSTA_SERVER k)
        if h : 1 ≤ sv ∧ sv ≤ 4 then
          let c : Fin 4 := ⟨sv - 1, by omega⟩
          if d1.serverPresent c then d1.handOver mem r c else (d1.refuse r 0x0640 3, mem)
        else (d1.refuse r 0x0640 3, mem)

/-- CUSTOMER_RESPONSE (R449): a write of `CRSPs` with `DONE` as bit 31; one with no request in progress is late and counted. -/
def execCustomerResponse (m : Master) (sv : Fin 4) (v : Word) (s : State) : Host.Outcome State Fault Refusal :=
  s.liftMem fun d mem =>
    let t := sv.val + 1
    let a := 0x40900308 + 0x10 * t
    if !d.mayWrite m a then (d.busError m a true, mem)
    else
      let d1 := (d.regFieldsWrite m a v.toNat).busOk 0
      if !natBit v.toNat 31 then (d1, mem)
      else
        match vget d1.vol.dict.cust sv with
        | none => (d1.countSat (DE.CINF_CLATE t), mem)
        | some r =>
          let d2 := (d1.modDict fun x => { x with cust := vset x.cust sv none }).set (DE.CREQ_VALID t) 0
          if d2.get (DE.CRSP_CODE t) ≠ 0 then (d2.refuse r (d2.get (DE.CRSP_CODE t)) 0, mem)
          else d2.finishData mem r (if r.op = 2 then [] else mem.readBytes (d2.get (DE.CBUF_ADDR t)) (d2.get (DE.CRSP_LEN t)))

/-- CUSTOMER_TIMEOUT (R449). -/
def execCustomerTimeout (sv : Fin 4) (s : State) : Host.Outcome State Fault Refusal := s.lift fun d => d.custLate sv

end Sys2Proof.Machine
end

