-- ==== Sys2Proof/Machine/Dictionary.lean ====
section
/-! DEFINITION. The operating states and their commands (R438-R440), the writes of objects (R425-R433), the writes that resident firmware on
Truss performs (R427), and the records of accepted values (R429). -/

namespace Sys2Proof.Machine

/-! ### Operating-state commands (R439, R440) -/

/-- Is some line of class c or above latched for every bridge of a list? -/
def Dev.lineLatched (d : Dev) (c : Nat) (bs : List Bridge) : Bool :=
  (List.range 64).any fun l => decide (c ≤ d.classOf l) && d.bit (FCOL.STATUS_L l) && bs.all fun b => d.latchedFor b l

/-- The bridges that are ACTIVE stop, and the module enters READY when none is (R440, R352). -/
def Dev.readyLater (d : Dev) : Dev :=
  ((d.each bridges fun d b => d.when (d.active b) fun d => d.orderlyStop b).modDict fun x => { x with readyAsked := true }).readyEnd

/-- A command with target t: the code that refuses it, 0 where it is accepted, and what follows (Table 15-11, Table 3-12). -/
def Dev.opCommand (d : Dev) (t : Nat) : Nat × Dev :=
  let st := d.get DE.STAT_OPSTATE
  let lc := d.get LC.LCSTATE_STATE
  if t < 1 ∨ 4 < t then (0x0611, d)
  else if t = 3 ∧ (lc < 1 ∨ 5 < lc) then (0x0630, d)
  else if st = t then (0, d.modDict fun x => { x with readyAsked := false })
  else
    match st, t with
    | 1, 2 | 4, 2 => if allChans.all fun n => d.bit (GL.CHSTAT_LINK n) then (0, d.enterReady) else (0x0622, d)
    | 2, 1 | 4, 1 => (0, (d.each allChans fun d n => d.chanDisable n).opTo 1)
    | 1, 4 | 2, 4 => if d.active 0 || d.active 1 then (0x0622, d) else (0, d.opTo 4)
    | 2, 3 => if d.lineLatched 2 bridges then (0x0622, d) else (0, d.opTo 3)
    | 3, 2 => (0, d.readyLater)
    | 5, 2 => if d.lineLatched 3 [] then (0x0622, d) else (0, (d.each bridges fun d b => d.clearCauses b 1).enterReady)
    | _, _ => (0x0622, d)

/-- The command as a write of `0x1001:03`. -/
def Dev.opCommandObj (d : Dev) (t : Nat) : Dev :=
  let r := d.opCommand t
  if r.1 = 0 then r.2.answer 0 0 else r.2.abort 0x1001 3 r.1 0

/-- The command of the oldest message, answered by service 0x013. -/
def Dev.opCommandKinak (d : Dev) (t : Nat) : Dev :=
  match d.vol.net.inbox with
  | k :: rest =>
    if k.svc = 0x012 ∧ leNat (k.body.take 1) = t ∧ 1 ≤ d.get DE.STAT_OPSTATE then
      let r := (d.modNet fun n => { n with inbox := rest }).opCommand t
      let d1 := if r.1 = 0 then r.2 else r.2.abort 0x1001 3 r.1 0
      d1.sendMessage k.port k.node 0x013 k.prio k.tag (leList 1 t ++ leList 1 (d1.get DE.STAT_OPSTATE) ++ leList 2 r.1)
    else d
  | [] => d

/-- A command of either kind; in INIT nothing is served. -/
def Dev.stateCommand (d : Dev) (kinak : Bool) (t : Nat) : Dev :=
  if kinak then d.opCommandKinak t else if d.get DE.STAT_OPSTATE = 0 then d else d.opCommandObj t

/-- STATE_COMMAND_STANDBY (R440). -/
def execStateCommandStandby (kinak : Bool) (s : State) : Host.Outcome State Fault Refusal := s.lift fun d => d.stateCommand kinak 1
/-- STATE_COMMAND_READY (R440). -/
def execStateCommandReady (kinak : Bool) (s : State) : Host.Outcome State Fault Refusal := s.lift fun d => d.stateCommand kinak 2
/-- STATE_COMMAND_RUN (R440). -/
def execStateCommandRun (kinak : Bool) (s : State) : Host.Outcome State Fault Refusal := s.lift fun d => d.stateCommand kinak 3
/-- STATE_COMMAND_SERVICE (R440). -/
def execStateCommandService (kinak : Bool) (s : State) : Host.Outcome State Fault Refusal := s.lift fun d => d.stateCommand kinak 4

/-! ### Claims of the engine (R39, R166) -/

/-- The resources of a page are claimed for function f and committed; the detail of a failure is the owner of the lowest one that failed. -/
def Dev.claimFor (d : Dev) (pg f : Nat) (is : List Nat) : Nat × Dev :=
  let need := is.filter fun i => decide (d.get (OWN.R_OWNER pg i) ≠ f)
  if need.isEmpty then (0, d)
  else
    let d0 := d.each need fun d i => d.reqWrite .dict pg i f
    let d1 := ({ d0.commitPage .dict pg with bus := d.bus })
    match (d0.commitFailing .dict pg).head? with
    | some i => (d1.get (OWN.R_OWNER pg i), d1)
    | none => (0, d1)

/-! ### Writes of registers through objects -/

/-- Fields take their parts of a value. -/
def Dev.takeParts (d : Dev) (fs : List (Fld × Nat)) (v : Nat) : Dev :=
  d.each fs fun d f => d.set f.1 (storedValue f.1 (natField v f.2 f.1.width))

/-- The value reaches the fields behind its object, as a fabric write (R427). -/
def Dev.writeMirror (d : Dev) (i s v : Nat) (o : Obj) : Dev :=
  match o.addr with
  | some a => d.followWrite (d.takeParts (o.fields.filter fun f => !notStored f.1) v) a
  | none => d.loadObj i s v

/-- The register at an address with some of its fields replaced. -/
def Dev.mergedWord (d : Dev) (a : Nat) (fs : List (Fld × Nat)) (v : Nat) : Nat :=
  fs.foldl (fun w f => w - natField w f.1.lo f.1.width * 2 ^ f.1.lo + natField v f.2 f.1.width * 2 ^ f.1.lo) (d.regWord a)

/-- Compare units (R166): the unit is claimed for function 0x08 + p, then written. DESIGN CHOICE (log 192): the object of `CMPCTL` clears `HIT` and
`BEHIND` written 1, as the register does. -/
def Dev.writeCompare (d : Dev) (p : Fin 2) (i s v : Nat) : Dev :=
  let u := (s - 1) / 4
  let c := d.claimFor (2 + p.val) (8 + p.val) [u]
  if c.1 ≠ 0 then c.2.abort i s 0x0650 c.1
  else
    let w := d.regWord (POS.CMPCTL_ARM p u).addr
    (match (s - 1) % 4 with
     | 0 => c.2.cmpWrite p u (.control (BitVec.ofNat 32 v))
     | 1 => c.2.cmpWrite p u (.value (BitVec.ofNat 32 v))
     | 2 => c.2.set (POS.CMPSTEP_CMPSTEP p u) v
     | _ => c.2.cmpWrite p u (.control (BitVec.ofNat 32 (w % 8 / 2 * 2 + v % 2)))).answer 0 0

/-- The emulator (R160, R166): with `EN` 1 the three pins are claimed for function 0x08 + p. -/
def Dev.writeEmulator (d : Dev) (p : Fin 2) (i s v : Nat) (o : Obj) : Dev :=
  let c := if natBit v 0 then d.claimFor 0 (8 + p.val) [0, 1, 2] else (0, d)
  if c.1 ≠ 0 then c.2.abort i s 0x0650 c.1 else (c.2.writeMirror i s v o).answer 0 0

/-- Gate channel n (R263, R286): `EN` is judged with the rest of `CHCFGn`. -/
def Dev.writeChannel (d : Dev) (n : Chan) (i s v : Nat) (o : Obj) : Dev :=
  if natBit v 31 && !d.enableAccepted n then (d.set (GL.CHSTAT_ENREJ n) 1).abort i s 0x0622 0
  else
    let d1 := d.writeMirror i s v o
    (if natBit v 31 then d1.chanEnable n else d1.chanDisable n).answer 0 0

/-- The modulator's control and group objects (R230). -/
def Dev.writeModulator (d : Dev) (x : Bridge) (i s v : Nat) (o : Obj) (guard : Bool) : Dev :=
  (match i % 16, s with
   | 0, 1 | 2, 2 => d.modCtlWrite x (d.mergedWord (MOD.CTL_EN x).addr o.fields v) (decide (s = 1))
   | 0, 2 => d.modDeadWrite x v
   | 0, 3 => d.groupWrite x 0 v guard
   | 3, 9 => if v = 1 ∧ d.bit (MOD.CTL_GRP x) = true then d.commitRegs x allRegs guard else d
   | 3, k => if h : 1 ≤ k ∧ k ≤ 8 then d.groupWrite x ⟨k - 1, by omega⟩ v guard else d
   | _, _ => d.writeMirror i s v o).answer 0 0

/-- Start and stop of bridge b (R442): a start that passes its conditions waits for the path test. -/
def Dev.writeStart (d : Dev) (r : Req) (b : Bridge) (v : Nat) : Dev :=
  if v = 2 then (d.when (d.active b) fun d => d.orderlyStop b).answer 0 0
  else if (d.startChecks b).all fun c => c.1 then
    (d.modEng b fun e => { e with pathTest := true }).modDict fun x => { x with start := some r }
  else (d.flagChecks (d.startChecks b)).abort r.idx r.sub 0x0622 0

/-- The control objects of bridge b (Table 6-10, R180, R193, R199, R252). -/
def Dev.writeControl (d : Dev) (r : Req) (v : Nat) : Dev :=
  let b := bridgeOf r.idx
  let i := r.idx
  match i % 16 with
  | 0 => (d.roleWrite b v).answer 0 0
  | 1 => ((d.setObjVal i r.sub v).when (decide (r.sub = 1)) fun d => d.clearAct b).answer 0 0
  | 2 =>
    let d1 := d.setObjVal i r.sub v
    (d1.when (decide (r.sub ≤ 2)) fun d => (d.setBatteryLimits b (d.objVal i 1 0) (d.objVal i 2 0)).set (CE.BSTAT_BMS_STALE b) 0).answer 0 0
  | 3 => (d.loadObj i r.sub v).answer 0 0
  | 5 => d.writeStart r b v
  | _ => if v = 1 then d.testStart b true else d.answer 0 0

/-- Domain requests, shelf and the wake failure through `0x3050` (R455, R479). -/
def Dev.writePower (d : Dev) (s v : Nat) (g : SpanSigs) : Dev :=
  if s = 1 then (d.modPier fun q => { q with shutdown := true }).answer 0 0
  else if s = 9 then (if v = 1 then d.set PIER.CTL_WFAIL 0 else d).answer 0 0
  else
    let p : Fin 9 := ⟨min s 8, by omega⟩
    (match v with
     | 1 => d.retRequest p g.a0 g.a1 g.b0 g.b1
     | 2 => d.entryRequest p true false
     | _ => d.onRequest p v).answer 0 0

/-- Is an object served by resident firmware on Truss (R427)? -/
def trussServed (i s : Nat) : Bool :=
  decide (i = 0x2701) || decide (i = 0x2801) || decide (i = 0x3040) || decide (i = 0x3041) || (decide (i = 0x2700) && decide (4 ≤ s))

/-- A write that reaches the device alone, by the object's index. -/
def Dev.writeDev (d : Dev) (r : Req) (v : Nat) (o : Obj) (guard : Bool) (g : SpanSigs) : Dev :=
  let i := r.idx
  let s := r.sub
  if trussServed i s then (d.modDict fun x => { x with truss := x.truss ++ [(objKey i s, v)] }).answer 0 0
  else if o.pers = 2 then (d.setStored (objKey i s) (if o.ty = 0xE then bytesCode r.data else v)).answer 0 0
  else if 0x5000 ≤ i ∧ i ≤ 0x5005 then (d.setStaging i s v).answer 0 0
  else if 0x2500 ≤ i ∧ i ≤ 0x250B ∧ s = 1 then d.writeChannel ⟨(i - 0x2500) % 12, by omega⟩ i s v o
  else if 0x3000 ≤ i ∧ i ≤ 0x3016 then d.writeControl r v
  else
    match i with
    | 0x1001 => d.opCommandObj v
    | 0x2010 => d.bootOption s v
    | 0x2103 => if s = 3 then ((d.set AS.CALCTL_CALNOW_S v).set AS.CALCTL_CALNOW 1).answer 0 0 else (d.writeMirror i s v o).answer 0 0
    | 0x2204 => d.writeCompare 0 i s v
    | 0x2205 => d.writeCompare 1 i s v
    | 0x2206 => d.writeEmulator 0 i s v o
    | 0x2207 => d.writeEmulator 1 i s v o
    | 0x2400 | 0x2402 | 0x2403 => d.writeModulator 0 i s v o guard
    | 0x2410 | 0x2412 | 0x2413 => d.writeModulator 1 i s v o guard
    | 0x3020 => (if v = 1 then d.dscRequest else d.dscEnd).answer 0 0
    | 0x3021 => if h : v < 12 then (d.clearLatch ⟨v, h⟩).answer 0 0 else d.abort i s 0x0611 0
    | 0x3050 => d.writePower s v g
    | 0x4710 => d.dbglsWrite (decide (v = 1))
    | 0x6010 => ((d.setObjVal i s v).modDict fun x => { x with tempAt := some d.now }).answer 0 0
    | 0x8000 => (d.roleWrite 0 v).answer 0 0
    | 0x8010 => (d.roleWrite 1 v).answer 0 0
    | _ => (d.writeMirror i s v o).answer 0 0

/-- Capture's objects reach the memory as well (R501, R502). -/
def Dev.writeCapture (d : Dev) (mem : Mem) (i s v : Nat) : Dev × Mem :=
  if i = 0x2B00 then
    let c : Fin 8 := ⟨(s - 1) / 2 % 8, by omega⟩
    let r := d.capWrite mem .dict c (decide (s % 2 = 0)) v
    (if r.2.2 then r.1.abort i s 0x0650 (r.1.capDetail c) else r.1.answer 0 0, r.2.1)
  else
    let cs := capChans.filter fun c => natBit v c.val
    if s = 1 then ((d.each cs Dev.capTrigger).answer 0 0, mem)
    else
      let r := Dev.capStopAll cs d mem
      (r.1.answer 0 0, r.2)

/-! ### Stepped operations as objects (R443, R445) -/

/-- The states in which an operation may start (Table 15-14); of LOCKOUT as Table 15-12 says. -/
def Dev.opStateOk (d : Dev) (i : Nat) : Bool :=
  let st := d.get DE.STAT_OPSTATE
  match i with
  | 0x7001 => decide (st ≠ 0) && decide (st ≠ 3) && decide (st ≠ 6)
  | 0x7002 => decide (1 ≤ st) && decide (st ≤ 4)
  | 0x7004 => decide (d.bootMode = 1) && decide (st ≠ 0) && decide (st ≠ 6)
  | 0x7010 => d.transState
  | 0x7012 => decide (st ≠ 0) && decide (st ≠ 6)
  | 0x7020 => decide (st = 4)
  | 0x7030 => [1, 2, 4, 5, 6].contains st
  | _ => decide (st ≠ 0)

/-- Can an operation be cancelled (Table 15-14)? -/
def cancellable (i : Nat) : Bool := [0x7001, 0x7002, 0x7004, 0x7040, 0x7050].contains i

/-- A cancel of operation i: it ends at its next step boundary. -/
def Dev.opCancel (d : Dev) (i : Nat) : Dev :=
  if cancellable i then
    (d.modDict fun x => { x with ops := x.ops.map fun o => if o.1 = i then (i, true) else o }).answer 0 0
  else d.abort i 0xFE 0x0622 0

/-- A start write: no operation of this index runs, fewer than four run, and its conditions hold; the value is its argument. -/
def Dev.opStartWrite (d : Dev) (r : Req) (v : Nat) (o : Obj) : Dev :=
  let i := r.idx
  let fits := lengthOk r o && d.valueOk i r.sub v o
  let d0 := d.when (decide (i = 0x7010) && !d.opRunning i && (d.sigBarred || !d.opStateOk i || !d.opFree i || !fits)) Dev.spendNonce
  if i = 0x7010 ∧ d.sigBarred = true then d0.abort i r.sub 0x0660 0
  else if d.opRunning i then (if d.opStateOk i then d.abort i r.sub 0x0640 2 else d.abort i r.sub 0x0622 0)
  else
    let b := d0.opAdmit i r.sub (d.opStateOk i) fits
    if b.2 then (b.1.setObjVal i r.sub v).when (decide (i = 0x7030)) Dev.shutdownBegin else b.1

/-- A write of an object of a stepped operation. -/
def Dev.writeOp (d : Dev) (r : Req) (v : Nat) (o : Obj) : Dev :=
  if r.sub = 0xFE then (if v = 1 then d.opCancel r.idx else d.answer 0 0)
  else if r.sub = startSub r.idx then d.opStartWrite r v o
  else if o.ty = 0xE then (d.setDomain r.idx r.sub r.data).answer 0 0
  else (d.setObjVal r.idx r.sub v).answer 0 0

/-! ### OBJECT_WRITE -/

/-- Does a value wait for the next start (R427): "next start", as `0x2800` too (R362), or a locked RWL field? -/
def Dev.nextStart (d : Dev) (i : Nat) (o : Obj) : Bool :=
  decide (o.gates / gNext % 2 = 1) || decide (i = 0x2800) || (o.fields.any fun f => decide (f.1.acc = .rwl) && d.lockedAt f.1.addr)

/-- Is the value stored without being applied (R427, R452): until the next start, or the wake of a domain in retention or off? -/
def Dev.deferred (d : Dev) (i : Nat) (o : Obj) : Bool :=
  d.nextStart i o || (decide (o.pers = 1) && !d.homeUp i o)

/-- An accepted value of an MRAM object goes to its store (R427, R429), and one for a domain in retention or off waits for its wake (R452); the
detail of the response. -/
def Dev.keep (d0 : Dev) (r : Req) (v : Nat) (o : Obj) (later : Bool) : Dev :=
  let d := d0.when (decide (d0.resp.code = 0) && decide (o.pers = 1) && !d0.homeUp r.idx o && !d0.nextStart r.idx o) fun d =>
    d.modDict fun x => { x with onWake := x.onWake ++ [(objKey r.idx r.sub, v)] }
  if d.resp.code ≠ 0 then d
  else if o.pers = 1 ∧ ¬(0x5000 ≤ r.idx ∧ r.idx ≤ 0x5FFF) ∧ r.idx ≠ 0x4710 then
    if d.lands.failN then
      { d.modDict (fun x => { x with stores := x.stores ++ [(objKey r.idx r.sub, v)] }) with resp := { d.resp with detail := if later then 1 else 0 } }
    else { d with resp := { d.resp with detail := 2 } }
  else d

/-- A write that passed its checks. -/
def Dev.objectWrite (d : Dev) (mem : Mem) (r : Req) (o : Obj) (guard : Bool) (g : SpanSigs) : Dev × Mem :=
  let v := leNat r.data
  if isOp r.idx then (d.writeOp r v o, mem)
  else
    let later := d.deferred r.idx o
    let x := if later then (d.answer 0 0, mem)
      else if r.idx = 0x2B00 ∨ r.idx = 0x3060 then d.writeCapture mem r.idx r.sub v
      else (d.writeDev r v o guard g, mem)
    (x.1.keep r v o later, x.2)

/-- Does the object's own check of the state, which comes before that of the range, refuse the write (R432)? -/
def Dev.ownBar (d : Dev) (r : Req) (v : Nat) : Bool :=
  match r.idx with
  | 0x1001 => decide (r.sub = 3) && decide (1 ≤ v) && decide (v ≤ 4) && decide ((d.opCommand v).1 ≠ 0)
  | 0x3005 => decide (v = 1) && !(d.startChecks 0).all fun c => c.1
  | 0x3015 => decide (v = 1) && !(d.startChecks 1).all fun c => c.1
  | 0x4710 => decide (r.sub = 3) && !d.dbglsClearable
  | i => decide (0x2500 ≤ i) && decide (i ≤ 0x250B) && decide (r.sub = 1) && natBit v 31 && !d.enableAccepted ⟨(i - 0x2500) % 12, by omega⟩

/-- The checks of a write: where the object's own check of the state fails, the write goes on to it instead of answering 0x0611; every start of a
transition is judged by R95 itself. -/
def Dev.writeChecks (d : Dev) (r : Req) (o : Obj) : Nat × Nat :=
  let b := d.writeBar r o
  if (decide (b.1 = 0x0611) && !d.deferred r.idx o && d.ownBar r (leNat r.data)) || (decide (b.1 = 0x0622) && decide (r.idx = 0x7010) && decide (r.sub = 5)) then (0, 0)
  else b

/-- Is an object one of the maker's that clear a record (R129, R315, log 178)? -/
def makerObject (r : Req) : Bool :=
  decide (0xF000 ≤ r.idx) && decide (r.idx ≤ 0xFFFF) && (decide (Config.makerClears (objKey r.idx r.sub) = 1) || decide (Config.makerClears (objKey r.idx r.sub) = 2))

/-- A write of such an object: in MAKER, and in RETURN after a maker authentication (Table 3-12), the failed-converter record (R129) or the
retired-hart record (R315) is cleared; in LOCKOUT no write is served (R441). -/
def Dev.makerWrite (d : Dev) (r : Req) : Dev :=
  let lc := d.get LC.LCSTATE_STATE
  if !(decide (lc = 1) || (decide (lc = 5) && d.vol.start.makerAuth)) then d.refuse r 0x0630 0
  else if d.get DE.STAT_OPSTATE = 6 then d.refuse r 0x0622 0
  else
    let n := if Config.makerClears (objKey r.idx r.sub) = 1 then { d.nv with convRecord := 0 } else { d.nv with retired := 0 }
    ({ d with nv := n }.answer 0 0).reply r 0 0 []

/-- OBJECT_WRITE (R425-R433, R437): a bridge start is answered at the end of its path test; `g` holds the signatures of the spans' harts, which
a request for retention of their domain scrubs (R338). -/
def execObjectWrite (guard : Bool) (g : SpanSigs) (s : State) : Host.Outcome State Fault Refusal :=
  s.liftMem fun d mem =>
    match d.serve fun r => !isCustomer r.idx && decide (r.op = 2) with
    | none => (d, mem)
    | some (r, d1) =>
      if makerObject r then (d1.makerWrite r, mem) else
      d1.checked mem r (d1.writeChecks r) fun o =>
        let x := d1.objectWrite mem r o guard g
        if x.1.vol.dict.start.isSome then x else x.1.finish x.2 r []

/-- The start that waits is answered. -/
def Dev.startAnswered (d : Dev) (b : Bridge) : Dev :=
  match d.vol.dict.start with
  | some r => if r.idx = startObj b then (d.modDict fun x => { x with start := none }).reply r d.resp.code d.resp.detail [] else d
  | none => d

/-- STO_PATH_TEST_END (R370): with the conditions still met the start is accepted, and PRESET follows at the next tick; a
path that does not follow sets `PATHF` and refuses the start. -/
def execStoPathTestEnd (b : Bridge) (follows : Bool) (s : State) : Host.Outcome State Fault Refusal :=
  s.lift fun d =>
    if (d.engS b).pathTest then
      let d1 := d.modEng b fun e => { e with pathTest := false }
      (if !follows then ((d1.set (SIO.STO_PATHF b) 1).stoDiag b).abort (startObj b) 1 0x0622 0
       else if (d1.startChecks b).all fun c => c.1 then (d1.modEng b fun e => { e with starting := true }).answer 0 0
       else (d1.flagChecks (d1.startChecks b)).abort (startObj b) 1 0x0622 0).startAnswered b
    else d

/-! ### Truss and the records -/

/-- Truss performs an accepted write (R321, R339, R349, R356, R371, R373). -/
def Dev.trussWrite (d : Dev) (k v : Nat) : Dev :=
  let i := k / 256
  let s := k % 256
  match i with
  | 0x2701 => if v = 1 then d.spanRestart (if s = 1 then 0 else 1) else d
  | 0x2801 => if v < 64 then d.clearLines [v] else d.clearLines (List.range 64)
  | 0x3040 => (d.set SIO.SWREQ_OBJSS1 v).safetyFollow
  | 0x3041 => if h : 1 ≤ s ∧ s ≤ 4 then d.modSafe fun x => { x with ctr := vset x.ctr ⟨s - 1, by omega⟩ (some (decide (v = 1))) } else d
  | _ => match objOf i s with | some o => d.writeMirror i s v o | none => d

/-- TRUSS_SERVED_WRITE (R427): the oldest accepted write, in a frame of Truss. -/
def execTrussServedWrite (s : State) : Host.Outcome State Fault Refusal :=
  s.lift fun d =>
    match d.vol.dict.truss with
    | (k, v) :: t => if d.trussWorks then (d.modDict fun x => { x with truss := t }).trussWrite k v else d
    | [] => d

/-- PERSISTENCE_STORE (R429): the record of the oldest accepted value, in both copies; source 341 when none is left. -/
def execPersistenceStore (s : State) : Host.Outcome State Fault Refusal :=
  s.liftMem fun d mem =>
    match d.vol.dict.stores with
    | (k, v) :: t =>
      let r := (d.modDict fun x => { x with stores := t }).storeRecord mem k v
      (r.1.when t.isEmpty fun d => d.edge 341, r.2)
    | [] => (d, mem)

end Sys2Proof.Machine
end

