-- ==== Sys2Proof/Machine/Operations.lean ====
section
/-! DEFINITION. The steps of stepped operations and their cancelling (R443-R445), the restore of defaults, and the image operations
(R447). -/

namespace Sys2Proof.Machine

/-- STEP (R443, R445): between requests the operation whose turn it is takes a step and shows its progress, source 337, or ends CANCELLED. -/
def execStep (prog : Fin 101) (s : State) : Host.Outcome State Fault Refusal :=
  s.lift fun d =>
    if d.nextReq.isSome then d
    else
      match d.vol.dict.ops with
      | [] => d
      | (i, true) :: _ => d.opEnd i 4 0
      | (i, false) :: t => ((d.modDict fun x => { x with ops := t ++ [(i, false)] }).setHandle i 1 prog.val 0).edge 337

/-- STEPPED_CANCEL (R441, R445): a write of 1 to sub-index 0xFE. -/
def execSteppedCancel (idx : BitVec 16) (s : State) : Host.Outcome State Fault Refusal :=
  s.lift fun d =>
    if d.get DE.STAT_OPSTATE = 0 then d
    else if !isOp idx.toNat then d.abort idx.toNat 0xFE (if maxSub idx.toNat = 0 then 0x0609 else 0x060A) (maxSub idx.toNat)
    else if d.get DE.STAT_OPSTATE = 6 then d.abort idx.toNat 0xFE 0x0622 0
    else d.opCancel idx.toNat

/-! ### Restore defaults (R447) -/

/-- Does a restore of index i (0: of every index) reach the record of key k: an MRAM object outside the safety set? -/
def restores (i k : Nat) : Bool :=
  let x := k / 256
  (if i = 0 then (decide (0x1000 ≤ x) && decide (x ≤ 0x4FFF)) || decide (x / 0x1000 = 8) else decide (x = i) && !(decide (0x5000 ≤ x) && decide (x ≤ 0x5FFF))) &&
  (match objOf x (k % 256) with
   | some o => decide (o.pers = 1)
   | none => false)

/-- The records that State holds under a name of their own; the failed-converter record, the retired-hart record and the debug count stay, which
R129, R315 and R333 let nothing else clear (log 102). -/
def NonVol.restoreHeld (n : NonVol) (i : Nat) : NonVol :=
  let hit := fun x => decide (i = 0) || decide (i = x)
  { n with failovers := if hit 0x4101 then 0 else n.failovers
           thLatch := if hit 0x4602 then 0 else n.thLatch
           lifeDissents := if hit 0x4710 then 0 else n.lifeDissents
           dbgls := !hit 0x4710 && n.dbgls
           faultHist := if hit 0x4801 then [] else n.faultHist }

/-- RESTORE_DEFAULTS (R447): the records go, with the values that wait for theirs; what is in force stays until the next start. -/
def execRestoreDefaults (idx : BitVec 16) (s : State) : Host.Outcome State Fault Refusal :=
  s.lift fun d =>
    let b := d.opBegin 0x7001 1 [(1, idx.toNat)] (d.opStateOk 0x7001) true
    let i := b.1.objVal 0x7001 1 0
    if b.2 then
      (({ b.1 with nv := { b.1.nv with objs := b.1.nv.objs.filter fun kv => !restores i kv.1 }.restoreHeld i }).modDict fun x =>
        { x with stores := x.stores.filter fun kv => !restores i kv.1 }).opDone 0x7001
    else b.1

/-! ### Image operations (R447) -/

/-- Does option n of an image operation go on: the operation runs with it, or starts with it now? -/
def Dev.imageBegin (d : Dev) (i n : Nat) : Dev × Bool :=
  let b := d.opBegin i 4 [(4, n)] (d.opStateOk i) true
  (b.1, b.2 && decide (b.1.objVal i 4 0 = n))

/-- The address of a flash command of the operation, which R90 refuses while another one runs or its bank executes in place (R91): the flag, and
the failure of the operation. -/
def Dev.flashBegin (d : Dev) (a : Nat) : Dev × Bool :=
  let d1 := d.set LC.FLADDR_V a
  if d1.bit LC.FLCTL_BUSY then ((d1.set LC.FLCTL_OVERRUN 1).opFail 0x7002 0x0622, false)
  else if d1.bankRuns a then ((d1.set LC.FLCTL_REFUSED 1).opFail 0x7002 0x0622, false)
  else (d1, true)

/-- IMAGE_ERASE_BANK (R447, R90, R91). -/
def execImageEraseBank (readBackOk : Bool) (s : State) : Host.Outcome State Fault Refusal :=
  s.liftMem fun d mem =>
    let b := d.imageBegin 0x7002 1
    if !b.2 then (b.1, mem)
    else
      let bank := b.1.objVal 0x7002 1 0
      let a := 0x08000000 + 0x800000 * (bank % 2)
      if 1 < bank then (b.1.opFail 0x7002 0x0611, mem)
      else
        let f := b.1.flashBegin a
        if !f.2 then (f.1, mem)
        else if readBackOk then (f.1.opDone 0x7002, mem.clearRange a (a + 0x800000))
        else
          let x := (f.1.set LC.FLCTL_ERR 1).flashOpen mem { code := 3, addr := a, line := 0 }
          (x.1.opFail 0x7002 0x0611, x.2)

/-- The first line of n that is not erased, or whose read-back `fail` names as wrong. -/
def failingLine (mem : Mem) (a n : Nat) (fail : Option (Fin 255)) : Option Nat :=
  (List.range n).find? fun k => decide (fail.map (·.val) = some k) || !lineErased mem (a + 16 * k)

/-- `FLADDR` and `FLDATA` hold the line that was programmed last. -/
def Dev.flashLine (d : Dev) (a : Nat) (line : List (BitVec 8)) : Dev :=
  (d.set LC.FLADDR_V a).each [0, 1, 2, 3] fun d i => d.set (LC.FLDATA_V i) (leNat ((line.drop (4 * i)).take 4))

/-- The span of the data staged for an image operation: its offset and length are whole lines within `size` bytes. -/
def Dev.stagedOk (d : Dev) (i size : Nat) : Bool :=
  let n := (d.domain i 3).length
  decide (d.objVal i 2 0 % 16 = 0) && decide (n % 16 = 0) && decide (d.objVal i 2 0 + n ≤ size)

/-- IMAGE_PROGRAM (R447, R90, R91): the staged bytes, line by line; the first line that is not erased, or whose read-back fails, ends the operation with
open contents in that line. -/
def execImageProgram (fail : Option (Fin 255)) (s : State) : Host.Outcome State Fault Refusal :=
  s.liftMem fun d mem =>
    let b := d.imageBegin 0x7002 2
    if !b.2 then (b.1, mem)
    else
      let bank := b.1.objVal 0x7002 1 0
      let v := b.1.domain 0x7002 3
      let a := 0x08000000 + 0x800000 * (bank % 2) + b.1.objVal 0x7002 2 0
      if 1 < bank ∨ b.1.stagedOk 0x7002 0x800000 = false then (b.1.opFail 0x7002 0x0611, mem)
      else if v.isEmpty then (b.1.opDone 0x7002, mem)
      else
        let f := b.1.flashBegin a
        if !f.2 then (f.1, mem)
        else
          match failingLine mem a (v.length / 16) fail with
          | none => ((f.1.flashLine (a + v.length - 16) (v.drop (v.length - 16))).opDone 0x7002, mem.writeBytes a v)
          | some k =>
            let x := ((f.1.flashLine (a + 16 * k) ((v.drop (16 * k)).take 16)).set LC.FLCTL_ERR 1).drawBytes 16
            (x.2.opFail 0x7002 0x0611, (mem.writeBytes a (v.take (16 * k))).writeBytes (a + 16 * k) x.1)

/-- NETWORK_LOAD_PROGRAM (R447): the staged bytes go into application SRAM. -/
def execNetworkLoadProgram (s : State) : Host.Outcome State Fault Refusal :=
  s.liftMem fun d mem =>
    let b := d.imageBegin 0x7004 2
    if !b.2 then (b.1, mem)
    else if !b.1.stagedOk 0x7004 0x200000 then (b.1.opFail 0x7004 0x0611, mem)
    else if !b.1.domainUp 2 then (b.1.opFail 0x7004 0x0622, mem)
    else (b.1.opDone 0x7004, mem.writeBytes (0x20000000 + b.1.objVal 0x7004 2 0) (b.1.domain 0x7004 3))

/-- NETWORK_IMAGE_START (R83, R86, R447): the image in application SRAM is verified and started; a bad one ends with 0x0660. -/
def execNetworkImageStart (s : State) : Host.Outcome State Fault Refusal :=
  s.liftMem fun d mem =>
    let b := d.imageBegin 0x7004 1
    if !b.2 then (b.1, mem)
    else if !b.1.imageValid mem 0x20000000 then
      ((b.1.when (imageMagic mem 0x20000000) fun d => (d.set LC.BOOTSTAT_IMG_BAD 1).assertLine 7 0).opFail 0x7004 0x0660, mem)
    else
      let x := (b.1.set LC.BOOTSTAT_IMG_SRC 3).runImage mem 0x20000000
      (x.1.opDone 0x7004, x.2)

end Sys2Proof.Machine
end

