-- ==== Sys2Proof/Machine/Dispatch.lean ====
section
/-! DEFINITION. One arm per command: the meaning it calls, or its refusal by name where it has none yet. -/

namespace Sys2Proof.Machine

open Host

def exec (i : Instr) (s : State) : Host.Outcome State Fault Refusal :=
  match i with
  | .registerWrite m a d => Sys2Proof.Machine.execRegisterWrite m a d s
  | .lockSet m k d => Sys2Proof.Machine.execLockSet m k d s
  | .unmappedAccess m a write => Sys2Proof.Machine.execUnmappedAccess m a write s
  | .ownerReqWrite m pg k1 id => Sys2Proof.Machine.execOwnerReqWrite m pg k1 id s
  | .ownershipCommit m pg => Sys2Proof.Machine.execOwnershipCommit m pg s
  | .domainGateWrite m n v => Sys2Proof.Machine.execDomainGateWrite m n v s
  | .throttleChange n => Sys2Proof.Machine.execThrottleChange n s
  | .rootClockCheck count => Sys2Proof.Machine.execRootClockCheck count s
  | .powerOnReset => Sys2Proof.Machine.execPowerOnReset s
  | .supplyUndervoltage v => Sys2Proof.Machine.execSupplyUndervoltage v s
  | .supplyRestored v => Sys2Proof.Machine.execSupplyRestored v s
  | .supplyReset v => Sys2Proof.Machine.execSupplyReset v s
  | .pinReset => Sys2Proof.Machine.execPinReset s
  | .softwareReset m d => Sys2Proof.Machine.execSoftwareReset m d s
  | .internalResetRelease mode => Sys2Proof.Machine.execInternalResetRelease mode s
  | .rootPllLocked badOne badBoth sets calFailed => Sys2Proof.Machine.execRootPllLocked badOne badBoth sets calFailed s
  | .rootLockTimeout => Sys2Proof.Machine.execRootLockTimeout s
  | .rootLockRetry => Sys2Proof.Machine.execRootLockRetry s
  | .startBistComplete pass part sig => Sys2Proof.Machine.execStartBistComplete pass part sig s
  | .canPortsEvent => Sys2Proof.Machine.execCanPortsEvent s
  | .startSequenceComplete => Sys2Proof.Machine.execStartSequenceComplete s
  | .flashProgram m => Sys2Proof.Machine.execFlashProgram m s
  | .flashEraseSector m => Sys2Proof.Machine.execFlashEraseSector m s
  | .flashEraseBank m => Sys2Proof.Machine.execFlashEraseBank m s
  | .flashCommandDone readBackOk => Sys2Proof.Machine.execFlashCommandDone readBackOk s
  | .lcNonceRead nonce => Sys2Proof.Machine.execLcNonceRead nonce s
  | .nonceLapse => Sys2Proof.Machine.execNonceLapse s
  | .lcTransitionStart target => Sys2Proof.Machine.execLcTransitionStart target s
  | .fuseBurnComplete word => Sys2Proof.Machine.execFuseBurnComplete word s
  | .bootOptionWrite sub value => Sys2Proof.Machine.execBootOptionWrite sub value s
  | .arbRaise arb rev0 rev1 custOk => Sys2Proof.Machine.execArbRaise arb rev0 rev1 custOk s
  | .resultPresented k k1 v vref n => Sys2Proof.Machine.execResultPresented k k1 v vref n s
  | .queueEntryWrite q => Sys2Proof.Machine.execQueueEntryWrite q s
  | .queuePop m q => Sys2Proof.Machine.execQueuePop m q s
  | .queueDiscard m q v => Sys2Proof.Machine.execQueueDiscard m q v s
  | .queueOvfClear m q entry => Sys2Proof.Machine.execQueueOvfClear m q entry s
  | .sliceConfigWrite m k v => Sys2Proof.Machine.execSliceConfigWrite m k v s
  | .scanModeChange k => Sys2Proof.Machine.execScanModeChange k s
  | .groupTrigger src atSlot => Sys2Proof.Machine.execGroupTrigger src atSlot s
  | .groupSwtrig m g => Sys2Proof.Machine.execGroupSwtrig m g s
  | .calSlotStart r => Sys2Proof.Machine.execCalSlotStart r s
  | .calnowRequest m obj k => Sys2Proof.Machine.execCalnowRequest m obj k s
  | .converterNoResult k n => Sys2Proof.Machine.execConverterNoResult k n s
  | .encoderEdge p a b t => Sys2Proof.Machine.execEncoderEdge p a b t s
  | .indexEvent p z => Sys2Proof.Machine.execIndexEvent p z s
  | .compareArm m p k1 w => Sys2Proof.Machine.execCompareArm m p k1 w s
  | .hallEdge p c t => Sys2Proof.Machine.execHallEdge p c t s
  | .hallTimeout p => Sys2Proof.Machine.execHallTimeout p s
  | .resolverPeriodEnd p rs t => Sys2Proof.Machine.execResolverPeriodEnd p rs t s
  | .speedWindowEnd p => Sys2Proof.Machine.execSpeedWindowEnd p s
  | .posFaultRecovery p => Sys2Proof.Machine.execPosFaultRecovery p s
  | .emuTransition p => Sys2Proof.Machine.execEmuTransition p s
  | .observerLock p => Sys2Proof.Machine.execObserverLock p s
  | .observerLost p => Sys2Proof.Machine.execObserverLost p s
  | .observerDisagreement p => Sys2Proof.Machine.execObserverDisagreement p s
  | .tickRequest src => Sys2Proof.Machine.execTickRequest src s
  | .tickStart guardA guardB => Sys2Proof.Machine.execTickStart guardA guardB s
  | .tickLoss => Sys2Proof.Machine.execTickLoss s
  | .tickOverrun => Sys2Proof.Machine.execTickOverrun s
  | .roleWrite m b v => Sys2Proof.Machine.execRoleWrite m b v s
  | .bridgeStart b => Sys2Proof.Machine.execBridgeStart b s
  | .bridgeStop b => Sys2Proof.Machine.execBridgeStop b s
  | .stoPathTestEnd b follows => Sys2Proof.Machine.execStoPathTestEnd b follows s
  | .batteryLimitTimeout b => Sys2Proof.Machine.execBatteryLimitTimeout b s
  | .testStart m obj b => Sys2Proof.Machine.execTestStart m obj b s
  | .testDone b => Sys2Proof.Machine.execTestDone b s
  | .interleaveLoss b => Sys2Proof.Machine.execInterleaveLoss b s
  | .carrierStart x => Sys2Proof.Machine.execCarrierStart x s
  | .carrierZeroPoint x => Sys2Proof.Machine.execCarrierZeroPoint x s
  | .carrierPeriodPoint x => Sys2Proof.Machine.execCarrierPeriodPoint x s
  | .compareEvent x k1 down => Sys2Proof.Machine.execCompareEvent x k1 down s
  | .groupCommit m x guard => Sys2Proof.Machine.execGroupCommit m x guard s
  | .groupRegisterWrite m x r v guard => Sys2Proof.Machine.execGroupRegisterWrite m x r v guard s
  | .modeWrite m x w => Sys2Proof.Machine.execModeWrite m x w s
  | .refreshPulse x p starts => Sys2Proof.Machine.execRefreshPulse x p starts s
  | .debugHalt t h => Sys2Proof.Machine.execDebugHalt t h s
  | .debugResume t h => Sys2Proof.Machine.execDebugResume t h s
  | .heartbeatLoss x => Sys2Proof.Machine.execHeartbeatLoss x s
  | .ascZeroCrossing b t => Sys2Proof.Machine.execAscZeroCrossing b t s
  | .ascEstimateTimeout b => Sys2Proof.Machine.execAscEstimateTimeout b s
  | .pllLock b => Sys2Proof.Machine.execPllLock b s
  | .pllLost b => Sys2Proof.Machine.execPllLost b s
  | .limpMeasurement v => Sys2Proof.Machine.execLimpMeasurement v s
  | .limpEdgeTimeout => Sys2Proof.Machine.execLimpEdgeTimeout s
  | .limpValueUpdate => Sys2Proof.Machine.execLimpValueUpdate s
  | .limpValid => Sys2Proof.Machine.execLimpValid s
  | .commandTimeout b => Sys2Proof.Machine.execCommandTimeout b s
  | .on n => Sys2Proof.Machine.execOn n s
  | .off n => Sys2Proof.Machine.execOff n s
  | .idle n toIsland => Sys2Proof.Machine.execIdle n toIsland s
  | .symbolError n => Sys2Proof.Machine.execSymbolError n s
  | .gateOn n => Sys2Proof.Machine.execGateOn n s
  | .gateOff n => Sys2Proof.Machine.execGateOff n s
  | .fault n => Sys2Proof.Machine.execFault n s
  | .islandEdgePathLoss n => Sys2Proof.Machine.execIslandEdgePathLoss n s
  | .edgePathLoss n => Sys2Proof.Machine.execEdgePathLoss n s
  | .keep n c => Sys2Proof.Machine.execKeep n c s
  | .wr n a c => Sys2Proof.Machine.execWr n a c s
  | .rd n a c => Sys2Proof.Machine.execRd n a c s
  | .clr n v c => Sys2Proof.Machine.execClr n v c s
  | .hello n rev cap c => Sys2Proof.Machine.execHello n rev cap c s
  | .rdr n v c => Sys2Proof.Machine.execRdr n v c s
  | .linkUp n => Sys2Proof.Machine.execLinkUp n s
  | .edge n c => Sys2Proof.Machine.execEdge n c s
  | .health n sub v c => Sys2Proof.Machine.execHealth n sub v c s
  | .faultFrame n v c => Sys2Proof.Machine.execFaultFrame n v c s
  | .faultFrameTimeout n => Sys2Proof.Machine.execFaultFrameTimeout n s
  | .islandServiceTimeout n => Sys2Proof.Machine.execIslandServiceTimeout n s
  | .servicePathLoss n => Sys2Proof.Machine.execServicePathLoss n s
  | .islandRegisterSync n a arrives => Sys2Proof.Machine.execIslandRegisterSync n a arrives s
  | .channelEnable m obj n => Sys2Proof.Machine.execChannelEnable m obj n s
  | .channelDisable m obj n => Sys2Proof.Machine.execChannelDisable m obj n s
  | .legResume leg => Sys2Proof.Machine.execLegResume leg s
  | .interlockTimeout n => Sys2Proof.Machine.execInterlockTimeout n s
  | .islandEdgeMeasured n off soft v => Sys2Proof.Machine.execIslandEdgeMeasured n off soft v s
  | .islandUvlo n => Sys2Proof.Machine.execIslandUvlo n s
  | .islandUvloRelease n => Sys2Proof.Machine.execIslandUvloRelease n s
  | .desaturation n => Sys2Proof.Machine.execDesaturation n s
  | .hardShort n => Sys2Proof.Machine.execHardShort n s
  | .softTurnOffEnd n => Sys2Proof.Machine.execSoftTurnOffEnd n s
  | .retryWaitEnd n => Sys2Proof.Machine.execRetryWaitEnd n s
  | .clearLatch m obj n => Sys2Proof.Machine.execClearLatch m obj n s
  | .bstatCauseClear m x mask => Sys2Proof.Machine.execBstatCauseClear m x mask s
  | .islandOvertemperature n => Sys2Proof.Machine.execIslandOvertemperature n s
  | .dischargeRequest m obj => Sys2Proof.Machine.execDischargeRequest m obj s
  | .dischargeEnd m obj => Sys2Proof.Machine.execDischargeEnd m obj s
  | .dischargeJudge => Sys2Proof.Machine.execDischargeJudge s
  | .dischargeFallback => Sys2Proof.Machine.execDischargeFallback s
  | .dischargeTimeout => Sys2Proof.Machine.execDischargeTimeout s
  | .housekeepingRound conv caps => Sys2Proof.Machine.execHousekeepingRound conv caps s
  | .thresholdConfirmed c high => Sys2Proof.Machine.execThresholdConfirmed c high s
  | .thermalConditionConfirmed k => Sys2Proof.Machine.execThermalConditionConfirmed k s
  | .junctionModelStep => Sys2Proof.Machine.execJunctionModelStep s
  | .housekeepingStale => Sys2Proof.Machine.execHousekeepingStale s
  | .trussOutput c0 c1 c2 => Sys2Proof.Machine.execTrussOutput c0 c1 c2 s
  | .trussFrame w0 w1 w2 g0 g1 g2 levels => Sys2Proof.Machine.execTrussFrame w0 w1 w2 g0 g1 g2 levels s
  | .stateScrub t0 t1 t2 a0 a1 b0 b1 => Sys2Proof.Machine.execStateScrub t0 t1 t2 a0 a1 b0 b1 s
  | .spanOutput sp c0 c1 => Sys2Proof.Machine.execSpanOutput sp c0 c1 s
  | .spanResetRelease sp h dma => Sys2Proof.Machine.execSpanResetRelease sp h dma s
  | .spanRestart m sp => Sys2Proof.Machine.execSpanRestart m sp s
  | .inputDisagreement t x => Sys2Proof.Machine.execInputDisagreement t x s
  | .dbglsClear v => Sys2Proof.Machine.execDbglsClear v s
  | .interruptAssert k1 seen => Sys2Proof.Machine.execInterruptAssert k1 seen s
  | .claim m t late => Sys2Proof.Machine.execClaim m t late s
  | .interruptComplete m t src => Sys2Proof.Machine.execInterruptComplete m t src s
  | .intcSwset m src => Sys2Proof.Machine.execIntcSwset m src s
  | .faultLineLatch => Sys2Proof.Machine.execFaultLineLatch s
  | .orderlyStopTimeout b => Sys2Proof.Machine.execOrderlyStopTimeout b s
  | .faultStatusClear w => Sys2Proof.Machine.execFaultStatusClear w s
  | .classWrite m j v => Sys2Proof.Machine.execClassWrite m j v s
  | .parityError intc => Sys2Proof.Machine.execParityError intc s
  | .fabricTimeout m a => Sys2Proof.Machine.execFabricTimeout m a s
  | .eccError k => Sys2Proof.Machine.execEccError k s
  | .semaphoreRead m k1 => Sys2Proof.Machine.execSemaphoreRead m k1 s
  | .semaphoreRelease m k1 => Sys2Proof.Machine.execSemaphoreRelease m k1 s
  | .fcolSwset m v => Sys2Proof.Machine.execFcolSwset m v s
  | .inputDemandChange k1 low => Sys2Proof.Machine.execInputDemandChange k1 low s
  | .pairDiscrepancy k => Sys2Proof.Machine.execPairDiscrepancy k s
  | .testPulse j readBack pre mid post => Sys2Proof.Machine.execTestPulse j readBack pre mid post s
  | .stoGateFeedbackCheck b => Sys2Proof.Machine.execStoGateFeedbackCheck b s
  | .ss1Request v => Sys2Proof.Machine.execSs1Request v s
  | .ss1Expiry b => Sys2Proof.Machine.execSs1Expiry b s
  | .contactorClose k => Sys2Proof.Machine.execContactorClose k s
  | .contactorOpen k => Sys2Proof.Machine.execContactorOpen k s
  | .contactorFeedbackMismatch k level => Sys2Proof.Machine.execContactorFeedbackMismatch k level s
  | .torqueCheck => Sys2Proof.Machine.execTorqueCheck s
  | .torqueMonitorTrip b => Sys2Proof.Machine.execTorqueMonitorTrip b s
  | .causewayCopy p f age => Sys2Proof.Machine.execCausewayCopy p f age s
  | .causewaySkewExpiry => Sys2Proof.Machine.execCausewaySkewExpiry s
  | .causewayLoss => Sys2Proof.Machine.execCausewayLoss s
  | .causewayStatus => Sys2Proof.Machine.execCausewayStatus s
  | .safetyParamWrite k1 sub v => Sys2Proof.Machine.execSafetyParamWrite k1 sub v s
  | .safetyActivation crc => Sys2Proof.Machine.execSafetyActivation crc s
  | .safetySetCheck copy => Sys2Proof.Machine.execSafetySetCheck copy s
  | .canFrameReceived p f age => Sys2Proof.Machine.execCanFrameReceived p f age s
  | .segmentTimeout p node svc tag => Sys2Proof.Machine.execSegmentTimeout p node svc tag s
  | .canError p e => Sys2Proof.Machine.execCanError p e s
  | .transmitStart p => Sys2Proof.Machine.execTransmitStart p s
  | .transmitComplete p e age delay => Sys2Proof.Machine.execTransmitComplete p e age delay s
  | .mailboxRequest m p mb => Sys2Proof.Machine.execMailboxRequest m p mb s
  | .mailboxAbort m p mb => Sys2Proof.Machine.execMailboxAbort m p mb s
  | .portEnable m p w => Sys2Proof.Machine.execPortEnable m p w s
  | .recover m p => Sys2Proof.Machine.execRecover m p s
  | .busOffRecoveryComplete p => Sys2Proof.Machine.execBusOffRecoveryComplete p s
  | .rxRingRead m p v => Sys2Proof.Machine.execRxRingRead m p v s
  | .timestampWrap => Sys2Proof.Machine.execTimestampWrap s
  | .timebaseRead m r => Sys2Proof.Machine.execTimebaseRead m r s
  | .timerFire k1 => Sys2Proof.Machine.execTimerFire k1 s
  | .heartbeat => Sys2Proof.Machine.execHeartbeat s
  | .timeSync => Sys2Proof.Machine.execTimeSync s
  | .followUp p node n time => Sys2Proof.Machine.execFollowUp p node n time s
  | .timeSyncTimeout => Sys2Proof.Machine.execTimeSyncTimeout s
  | .requestEnqueue => Sys2Proof.Machine.execRequestEnqueue s
  | .objectRead nonce => Sys2Proof.Machine.execObjectRead nonce s
  | .objectWrite guard g => Sys2Proof.Machine.execObjectWrite guard g s
  | .readPart nonce => Sys2Proof.Machine.execReadPart nonce s
  | .describe => Sys2Proof.Machine.execDescribe s
  | .trussServedWrite => Sys2Proof.Machine.execTrussServedWrite s
  | .persistenceStore => Sys2Proof.Machine.execPersistenceStore s
  | .localRequest m t v => Sys2Proof.Machine.execLocalRequest m t v s
  | .stateCommandStandby kinak => Sys2Proof.Machine.execStateCommandStandby kinak s
  | .stateCommandReady kinak => Sys2Proof.Machine.execStateCommandReady kinak s
  | .stateCommandRun kinak => Sys2Proof.Machine.execStateCommandRun kinak s
  | .stateCommandService kinak => Sys2Proof.Machine.execStateCommandService kinak s
  | .step prog => Sys2Proof.Machine.execStep prog s
  | .steppedCancel idx => Sys2Proof.Machine.execSteppedCancel idx s
  | .restoreDefaults idx => Sys2Proof.Machine.execRestoreDefaults idx s
  | .imageEraseBank readBackOk => Sys2Proof.Machine.execImageEraseBank readBackOk s
  | .imageProgram fail => Sys2Proof.Machine.execImageProgram fail s
  | .networkLoadProgram => Sys2Proof.Machine.execNetworkLoadProgram s
  | .networkImageStart => Sys2Proof.Machine.execNetworkImageStart s
  | .customerRequest => Sys2Proof.Machine.execCustomerRequest s
  | .customerResponse m sv v => Sys2Proof.Machine.execCustomerResponse m sv v s
  | .customerTimeout sv => Sys2Proof.Machine.execCustomerTimeout sv s
  | .domainOnRequest m dom => Sys2Proof.Machine.execDomainOnRequest m dom s
  | .domainRetRequest m dom a0 a1 b0 b1 => Sys2Proof.Machine.execDomainRetRequest m dom a0 a1 b0 b1 s
  | .domainOffRequest m dom => Sys2Proof.Machine.execDomainOffRequest m dom s
  | .domainQuiesced dom => Sys2Proof.Machine.execDomainQuiesced dom s
  | .entryAbort dom => Sys2Proof.Machine.execEntryAbort dom s
  | .wakePin k => Sys2Proof.Machine.execWakePin k s
  | .keepaliveAlarm => Sys2Proof.Machine.execKeepaliveAlarm s
  | .canWakeActivity p => Sys2Proof.Machine.execCanWakeActivity p s
  | .wakePowerGood dom damaged calFailed => Sys2Proof.Machine.execWakePowerGood dom damaged calFailed s
  | .shelfWake mode => Sys2Proof.Machine.execShelfWake mode s
  | .wakeAttemptTimeout crystal otp => Sys2Proof.Machine.execWakeAttemptTimeout crystal otp s
  | .wakeBackoffEnd => Sys2Proof.Machine.execWakeBackoffEnd s
  | .wfailClear v => Sys2Proof.Machine.execWfailClear v s
  | .vkaLow => Sys2Proof.Machine.execVkaLow s
  | .lw6410Read m => Sys2Proof.Machine.execLw6410Read m s
  | .shutdownWithTest pass part domains ms => Sys2Proof.Machine.execShutdownWithTest pass part domains ms s
  | .enterShelf => Sys2Proof.Machine.execEnterShelf s
  | .ledgerConversionEpoch => Sys2Proof.Machine.execLedgerConversionEpoch s
  | .ledgerSecond => Sys2Proof.Machine.execLedgerSecond s
  | .ledgerStore => Sys2Proof.Machine.execLedgerStore s
  | .recordSigned sig readBackOk => Sys2Proof.Machine.execRecordSigned sig readBackOk s
  | .store m => Sys2Proof.Machine.execStore m s
  | .ledgerExport sel => Sys2Proof.Machine.execLedgerExport sel s
  | .captureStart m obj c buf v => Sys2Proof.Machine.execCaptureStart m obj c buf v s
  | .captureBlockWrite c => Sys2Proof.Machine.execCaptureBlockWrite c s
  | .captureTrigger n => Sys2Proof.Machine.execCaptureTrigger n s
  | .swtrig w => Sys2Proof.Machine.execSwtrig w s
  | .stop w => Sys2Proof.Machine.execStop w s
  | .captureStopAll m v => Sys2Proof.Machine.execCaptureStopAll m v s
  | .captureReadout c => Sys2Proof.Machine.execCaptureReadout c s
  | .pwrFailNFall => Sys2Proof.Machine.execPwrFailNFall s
  | .pwrFailNRise => Sys2Proof.Machine.execPwrFailNRise s
  | .networkQuiesceTimeout => Sys2Proof.Machine.execNetworkQuiesceTimeout s

end Sys2Proof.Machine
end

