-- ==== Sys2Proof/Machine/Idle.lean ====
section
/-! DEFINITION. What passes with time alone (log 1): the model's clock, the timebase and the keep-alive counter. -/

namespace Sys2Proof.Machine

/-- The keep-alive ticks in the first n alignment epochs: 8,192 millionths of a KACLK period per epoch, from an undefined
phase (R22, R470). -/
def kaTicks (n : Nat) : Nat := (n * 8192 + Config.kaPhase % 1000000) / 1000000

/-- The partitions of Table 16-10 in their order: the domain and its time in ms. -/
def bistParts : List (Nat × Nat) := [(3, 12), (4, 12), (5, 3), (6, 4), (7, 8), (8, 8), (2, 26), (1, 24)]

/-- The domain under test when t epochs have passed, none after the last. -/
def bistDomain (t : Nat) : List (Nat × Nat) → Option Nat
  | [] => none
  | (p, ms) :: l => if t < 4000 * ms then some p else bistDomain (t - 4000 * ms) l

/-- `DOM` follows the test of a start; after the last partition its outcome is recorded (R472, R478; DEDUCED, log 195). -/
def Dev.showBist (d : Dev) : Dev :=
  if d.vol.start.phase = .bist then
    match bistDomain (d.now - d.vol.start.bistAt) bistParts with
    | some p => d.set BIST.STAT_DOM p
    | none => d.setAll [(BIST.STAT_DOM, 0), (BIST.STAT_PHASE, 3)]
  else d

/-- One alignment epoch (250 ns) passes: 40 periods of NETCLK on the timebase while it runs (R22, R396), and the keep-alive
counter (R470), and how far the work of a calibration slot and the ages of the calibrations have come (Tables 4-16, 4-17), the edges
and dead times of the output stages that fall due (R215, R217), the time to the expiry of an SS1 (R371), the lines asserted now (Table 12-6),
and the domain under test (R478). -/
def idleEpoch (d : Dev) : Dev :=
  let d1 := { d with now := d.now + 1 }.when d.netclkRuns fun d => d.set TB.CNT_W (d.get TB.CNT_W + 40)
  let d2 := if d1.pwmDue.isEmpty then d1 else (d1.pwmTo (6 * d1.cycle)).movedAt (6 * d1.cycle)
  ((d2.set PIER.KACNT_W (d2.get PIER.KACNT_W + (kaTicks (d.now + 1) - kaTicks d.now))).showVisit).showAges.showSs1.showRaw.showBist

end Sys2Proof.Machine
end

