-- ==== Sys2Proof/Machine/Lands.lean ====
section
/-! DEFINITION. What the module drives at its output lands, now and in reset (R68, Table 2-9): the levels that the state of the owning blocks gives;
and what the test access port opens (R102). -/

namespace Sys2Proof.Machine

/-- An output land: driven or pulled low or high, at high impedance, or carrying the waveform of its block (a frame, the excitation). -/
inductive Land where
  | low
  | high
  | float
  | signal
deriving DecidableEq, Repr

/-- A driven level. -/
def Land.level (b : Bool) : Land := if b then .high else .low

/-- CANp_TX: recessive unless the port sends a frame to the bus (R68, R414, R418): not in internal loopback (`LBK` 2), nor as a listener (1). -/
def Dev.canTx (d : Dev) (p : Fin 4) : Land :=
  if d.portUp p && (d.canPort p).cur.isSome && (decide (d.get (CAN.CTL_LBK p) = 0) || decide (d.get (CAN.CTL_LBK p) = 3)) then .signal else .high

/-- CTR_DRVk: high while the contactor is driven (R373, R388). -/
def Dev.ctrDrv (d : Dev) (k : Fin 4) : Land := .level (d.running && d.bit (SIO.CTRCFG_DRV k))

/-- DSC_EN: driven only while function 0x0C owns it, and high for a discharge by the pin (R281, R282). -/
def Dev.dscEn (d : Dev) : Land := .level (d.running && d.domainUp 5 && d.vol.gl.dscPin && decide (d.get (OWN.R_OWNER 0 4) = 0x0C))

/-- TP_OUTk: high while its bit of `TPEN` is set, between its pulses (R366, R388). -/
def Dev.tpOut (d : Dev) (k : Fin 4) : Land := .level (d.running && natBit (d.get SIO.CTL_TPEN) k)

/-- EMU_A, EMU_B and EMU_Z (i = 0-2): the level of the emulator whose function owns the land, else high impedance (R160, R161). -/
def Dev.emuOut (d : Dev) (i : Fin 3) : Land :=
  match ([0, 1] : List (Fin 2)).find? fun p => d.posOn p && d.bit (POS.EMUCTL_EN p) && decide (d.get (OWN.R_OWNER 0 i) = 8 + p.val) with
  | some p =>
    (match (d.pos p).emu with
     | some e =>
       let l := emuLevels e
       .level (if i = 0 then l.1 else if i = 1 then l.2.1 else l.2.2)
     | none => .float)
  | none => .float

/-- RESp_EXC_P and _N carry the excitation while `EXCEN` is 1 (R147). -/
def Dev.resExc (d : Dev) (p : Fin 2) : Land := if d.works 4 3 && d.bit (POS.RESCFG_EXCEN p) then .signal else .float

/-- TDO: high impedance (Table 2-9); the shifting of the test access port is not in this model (log 174). -/
def Dev.tdo (_d : Dev) : Land := .float

/-- FAULT_N is an open drain (R67). -/
def Dev.faultN (d : Dev) : Land := if d.faultNLow then .low else .float

/-! ### Input lands (Table 2-9) -/

/-- What holds an input land that nothing drives. -/
inductive Pull where
  | down
  | up
  | none
deriving DecidableEq, Repr

/-- The digital input lands. -/
inductive InLand where
  | tck | trstN | bootMode (i : Fin 2) | tms | tdi | resetN | pwrFailN | other
deriving DecidableEq, Repr

/-- The pull of an input land. -/
def InLand.pull : InLand → Pull
  | .tck | .trstN | .bootMode _ => .down
  | .tms | .tdi | .resetN | .pwrFailN => .up
  | .other => .none

/-- The level that an input land reads with what drives it (none: nothing); without drive and pull its level is open. -/
def InLand.level (l : InLand) (driven : Option Bool) : Option Bool :=
  match driven, l.pull with
  | some b, _ => some b
  | none, .down => some false
  | none, .up => some true
  | none, .none => none

/-! ### The test access port (R8, R68, R83, R102) -/

/-- What a JTAG or test access asks for: the boundary-scan register, debug of a target, the scan chains behind TEST0-TEST3. -/
inductive TestAccess where
  | boundary
  | debug (t : Fin 3)
  | scan
deriving DecidableEq, Repr

/-- Is it open in the life-cycle state (Table 3-12)? -/
def Dev.testOpen (d : Dev) (a : TestAccess) : Bool :=
  match a with
  | .boundary => if d.get LC.LCSTATE_STATE = 3 ∨ d.get LC.LCSTATE_STATE = 4 then d.vol.start.custAuth else true
  | .debug t => d.debugOpen t
  | .scan => d.scanOpen

/-- The instruction that an access finds in the JTAG instruction register: its own, or `BYPASS` (none) where it is forbidden (R102), or while TRST_N,
as driven from outside, holds the port in reset (R68). -/
def Dev.jtagInstruction (d : Dev) (trstN : Option Bool) (a : TestAccess) : Option TestAccess :=
  if InLand.trstN.level trstN = some true ∧ d.testOpen a = true then some a else none

end Sys2Proof.Machine
end

