-- ==== Sys2Proof/Safety.lean ====
section
/-! DEFINITION. The words that the statements use: that a command completes, and what it leaves unchanged. -/

namespace Sys2Proof.Machine

/-- Command `i` completes from `s`: it answers a next state with device `d`, and with the memory and the queue of `s`. -/
def Completes (i : Instr) (s : State) (d : Dev) : Prop := exec i s = .next { s with dev := d }

/-- Command `i` completes from `s` with device `d` and memory `m`, and with the queue of `s`. -/
def CompletesMem (i : Instr) (s : State) (d : Dev) (m : Mem) : Prop := exec i s = .next { s with dev := d, mem := m }

/-- Command `i` completes from `s` in a next state of which `P` holds. -/
def Reaches (i : Instr) (s : State) (P : State → Prop) : Prop := ∃ t, exec i s = .next t ∧ P t

/-- Every register field but the listed ones holds in `e` what it holds in `d`. -/
def Dev.sameBut (d e : Dev) (l : List Fld) : Prop := ∀ f : Fld, (∀ g ∈ l, f.key ≠ g.key) → e.get f = d.get f

/-- `t` differs from `s` in the listed fields of the register file and in the bus answer at most: the memory, the queue and all other
state are those of `s`. -/
def State.regsOnly (s t : State) (l : List Fld) : Prop :=
  t = { s with dev := { s.dev with regs := t.dev.regs, bus := t.dev.bus } } ∧ s.dev.sameBut t.dev l

/-- Every byte of memory outside the `n` bytes from `a` reads in `m'` as in `m`. -/
def Mem.sameOutside (m m' : Mem) (a n : Nat) : Prop := ∀ x, (x < a ∨ a + n ≤ x) → m'.read x = m.read x

/-- The commands that may store bytes: receive rings, queues in memory, capture segments, ledger records, flash, SRAM and network SRAM images,
buffers of requests, object records, save lists and the clearing of SRAM at a reset. Every other command leaves all of memory alone. -/
def storesBytes : Instr → Bool
  | .canFrameReceived _ _ _ | .captureBlockWrite _ | .captureStart _ _ _ _ _ | .captureStopAll _ _ | .customerRequest |
    .customerResponse _ _ _ | .describe | .domainGateWrite _ _ _ | .domainQuiesced _ | .enterShelf | .flashCommandDone _ |
    .fuseBurnComplete _ | .imageEraseBank _ | .imageProgram _ | .ledgerExport _ | .ledgerSecond | .ledgerStore |
    .networkImageStart | .networkLoadProgram | .objectRead _ | .objectWrite _ _ | .persistenceStore | .pinReset | .powerOnReset | .pwrFailNFall |
    .queueEntryWrite _ | .queueOvfClear _ _ _ | .readPart _ | .recordSigned _ _ | .rootPllLocked _ _ _ _ |
    .shutdownWithTest _ _ _ _ | .softwareReset _ _ | .startBistComplete _ _ _ | .stop _ | .supplyReset _ | .transmitComplete _ _ _ _ | .transmitStart _ |
    .wakeAttemptTimeout _ _ | .wakePowerGood _ _ _ => true
  | _ => false

end Sys2Proof.Machine
end

