-- ==== Sys2Proof/Certificates/Slice0/Obligations.lean ====
section
/-! DEFINITION. The statements for the provers: what the commands of the block do, by the numbered rules of the spec. -/

open Sys2Proof Sys2Proof.Machine

/-- One step: with a command at the front of the queue the step is that command on the machine with the queue's rest, for every command and every
state; with no command waiting one alignment epoch passes, which is the model's choice (log 1). -/
def Obligations.StepRunsFrontCommand : Prop :=
  (∀ (s : State) (c : Instr) (rest : List Instr), step { s with pending := c :: rest } = exec c { s with pending := rest }) ∧
  (∀ s : State, s.pending = [] → step s = .next { s with dev := idleEpoch s.dev })

/-- Every command of the block is answered with a next state, in every state of the machine: none ends in a fault or a refusal. A command leaves the queue as it
is, and none but those that the model names as storing bytes changes the memory. -/
def Obligations.EveryCommandAnswers : Prop :=
  ∀ (i : Instr) (s : State), ∃ t : State, exec i s = .next t ∧ t.pending = s.pending ∧ (storesBytes i = false → t.mem = s.mem)

/-- Every step keeps the memory in its canonical form (addresses strictly rising, no cell equal to what an unwritten byte reads as), from every
state whose memory has it, whatever the command and its operands: what two memories read as everywhere they hold as equal data. -/
def Obligations.StepKeepsMemoryCanonical : Prop :=
  (∀ s t : State, s.mem.wf = true → step s = .next t → t.mem.wf = true) ∧
  (∀ m n : Mem, m.wf = true → n.wf = true → (∀ a : Nat, m.read a = n.read a) → m = n)

/-- The machine right after reset (R11, R60, Table 3-1): no memory cell is listed and the memory is canonical, no command waits, the power-on cause is
set, every other register holds the reset value of the register map, and the module is held in its internal reset. -/
def Obligations.ResetState : Prop :=
  State.reset.mem = [] ∧ State.reset.mem.wf = true ∧ State.reset.pending = [] ∧ State.reset.dev.get LC.RSTCAUSE_POR = 1 ∧
  (∀ f : Fld, f.key ≠ LC.RSTCAUSE_POR.key → State.reset.dev.get f = f.rst) ∧ State.reset.dev.running = false ∧
  State.reset.dev.raised = [] ∧ State.reset.dev.edges = []

/-- A register write that the map and its chapter allow (R11): an RW field takes its bits of the word, a W1C bit is cleared by 1, a W1S bit
set by 1, an RWL field is set while the lock bit is 0, an RO field keeps its value, and no other field, no memory and no internal
state changes. A reserved offset takes nothing (R31). Stated for the registers that nothing follows at once: in the other windows a write also starts or
stops what its chapter says. In the window of the interrupt controller the fields take their values likewise, and what follows reaches no more than the
enables cleared just now and the inputs of the harts (R345, R346). A write of 1 to a W1C field of the Pier by another master than Truss is
forbidden (R477). -/
def Obligations.RegisterWriteByAccessCode : Prop :=
  (∀ (s : State) (m : Master) (a d : Word), s.dev.mayWrite m a.toNat = true → regFields a.toNat = none →
    Completes (.registerWrite m a d) s (s.dev.busOk 0)) ∧
  (∀ (s : State) (m : Master) (a d : Word) (fs : List Fld), s.dev.mayWrite m a.toNat = true → regFields a.toNat = some fs →
    w1cBarred m a.toNat d.toNat = false → (fs.map Fld.key).Nodup →
    a.toNat / 0x10000 ∉ [0x4002, 0x4020, 0x4021, 0x4030, 0x4040, 0x4041, 0x4050, 0x4070, 0x4080, 0x4081, 0x4082, 0x4083] →
    (a.toNat / 0x10000 = 0x4010 → a.toNat % 0x10000 ≠ 0) →
    (a.toNat / 0x10000 = 0x4060 → a.toNat % 0x10000 < 0x400 ∨ 0xA00 ≤ a.toNat % 0x10000) →
    Reaches (.registerWrite m a d) s fun t =>
      s.regsOnly t fs ∧ t.dev.bus = { error := false, data := 0 } ∧
      ∀ f ∈ fs, f.beh = false → fieldFixed f = false →
        (f.acc = .rw → t.dev.get f = storedValue f (natField d.toNat f.lo f.width) % 2 ^ f.width) ∧
        (f.acc = .w1c → f.width = 1 → natBit d.toNat f.lo = true → t.dev.get f = 0) ∧
        (f.acc = .w1c → natField d.toNat f.lo f.width = 0 → s.dev.get f < 2 ^ f.width → t.dev.get f = s.dev.get f) ∧
        (f.acc = .w1s → f.width = 1 → natBit d.toNat f.lo = true → s.dev.get f < 2 → t.dev.get f = 1) ∧
        (f.acc = .rwl → t.dev.get f = if s.dev.lockedAt f.addr then s.dev.get f else natField d.toNat f.lo f.width) ∧
        (f.acc = .ro → t.dev.get f = s.dev.get f)) ∧
  (∀ (s : State) (m : Master) (a d : Word) (fs : List Fld), s.dev.mayWrite m a.toNat = true → regFields a.toNat = some fs →
    a.toNat / 0x10000 = 0x4002 → (fs.map Fld.key).Nodup →
    Reaches (.registerWrite m a d) s fun t =>
      s.dev.sameBut t.dev fs ∧
      t = { s with dev := { s.dev with
        regs := t.dev.regs, bus := { error := false, data := 0 },
        vol := { s.dev.vol with ks := { s.dev.vol.ks with irq := t.dev.vol.ks.irq }, flt := { s.dev.vol.flt with masked := t.dev.vol.flt.masked } } } } ∧
      ∀ f ∈ fs, f.beh = false → fieldFixed f = false →
        (f.acc = .rw → t.dev.get f = natField d.toNat f.lo f.width) ∧ (f.acc = .ro → t.dev.get f = s.dev.get f)) ∧
  (∀ (s : State) (m : Master) (a d : Word), w1cBarred m a.toNat d.toNat = true →
    Completes (.registerWrite m a d) s (s.dev.busError m a.toNat true))

/-- Accesses that R32 to R35 forbid: nothing changes at the target, the master sees a bus error and reads 0, the address and the master are
recorded, and line 3 is raised; a DMA channel takes its error status. What is no master (a hart 1 of a span that is not split, a stopped Truss, a span held in
reset) makes no access at all. The same answers a register write, a lock and a commit by a master that may not write there. An
access that the map allows is no such access and changes nothing. -/
def Obligations.ForbiddenAccess : Prop :=
  (∀ (s : State) (m : Master) (a : Word) (w : Bool),
    (s.dev.accessAllowed m a.toNat w = false → Completes (.unmappedAccess m a w) s (s.dev.busError m a.toNat w)) ∧
    (s.dev.accessAllowed m a.toNat w = true → Completes (.unmappedAccess m a w) s s.dev)) ∧
  (∀ (s : State) (m : Master) (a d : Word), s.dev.mayWrite m a.toNat = false →
    Completes (.registerWrite m a d) s (s.dev.busError m a.toNat true)) ∧
  (∀ (s : State) (m : Master) (k : LockBlock) (d : Word), s.dev.mayWrite m (lockFld k).addr = false →
    Completes (.lockSet m k d) s (s.dev.busError m (lockFld k).addr true)) ∧
  (∀ (s : State) (m : Master) (pg : Page), s.dev.pageWritable m pg = false →
    Completes (.ownershipCommit m pg) s (s.dev.busError m (pageBase pg + 0xFFC) true)) ∧
  (∀ (d : Dev) (m : Master) (a : Nat) (w : Bool),
    (d.masterExists m = false → d.busError m a w = d) ∧
    (d.masterExists m = true → (d.busError m a w).bus = { error := true, data := 0 } ∧ (d.busError m a w).access = some { addr := a, master := m, write := w } ∧
    (3, 0) ∈ (d.busError m a w).raised ∧ d.sameBut (d.busError m a w) [] ∧ (d.busError m a w).vol = d.vol ∧ (d.busError m a w).nv = d.nv ∧
    ∀ k : Fin 16, (vget (d.busError m a w).dma k).err = ((vget d.dma k).err || decide (m = .dma k)) ∧
      (vget (d.busError m a w).dma k).aborted = (vget d.dma k).aborted))

/-- A write of 1 to the lock bit of a block sets it, for every block and whatever its state before; a locked RWL field takes nothing of any
later write (R13). The RWL fields of the same register take their values in the same write if the block was not locked, and keep them
if it was: stated for the ledger's lock register, with all of its RWL fields. -/
def Obligations.LockSetFreezes : Prop :=
  (∀ (s : State) (m : Master) (k : LockBlock) (d : Word), s.dev.mayWrite m (lockFld k).addr = true → natBit d.toNat (lockFld k).lo = true →
    Reaches (.lockSet m k d) s fun t => t.dev.get (lockFld k) = 1 ∧ t.dev.bus = { error := false, data := 0 } ∧ t.mem = s.mem) ∧
  (∀ (s : State) (m : Master) (d : Word), s.dev.mayWrite m LG.CTL_LOCK.addr = true → natBit d.toNat LG.CTL_LOCK.lo = true →
    Completes (.lockSet m .ledger d) s
      (if s.dev.bit LG.CTL_LOCK then (s.dev.set LG.CTL_LOCK 1).busOk 0
       else ((((s.dev.set LG.CTL_TCH (d.toNat / 2 ^ 20)).set LG.CTL_TSRC (d.toNat / 2 ^ 16)).set LG.CTL_IPOL (d.toNat / 2)).set
         LG.CTL_LOCK 1).busOk 0)) ∧
  (∀ (d : Dev) (m : Master) (w : Nat) (f : Fld), f.acc = .rwl → d.lockedAt f.addr = true → d.fieldWrite m w f = d)

/-- A write of `REQ` that R38 allows (0, or a function ID of the writer's own range) puts the ID into `REQ` and the writer into `REQBY`; any
other ID behaves as a forbidden write. A commit whose claims all succeed gives every resource of the commit its requested owner,
clears `REQBY` and writes `NCONF` 0, and a slice that changes hands has its `SLCFG` at reset (R109); where one claim fails, every owner stays, and `NCONF` counts the failing ones (R39, R40). A
resource outside the commit keeps its owner and its request. -/
def Obligations.OwnershipClaims : Prop :=
  (∀ (s : State) (m : Master) (pg : Page) (i : Fin 32) (id : BitVec 8), s.dev.pageWritable m pg = true → ownerExists pg i = true →
    ((id = 0 ∨ s.dev.mayClaimId m id.toNat = true) →
      Completes (.ownerReqWrite m pg i id) s
        (((s.dev.set (OWN.R_REQ pg i) id.toNat).set (OWN.R_REQBY pg i) (reqbyCode m)).busOk 0)) ∧
    (id ≠ 0 → s.dev.mayClaimId m id.toNat = false →
      Completes (.ownerReqWrite m pg i id) s (s.dev.busError m (pageBase pg + 4 * i) true))) ∧
  (∀ (s : State) (m : Master) (pg : Page), s.dev.pageWritable m pg = true →
    Reaches (.ownershipCommit m pg) s fun t =>
      t.dev.bus = { error := false, data := 0 } ∧ t.mem = s.mem ∧ t.dev.nv = s.dev.nv ∧
      (2 ≤ pg.val → t.dev.vol = s.dev.vol ∧ t.dev.raised = s.dev.raised) ∧
      (pg = 1 → s.dev.commitFailing m pg = [] → ∀ i : Fin 32, i.val ∈ s.dev.commitSet m pg → ∀ f ∈ slcfgFields i, t.dev.get f = f.rst) ∧
      (∀ i : Fin 32, i.val ∉ s.dev.commitSet m pg →
        t.dev.get (OWN.R_OWNER pg i) = s.dev.get (OWN.R_OWNER pg i) ∧ t.dev.get (OWN.R_REQ pg i) = s.dev.get (OWN.R_REQ pg i)) ∧
      (s.dev.commitFailing m pg = [] → t.dev.get (OWN.CMT_NCONF pg) = 0 ∧
        ∀ i : Fin 32, i.val ∈ s.dev.commitSet m pg →
          t.dev.get (OWN.R_OWNER pg i) = s.dev.get (OWN.R_REQ pg i) % 256 ∧ t.dev.get (OWN.R_REQBY pg i) = 0) ∧
      (s.dev.commitFailing m pg ≠ [] →
        t.dev.get (OWN.CMT_NCONF pg) = (s.dev.commitFailing m pg).length ∧
        ∀ i : Fin 32, t.dev.get (OWN.R_OWNER pg i) = s.dev.get (OWN.R_OWNER pg i) ∧
          (i.val ∈ s.dev.commitSet m pg →
            t.dev.get (OWN.R_REQ pg i) = s.dev.get (OWN.R_OWNER pg i) % 256 ∧ t.dev.get (OWN.R_REQBY pg i) = 0)))

/-- `GATE` of TRUSSCLK and FABCLK takes no write; a write of 1 to `GATE` of PWMCLK, CECLK, ADCCLK or GLCLK while a bridge is active has no
effect but `REFUSED`; a write of 0 or with no bridge active gates or ungates the domain, `ACTIVE` following where the power domain is up (R25, R27). Gating
NETCLK latches the time and the keep-alive count, ungating it corrects the timebase with source 382 (R468). `EFF_THROT` of APPCLK and NETCLK becomes the
larger of `THROT` and the thermal request, with source 377 on a change (R26, R300); the other domains are not throttled. A root
count within 2 % of 240,000 does nothing, another raises line 0 once the monitor is armed and asks for the safe state
of both bridges at once (R30, R78, R354). -/
def Obligations.ClockControl : Prop :=
  (∀ (s : State) (m : Master) (n : Fin 9) (v : Bool), s.dev.accessAllowed m (0x40000100 + 4 * n) true = false →
    Completes (.domainGateWrite m n v) s (s.dev.busError m (0x40000100 + 4 * n) true)) ∧
  (∀ (s : State) (m : Master) (n : Fin 9) (v : Bool), s.dev.accessAllowed m (0x40000100 + 4 * n) true = true →
    (n ∈ ([2, 4] : List (Fin 9)) → Completes (.domainGateWrite m n v) s (s.dev.busOk 0)) ∧
    (n ∈ ([0, 3, 5, 6] : List (Fin 9)) → s.dev.anyBridgeActive = true →
      Completes (.domainGateWrite m n true) s ((s.dev.set (CPM.DOMCTL_REFUSED n) 1).busOk 0)) ∧
    (n ∉ ([2, 4, 7] : List (Fin 9)) → (v = false ∨ n ∈ ([1, 8] : List (Fin 9)) ∨ s.dev.anyBridgeActive = false) →
      Completes (.domainGateWrite m n v) s
        (((s.dev.setBit (CPM.DOMCTL_GATE n) v).setBit (CPM.DOMCTL_ACTIVE n) (!v && s.dev.domainUp (clockDomain n))).busOk 0))) ∧
  (∀ (s : State) (m : Master), s.dev.accessAllowed m 0x4000011C true = true →
    (s.dev.netclkRuns = true →
      CompletesMem (.domainGateWrite m 7 true) s (((s.dev.set (CPM.DOMCTL_GATE 7) 1).set (CPM.DOMCTL_ACTIVE 7) 0).busOk 0)
        ((s.mem.writeLE 0x30000040 8 (s.dev.get TB.CNT_W)).writeLE 0x30000048 8 (s.dev.get PIER.KACNT_W))) ∧
    (s.dev.netclkRuns = false → s.dev.domainUp 7 = true →
      Completes (.domainGateWrite m 7 false) s
        ((((s.dev.set (CPM.DOMCTL_GATE 7) 0).set (CPM.DOMCTL_ACTIVE 7) 1).busOk 0).correctTime s.mem))) ∧
  (∀ (s : State) (n : Fin 9), n ∈ ([1, 7] : List (Fin 9)) →
    (s.dev.get (CPM.DOMCTL_EFF_THROT n) ≠ max (s.dev.get (CPM.DOMCTL_THROT n)) (s.dev.get TH.DIE_THROT) →
      Completes (.throttleChange n) s
        ((s.dev.set (CPM.DOMCTL_EFF_THROT n) (max (s.dev.get (CPM.DOMCTL_THROT n)) (s.dev.get TH.DIE_THROT))).edge 377)) ∧
    (s.dev.get (CPM.DOMCTL_EFF_THROT n) = max (s.dev.get (CPM.DOMCTL_THROT n)) (s.dev.get TH.DIE_THROT) →
      Completes (.throttleChange n) s s.dev)) ∧
  (∀ (s : State) (n : Fin 9), n ∉ ([1, 7] : List (Fin 9)) → Completes (.throttleChange n) s s.dev) ∧
  (∀ (s : State) (c : Nat), (235200 ≤ c → c ≤ 244800 → Completes (.rootClockCheck c) s s.dev) ∧
    (s.dev.monitorArmed = false → Completes (.rootClockCheck c) s s.dev) ∧
    (s.dev.monitorArmed = true → c < 235200 ∨ 244800 < c →
      Completes (.rootClockCheck c) s ((s.dev.assertLine 0 0).each bridges fun d b => d.safeCause b (GL.BSTAT_FCOL b))))

/-- A reset of Table 3-1 with no fuse word being burned and no flash command running: every block outside the Pier returns to its start, the cause bits of
Table 3-2 are set beside those that stood, `COUNT` counts one more up to 65,535, and the memory stays (R74, R77); one with `VCORE_LOW` clears the latch of
R303 as well. In shelf the internal reset is held already: only that latch follows. A value other than 0x5EC0_0D1E written to `LC.SWRST` has no effect; a
master that may not write there meets R34 (R75). While a fuse word is burned the reset waits (R76).
What a reset of everything but the Pier leaves (R74): all internal state of the blocks at its start, the nonvolatile contents untouched,
every register field outside the Pier (but for `LC.RSTCAUSE` and the latch of R303) at its reset value, and the Pier's fields as they
were, but for the state of the wake sequencer. A power-on reset with no burn and no flash command running resets the Pier too, clears the retention memory, and
keeps flash, MRAM and the nonvolatile contents. In the internal reset the output lands stand as R68 says: CAN transmit high, contactors, discharge and test
pulses low, emulation and excitation at high impedance. -/
def Obligations.Resets : Prop :=
  (
    (∀ s : State, s.dev.inShelf = false → s.dev.vol.start.burn = none → s.dev.vol.start.flash = none →
      Completes .pinReset s ((s.dev.resetBlocks.set LC.RSTCAUSE_PIN 1).countSat LC.RSTCAUSE_COUNT) ∧
      Completes (.supplyReset .vana) s
        ((((s.dev.setSupply .vana false).resetBlocks.set LC.RSTCAUSE_SUPPLY 1).set LC.RSTCAUSE_VANA_LOW 1).countSat LC.RSTCAUSE_COUNT) ∧
      Completes (.supplyReset .vio) s
        ((((s.dev.setSupply .vio false).resetBlocks.set LC.RSTCAUSE_SUPPLY 1).set LC.RSTCAUSE_VIO_LOW 1).countSat LC.RSTCAUSE_COUNT) ∧
      Completes (.supplyReset .vcore) s
        ((((s.dev.setSupply .vcore false).resetBlocks.clearThLatch.set LC.RSTCAUSE_SUPPLY 1).set LC.RSTCAUSE_VCORE_LOW 1).countSat
          LC.RSTCAUSE_COUNT) ∧
      (s.dev.accessAllowed .truss 0x40010010 true = true →
        Completes (.softwareReset .truss 0x5EC00D1E#32) s
          (((s.dev.busOk 0).resetBlocks.set LC.RSTCAUSE_SOFT 1).countSat LC.RSTCAUSE_COUNT))) ∧
    (∀ s : State, s.dev.inShelf = true →
      Completes .pinReset s s.dev ∧ Completes (.supplyReset .vcore) s (s.dev.setSupply .vcore false).clearThLatch) ∧
    (∀ d : Dev, d.clearThLatch.get TH.LATCH_DIE = 0 ∧ d.clearThLatch.get TH.LATCH_BARRIER = 0 ∧ d.clearThLatch.get TH.LATCH_ISL = 0 ∧
      d.sameBut d.clearThLatch [TH.LATCH_DIE, TH.LATCH_BARRIER, TH.LATCH_ISL]) ∧
    (∀ (s : State) (m : Master) (v : Word), s.dev.accessAllowed m 0x40010010 true = true → v ≠ 0x5EC00D1E#32 →
      Completes (.softwareReset m v) s (s.dev.busOk 0)) ∧
    (∀ (s : State) (m : Master) (v : Word), s.dev.accessAllowed m 0x40010010 true = false →
      Completes (.softwareReset m v) s (s.dev.busError m 0x40010010 true)) ∧
    (∀ (s : State) (b : Burn), s.dev.inShelf = false → s.dev.vol.start.burn = some b →
      Completes .pinReset s { s.dev with lands := { s.dev.lands with resetPending := s.dev.lands.resetPending ++ [RstCause.pin] } })) ∧
  (
    (∀ (d : Dev) (f : Fld), f.lo < 32 →
      d.resetBlocks.vol = d.vol.restart ∧ d.resetBlocks.nv = d.nv ∧ d.resetBlocks.raised = [] ∧ d.resetBlocks.edges = [] ∧
      (keptAddr f.addr = false → d.resetBlocks.get f = f.rst) ∧
      (keptAddr f.addr = true → f.key ≠ PIER.WSTAT_WSTATE.key → d.resetBlocks.get f = d.get f)) ∧
    (∀ s : State, s.dev.vol.start.burn = none → s.dev.vol.start.flash = none →
      Reaches .powerOnReset s fun t =>
        t.dev.regs = [(LC.RSTCAUSE_POR.key, 1)] ∧ t.dev.vol = s.dev.vol.restart ∧ t.dev.pier = PierState.reset ∧ t.dev.nv = s.dev.nv ∧
        (∀ a : Nat, 0x30000000 ≤ a → a < 0x30001000 → t.mem.read a = 0#8) ∧
        (∀ a : Nat, a < 0x20000000 → t.mem.read a = s.mem.read a)) ∧
    (∀ d : Dev, d.running = false →
      (∀ p : Fin 4, d.canTx p = .high) ∧ (∀ k : Fin 4, d.ctrDrv k = .low ∧ d.tpOut k = .low) ∧ d.dscEn = .low ∧
      (∀ i : Fin 3, d.emuOut i = .float) ∧ (∀ p : Fin 2, d.resExc p = .float) ∧ (d.inShelf = false → d.faultN = .low)))

/-- The supplies and the boot ROM (R60, R61, R81, R464): a supervised supply below its minimum raises line 1 while the module runs, and a return above it
ends the assertion; with the supplies risen in the order VIO, VANA, VREF, VCORE and outside shelf the internal reset is released, the boot ROM starts on the RC
oscillator and the latched options follow, and without that order the reset is held on; a wake from shelf starts likewise with `RSTCAUSE.WAKE`; with no lock
in time `ROOT_FAIL` is set, and a retry alone changes nothing. -/
def Obligations.SuppliesAndBoot : Prop :=
  (∀ (s : State) (v : Supply),
    (s.dev.running = true → v ≠ .vref → Completes (.supplyUndervoltage v) s ((s.dev.setSupply v false).assertLine 1 0)) ∧
    (s.dev.running = false ∨ v = .vref → Completes (.supplyUndervoltage v) s (s.dev.setSupply v false)) ∧
    Completes (.supplyRestored v) s (s.dev.setSupply v true)) ∧
  (∀ (d : Dev) (v : Supply),
    (d.setSupply v false).supplyUp v = false ∧ (d.setSupply v true).supplyUp v = true ∧
    (d.supplyUp v = false → (d.setSupply v true).lands.rise = d.lands.rise ++ [v])) ∧
  (∀ (s : State) (mode : BitVec 2),
    (s.dev.running = false → s.dev.inShelf = false → s.dev.lands.rise = [.vio, .vana, .vref, .vcore] →
      Completes (.internalResetRelease mode) s (s.dev.release mode.toNat).latchOtp) ∧
    (s.dev.lands.rise ≠ [.vio, .vana, .vref, .vcore] → Completes (.internalResetRelease mode) s s.dev)) ∧
  (∀ (d : Dev) (n : Nat), (d.release n).vol.start.phase = .rc ∧ (d.release n).vol.start.bootMode = n ∧ (d.release n).regs = d.regs) ∧
  (∀ d : Dev, d.nv.retired = 0 → d.nv.dbgls = false → natBit d.nv.fuses.opt 0 = false → natBit d.nv.fuses.opt 1 = false →
    d.latchOtp.get LC.LCSTATE_STATE = d.nv.fuses.state % 16 ∧ d.latchOtp.get LC.BOOTOPT_ARB = d.nv.fuses.arb % 64) ∧
  (∀ (s : State) (mode : BitVec 2), s.dev.inShelf = true → s.dev.pier.shelfWake = true → s.dev.get PIER.WSTAT_WSTATE ≠ 5 →
    s.dev.wakeSupplies = true → s.dev.pier.episode = [] →
    Completes (.shelfWake mode) s
      ((((s.dev.setSt 1 0).resetCause LC.RSTCAUSE_WAKE).set PIER.WSTAT_WSTATE (if s.dev.pier.rcTried then 6 else 3)).release mode.toNat).latchOtp) ∧
  (∀ s : State, s.dev.vol.start.phase = .rc → s.dev.pier.shelfWake = false →
    Completes .rootLockTimeout s (s.dev.set LC.BOOTSTAT_ROOT_FAIL 1)) ∧
  (∀ s : State, Completes .rootLockRetry s s.dev) ∧
  (∀ s : State, Completes (.supplyReset .vref) s (s.dev.setSupply .vref false))

/-- The start after the root locks (R79, R80, R476). With no valid record the key store is emptied and the full BIST runs; with a valid record, or after a full
BIST, the start goes on to the dictionary restore, or stops there in LOCKOUT where a self-test failed; either way the record is consumed. At the end of the
full BIST its outcome stands in its registers, the key store is empty and the start begins again from the boot ROM. From the CAN-ports event the module is
in STANDBY, and the sources 379 of a wake from shelf have fired; at the end of the start it is in READY with its time in `T_READY`, or in SAFE where the
condition for SAFE holds (R439). In another phase of the start none of the four changes anything. -/
def Obligations.StartSequence : Prop :=
  (∀ (s : State) (one both : List Nat) (sets : Fin 3) (failed : List (Fin 34)),
    (s.dev.vol.start.phase = .rc → s.dev.pier.shelfWake = false → s.dev.pier.bist = none → s.mem.wf = true →
      s.mem.readLE 0x101EFF00 4 ≠ 0xB1578620 →
      Reaches (.rootPllLocked one both sets failed) s fun t =>
        t.dev.vol.start.phase = .bist ∧ t.dev.vol.start.keys = KeyStore.empty ∧ t.dev.get BIST.STAT_PHASE = 2 ∧ t.mem.readLE 0x101EFF00 4 = 0 ∧
        t.dev.startCount = (s.dev.startCount + 1) % 2 ^ 32) ∧
    (s.dev.vol.start.phase = .rc → s.dev.pier.shelfWake = false →
      (s.dev.pier.bist.isSome = true ∨
        (s.mem.readLE 0x101EFF00 4 = 0xB1578620 ∧ s.mem.readLE 0x101EFF1C 4 = recordCrc (s.mem.readBytes 0x101EFF00 0x1C) ∧
          s.mem.readLE 0x101EFF04 4 = (s.dev.startCount + 1) % 2 ^ 32 ∧ natBit (s.mem.readLE 0x101EFF08 4) 31 = true)) →
      Reaches (.rootPllLocked one both sets failed) s fun t =>
        (t.dev.vol.start.phase = .restored ∧ t.dev.get LC.BOOTSTAT_BIST_FAIL ≠ 1) ∨
        (t.dev.vol.start.phase = .stopped ∧ t.dev.get DE.STAT_OPSTATE = 6 ∧ t.dev.get LC.BOOTSTAT_BIST_FAIL = 1)) ∧
    (s.dev.vol.start.phase ≠ .rc → Completes (.rootPllLocked one both sets failed) s s.dev)) ∧
  (∀ (s : State) (pass : Bool) (part : BitVec 8) (sig : BitVec 64),
    (s.dev.vol.start.phase = .bist → (pass = true ∨ part.toNat / 16 - 1 < 8) →
      Reaches (.startBistComplete pass part sig) s fun t =>
        t.dev.vol.start.phase = .rc ∧ t.dev.vol.start.keys = KeyStore.empty ∧ t.dev.pier.bist = some pass ∧
        t.dev.get BIST.STAT_PHASE = (if pass then 4 else 5) ∧ t.dev.get BIST.STAT_FAILPART = (if pass then 0 else part.toNat) ∧
        t.dev.get BIST.STAT_PASS = (if pass then 255 else 255 - 2 ^ (part.toNat / 16 - 1)) ∧
        t.dev.get BIST.SIGL_V = (if pass then 0 else sig.toNat % 2 ^ 32) ∧ t.dev.get BIST.SIGH_V = (if pass then 0 else sig.toNat / 2 ^ 32) ∧
        t.dev.get LC.BOOTSTAT_BIST_RUN = 1 ∧ t.dev.get LC.BOOTSTAT_BIST_FAIL = b2n (!pass)) ∧
    (s.dev.vol.start.phase ≠ .bist → Completes (.startBistComplete pass part sig) s s.dev)) ∧
  (∀ s : State,
    (s.dev.vol.start.phase = .restored →
      Reaches .canPortsEvent s fun t =>
        t.dev.vol.start.phase = .ports ∧ t.dev.get DE.STAT_OPSTATE = 1 ∧ t.mem = s.mem ∧
        (s.dev.pier.shelfWake = true → 379 ∈ t.dev.edges ∧ t.dev.pier.shelfWake = false) ∧
        (s.dev.get PIER.CTL_WFAIL = 1 → s.dev.domainUp 7 = false → (9, 0) ∈ t.dev.raised)) ∧
    (s.dev.vol.start.phase ≠ .restored → Completes .canPortsEvent s s.dev)) ∧
  (∀ s : State,
    (s.dev.vol.start.phase = .ports → s.dev.get DE.STAT_OPSTATE = 1 →
      Reaches .startSequenceComplete s fun t =>
        t.dev.vol.start.phase = .complete ∧
        ((3 ≤ s.dev.reaction 0 ∧ 3 ≤ s.dev.reaction 1) → t.dev.get DE.STAT_OPSTATE = 5) ∧
        (¬ (3 ≤ s.dev.reaction 0 ∧ 3 ≤ s.dev.reaction 1) →
          t.dev.get DE.STAT_OPSTATE = 2 ∧
          (s.dev.get LC.BOOTSTAT_T_READY = 0 →
            t.dev.get LC.BOOTSTAT_T_READY = min 65535 ((s.dev.now - s.dev.vol.start.releasedAt) / 40)))) ∧
    (s.dev.vol.start.phase = .ports → s.dev.get DE.STAT_OPSTATE ≠ 1 →
      Completes .startSequenceComplete s (s.dev.modStart fun x => { x with phase := .complete })) ∧
    (s.dev.vol.start.phase ≠ .ports → Completes .startSequenceComplete s s.dev))

/-- A flash command (R90): written while another runs, it is ignored and `OVERRUN` is set; outside flash, off the line's alignment, or on the
bank whose image runs in place (R91), it is refused; else `BUSY` is set and the command is held with its address and line. At its end
`BUSY` clears; an erased line takes the 16 bytes and no other byte of memory changes, an erase leaves 0xFF in its sector or bank and no
other byte changes; a read-back that fails sets `ERR`. A master that may not write there meets R34. -/
def Obligations.FlashController : Prop :=
  (∀ (s : State) (m : Master),
    let line := s.dev.get (LC.FLDATA_V 0) + s.dev.get (LC.FLDATA_V 1) * 2 ^ 32 + s.dev.get (LC.FLDATA_V 2) * 2 ^ 64 +
      s.dev.get (LC.FLDATA_V 3) * 2 ^ 96
    ∀ e : Nat × Instr, e ∈ [(1, Instr.flashProgram m), (2, Instr.flashEraseSector m), (3, Instr.flashEraseBank m)] →
      (s.dev.accessAllowed m 0x40010400 true = false → Completes e.2 s (s.dev.busError m 0x40010400 true)) ∧
      (s.dev.accessAllowed m 0x40010400 true = true → s.dev.get LC.FLCTL_BUSY = 1 →
        Completes e.2 s ((s.dev.set LC.FLCTL_OVERRUN 1).busOk 0)) ∧
      (s.dev.accessAllowed m 0x40010400 true = true → s.dev.get LC.FLCTL_BUSY ≠ 1 →
        (s.dev.get LC.FLADDR_V < 0x08000000 ∨ 0x09000000 ≤ s.dev.get LC.FLADDR_V ∨ (e.1 = 1 ∧ s.dev.get LC.FLADDR_V % 16 ≠ 0) ∨
            s.dev.bankRuns (s.dev.get LC.FLADDR_V) = true →
          Completes e.2 s ((s.dev.set LC.FLCTL_REFUSED 1).busOk 0)) ∧
        (0x08000000 ≤ s.dev.get LC.FLADDR_V → s.dev.get LC.FLADDR_V < 0x09000000 → (e.1 = 1 → s.dev.get LC.FLADDR_V % 16 = 0) →
            s.dev.bankRuns (s.dev.get LC.FLADDR_V) = false →
          Completes e.2 s (((s.dev.set LC.FLCTL_BUSY 1).modStart fun x =>
            { x with flash := some { code := e.1, addr := s.dev.get LC.FLADDR_V, line := line } }).busOk 0)))) ∧
  (∀ s : State, s.dev.vol.start.flash = none → ∀ ok : Bool, Completes (.flashCommandDone ok) s s.dev) ∧
  (∀ (s : State) (c : FlashCmd), s.dev.vol.start.flash = some c → s.mem.wf = true →
    (c.code = 1 → lineErased s.mem c.addr = true →
      CompletesMem (.flashCommandDone true) s ((s.dev.modStart fun x => { x with flash := none }).set LC.FLCTL_BUSY 0)
          (s.mem.writeLE c.addr 16 c.line) ∧
        (s.mem.writeLE c.addr 16 c.line).readLE c.addr 16 = c.line % 2 ^ 128 ∧
        s.mem.sameOutside (s.mem.writeLE c.addr 16 c.line) c.addr 16) ∧
    (c.code = 2 ∨ c.code = 3 → 0x08000000 ≤ c.addr → c.addr < 0x09000000 →
      Reaches (.flashCommandDone true) s fun t =>
        t.dev = (s.dev.modStart fun x => { x with flash := none }).set LC.FLCTL_BUSY 0 ∧
        (∀ a : Nat, c.span.1 ≤ a → a < c.span.1 + c.span.2 → t.mem.read a = 0xFF#8) ∧ s.mem.sameOutside t.mem c.span.1 c.span.2) ∧
    (Reaches (.flashCommandDone false) s fun t =>
      t.dev.get LC.FLCTL_BUSY = 0 ∧ t.dev.get LC.FLCTL_ERR = 1 ∧ t.dev.vol.start.flash = none ∧
        s.mem.sameOutside t.mem c.span.1 c.span.2)) ∧
  (∀ c : FlashCmd, (c.code = 2 → c.span = (c.addr / 8192 * 8192, 8192)) ∧
    (c.code = 3 → c.span = (if c.addr < 0x08800000 then 0x08000000 else 0x08800000, 0x800000)))

/-- Transitions of the life-cycle state (R76, R94, R95, R96): a nonce is issued and kept until it lapses; a started operation in its turn whose
signatures over the outstanding nonce verify begins the burn of the target's first word with `PEND` and `PEND_TO`, and spends the nonce; for the present state
it opens what the verified signatures stand for instead (log 86); one whose signature fails is counted, and after eight failures every
request is refused with 0x0660; one for a transition that is not allowed ends with 0x0630 and counts nothing; a start while a word is burned is
refused; the end of the first word begins the second, and the end of the second performs the life-cycle-transition reset with `RSTCAUSE.LCT`. -/
def Obligations.LifeCycleTransition : Prop :=
  (∀ (s : State) (n : BitVec 128),
    (s.dev.running = true →
      Completes (.lcNonceRead n) s ((s.dev.modStart fun x => { x with nonce := some { value := n.toNat, readAt := s.dev.now } }).answer n.toNat 16)) ∧
    (s.dev.running = false → Completes (.lcNonceRead n) s s.dev)) ∧
  (∀ s : State, Completes .nonceLapse s (s.dev.modStart fun x => { x with nonce := none })) ∧
  (∀ (s : State) (target : BitVec 8), s.dev.vol.start.burn = none →
    (8 ≤ s.dev.pier.sigFails → s.dev.opRunning 0x7010 = false →
      Completes (.lcTransitionStart target) s ((s.dev.abort 0x7010 5 0x0660 0).modStart fun x => { x with nonce := none })) ∧
    (s.dev.pier.sigFails < 8 → ∀ d1 : Dev, s.dev.opBegin 0x7010 5 [(2, target.toNat)] s.dev.transState true = (d1, true) →
      ∀ (v : Nonce) (n : Bool × Bool) (dst : Nat), d1.objVal 0x7010 2 0 = dst → d1.vol.start.nonce = some v → d1.transAuth dst = some n →
        ((n.1 = true → d1.customerSigned dst v.value = true) → (n.2 = true → d1.makerSigned dst v.value = true) →
          dst ≠ d1.get LC.LCSTATE_STATE →
          Reaches (.lcTransitionStart target) s fun t =>
            t.dev.vol.start.burn = some { target := dst, word := 0 } ∧ t.dev.vol.start.nonce = none ∧
            t.dev.get LC.LCSTATE_PEND = 1 ∧ t.dev.get LC.LCSTATE_PEND_TO = dst % 16 ∧ t.dev.nv = s.dev.nv ∧ t.mem = s.mem) ∧
        ((n.1 = true ∧ d1.customerSigned dst v.value = false) ∨ (n.2 = true ∧ d1.makerSigned dst v.value = false) →
          Reaches (.lcTransitionStart target) s fun t =>
            t.dev.vol.start.burn = none ∧ t.dev.vol.start.nonce = none ∧ t.dev.pier.sigFails = s.dev.pier.sigFails + 1 ∧
            t.dev.handle 0x7010 / 2 ^ 29 = 3 ∧ t.dev.handle 0x7010 % 2 ^ 16 = 0x0660 ∧ t.dev.nv = s.dev.nv ∧ t.mem = s.mem))) ∧
  (∀ (s : State) (k : Fin 7), s.dev.vol.start.burn = some { target := k, word := 0 } → s.dev.lands.resetPending = [] →
    Completes (.fuseBurnComplete 0) s
      (({ s.dev with nv := { s.dev.nv with fuses := { s.dev.nv.fuses with word1 := vset s.dev.nv.fuses.word1 k true } } } : Dev).modStart fun x =>
        { x with burn := some { target := k, word := 1 } })) ∧
  (∀ (s : State) (k : Fin 7), s.dev.vol.start.burn = some { target := k, word := 1 } → s.dev.lands.resetPending = [] →
    s.dev.vol.start.flash = none →
    Reaches (.fuseBurnComplete 1) s fun t =>
      vget t.dev.nv.fuses.word2 k = true ∧ t.dev.get LC.RSTCAUSE_LCT = 1 ∧ t.dev.vol = s.dev.vol.restart ∧ t.mem = s.mem) ∧
  (∀ (s : State) (target : BitVec 8), s.dev.vol.start.burn = none → s.dev.pier.sigFails < 8 →
    (∀ d1 : Dev, s.dev.opBegin 0x7010 5 [(2, target.toNat)] s.dev.transState true = (d1, true) → d1.transAuth (d1.objVal 0x7010 2 0) = none →
      Completes (.lcTransitionStart target) s ((d1.modStart fun x => { x with nonce := none }).opFail 0x7010 0x0630)) ∧
    (∀ d1 : Dev, s.dev.opBegin 0x7010 5 [(2, target.toNat)] s.dev.transState true = (d1, false) →
      Completes (.lcTransitionStart target) s (if d1.opRunning 0x7010 then d1 else d1.modStart fun x => { x with nonce := none })) ∧
    (∀ (d1 : Dev) (v : Nonce) (n : Bool × Bool), s.dev.opBegin 0x7010 5 [(2, target.toNat)] s.dev.transState true = (d1, true) →
      d1.objVal 0x7010 2 0 = d1.get LC.LCSTATE_STATE → d1.vol.start.nonce = some v → d1.transAuth (d1.get LC.LCSTATE_STATE) = some n →
      (n.1 = true → d1.customerSigned (d1.get LC.LCSTATE_STATE) v.value = true) →
      (n.2 = true → d1.makerSigned (d1.get LC.LCSTATE_STATE) v.value = true) →
      Reaches (.lcTransitionStart target) s fun t =>
        (n.1 = true → t.dev.vol.start.custAuth = true) ∧ (n.2 = true → t.dev.vol.start.makerAuth = true) ∧
        t.dev.vol.start.burn = none ∧ t.dev.vol.start.nonce = none ∧ t.dev.pier = s.dev.pier ∧ t.dev.handle 0x7010 / 2 ^ 29 = 2 ∧
        t.dev.nv = s.dev.nv ∧ t.mem = s.mem)) ∧
  (∀ (s : State) (target : BitVec 8) (b : Burn), s.dev.vol.start.burn = some b →
    Completes (.lcTransitionStart target) s (s.dev.abort 0x7010 5 0x0640 2))

/-- The boot options (R84): in PROVISION a value that returns no fuse bit to 0 is burned and answered; outside PROVISION the write is rejected
with 0x0630, and one that would return a bit to 0 with 0x0611, and neither burns anything. So are the hashes of the key slots (sub-index 6). The raise of
0x7012 in TRACTION and SECOND_LIFE, in its turn, burns the floor and the revocations when the signature verifies and the floor does not fall; with a
signature that fails it ends with 0x0660, for a lower floor with 0x0611, and in another state it is refused with 0x0630. -/
def Obligations.BootOptionFuses : Prop :=
  (∀ (s : State) (sub : BitVec 8) (v : BitVec 512), 1 ≤ sub.toNat → sub.toNat ≤ 5 →
    (s.dev.get LC.LCSTATE_STATE = 2 → v.toNat < 2 ^ (optPlace sub.toNat).2 →
      (natField s.dev.nv.fuses.opt (optPlace sub.toNat).1 (optPlace sub.toNat).2 &&& v.toNat =
          natField s.dev.nv.fuses.opt (optPlace sub.toNat).1 (optPlace sub.toNat).2 →
        Completes (.bootOptionWrite sub v) s
          (({ s.dev with nv := { s.dev.nv with fuses :=
              { s.dev.nv.fuses with opt := s.dev.nv.fuses.opt ||| (v.toNat * 2 ^ (optPlace sub.toNat).1) } } } : Dev).answer 0 0)) ∧
      (natField s.dev.nv.fuses.opt (optPlace sub.toNat).1 (optPlace sub.toNat).2 &&& v.toNat ≠
          natField s.dev.nv.fuses.opt (optPlace sub.toNat).1 (optPlace sub.toNat).2 →
        Completes (.bootOptionWrite sub v) s (s.dev.abort 0x2010 sub.toNat 0x0611 0)))) ∧
  (∀ (s : State) (sub : BitVec 8) (v : BitVec 512), sub.toNat ≤ 6 → s.dev.get LC.LCSTATE_STATE ≠ 2 →
    Completes (.bootOptionWrite sub v) s (s.dev.abort 0x2010 sub.toNat 0x0630 0)) ∧
  (∀ (s : State) (v : BitVec 512), s.dev.get LC.LCSTATE_STATE = 2 →
    let old := s.dev.nv.fuses.slot0 + s.dev.nv.fuses.slot1 * 2 ^ 256
    (old &&& v.toNat = old →
      Reaches (.bootOptionWrite 6 v) s fun t =>
        t.dev.nv.fuses = { s.dev.nv.fuses with slot0 := v.toNat % 2 ^ 256, slot1 := v.toNat / 2 ^ 256 } ∧ t.dev.resp.code = 0 ∧ t.dev.vol = s.dev.vol) ∧
    (old &&& v.toNat ≠ old → Completes (.bootOptionWrite 6 v) s (s.dev.abort 0x2010 6 0x0611 0))) ∧
  (∀ (s : State) (arb : Fin 64) (r0 r1 : Bool) (d1 : Dev) (v : Nat),
    (s.dev.opRunning 0x7012 = true ∨ s.dev.get LC.LCSTATE_STATE = 3 ∨ s.dev.get LC.LCSTATE_STATE = 4) →
    s.dev.opBegin 0x7012 3 [(1, arb.val + b2n r0 * 64 + b2n r1 * 128)] (decide (s.dev.get DE.STAT_OPSTATE ≠ 6)) true = (d1, true) →
    d1.objVal 0x7012 1 0 = v →
    (s.dev.nv.fuses.arb ≤ v % 64 →
      Reaches (.arbRaise arb r0 r1 true) s fun t =>
        t.dev.nv = { s.dev.nv with fuses :=
          { s.dev.nv.fuses with arb := v % 64, opt := s.dev.nv.fuses.opt ||| (b2n (natBit v 6) * 64 + b2n (natBit v 7) * 128) } } ∧
        t.dev.handle 0x7012 = 2 * 2 ^ 29 + 100 * 2 ^ 16 ∧ t.mem = s.mem) ∧
    (Reaches (.arbRaise arb r0 r1 false) s fun t =>
      t.dev.nv = s.dev.nv ∧ t.dev.handle 0x7012 / 2 ^ 29 = 3 ∧ t.dev.handle 0x7012 % 2 ^ 16 = 0x0660 ∧ t.mem = s.mem) ∧
    (v % 64 < s.dev.nv.fuses.arb →
      Reaches (.arbRaise arb r0 r1 true) s fun t =>
        t.dev.nv = s.dev.nv ∧ t.dev.handle 0x7012 / 2 ^ 29 = 3 ∧ t.dev.handle 0x7012 % 2 ^ 16 = 0x0611 ∧ t.mem = s.mem)) ∧
  (∀ (s : State) (arb : Fin 64) (r0 r1 c : Bool), s.dev.opRunning 0x7012 = false → s.dev.get LC.LCSTATE_STATE ≠ 3 →
    s.dev.get LC.LCSTATE_STATE ≠ 4 → Completes (.arbRaise arb r0 r1 c) s (s.dev.abort 0x7012 3 0x0630 0)) ∧
  (∀ (s : State) (arb : Fin 64) (r0 r1 c : Bool) (d1 : Dev),
    (s.dev.opRunning 0x7012 = true ∨ s.dev.get LC.LCSTATE_STATE = 3 ∨ s.dev.get LC.LCSTATE_STATE = 4) →
    s.dev.opBegin 0x7012 3 [(1, arb.val + b2n r0 * 64 + b2n r1 * 128)] (decide (s.dev.get DE.STAT_OPSTATE ≠ 6)) true = (d1, false) →
    Completes (.arbRaise arb r0 r1 c) s d1)

/-- The fuses of these commands go from 0 to 1 only (R84, R96): over a power-on reset, the burn of a state's words, the boot options,
the raise of 0x7012 and the start of a transition, the words of the life-cycle states, the revocation and option bits, the bits of the key slots and the
unique key's end that were burned stay burned, and the floor does not fall. -/
def Obligations.FusesOnlyBurn : Prop :=
  ∀ (s t : State) (i : Instr),
    (i = .powerOnReset ∨ (∃ w, i = .fuseBurnComplete w) ∨ (∃ sub v, i = .bootOptionWrite sub v) ∨ (∃ a r0 r1 c, i = .arbRaise a r0 r1 c) ∨
      (∃ g, i = .lcTransitionStart g)) →
    exec i s = .next t →
    (∀ k : Fin 7, (vget s.dev.nv.fuses.word1 k = true → vget t.dev.nv.fuses.word1 k = true) ∧
      (vget s.dev.nv.fuses.word2 k = true → vget t.dev.nv.fuses.word2 k = true)) ∧
    (∀ j : Nat, natBit s.dev.nv.fuses.opt j = true → natBit t.dev.nv.fuses.opt j = true) ∧
    (∀ j : Nat, j < 256 → s.dev.nv.fuses.slot0 < 2 ^ 256 → (natBit s.dev.nv.fuses.slot0 j = true → natBit t.dev.nv.fuses.slot0 j = true) ∧
      (natBit s.dev.nv.fuses.slot1 j = true → natBit t.dev.nv.fuses.slot1 j = true)) ∧
    (s.dev.nv.fuses.hukGone = true → t.dev.nv.fuses.hukGone = true) ∧ s.dev.nv.fuses.arb ≤ t.dev.nv.fuses.arb

/-- A result that the scan of a live slice expects (R103, R105, R106, R108, R116, R117): `Q.LASTt` takes the entry with
the code rounded to 16 bits, the next order number of its queue and the substitution flag; the entry waits behind those already waiting, but before one of the
same cycle with a higher slice number; `SEQ` counts. Beyond 102.5 % of full scale the code is an end of the range with the flag set, and line 18 is raised
where `ORFL` is 1; input 2 gives the code of the check level. An input that the scan does not convert now, a slice that no converter serves, or a stopped
block delivers nothing. A result in the slot of a phase current (R183, R186) beyond `OCLIM` sets `OC` and raises line 26, in every mode and state; of an active
bridge in band mode it is judged against the centre extrapolated from the last tick: beyond the band the leg changes, with the time and the count of
turn-ons, unless the dwell since its last change is not over, when the decision is withheld and counted. -/
def Obligations.ResultEntry : Prop :=
  (∀ (s : State) (k : Fin 32) (i : Fin 4) (v : Int) (vref n : Nat) (q : Fin 8), s.dev.sliceLive k = true →
    (vget s.dev.vol.ana.scan k).expects i = true → 0 < vref → q.val = s.dev.queueOf k i →
    let sub := s.dev.substAt k n
    let seq := vget s.dev.vol.ana.seq q
    let e := fun (o : Bool) (c : Int) => mkEntry k i o sub seq c
    ((s.dev.vol.ana.waiting.all fun w => !w.follows q n (4 * k + i)) = true →
      (i ≠ 2 → 1000 * v.natAbs ≤ 1015 * vref →
        Reaches (.resultPresented k i v vref n) s fun t =>
          t.dev.get (Q.LAST_V (4 * k + i)) = e false (clampInt (-32768) 32767 (roundDiv (v * 32768) vref)) % 2 ^ 32 ∧
          t.dev.vol.ana.waiting = s.dev.vol.ana.waiting ++
            [{ q := q, n := n, tag := 4 * k + i, entry := e false (clampInt (-32768) 32767 (roundDiv (v * 32768) vref)) }] ∧
          vget t.dev.vol.ana.seq q = (seq + 1) % 128 ∧ t.mem = s.mem) ∧
      (i ≠ 2 → 1025 * vref < 1000 * v.natAbs →
        Reaches (.resultPresented k i v vref n) s fun t =>
          t.dev.get (Q.LAST_V (4 * k + i)) = e true (if v < 0 then -32768 else 32767) % 2 ^ 32 ∧ vget t.dev.vol.ana.seq q = (seq + 1) % 128 ∧
          (s.dev.get (AS.SLCFG_ORFL k) = 1 → (18, 0) ∈ t.dev.raised) ∧ t.mem = s.mem) ∧
      (i = 2 →
        Reaches (.resultPresented k i v vref n) s fun t =>
          t.dev.get (Q.LAST_V (4 * k + i)) = e false (checkCode (s.dev.get AS.CTL_CHKLVL)) % 2 ^ 32 ∧
          vget t.dev.vol.ana.seq q = (seq + 1) % 128 ∧ t.mem = s.mem)) ∧
    (∀ w : QItem, s.dev.vol.ana.waiting = [w] → w.q = q.val → w.n = n → k.val < w.tag / 4 →
      Reaches (.resultPresented k i v vref n) s fun t =>
        ∃ x : QItem, t.dev.vol.ana.waiting = [x, w.next] ∧ x.tag = 4 * k + i ∧ x.q = q.val ∧ x.entry / 2 ^ 16 % 128 = (seq + 127) % 128)) ∧
  (∀ (s : State) (k : Fin 32) (i : Fin 4) (v : Int) (vref n : Nat),
    s.dev.sliceLive k = false ∨ (vget s.dev.vol.ana.scan k).expects i = false → Completes (.resultPresented k i v vref n) s s.dev) ∧
  (∀ (s : State) (k : Fin 32) (i : Fin 4) (v : Int) (vref n : Nat) (b : Bridge) (p : Fin 3) (x : Int), s.dev.sliceLive k = true →
    (vget s.dev.vol.ana.scan k).expects i = true → 0 < vref → i ≠ 2 → 1000 * v.natAbs ≤ 1015 * vref →
    x = clampInt (-32768) 32767 (roundDiv (v * 32768) vref) → (b, p) ∈ s.dev.phasesOfTag (4 * k + i) → s.dev.works 4 3 = true →
    ((s.dev.snapOf b).oclim < x.natAbs →
      Reaches (.resultPresented k i v vref n) s fun t => t.dev.get (CE.BANDEVT_OC b) = 1 ∧ (26, brMask b) ∈ t.dev.raised) ∧
    (x.natAbs ≤ (s.dev.snapOf b).oclim →
      Reaches (.resultPresented k i v vref n) s fun t => t.dev.get (CE.BANDEVT_OC b) = s.dev.get (CE.BANDEVT_OC b)) ∧
    (s.dev.active b = true → (s.dev.snapOf b).ctrl = 0 →
      let e := s.dev.engS b
      let c : Nat := presentedAt n
      let nn : Int := (c : Int) - e.tload
      let err : Int := x * 2 ^ 64 - (vget e.cen p * 2 ^ 48 + vget e.slp p * nn * 2 ^ 16 + vget e.crv p * nn * nn / 2)
      let h : Int := vget e.h p * 2 ^ 48
      let want : Nat := if h < err then 1 else if err < -h then 2 else vget e.leg p
      let dwell : Nat := 2 * max 10 (min 400 (s.dev.get (MOD.DEAD_DT b))) + (s.dev.snapOf b).minPulse
      (want = vget e.leg p ∨ c < vget e.tchg p + dwell →
        Reaches (.resultPresented k i v vref n) s fun t =>
          vget (t.dev.engS b).leg p = vget e.leg p ∧ vget (t.dev.engS b).tchg p = vget e.tchg p ∧ vget (t.dev.engS b).ncount p = vget e.ncount p ∧
          (s.dev.phasesOfTag (4 * k + i) = [(b, p)] →
            t.dev.get (CE.BANDEVT_DWELLHOLD b) =
              if want = vget e.leg p then s.dev.get (CE.BANDEVT_DWELLHOLD b)
              else min (2 ^ (CE.BANDEVT_DWELLHOLD b).width - 1) (s.dev.get (CE.BANDEVT_DWELLHOLD b) + 1))) ∧
      (want ≠ vget e.leg p → vget e.tchg p + dwell ≤ c →
        Reaches (.resultPresented k i v vref n) s fun t =>
          vget (t.dev.engS b).leg p = want ∧ vget (t.dev.engS b).tchg p = c ∧
          vget (t.dev.engS b).ncount p = vget e.ncount p + (if want = 2 then 1 else 0) ∧
          (s.dev.get (MOD.CTL_MODE b) = 2 → vget (t.dev.modS b).leg p = want))) ∧
    (s.dev.active b = false ∨ (s.dev.snapOf b).ctrl ≠ 0 →
      Reaches (.resultPresented k i v vref n) s fun t => (t.dev.engS b).leg = (s.dev.engS b).leg))

/-- The write of a waiting entry (R116, R118, R119): with `EN` 0 it is discarded; with room it is stored at `WIDX` and `WIDX` and `LEVEL`
count, `WM` being set as `LEVEL` reaches the watermark; at a full queue `OVF` and `LOST` count it, and it is dropped, or replaces the
oldest. No byte but those of its place in the queue changes. With no entry waiting nothing changes. A clear of `OVF` sets `LOST` to 0, and an entry lost in the
same cycle sets `OVF` again with `LOST` 1 (R12).
A pop (R118) answers 0xFFFF_FFFF at an empty queue, and else the entry at `RIDX`, which then advances, with `LEVEL` one less; a forbidden
reader gets a bus error. An entry written to an empty queue is what the next pop returns. A write to `RIDX` discards forward only:
a distance of 0 changes nothing, one up to `LEVEL` discards as many entries, a larger one empties the queue (R509). -/
def Obligations.Queues : Prop :=
  (
    (∀ (s : State) (q : Fin 8) (e : Nat) (rest : List QItem), s.dev.anaWorks = true →
      takeWaiting s.dev.vol.ana.waiting q = (some e, rest) →
      let d1 := s.dev.modAna fun a => { a with waiting := rest }
      let stored := (d1.set (Q.QPTR_WIDX q) (s.dev.get (Q.QPTR_WIDX q) + 1)).set (Q.QSTAT_LEVEL q) (s.dev.get (Q.QSTAT_LEVEL q) + 1)
      let mem' := s.mem.writeWord (queueAddr q (s.dev.get (Q.QPTR_WIDX q))) e
      let lost := (d1.set (Q.QSTAT_OVF q) 1).countSat (Q.QSTAT_LOST q)
      (s.dev.get (Q.QCTL_EN q) ≠ 1 → Completes (.queueEntryWrite q) s d1) ∧
      (s.dev.get (Q.QCTL_EN q) = 1 → s.dev.get (Q.QSTAT_LEVEL q) ≠ 512 →
        (s.dev.get (Q.QSTAT_LEVEL q) + 1 ≠ s.dev.watermark q → CompletesMem (.queueEntryWrite q) s stored mem') ∧
        (s.dev.get (Q.QSTAT_LEVEL q) + 1 = s.dev.watermark q →
          CompletesMem (.queueEntryWrite q) s (stored.set (Q.QSTAT_WM q) 1) mem')) ∧
      (s.dev.get (Q.QCTL_EN q) = 1 → s.dev.get (Q.QSTAT_LEVEL q) = 512 →
        (s.dev.get (Q.QCTL_POLICY q) = 1 → Completes (.queueEntryWrite q) s lost) ∧
        (s.dev.get (Q.QCTL_POLICY q) ≠ 1 →
          CompletesMem (.queueEntryWrite q) s
            ((lost.set (Q.QPTR_WIDX q) (s.dev.get (Q.QPTR_WIDX q) + 1)).set (Q.QPTR_RIDX q) (s.dev.get (Q.QPTR_RIDX q) + 1)) mem'))) ∧
    (∀ (s : State) (q : Fin 8), s.dev.anaWorks = false ∨ (takeWaiting s.dev.vol.ana.waiting q).1 = none →
      Completes (.queueEntryWrite q) s s.dev) ∧
    (∀ (s : State) (q : Fin 8) (a : Nat),
      a < queueAddr q (s.dev.get (Q.QPTR_WIDX q)) ∨ queueAddr q (s.dev.get (Q.QPTR_WIDX q)) + 4 ≤ a →
      Reaches (.queueEntryWrite q) s fun t => t.mem.read a = s.mem.read a) ∧
    (∀ (s : State) (m : Master) (q : Fin 8),
      (s.dev.accessAllowed m (0x40110008 + 0x10 * q) true = true →
        Completes (.queueOvfClear m q false) s (((s.dev.set (Q.QSTAT_OVF q) 0).set (Q.QSTAT_LOST q) 0).busOk 0) ∧
        ((takeWaiting s.dev.vol.ana.waiting q).1.isSome = true → s.dev.get (Q.QCTL_EN q) = 1 → s.dev.get (Q.QSTAT_LEVEL q) = 512 →
          Reaches (.queueOvfClear m q true) s fun t =>
            t.dev.get (Q.QSTAT_OVF q) = 1 ∧ t.dev.get (Q.QSTAT_LOST q) = 1 ∧ t.dev.get (Q.QSTAT_LEVEL q) = 512 ∧
            t.dev.bus = { error := false, data := 0 })) ∧
      (s.dev.accessAllowed m (0x40110008 + 0x10 * q) true = false → ∀ e : Bool,
        Completes (.queueOvfClear m q e) s (s.dev.busError m (0x40110008 + 0x10 * q) true)))) ∧
  (
    (∀ (s : State) (m : Master) (q : Fin 8), s.dev.accessAllowed m (0x4011000C + 0x10 * q) false = true →
      (s.dev.get (Q.QSTAT_LEVEL q) = 0 → Completes (.queuePop m q) s (s.dev.busOk 0xFFFFFFFF)) ∧
      (s.dev.get (Q.QSTAT_LEVEL q) ≠ 0 →
        Completes (.queuePop m q) s
          (((s.dev.set (Q.QPTR_RIDX q) (s.dev.get (Q.QPTR_RIDX q) + 1)).set (Q.QSTAT_LEVEL q) (s.dev.get (Q.QSTAT_LEVEL q) - 1)).busOk
            (s.mem.readLE (queueAddr q (s.dev.get (Q.QPTR_RIDX q))) 4)))) ∧
    (∀ (s : State) (m : Master) (q : Fin 8), s.dev.accessAllowed m (0x4011000C + 0x10 * q) false = false →
      Completes (.queuePop m q) s (s.dev.busError m (0x4011000C + 0x10 * q) false)) ∧
    (∀ (s t : State) (m : Master) (q : Fin 8) (e : Nat) (rest : List QItem), s.dev.anaWorks = true → s.mem.wf = true →
      takeWaiting s.dev.vol.ana.waiting q = (some e, rest) → s.dev.get (Q.QCTL_EN q) = 1 → s.dev.get (Q.QSTAT_LEVEL q) = 0 →
      s.dev.get (Q.QPTR_RIDX q) = s.dev.get (Q.QPTR_WIDX q) → exec (.queueEntryWrite q) s = .next t →
      t.dev.accessAllowed m (0x4011000C + 0x10 * q) false = true →
      Reaches (.queuePop m q) t fun u => u.dev.bus.data = e % 2 ^ 32 ∧ u.dev.get (Q.QSTAT_LEVEL q) = 0) ∧
    (∀ (s : State) (m : Master) (q : Fin 8) (v : BitVec 9),
      (s.dev.accessAllowed m (0x40110004 + 0x10 * q) true = true →
        let dist := (v.toNat + 512 - s.dev.get (Q.QPTR_RIDX q)) % 512
        (dist = 0 → Completes (.queueDiscard m q v) s (s.dev.busOk 0)) ∧
        (0 < dist → dist ≤ s.dev.get (Q.QSTAT_LEVEL q) →
          Completes (.queueDiscard m q v) s
            (((s.dev.set (Q.QPTR_RIDX q) v.toNat).set (Q.QSTAT_LEVEL q) (s.dev.get (Q.QSTAT_LEVEL q) - dist)).busOk 0)) ∧
        (s.dev.get (Q.QSTAT_LEVEL q) < dist →
          Completes (.queueDiscard m q v) s
            (((s.dev.set (Q.QPTR_RIDX q) (s.dev.get (Q.QPTR_WIDX q))).set (Q.QSTAT_LEVEL q) 0).busOk 0))) ∧
      (s.dev.accessAllowed m (0x40110004 + 0x10 * q) true = false →
        Completes (.queueDiscard m q v) s (s.dev.busError m (0x40110004 + 0x10 * q) true))))

/-- Slices and triggers (R109 to R114): the configuration of a slice takes a write only of a master that may claim for its owner, and its scan
follows at the next epoch; a software trigger is held for the epoch; a trigger that reaches several groups acts on each: of a group whose set is still
converting it is lost and counted, and of an idle group it starts the set of every slice; the trigger is taken either way. A group whose source is 4
is triggered with GA (Table 4-7, of the software trigger of GA and of a tick). While no slice converts nothing is triggered (log 135). -/
def Obligations.SlicesAndTriggers : Prop :=
  (∀ (s : State) (m : Master) (k : Fin 32) (v : Word),
    (s.dev.accessAllowed m (0x40100100 + 4 * k) true = true → s.dev.mayClaimId m (s.dev.get (OWN.R_OWNER 1 k)) = true →
      Completes (.sliceConfigWrite m k v) s ((s.dev.writeFields (slcfgFields k) v.toNat).busOk 0)) ∧
    (s.dev.accessAllowed m (0x40100100 + 4 * k) true = false ∨ s.dev.mayClaimId m (s.dev.get (OWN.R_OWNER 1 k)) = false →
      Completes (.sliceConfigWrite m k v) s (s.dev.busError m (0x40100100 + 4 * k) true))) ∧
  (∀ (d : Dev) (k : Fin 32) (v : Nat),
    (d.writeFields (slcfgFields k) v).get (AS.SLCFG_MODE k) = v / 2 ^ (AS.SLCFG_MODE k).lo % 2 ^ (AS.SLCFG_MODE k).width ∧
    (d.writeFields (slcfgFields k) v).get (AS.SLCFG_SMASK k) = v / 2 ^ (AS.SLCFG_SMASK k).lo % 2 ^ (AS.SLCFG_SMASK k).width ∧
    d.sameBut (d.writeFields (slcfgFields k) v) (slcfgFields k)) ∧
  (∀ (s : State) (k : Fin 32),
    (s.dev.anaWorks = true →
      Completes (.scanModeChange k) s
        (s.dev.modAna fun a => { a with scan := vset a.scan k ((vget a.scan k).reconfigure (s.dev.get (AS.SLCFG_MODE k))
          (s.dev.get (AS.SLCFG_SMASK k)) (s.dev.get (AS.SLCFG_TMASK k))) })) ∧
    (s.dev.anaWorks = false → Completes (.scanModeChange k) s s.dev)) ∧
  (∀ (c : SliceScan) (sm tm : Nat), c.mode = 0 →
    c.reconfigure 2 sm tm = { c with
      mode := 2, smask := sm, tmask := tm, cur := (maskInputs sm).headD 0,
      resume := if c.todo.isEmpty then none else some ((maskInputs sm).headD 0) }) ∧
  (∀ (s : State) (m : Master) (g : Fin 4),
    (s.dev.accessAllowed m (0x40100010 + 4 * g) true = true → isTrussOrDict m = true →
      Completes (.groupSwtrig m g) s ((s.dev.modAna fun a => { a with trigPend := vset a.trigPend g true }).busOk 0)) ∧
    (s.dev.accessAllowed m (0x40100010 + 4 * g) true = false ∨ isTrussOrDict m = false →
      Completes (.groupSwtrig m g) s (s.dev.busError m (0x40100010 + 4 * g) true))) ∧
  (∀ (s : State) (src : TrigSrc) (at' : List (Fin 32)), s.dev.anaWorks = true → s.dev.get AS.CTL_EN = 1 →
    Reaches (.groupTrigger src at') s fun t =>
      (∀ g : Nat, g < 4 →
        (g ∈ s.dev.groupsHit src → s.dev.groupBusy g = true →
          t.dev.get (AS.GRP_LOSTF g) = 1 ∧ t.dev.get (AS.GRP_TLOST g) = min (2 ^ (AS.GRP_TLOST g).width - 1) (s.dev.get (AS.GRP_TLOST g) + 1)) ∧
        (g ∉ s.dev.groupsHit src ∨ s.dev.groupBusy g = false →
          t.dev.get (AS.GRP_LOSTF g) = s.dev.get (AS.GRP_LOSTF g) ∧ t.dev.get (AS.GRP_TLOST g) = s.dev.get (AS.GRP_TLOST g))) ∧
      (∀ k : Fin 32, vget t.dev.vol.ana.scan k =
        if k.val / 8 ∈ s.dev.groupsHit src ∧ s.dev.groupBusy (k.val / 8) = false then (vget s.dev.vol.ana.scan k).trigger (at'.contains k)
        else vget s.dev.vol.ana.scan k) ∧
      t.dev.groupsHit src = [] ∧ t.mem = s.mem ∧ t.dev.nv = s.dev.nv ∧ t.dev.raised = s.dev.raised) ∧
  (∀ (s : State) (src : TrigSrc) (at' : List (Fin 32)), s.dev.anaWorks = false ∨ s.dev.get AS.CTL_EN ≠ 1 →
    Completes (.groupTrigger src at') s (s.dev.takeTrigger src)) ∧
  (∀ d : Dev,
    d.groupsHit (.software 0) = [0, 1, 2, 3].filter fun g => vget d.vol.ana.trigPend 0 && (decide (g = 0) || decide (d.get (AS.GRP_TSRC g) = 4))) ∧
  (∀ d : Dev, d.groupsHit .tick = [0, 1, 2, 3].filter fun g =>
    d.vol.ce.tickTrig && (decide (d.get (AS.GRP_TSRC g) = 3) || (decide (g ≠ 0) && decide (d.get (AS.GRP_TSRC g) = 4) && decide (d.get (AS.GRP_TSRC 0) = 3))))

/-- Background calibration and failover (R120 to R129): a requested visit is written with its slice number; a slot whose slice passes takes
over the trims, restarts the age and counts the visit; a converter without results is replaced by the hot-standby spare in state 0,
with line 19, the substitution shown and the failover kept in MRAM, by the rotating spare in state 1, and by none in states 2 and 3, where the chain ends in state 3. -/
def Obligations.CalibrationAndFailover : Prop :=
  (∀ (s : State) (m : Master) (k : BitVec 8),
    (s.dev.accessAllowed m 0x40100020 true = true →
      Completes (.calnowRequest m false k) s (((s.dev.set AS.CALCTL_CALNOW_S k.toNat).set AS.CALCTL_CALNOW 1).busOk 0)) ∧
    (s.dev.accessAllowed m 0x40100020 true = false →
      Completes (.calnowRequest m false k) s (s.dev.busError m 0x40100020 true))) ∧
  (∀ (s : State) (m : Master) (k : BitVec 8), s.dev.accessAllowed .dict 0x40100020 true = true →
    (2 ≤ s.dev.get AS.SPARE_CHAIN → Completes (.calnowRequest m true k) s (s.dev.abort 0x2103 3 0x0622 0)) ∧
    (s.dev.get AS.SPARE_CHAIN < 2 → 31 < k.toNat → Completes (.calnowRequest m true k) s (s.dev.abort 0x2103 3 0x0611 0)) ∧
    (s.dev.get AS.SPARE_CHAIN < 2 → k.toNat ≤ 31 →
      Completes (.calnowRequest m true k) s (((s.dev.set AS.CALCTL_CALNOW_S k.toNat).set AS.CALCTL_CALNOW 1).answer 0 0))) ∧
  (∀ (s : State) (r : CalMeasure) (k : Fin 32), s.dev.anaWorks = true → s.dev.get AS.CTL_EN = 1 →
    s.dev.get AS.SPARE_CHAIN ≤ 1 → s.dev.get AS.CALCTL_CALNOW = 1 → s.dev.get AS.CALCTL_CALNOW_S = k → s.dev.get (AS.SLST_SERVER k) = 0 →
    calFails r = false → calSpareFails r = false → r.post16.natAbs ≤ 32 →
    Reaches (.calSlotStart r) s fun t =>
      vget t.dev.vol.ana.trims ⟨k, by omega⟩ = ⟨r.offset, r.gainPpm, r.dnl⟩ ∧ t.dev.get AS.CALCTL_CALNOW = 0 ∧
      t.dev.get AS.CALSTAT_TARGET = k ∧ t.dev.get AS.CALSTAT_PHASE = 1 ∧ t.dev.get (AS.SLST_CALAGE k) = 0 ∧
      t.dev.get (AS.SLST_VISITS k) = (s.dev.get (AS.SLST_VISITS k) + 1) % 2 ^ (AS.SLST_VISITS k).width ∧ t.mem = s.mem ∧
      (r.pre1 = false →
        s.dev.sameBut t.dev [AS.CALCTL_CALNOW, AS.CALSTAT_TARGET, AS.CALSTAT_PHASE, AS.SLST_SUBST k, AS.SLST_CHKERR k, AS.SLST_CALAGE k,
          AS.SLST_VISITS k])) ∧
  (∀ (s : State) (r : CalMeasure),
    2 ≤ s.dev.get AS.SPARE_CHAIN ∨ (s.dev.get AS.CALCTL_CALNOW ≠ 1 ∧ s.dev.get AS.CALCTL_CALEN ≠ 1) → Completes (.calSlotStart r) s s.dev) ∧
  (∀ (s : State) (k : Fin 32) (n : Nat),
    (s.dev.sliceLive k = true → s.dev.vol.ana.visit = none → s.dev.vol.ana.lastFail = none → s.dev.get (AS.SLST_SERVER k) = 0 →
      (s.dev.get AS.SPARE_CHAIN = 0 → s.dev.get AS.SPARE_ROTSP = 0 →
        Reaches (.converterNoResult k n) s fun t =>
          t.dev.get (AS.SLST_SERVER k) = 1 ∧ t.dev.get (AS.SLST_SUBST k) = 1 ∧ t.dev.get (AS.SLST_FAILED k) = 1 ∧
          t.dev.get AS.SPARE_SP1_USED = 1 ∧ t.dev.get AS.SPARE_SP1_FOR = k ∧ t.dev.get AS.SPARE_CHAIN = 1 ∧ (19, 0) ∈ t.dev.raised ∧
          t.dev.nv.failovers = min 65535 (s.dev.nv.failovers + 1) ∧ t.dev.nv.convRecord = t.dev.convRecordNow ∧
          (vget t.dev.vol.ana.scan k).gap = true ∧ t.mem = s.mem) ∧
      (s.dev.get AS.SPARE_CHAIN = 1 → s.dev.get AS.SPARE_ROTSP = 0 →
        Reaches (.converterNoResult k n) s fun t =>
          t.dev.get (AS.SLST_SERVER k) = 2 ∧ t.dev.get (AS.SLST_FAILED k) = 1 ∧ t.dev.get AS.SPARE_SP0_USED = 1 ∧
          t.dev.get AS.SPARE_SP0_FOR = k ∧ t.dev.get AS.SPARE_CHAIN = 2 ∧ (19, 0) ∈ t.dev.raised ∧ (20, 0) ∈ t.dev.raised ∧ t.mem = s.mem) ∧
      (2 ≤ s.dev.get AS.SPARE_CHAIN →
        Reaches (.converterNoResult k n) s fun t =>
          t.dev.get (AS.SLST_SERVER k) = 3 ∧ t.dev.get (AS.SLST_FAILED k) = 1 ∧ t.dev.get AS.SPARE_CHAIN = 3 ∧
          t.dev.sliceLive k = false ∧ (vget t.dev.vol.ana.scan k).todo = [] ∧ t.mem = s.mem)) ∧
    (s.dev.sliceLive k = false → Completes (.converterNoResult k n) s s.dev))

/-- An accepted transition of A and B (R139 to R141, R155): one level that changes moves `COUNT` by one, forward in the order 00,
10, 11, 01, and `DIRINV` turns the direction round, modulo the encoder's period or, in linear mode, held at the limits; both levels changed in one cycle is a
quadrature error, with FAULT and the block's line; a block that is off only keeps the levels. The command is this and the block commutation of the modulator
that may follow the sensor (R221), which does nothing outside block mode. -/
def Obligations.EncoderCounts : Prop :=
  (∀ (s : State) (p : Fin 2) (a b : Bool) (t : Nat), Completes (.encoderEdge p a b t) s ((s.dev.encoderEdge p a b t).commutate p t)) ∧
  (∀ (d : Dev) (x : Bridge) (t : Nat), d.get (MOD.CTL_MODE x) ≠ 3 → d.commutate x t = d) ∧
  (∀ (d : Dev) (p : Fin 2) (a b : Bool) (t : Nat), d.posOn p = true → (d.get (POS.CTL_SENS p) = 1 ∨ d.get (POS.CTL_SENS p) = 4) →
    (a ≠ (d.pos p).a ↔ b = (d.pos p).b) →
    let fwd := if a ≠ (d.pos p).a then a ≠ (d.pos p).b else b = (d.pos p).a
    let up : Prop := if d.get (POS.CTL_DIRINV p) = 1 then ¬ fwd else fwd
    let e := d.encoderEdge p a b t
    (e.pos p).a = a ∧ (e.pos p).b = b ∧ (up → e.get (POS.STAT_DIR p) = 0) ∧ (¬ up → e.get (POS.STAT_DIR p) = 1) ∧
    (d.get (POS.CTL_LINEAR p) = 0 → d.encPeriod p ≤ 2 ^ 32 →
      (up → (e.get (POS.COUNT_COUNT p) : Int) = ((d.get (POS.COUNT_COUNT p) : Int) + 1) % d.encPeriod p) ∧
      (¬ up → (e.get (POS.COUNT_COUNT p) : Int) = ((d.get (POS.COUNT_COUNT p) : Int) - 1) % d.encPeriod p)) ∧
    (d.get (POS.CTL_LINEAR p) = 1 →
      (up → e.sget (POS.COUNT_COUNT p) = min 2147483647 (d.sget (POS.COUNT_COUNT p) + 1)) ∧
      (¬ up → e.sget (POS.COUNT_COUNT p) = max (-2147483648) (d.sget (POS.COUNT_COUNT p) - 1))) ∧
    ((∀ i ∈ [0, 1, 2, 3], d.get (POS.CMPCTL_ARM p i) = 0) → d.get (POS.ANGLE_ACTSRC p) ≠ 0 →
      d.sameBut e [POS.COUNT_COUNT p, POS.STAT_DIR p, POS.STAT_CNT_SAT p, POS.ANGM_ANG_M p, POS.ANGLE_MVALID p])) ∧
  (∀ (d : Dev) (p : Fin 2) (a b : Bool) (t : Nat), d.posOn p = true → (d.get (POS.CTL_SENS p) = 1 ∨ d.get (POS.CTL_SENS p) = 4) →
    (d.get (POS.STAT_POSST p) = 1 ∨ d.get (POS.STAT_POSST p) = 2) → a ≠ (d.pos p).a → b ≠ (d.pos p).b →
    let e := d.encoderEdge p a b t
    e.get (POS.STAT_QERR p) = 1 ∧ e.get (POS.STAT_POSST p) = 3 ∧ e.get (POS.STAT_HEALTH p) = 0 ∧ (22 + p.val, d.posBridges p) ∈ e.raised ∧
      e.get (POS.COUNT_COUNT p) = d.get (POS.COUNT_COUNT p)) ∧
  (∀ (d : Dev) (p : Fin 2) (a b : Bool) (t : Nat), d.posOn p = false → d.encoderEdge p a b t = d.modPos p fun x => { x with a := a, b := b })

/-- Index, Hall and resolver (R142 to R150): the first index event captures `COUNT` and references the block; an invalid Hall code is a fault; the first valid code
of mode 2 references the block at its sector's centre, an edge to the next sector moves `COUNT` by one and sets the angle at the boundary,
and with no edge the angle falls back to the sector's centre; a resolver period demodulates its results into `RESAMP.MEAS`, and one with too few results is
discarded. Each command is this and the block commutation that may follow it. -/
def Obligations.SensorInputs : Prop :=
  (∀ (s : State) (p : Fin 2),
    (∀ z : Bool, Completes (.indexEvent p z) s ((s.dev.zLevel p z).commutate p (s.dev.pos p).winT1)) ∧
    (∀ (c : BitVec 3) (t : Nat), Completes (.hallEdge p c t) s ((s.dev.hallEdge p c.toNat t).commutate p t)) ∧
    Completes (.hallTimeout p) s ((s.dev.hallIdle p).commutate p ((s.dev.pos p).hallT + 8000000)) ∧
    (∀ (rs : List ResSample) (t : Nat), Completes (.resolverPeriodEnd p rs t) s ((s.dev.resolverPeriod p rs t).commutate p t))) ∧
  (∀ (d : Dev) (p : Fin 2), d.posOn p = true → (d.get (POS.CTL_SENS p) = 1 ∨ d.get (POS.CTL_SENS p) = 4) → d.get (POS.CTL_LINEAR p) = 0 →
    d.get (POS.ENCCFG_IDXQ p) = 0 → (d.pos p).z = false → (d.pos p).ref = none → d.get (POS.STAT_POSST p) = 1 →
    d.get (POS.IDXREF_IDXREF p) < d.encPeriod p → d.encPeriod p ≤ 2 ^ 32 →
    let e := d.zLevel p true
    e.get (POS.IDXCAP_IDXCAP p) = d.get (POS.COUNT_COUNT p) % 2 ^ 32 ∧ e.get (POS.COUNT_COUNT p) = d.get (POS.IDXREF_IDXREF p) ∧
      e.get (POS.STAT_POSST p) = 2 ∧ (e.pos p).ref = some (d.get (POS.IDXREF_IDXREF p) : Int) ∧ (e.pos p).z = true ∧
      103 + 16 * p.val ∈ e.edges) ∧
  (∀ (d : Dev) (p : Fin 2) (c : BitVec 3) (t : Nat), d.posOn p = true → d.get (POS.CTL_SENS p) = 2 → (d.pos p).hallCode ≠ some c.toNat →
    let k := d.hallSectorOf p c.toNat
    let e := d.hallEdge p c.toNat t
    (6 ≤ k → e.get (POS.STAT_HALL_INV p) = 1 ∧ (22 + p.val, d.posBridges p) ∈ e.raised ∧
      (d.get (POS.STAT_POSST p) = 2 → e.get (POS.STAT_POSST p) = 3)) ∧
    (k < 6 → (d.pos p).hallSector = none → d.get (POS.STAT_POSST p) = 1 →
      (e.pos p).hallSector = some k ∧ (e.pos p).hallAngle = d.hallCentre p k ∧ e.get (POS.STAT_POSST p) = 2) ∧
    (∀ o : Nat, (d.pos p).hallSector = some o → k < 6 → k = (o + 1) % 6 → k ≠ o → d.get (POS.CTL_LINEAR p) = 0 → d.get (POS.CTL_DIRINV p) = 0 →
      6 * d.motPP p ≤ 2 ^ 32 →
      (e.pos p).hallSector = some k ∧ (e.pos p).hallAngle = d.hallStart p k ∧ (e.pos p).hallFwd = true ∧
        (e.get (POS.COUNT_COUNT p) : Int) = ((d.get (POS.COUNT_COUNT p) : Int) + 1) % ((6 * d.motPP p : Nat) : Int))) ∧
  (∀ (d : Dev) (p : Fin 2) (k : Nat), (d.pos p).hallSector = some k → d.posOn p = true → (d.get (POS.CTL_SENS p) = 2 ∨ d.get (POS.CTL_SENS p) = 4) →
    let e := d.hallIdle p
    (e.pos p).hallAngle = d.hallCentre p k ∧ (e.pos p).hallRate = none ∧
      d.sameBut e [POS.ANGM_ANG_M p, POS.ANGLE_MVALID p, POS.ANGLE_ANG_E p]) ∧
  (∀ (d : Dev) (p : Fin 2) (rs : List ResSample) (t : Nat), d.posOn p = true → d.get (POS.CTL_SENS p) = 3 →
    d.get (POS.RESCFG_EXCEN p) = 1 → rs.any (fun x => x.ovr) = false →
    (2 * 40 * rs.length < d.excPeriod p → (d.pos p).dropped = 0 → d.resolverPeriod p rs t = d.modPos p fun x => { x with dropped := 1 }) ∧
    (d.excPeriod p ≤ 2 * 40 * rs.length →
      let z := resSums (d.get (POS.RESCFG_RESPH p)) rs
      let sv := roundDiv (2 * z.1) rs.length
      let cv := roundDiv (2 * z.2) rs.length
      (d.resolverPeriod p rs t).get (POS.RESAMP_MEAS p) = min 65535 ((isqrt (sv * sv + cv * cv).toNat + 2 ^ 29) / 2 ^ 30) ∧
        ((d.resolverPeriod p rs t).pos p).dropped = 0))

/-- Compare units, speed, recovery and emulation (R151 to R161): only a master that may claim for the unit's owner writes it, and an armed unit
whose value lies behind the count is flagged; a speed window ends in `SPEED`, `LOWSPD` and its source; FAULT goes to UNREF once every
flag is cleared and no condition persists; the emulator takes the position of the angle and then follows it one state at a time. -/
def Obligations.PositionFunctions : Prop :=
  (∀ (s : State) (m : Master) (p : Fin 2) (i : Fin 4), s.dev.cmpWritable m p i = true →
    (∀ v : Word,
      (s.dev.get (POS.CMPCTL_ARM p i) ≠ 1 →
        Completes (.compareArm m p i (.value v)) s ((s.dev.set (POS.CMPVAL_CMPVAL p i) v.toNat).busOk 0)) ∧
      (s.dev.get (POS.CMPCTL_ARM p i) = 1 →
        Reaches (.compareArm m p i (.value v)) s fun u =>
          u.dev.get (POS.CMPVAL_CMPVAL p i) = v.toNat ∧ (u.dev.cmpBehind p i = true → u.dev.get (POS.CMPCTL_BEHIND p i) = 1) ∧
          s.dev.sameBut u.dev [POS.CMPVAL_CMPVAL p i, POS.CMPCTL_BEHIND p i] ∧ u.mem = s.mem)) ∧
    (∀ v : Word,
      (natBit v.toNat 0 = false → natBit v.toNat 3 = false → natBit v.toNat 4 = false →
        Completes (.compareArm m p i (.control v)) s
          ((((s.dev.setBit (POS.CMPCTL_DIR p i) (natBit v.toNat 1)).setBit (POS.CMPCTL_CAPT p i) (natBit v.toNat 2)).setBit
            (POS.CMPCTL_ARM p i) false).busOk 0)) ∧
      (natBit v.toNat 0 = true →
        Reaches (.compareArm m p i (.control v)) s fun u =>
          u.dev.get (POS.CMPCTL_ARM p i) = 1 ∧ u.dev.get (POS.CMPCTL_DIR p i) = b2n (natBit v.toNat 1) ∧
          (u.dev.cmpBehind p i = true → u.dev.get (POS.CMPCTL_BEHIND p i) = 1) ∧ u.mem = s.mem))) ∧
  (∀ (s : State) (m : Master) (p : Fin 2) (i : Fin 4) (v : Word), s.dev.cmpWritable m p i = false →
    Completes (.compareArm m p i (.control v)) s (s.dev.busError m (0x40200100 + 0x10000 * p + 0x10 * i) true) ∧
    Completes (.compareArm m p i (.value v)) s (s.dev.busError m (0x40200104 + 0x10000 * p + 0x10 * i) true)) ∧
  (∀ (s : State) (p : Fin 2),
    (s.dev.posOn p = true →
      Completes (.speedWindowEnd p) s
        ((((s.dev.sset (POS.SPEED_SPEED p) (s.dev.windowSpeed p).1).setBit (POS.STAT_LOWSPD p) (s.dev.windowSpeed p).2).edge (97 + 16 * p)).modPos p
          fun x => { x with winSum := 0, winN := 0, winStep1 := 0, winT0 := 0, winT1 := 0, thSum := 0, thN := 0, thT0 := 0, thT1 := 0 })) ∧
    (s.dev.posOn p = false → Completes (.speedWindowEnd p) s s.dev) ∧
    (s.dev.get (POS.CTL_SENS p) = 1 →
      let counted := revPerSec (s.dev.pos p).winSum (s.dev.encPeriod p) (s.dev.winCycles p)
      ((s.dev.pos p).winN < 2 → s.dev.windowSpeed p = (counted, true)) ∧
      (2 ≤ (s.dev.pos p).winN → s.dev.get (POS.SPDCFG_SPDMODE p) ≠ 1 → s.dev.windowSpeed p = (counted, false)) ∧
      (2 ≤ (s.dev.pos p).winN → s.dev.get (POS.SPDCFG_SPDMODE p) = 1 →
        s.dev.windowSpeed p = (revPerSec ((s.dev.pos p).winSum - (s.dev.pos p).winStep1) (s.dev.encPeriod p)
          ((s.dev.pos p).winT1 - (s.dev.pos p).winT0), false)))) ∧
  (∀ (s : State) (p : Fin 2), s.dev.posOn p = true → s.dev.get (POS.STAT_POSST p) = 3 →
    (posFaultFlags p).all (fun f => !s.dev.bit f) = true →
    (s.dev.posFaultPersists p = false →
      Reaches (.posFaultRecovery p) s fun u =>
        u.dev.get (POS.STAT_POSST p) = 1 ∧ u.dev.get (POS.STAT_HEALTH p) = 0 ∧ (u.dev.pos p).ref = none ∧ 103 + 16 * p.val ∈ u.dev.edges ∧
        s.dev.sameBut u.dev [POS.STAT_POSST p, POS.STAT_HEALTH p, POS.ANGLE_MVALID p] ∧ u.mem = s.mem) ∧
    (s.dev.posFaultPersists p = true → Completes (.posFaultRecovery p) s s.dev)) ∧
  (∀ (s : State) (p : Fin 2),
    (s.dev.posOn p = true → s.dev.emuDrives p = true →
      ((s.dev.pos p).emu = none → s.dev.get (POS.STAT_POSST p) = 2 →
        Completes (.emuTransition p) s (s.dev.modPos p fun x => { x with emu := some (s.dev.emuTarget p) })) ∧
      (∀ e : Nat, (s.dev.pos p).emu = some e → e + 1 = s.dev.emuTarget p → s.dev.emuTarget p < s.dev.emuPeriod p →
        Completes (.emuTransition p) s (s.dev.modPos p fun x => { x with emu := some (e + 1) }))) ∧
    (s.dev.posOn p = false ∨ s.dev.emuDrives p = false →
      Completes (.emuTransition p) s (s.dev.modPos p fun x => { x with emu := none })))

/-- The observer's states (R163): CONVERGING becomes LOCKED after `CONVN` ticks within the threshold; LOCKED becomes LOST after `LOSTN` ticks
above it, with `OBS_LOST`, and is loaded anew from a healthy sensor; a disagreement of `XN` ticks with a sensor in REF raises the
block's line and sets `DISAGREE`. Before the count is reached, and in another state of the observer, the three commands change nothing. -/
def Obligations.ObserverStates : Prop :=
  ∀ (s : State) (p : Fin 2),
    (s.dev.get (POS.STAT_OBSST p) = 1 → s.dev.get (POS.OBSCFG_CONVN p) ≤ (s.dev.pos p).lockN →
      Completes (.observerLock p) s ((s.dev.set (POS.STAT_OBSST p) 2).modPos p fun x => { x with lostN := 0, xN := 0 })) ∧
    (s.dev.get (POS.STAT_OBSST p) ≠ 1 ∨ (s.dev.pos p).lockN < s.dev.get (POS.OBSCFG_CONVN p) → Completes (.observerLock p) s s.dev) ∧
    (s.dev.get (POS.STAT_OBSST p) = 2 → s.dev.get (POS.OBSCFG_LOSTN p) ≤ (s.dev.pos p).lostN →
      Completes (.observerLost p) s
        (((s.dev.set (POS.STAT_OBSST p) 3).set (POS.STAT_OBS_LOST p) 1).modPos p fun x =>
          { x with reinit := s.dev.bit (POS.STAT_HEALTH p), lockN := 0, xN := 0 })) ∧
    (s.dev.get (POS.STAT_OBSST p) ≠ 2 ∨ (s.dev.pos p).lostN < s.dev.get (POS.OBSCFG_LOSTN p) → Completes (.observerLost p) s s.dev) ∧
    (s.dev.get (POS.STAT_OBSST p) = 2 → s.dev.get (POS.STAT_POSST p) = 2 → s.dev.get (POS.OBSCFG_XN p) ≤ (s.dev.pos p).xN → 0 < (s.dev.pos p).xN →
      Completes (.observerDisagreement p) s ((s.dev.set (POS.STAT_DISAGREE p) 1).assertLine (24 + p) (s.dev.posBridges p))) ∧
    (s.dev.get (POS.STAT_OBSST p) ≠ 2 ∨ s.dev.get (POS.STAT_POSST p) ≠ 2 ∨ (s.dev.pos p).xN < s.dev.get (POS.OBSCFG_XN p) →
      Completes (.observerDisagreement p) s s.dev)

/-- Ticks (R20, R21, R170, R171, R508): a request within 5,000 CECLK cycles of the last tick sets `DROP`, another waits for the epoch, with its interrupt source; a requested tick runs snapshot, both bridges, its end and the capture samples, claims the requesting sources with its snapshot, completes them at its end, and ends with `LASTDUR` 1600 and the dataflow-complete sources of both bridges; its length is the interval since the last, kept in 5,000 to 50,000 cycles. Without a request nothing
starts; a loss sets `LOSS`, raises line 17 and gives the next tick its nominal length; an overrun raises line 17.
At its start (R20, R172) it takes the count of ticks, both tick-start sources, the request, the cycle, and the configuration of both bridges until the next one.
What the stages compute for a bridge in every state (R171, R173 to R184, R187, R190, R232, R240, R243, R247, R249, R352), with `z` for the open values of the tick.
S1: a valid slot takes its newest code in per unit, saturated; an invalid one holds, with line 21 where enabled and ACTIVE.
S2, S3: the transforms, saturated. S4: the winner has the least allowance, the previous one on a tie; the demand is the winner's, within the envelope and the clamps of a stop, 0 in PRESET; an integrator stays within `ILIM`, and is 0 outside PRESET and ACTIVE. S5: an ACTIVE ramp moves by at most its rate
and stops at its target. S6: references within `IMAX`, no positive field-weakening current. S7: the voltage is limited, the integrals stand still meanwhile. S8, S9: centres and bands within their formats, a band within `HMIN` and `HMAX`.
S10: outside PRESET and ACTIVE nothing reaches the modulator. The safe pattern is chosen by speed with hysteresis and delivered; an angle loss of an ACTIVE bridge requests the safe state; a complete orderly stop sends the engine to IDLE. A tick leaves memory, queue, nonvolatile contents and every block but engine, modulators, gate link, position blocks, interrupt inputs and capture as they were. -/
def Obligations.Ticks : Prop :=
  (
    (∀ s : State, s.dev.works 4 3 = true → s.dev.get CE.CTL_EN = 1 → 4 ≤ s.dev.get CE.CTL_TSRC →
      (∀ t, s.dev.vol.ce.lastTick = some t → s.dev.cycle < t + 5000 → Completes (.tickRequest .tdiv) s (s.dev.set CE.TSTAT_DROP 1)) ∧
      (∀ t, s.dev.vol.ce.lastTick = some t → t + 5000 ≤ s.dev.cycle →
        Completes (.tickRequest .tdiv) s (s.dev.modCe fun c => { c with tickPend := true })) ∧
      (s.dev.vol.ce.lastTick = none → Completes (.tickRequest .tdiv) s (s.dev.modCe fun c => { c with tickPend := true }))) ∧
    (∀ s : State, s.dev.get CE.CTL_TSRC < 4 → Completes (.tickRequest .tdiv) s s.dev) ∧
    (∀ (s : State) (i : Fin 512),
      (s.dev.get (INTC.THR_TICKEN 5) ≠ 1 ∨ s.dev.delivered 5 i = false → Completes (.tickRequest (.source i)) s s.dev) ∧
      (s.dev.get (INTC.THR_TICKEN 5) = 1 → s.dev.delivered 5 i = true → s.dev.works 4 3 = true → s.dev.get CE.CTL_EN = 1 →
        s.dev.vol.ce.lastTick = none →
        Completes (.tickRequest (.source i)) s (s.dev.modCe fun c => { c with tickPend := true, tickSrcs := union c.tickSrcs [i.val] }))) ∧
    (∀ (s : State) (ga gb : Bool), s.dev.works 4 3 = true → s.dev.get CE.CTL_EN = 1 → s.dev.vol.ce.tickPend = true →
      let l := s.dev.tickClaims
      let d0 := s.dev.tickBegin.each l fun d i => d.claimBy 5 i
      let d2 := ((d0.tickBridge 0 s.dev.tickCycles 770 ga).tickBridge 1 s.dev.tickCycles 1550 gb).tickEnd s.dev.tickCycles
      Completes (.tickStart ga gb) s ((d2.each l Dev.complete).when (!l.isEmpty) Dev.settleIrq).tickSamples ∧
      Reaches (.tickStart ga gb) s fun t => t.dev.get CE.TSTAT_LASTDUR = 1600 ∧ 129 ∈ t.dev.edges ∧ 145 ∈ t.dev.edges ∧
        ∀ i ∈ s.dev.vol.ce.tickSrcs, s.dev.get (INTC.SRCCFG_PEND i) = 1 → s.dev.get (INTC.SRCCFG_ACTIVE i) = 0 →
          t.dev.get (INTC.SRCCFG_ACTIVE i) = 0 ∧ (srcIsEdge i = true → t.dev.get (INTC.SRCCFG_PEND i) = 0)) ∧
    (∀ (d : Dev) (t : Nat), d.vol.ce.nominal = false → d.vol.ce.lastTick = some t → d.tickCycles = max 5000 (min 50000 (d.cycle - t))) ∧
    (∀ (s : State) (ga gb : Bool), s.dev.works 4 3 = false ∨ s.dev.get CE.CTL_EN ≠ 1 ∨ s.dev.vol.ce.tickPend = false →
      Completes (.tickStart ga gb) s s.dev) ∧
    (∀ s : State,
      (s.dev.domainUp 4 = true → s.dev.anyBridgeActive = true →
        Completes .tickLoss s (((s.dev.set CE.TSTAT_LOSS 1).assertLine 17 0).modCe fun c => { c with nominal := true })) ∧
      (s.dev.domainUp 4 = false ∨ s.dev.anyBridgeActive = false → Completes .tickLoss s s.dev)) ∧
    (∀ s : State, (s.dev.running = true → Completes .tickOverrun s (s.dev.assertLine 17 0)) ∧
      (s.dev.running = false → Completes .tickOverrun s s.dev))) ∧
  (
    ∀ d : Dev, d.tickBegin.get CE.TSTAT_TICKS = (d.get CE.TSTAT_TICKS + 1) % 2 ^ CE.TSTAT_TICKS.width ∧ 128 ∈ d.tickBegin.edges ∧
      144 ∈ d.tickBegin.edges ∧ d.tickBegin.vol.ce.tickPend = false ∧ d.tickBegin.vol.ce.tickSrcs = [] ∧
      d.tickBegin.vol.ce.lastTick = some d.cycle ∧ d.tickBegin.vol.ce.nominal = false ∧
      d.tickBegin.raised = d.raised ∧ d.tickBegin.nv = d.nv ∧
      ∀ b : Bridge, (d.tickBegin.snapOf b).ctrl = d.ctrl b ∧ (d.tickBegin.snapOf b).oclim = d.get (CE.OCLIM_OCLIM b) ∧
        (d.tickBegin.snapOf b).minPulse = d.get (CE.BANDCTL_MINPULSE b) ∧ (d.tickBegin.snapOf b).tstLen = d.get (CE.TSTLEN_LEN b) ∧
        (d.tickBegin.snapOf b).lockN = d.get (CE.PLLCFG_LOCKN b) ∧
        ∀ p : Fin 3, vget (d.tickBegin.snapOf b).tags p = d.get (CE.INSLOT_TAG b p)) ∧
  (
    (∀ (d : Dev) (b : Bridge) (n : Fin 12),
      (d.slotValid b n = true →
        vget ((d.stage1 b).engS b).x n = clampInt (-2147483648) 2147483647 (d.slotScale b n (d.lastCode (d.get (CE.INSLOT_TAG b n))))) ∧
      (d.slotValid b n = false → vget ((d.stage1 b).engS b).x n = vget (d.engS b).x n ∧
        (d.get (CE.INSLOT_EN b n) = 1 → d.active b = true → (21, brMask b) ∈ (d.stage1 b).raised))) ∧
    (∀ (d : Dev) (b : Bridge) (z : Nat → Int), d.role b ≠ 3 →
      let e := d.engS b
      let x := e.x
      let cs := cosSinOpen (d.frameAngle b) (z 0) (z 1)
      ((d.stage2 b).engS b).alpha = clampInt (-2147483648) 2147483647 (roundDiv (2 * vget x 0 - vget x 1 - vget x 2) 3) ∧
      ((d.stage2 b).engS b).beta = clampInt (-2147483648) 2147483647 (overSqrt3 (vget x 1 - vget x 2)) ∧
      ((d.stage3 b z).engS b).id = clampInt (-2147483648) 2147483647 (mulQ 23 e.alpha cs.1 + mulQ 23 e.beta cs.2) ∧
      ((d.stage3 b z).engS b).iq = clampInt (-2147483648) 2147483647 (mulQ 23 e.beta cs.1 - mulQ 23 e.alpha cs.2)) ∧
    (∀ (d : Dev) (b : Bridge) (z : Nat → Int),
      let i := d.loopIn b
      let a := fun k : Nat => (d.allowance b i k (z (8 + k))).v
      let e := d.stage4 b z
      let w := e.get (CE.WIN_WIN b)
      w < 7 ∧ (∀ k : Nat, k < 7 → a w ≤ a k) ∧
      ((d.engS b).win < 7 → (∀ k : Nat, k < 7 → a (d.engS b).win ≤ a k) → w = (d.engS b).win) ∧
      (d.engIs b 2 = true → e.sget (CE.DEM_DEM b) = 0) ∧
      (d.engIs b 2 = false → (d.engS b).stop = none → (d.engS b).ss1 = none →
        e.sget (CE.DEM_DEM b) = clampInt (-(d.sget (CE.LPARN_LPARN b 6))) (d.sget (CE.LPARP_LPARP b 6)) (i.s * a w)) ∧
      (∀ c : Clamp, d.active b = true → (d.engS b).stop = some c → 0 ≤ c.c → (d.engS b).ss1 = none →
        -c.c ≤ e.sget (CE.DEM_DEM b) ∧ e.sget (CE.DEM_DEM b) ≤ c.c) ∧
      (e.get (CE.WIN_ENVCLAMP b) = 1 ↔ (i.s * a w < -(d.sget (CE.LPARN_LPARN b 6)) ∨ d.sget (CE.LPARP_LPARP b 6) < i.s * a w)) ∧
      (w ≠ d.get (CE.WIN_WIN b) → e.get (CE.WIN_PREV b) = d.get (CE.WIN_WIN b) ∧ 133 + 16 * b.val ∈ e.edges) ∧
      (∀ k : Fin 5, (d.engIs b 2 = true ∨ d.active b = true) → loopIntegrates (decide (d.role b = 1)) (d.cmdMode b) k = true → 0 ≤ d.sget (CE.LILIM_ILIM b k) →
        -(d.sget (CE.LILIM_ILIM b k)) ≤ vget (e.engS b).integ k ∧ vget (e.engS b).integ k ≤ d.sget (CE.LILIM_ILIM b k)) ∧
      (d.engIs b 2 = false → d.active b = false → (e.engS b).integ = .replicate 5 0)) ∧
    (∀ (d : Dev) (b : Bridge) (z : Nat → Int) (j : Fin 2), d.active b = true → 0 ≤ d.sget (CE.RUP_RUP b j) → 0 ≤ d.sget (CE.RDN_RDN b j) →
      let e := d.stage5 b z
      let out := d.sget (CE.ROUT_ROUT b j)
      let tgt := e.sget (CE.RTGT_RTGT b j)
      let lim := if out.natAbs < tgt.natAbs then d.sget (CE.RUP_RUP b j) else d.sget (CE.RDN_RDN b j)
      (e.sget (CE.ROUT_ROUT b j) = tgt ∨ e.sget (CE.ROUT_ROUT b j) = out + lim ∨ e.sget (CE.ROUT_ROUT b j) = out - lim) ∧
      out - lim ≤ e.sget (CE.ROUT_ROUT b j) ∧ e.sget (CE.ROUT_ROUT b j) ≤ out + lim ∧
      ((tgt - out).natAbs ≤ lim.natAbs → e.sget (CE.ROUT_ROUT b j) = tgt)) ∧
    (∀ (d : Dev) (b : Bridge) (z : Nat → Int), 0 ≤ d.sget (CE.IMAX_IMAX b) →
      let e := (d.stage6 b z).engS b
      let imax := d.sget (CE.IMAX_IMAX b)
      ((d.windingOn = false ∨ d.active b = false) → d.role b = 1 → d.ctrl b ≠ 2 →
        -imax ≤ e.idRef ∧ e.idRef ≤ imax ∧ e.idfw ≤ 0 ∧ (d.get (CE.FWCFG_FWEN b) ≠ 1 → e.idfw = 0) ∧
        (e.iqRef.natAbs : Int) ≤ rootDiff imax e.idRef) ∧
      (d.windingOn = true → d.active b = true → d.role b = 1 → e.idRef = -(d.sget (CE.IDDIS_IDDIS b)) ∧ e.iqRef = 0) ∧
      ((d.windingOn = false ∨ d.active b = false) → d.role b = 1 → d.ctrl b = 2 → e.idRef = 0 ∧ e.iqRef = d.sget (CE.DEM_DEM b) ∧ e.idfw = 0) ∧
      (d.role b = 2 → -imax ≤ e.idRef ∧ e.idRef ≤ imax ∧ -imax ≤ e.iqRef ∧ e.iqRef ≤ imax) ∧
      (d.role b = 3 → -imax ≤ e.idRef ∧ e.idRef ≤ imax ∧ e.iqRef = 0) ∧
      (d.role b = 0 → e.idRef = 0 ∧ e.iqRef = 0)) ∧
    (∀ (x y lim : Int),
      let m : Int := isqrtNear (x * x + y * y).toNat
      let r := limitVector x y lim
      (m ≤ max 0 lim → r = (x, y, false)) ∧
      (max 0 lim < m → r.2.2 = true ∧ r.1.natAbs ≤ x.natAbs ∧ r.2.1.natAbs ≤ y.natAbs ∧
        (2 * r.1 * m - 2 * x * max 0 lim).natAbs ≤ m.natAbs ∧ (2 * r.2.1 * m - 2 * y * max 0 lim).natAbs ≤ m.natAbs)) ∧
    (∀ (d : Dev) (b : Bridge) (z : Nat → Int), (d.ctrl b = 0 → d.stage7 b z = d) ∧
      (d.ctrl b ≠ 0 → d.active b = false → d.engIs b 2 = false → ((d.stage7 b z).engS b).piD = 0 ∧ ((d.stage7 b z).engS b).piQ = 0)) ∧
    (∀ (d : Dev) (b : Bridge) (load : Bool) (dly : Nat) (z : Nat → Int) (p : Fin 3),
      let e := (d.stage8Band b load dly z).engS b
      (load = false → e = d.engS b) ∧
      (load = true → -2147483648 ≤ vget e.cen p ∧ vget e.cen p ≤ 2147483647 ∧ -(2 ^ 63) ≤ vget e.slp p ∧ vget e.slp p < 2 ^ 63 ∧
        -(2 ^ 79) ≤ vget e.crv p ∧ vget e.crv p < 2 ^ 79)) ∧
    (∀ (d : Dev) (b : Bridge) (n : Nat) (p : Fin 3), d.ctrl b = 0 → d.engIs b 2 = false →
      d.get (CE.BANDLIM_HMIN b) ≤ d.get (CE.BANDLIM_HMAX b) → d.get (CE.BANDLIM_HMAX b) ≤ 32767 →
      let e := d.stage9 b n
      (d.get (CE.BANDLIM_HMIN b) : Int) * 65536 ≤ vget (e.engS b).h p ∧ vget (e.engS b).h p ≤ (d.get (CE.BANDLIM_HMAX b) : Int) * 65536 ∧
      e.get (CE.BANDST_H b p) = ((vget (e.engS b).h p) / 65536).toNat ∧ vget (e.engS b).ncount p = 0) ∧
    (∀ (d : Dev) (b : Bridge) (n dly : Nat) (g : Bool) (z : Nat → Int), d.active b = false → d.engIs b 2 = false →
      let e := d.tickOutput b n dly g z
      e.vol.mod = d.vol.mod ∧ e.vol.gl = d.vol.gl ∧ e.engS b = d.engS b) ∧
    (∀ (d : Dev) (b : Bridge),
      let n : Int := ((d.sget (CE.SAFESPD_SSPD b)).natAbs : Int) * 60
      let hi : Int := (d.get (CE.SAFE_ASCSPD b) : Int) * 65536
      let lo : Int := ((d.get (CE.SAFE_ASCSPD b) : Int) - d.get (CE.SAFE_ASCHYS b)) * 65536
      (d.role b ≠ 1 ∨ d.get (CE.SAFECTL_ASCEN b) ≠ 1 → d.patternNow b = false) ∧
      (d.role b = 1 → d.get (CE.SAFECTL_ASCEN b) = 1 → d.get (CE.SAFECTL_SPDSRC b) ≠ 3 →
        (hi ≤ n → d.patternNow b = true) ∧ (n < hi → n ≤ lo → d.patternNow b = false) ∧ (n < hi → lo < n → d.patternNow b = d.bit (CE.SAFECTL_SSPAT b))) ∧
      (d.role b = 1 → d.get (CE.SAFECTL_ASCEN b) = 1 → d.get (CE.SAFECTL_SPDSRC b) = 3 → d.patternNow b = d.bit (CE.SAFECTL_SSPAT b)) ∧
      (d.deliverPattern b).get (CE.SAFECTL_SSPAT b) = b2n (d.patternNow b) ∧ vget (d.deliverPattern b).vol.gl.pat b = d.patternNow b ∧
      (d.anyCause b = true → (d.deliverPattern b).get (GL.BSTAT_PAT b) = b2n (d.patternNow b))) ∧
    (∀ (d : Dev) (b : Bridge), d.active b = true → d.angleLost b = true →
      let e := d.engineLosses b
      e.get (CE.SAFECTL_ANGLOSS b) = 1 ∧ (27, brMask b) ∈ e.raised ∧ e.get (GL.BSTAT_ENGINE b) = 1 ∧ e.get (GL.BSTAT_APPLIED b) = 1 ∧
      e.get (CE.BSTAT_ST b) = 4) ∧
    (∀ (d : Dev) (b : Bridge),
      (d.active b = false → d.stopComplete b = d) ∧
      (∀ c : Clamp, d.active b = true → (d.engS b).stop = some c → c.begun = true → c.c = 0 → 2 ≤ c.low → d.currentsLow b = true →
        (d.stopComplete b).get (CE.BSTAT_ST b) = 1 ∧ ((d.stopComplete b).engS b).stop = none) ∧
      (∀ c : Clamp, d.active b = true → (d.engS b).stop = some c → (d.engS b).ss1 = none → d.currentsLow b = false →
        (d.stopComplete b).get (CE.BSTAT_ST b) = 3)) ∧
    (∀ (s : State) (ga gb : Bool),
      Reaches (.tickStart ga gb) s fun t =>
        t.mem = s.mem ∧ t.pending = s.pending ∧
        t.dev = { s.dev with
          regs := t.dev.regs, free := t.dev.free, raised := t.dev.raised, edges := t.dev.edges, capTrig := t.dev.capTrig,
          vol := { s.dev.vol with
            pos := t.dev.vol.pos, eng := t.dev.vol.eng, ce := t.dev.vol.ce, mod := t.dev.vol.mod, gl := t.dev.vol.gl,
            flt := { s.dev.vol.flt with claims := t.dev.vol.flt.claims, masked := t.dev.vol.flt.masked },
            ks := { s.dev.vol.ks with irq := t.dev.vol.ks.irq },
            dict := { s.dev.vol.dict with readyAsked := t.dev.vol.dict.readyAsked }, cap := t.dev.vol.cap } } ∧
        ∀ f : Fld, f.addr / 0x10000 ∉ [0x4002, 0x4003, 0x4020, 0x4021, 0x4030, 0x4040, 0x4041, 0x4050, 0x4090, 0x40A1] → t.dev.get f = s.dev.get f))

/-- Roles, battery limits, test signals and interleave (R168, R180, R188, R193): a role is written in OFF or IDLE, else `ROLEREJ`, and at the next tick the
engine of a bridge with a role leaves OFF for IDLE and that of one without returns to OFF; a limit timeout sets `BMS_STALE` unless it is disabled; a test
start is accepted at an existing summing point of an ACTIVE bridge with no test running, refused through the register without effect and through the
object with its code, and a test ends after `LEN` ticks with its source; a phase error of 64 ticks sets `ILV`. -/
def Obligations.RolesAndTests : Prop :=
  (∀ (s : State) (m : Master) (b : Bridge) (v : BitVec 3),
    (s.dev.accessAllowed m (0x40300100 + 0x800 * b) true = true →
      (s.dev.get (CE.BSTAT_ST b) ≠ 0 → s.dev.get (CE.BSTAT_ST b) ≠ 1 →
        Completes (.roleWrite m b v) s ((s.dev.set (CE.BSTAT_ROLEREJ b) 1).busOk 0)) ∧
      (s.dev.get (CE.BSTAT_ST b) = 0 ∨ s.dev.get (CE.BSTAT_ST b) = 1 →
        Completes (.roleWrite m b v) s ((s.dev.set (CE.BCFG_ROLE b) v.toNat).busOk 0))) ∧
    (s.dev.accessAllowed m (0x40300100 + 0x800 * b) true = false →
      Completes (.roleWrite m b v) s (s.dev.busError m (0x40300100 + 0x800 * b) true))) ∧
  (∀ (d : Dev) (b : Bridge),
    (d.get (CE.BSTAT_ST b) = 0 → d.role b ≠ 0 → (d.tickState b).get (CE.BSTAT_ST b) = 1) ∧
    (d.get (CE.BSTAT_ST b) = 1 → d.role b = 0 → (d.tickState b).get (CE.BSTAT_ST b) = 0)) ∧
  (∀ (s : State) (b : Bridge),
    (s.dev.obj (0x3002 + 0x10 * b) 3 200000 = 0 → Completes (.batteryLimitTimeout b) s s.dev) ∧
    (s.dev.obj (0x3002 + 0x10 * b) 3 200000 ≠ 0 →
      Reaches (.batteryLimitTimeout b) s fun t =>
        t.dev.get (CE.BSTAT_BMS_STALE b) = 1 ∧ t.mem = s.mem ∧
        s.dev.sameBut t.dev [CE.LPARP_LPARP b 4, CE.LPARN_LPARN b 4, CE.BSTAT_BMS_STALE b])) ∧
  (∀ (s : State) (m : Master) (b : Bridge),
    (s.dev.accessAllowed m (0x40300500 + 0x800 * b) true = true →
      (s.dev.testRefusal b = 0 →
        Completes (.testStart m false b) s ((s.dev.modEng b fun e => { e with test := { e.test with start := true } }).busOk 0)) ∧
      (s.dev.testRefusal b ≠ 0 → Completes (.testStart m false b) s (s.dev.busOk 0))) ∧
    (s.dev.accessAllowed .dict (0x40300500 + 0x800 * b) true = true →
      (s.dev.testRefusal b = 0 →
        Completes (.testStart m true b) s ((s.dev.modEng b fun e => { e with test := { e.test with start := true } }).answer 0 0)) ∧
      (s.dev.testRefusal b ≠ 0 → Completes (.testStart m true b) s (s.dev.abort (0x3006 + 0x10 * b) 1 (s.dev.testRefusal b) 2)))) ∧
  (∀ (d : Dev) (b : Bridge),
    (d.get (CE.TSTCFG_TSTATE b) = 1 → d.testRefusal b = 0x0640) ∧
    (d.get (CE.TSTCFG_TSTATE b) ≠ 1 → (d.engS b).test.start = false →
      (d.get (CE.BSTAT_ST b) ≠ 3 → d.testRefusal b = 0x0622) ∧
      (d.get (CE.BSTAT_ST b) = 3 → (d.testPointOk b = true → d.testRefusal b = 0) ∧ (d.testPointOk b = false → d.testRefusal b = 0x0611)))) ∧
  (∀ (s : State) (b : Bridge),
    (s.dev.get (CE.TSTCFG_TSTATE b) = 1 → (s.dev.snapOf b).tstLen ≤ (s.dev.engS b).test.tick →
      Completes (.testDone b) s
        (((s.dev.set (CE.TSTCFG_TSTATE b) 2).edge (132 + 16 * b)).modEng b fun e => { e with test := { e.test with value := 0 } })) ∧
    (s.dev.get (CE.TSTCFG_TSTATE b) ≠ 1 ∨ (s.dev.engS b).test.tick < (s.dev.snapOf b).tstLen → Completes (.testDone b) s s.dev)) ∧
  (∀ (s : State) (b : Bridge),
    (64 ≤ vget (s.dev.engS b).ilvN 1 ∨ 64 ≤ vget (s.dev.engS b).ilvN 2 → Completes (.interleaveLoss b) s (s.dev.set (CE.BANDEVT_ILV b) 1)) ∧
    (vget (s.dev.engS b).ilvN 1 < 64 → vget (s.dev.engS b).ilvN 2 < 64 → Completes (.interleaveLoss b) s s.dev))

/-- The ASC estimate and the PLL (R242, R245, R246): while a short circuit is applied, the slot-0 current that has passed from below -256 to above 256 codes is a
crossing, the second crossing gives an estimate from their distance, and 50 ms without one give 0; the PLL locks after `LOCKN` good ticks, is lost after
as many bad ones, and a lost PLL sends an ACTIVE GRID bridge to its safe state with `GRIDLOSS` and line 28. -/
def Obligations.AscAndPll : Prop :=
  (∀ (d : Dev) (b : Bridge) (x : Int), d.ascApplied b = true → d.works 4 3 = true →
    (x < -256 → ((d.ascSample b 0 x).engS b).ascX = 1) ∧
    (256 < x → (d.engS b).ascX = 1 → ((d.ascSample b 0 x).engS b).ascX = 2) ∧
    (-256 ≤ x → x ≤ 256 → ((d.ascSample b 0 x).engS b).ascX = (d.engS b).ascX)) ∧
  (∀ (s : State) (b : Bridge) (t : Nat),
    (s.dev.ascApplied b = false → Completes (.ascZeroCrossing b t) s s.dev ∧ Completes (.ascEstimateTimeout b) s s.dev) ∧
    ((s.dev.engS b).ascX ≠ 2 → Completes (.ascZeroCrossing b t) s s.dev) ∧
    (s.dev.ascApplied b = true → (s.dev.engS b).ascX = 2 → (s.dev.engS b).ascLast = none →
      Completes (.ascZeroCrossing b t) s (s.dev.modEng b fun e => { e with ascX := 0, ascLast := some t })) ∧
    (∀ t0 : Nat, s.dev.ascApplied b = true → (s.dev.engS b).ascX = 2 → (s.dev.engS b).ascLast = some t0 →
      Completes (.ascZeroCrossing b t) s (s.dev.modEng b fun e =>
        { e with ascX := 0, ascLast := some t, ascEst := some (sat32 (roundDiv (400000000 * 65536) ((t - t0) * s.dev.motPP (s.dev.posSel b)))) })) ∧
    (s.dev.ascApplied b = true → Completes (.ascEstimateTimeout b) s (s.dev.modEng b fun e => { e with ascEst := some 0 }))) ∧
  (∀ (s : State) (b : Bridge),
    (s.dev.get (CE.PLLST_PLLST b) = 1 ∨ s.dev.get (CE.PLLST_PLLST b) = 3 → s.dev.pllLockN b ≤ (s.dev.engS b).pllGood →
      Completes (.pllLock b) s (s.dev.set (CE.PLLST_PLLST b) 2)) ∧
    ((s.dev.engS b).pllGood < s.dev.pllLockN b → Completes (.pllLock b) s s.dev) ∧
    ((s.dev.engS b).pllBad < s.dev.pllLockN b ∨ s.dev.get (CE.PLLST_PLLST b) ≠ 2 → Completes (.pllLost b) s s.dev) ∧
    (s.dev.get (CE.PLLST_PLLST b) = 2 → s.dev.pllLockN b ≤ (s.dev.engS b).pllBad → (s.dev.active b = false ∨ s.dev.role b ≠ 2) →
      Completes (.pllLost b) s (s.dev.set (CE.PLLST_PLLST b) 3)) ∧
    (s.dev.get (CE.PLLST_PLLST b) = 2 → s.dev.pllLockN b ≤ (s.dev.engS b).pllBad → s.dev.active b = true → s.dev.role b = 2 →
      Reaches (.pllLost b) s fun t =>
        t.dev.get (CE.PLLST_PLLST b) = 3 ∧ t.dev.get (CE.PLLST_GRIDLOSS b) = 1 ∧ (28, brMask b) ∈ t.dev.raised ∧
        t.dev.get (GL.BSTAT_ENGINE b) = 1 ∧ t.dev.get (GL.BSTAT_APPLIED b) = 1 ∧ t.mem = s.mem))

/-- The LIMP_CMD pin (R250, R251, R252): a measurement inside the window is kept with its epoch, one outside, and one while another function owns the pin,
makes the value invalid with `LIMPFLT` and line 29 for each bridge that the pin commands; the value becomes valid after `LFILT` ms of valid
measurements, and its update maps their mean; a missing edge makes it invalid in duty and frequency mode; an ACTIVE bridge whose command object times out
takes its command from the pin where `AUTO` allows it. -/
def Obligations.LimpCommand : Prop :=
  (∀ d : Dev, d.limpInvalid.get CE.LIMPST_VALID = 0 ∧ d.limpInvalid.get CE.LIMPVAL_LVAL = 0 ∧ d.limpInvalid.get CE.LIMPST_LIMPFLT = 1 ∧
    d.limpInvalid.vol.ce.limp = [] ∧ (d.limpDriven 0 = true → (29, 1) ∈ d.limpInvalid.raised) ∧
    (d.limpDriven 1 = true → (29, 2) ∈ d.limpInvalid.raised) ∧ d.sameBut d.limpInvalid [CE.LIMPST_VALID, CE.LIMPVAL_LVAL, CE.LIMPST_LIMPFLT]) ∧
  (∀ (s : State) (v : BitVec 16),
    (s.dev.works 4 3 = true → s.dev.limpOwned = true →
      (s.dev.limpInside v.toNat = true →
        Completes (.limpMeasurement v) s ((s.dev.set CE.LIMPST_RAW v.toNat).modCe fun c =>
          { c with limp := (s.dev.now, v.toNat) :: c.limp, limpFrom := some (c.limpFrom.getD s.dev.now) })) ∧
      (s.dev.limpInside v.toNat = false → Completes (.limpMeasurement v) s (s.dev.set CE.LIMPST_RAW v.toNat).limpInvalid)) ∧
    (s.dev.works 4 3 = true → s.dev.limpOwned = false → Completes (.limpMeasurement v) s s.dev.limpInvalid) ∧
    (s.dev.works 4 3 = false → Completes (.limpMeasurement v) s s.dev)) ∧
  (∀ d : Dev, ∀ v : Nat, d.limpInside v = true ↔
    (d.limpMode = 0 ∧ 250 ≤ v ∧ v ≤ 4750) ∨ (d.limpMode = 1 ∧ 500 ≤ v ∧ v ≤ 9500) ∨ (d.limpMode = 2 ∧ 50 ≤ v ∧ v ≤ 12000)) ∧
  (∀ s : State, (s.dev.works 4 3 = false ∨ s.dev.limpOwned = false ∨ s.dev.limpMode = 0 → Completes .limpEdgeTimeout s s.dev) ∧
    (s.dev.works 4 3 = true → s.dev.limpOwned = true → s.dev.limpMode ≠ 0 → Completes .limpEdgeTimeout s s.dev.limpInvalid)) ∧
  (∀ (s : State) (t : Nat), s.dev.works 4 3 = true → s.dev.limpOwned = true → s.dev.vol.ce.limpFrom = some t →
    (t + 4000 * max 1 (s.dev.get CE.LIMPCFG_LFILT) ≤ s.dev.now → Completes .limpValid s (s.dev.set CE.LIMPST_VALID 1)) ∧
    (s.dev.now < t + 4000 * max 1 (s.dev.get CE.LIMPCFG_LFILT) → Completes .limpValid s s.dev)) ∧
  (∀ s : State, s.dev.vol.ce.limpFrom = none → Completes .limpValid s s.dev) ∧
  (∀ s : State, s.dev.works 4 3 = true →
    let keep := s.dev.vol.ce.limp.filter fun x => decide (s.dev.now ≤ x.1 + 4000 * max 1 (s.dev.get CE.LIMPCFG_LFILT))
    (s.dev.limpOwned = true → s.dev.get CE.LIMPST_VALID = 1 → keep ≠ [] →
      Completes .limpValueUpdate s
        ((s.dev.modCe fun c => { c with limp := keep }).sset CE.LIMPVAL_LVAL (s.dev.limpMap (keep.foldl (fun n x => n + x.2) 0) keep.length))) ∧
    (s.dev.limpOwned = true → s.dev.get CE.LIMPST_VALID ≠ 1 →
      Reaches .limpValueUpdate s fun t => t.dev.get CE.LIMPVAL_LVAL = 0 ∧ t.dev.get CE.LIMPST_LIMPFLT = 1 ∧ t.dev.vol.ce.limp = keep ∧ t.mem = s.mem) ∧
    (s.dev.limpOwned = false → Completes .limpValueUpdate s s.dev.limpInvalid)) ∧
  (∀ (s : State) (b : Bridge),
    (s.dev.get CE.LIMPCFG_AUTO = 1 → s.dev.secondLife = false → s.dev.get (CE.BCFG_CMDSRC b) % 3 = 0 → s.dev.active b = true →
      s.dev.get CE.LIMPTMO_CMDTMO ≠ 0 →
      Completes (.commandTimeout b) s (s.dev.set (if b = 0 then CE.LIMPST_ACTA else CE.LIMPST_ACTB) 1)) ∧
    (s.dev.get CE.LIMPCFG_AUTO ≠ 1 ∨ s.dev.secondLife = true ∨ s.dev.get (CE.BCFG_CMDSRC b) % 3 ≠ 0 ∨ s.dev.active b = false ∨
      s.dev.get CE.LIMPTMO_CMDTMO = 0 → Completes (.commandTimeout b) s s.dev))

/-- The carrier (R205, R206, R223): it starts at a zero point with frame index 0; a zero point counts the frame and stands at 0 counting up, a period
point at half the period in force counting down, each half a period after the last and each with its event; a compare point takes the counter to K with the
direction of its ramp, and there is none at 0 or at the half period itself. With `EN` 0, or with the counter stopped, there is no point. -/
def Obligations.CarrierPoints : Prop :=
  (∀ (s : State) (x : Bridge),
    (s.dev.works 4 0 = true → s.dev.get (MOD.CTL_EN x) = 1 → (s.dev.modS x).running = false →
      Reaches (.carrierStart x) s fun t =>
        (t.dev.modS x).running = true ∧ t.dev.get (MOD.CNT_CNT x) = 0 ∧ t.dev.get (MOD.CNT_DIR x) = 0 ∧ t.dev.get (MOD.CNT_FRAME x) = 0 ∧
        (t.dev.modS x).base = 6 * s.dev.cycle ∧ t.mem = s.mem) ∧
    (s.dev.works 4 0 = false ∨ s.dev.get (MOD.CTL_EN x) ≠ 1 ∨ (s.dev.modS x).running = true → Completes (.carrierStart x) s s.dev)) ∧
  (∀ (s : State) (x : Bridge), s.dev.carrierRuns x = true →
    (Reaches (.carrierZeroPoint x) s fun t =>
      t.dev.get (MOD.CNT_CNT x) = 0 ∧ t.dev.get (MOD.CNT_DIR x) = 0 ∧
      t.dev.get (MOD.CNT_FRAME x) = (s.dev.get (MOD.CNT_FRAME x) + 1) % 2 ^ (MOD.CNT_FRAME x).width ∧
      t.dev.get (MOD.EV_OCC x 0) = (s.dev.get (MOD.EV_OCC x 0) + 1) % 2 ^ (MOD.EV_OCC x 0).width ∧
      (t.dev.modS x).base = s.dev.nextPoint x ∧ t.mem = s.mem) ∧
    (Reaches (.carrierPeriodPoint x) s fun t =>
      t.dev.get (MOD.CNT_CNT x) = (t.dev.modS x).half % 2 ^ (MOD.CNT_CNT x).width ∧ t.dev.get (MOD.CNT_DIR x) = 1 ∧
      t.dev.get (MOD.EV_OCC x 1) = (s.dev.get (MOD.EV_OCC x 1) + 1) % 2 ^ (MOD.EV_OCC x 1).width ∧
      (t.dev.modS x).base = s.dev.nextPoint x ∧ t.mem = s.mem)) ∧
  (∀ (s : State) (x : Bridge) (i : Fin 5) (down : Bool),
    (s.dev.carrierRuns x = true → 1 ≤ vget (s.dev.modS x).k i → vget (s.dev.modS x).k i + 1 ≤ (s.dev.modS x).half →
      Reaches (.compareEvent x i down) s fun t =>
        t.dev.get (MOD.CNT_CNT x) = vget (s.dev.modS x).k i % 2 ^ (MOD.CNT_CNT x).width ∧ t.dev.get (MOD.CNT_DIR x) = b2n down ∧
        (s.dev.get (MOD.EV_EDGE x (i + 2)) = 0 →
          t.dev.get (MOD.EV_OCC x (i + 2)) = (s.dev.get (MOD.EV_OCC x (i + 2)) + 1) % 2 ^ (MOD.EV_OCC x (i + 2)).width) ∧ t.mem = s.mem) ∧
    (s.dev.carrierRuns x = false ∨ vget (s.dev.modS x).k i = 0 ∨ (s.dev.modS x).half ≤ vget (s.dev.modS x).k i →
      Completes (.compareEvent x i down) s s.dev)) ∧
  (∀ (s : State) (x : Bridge), s.dev.carrierRuns x = false →
    Completes (.carrierZeroPoint x) s s.dev ∧ Completes (.carrierPeriodPoint x) s s.dev)

/-- Update groups (R202, R210 to R213): with `SRC` 0 a fabric write of the group or its commit is forbidden; a register of a group takes its
value in the shadow alone; a commit outside the reload guard makes the whole group pending, one inside it is deferred and counted; with
`GRP` 0 a commit has no effect, and a register written goes to pending by itself. -/
def Obligations.UpdateGroups : Prop :=
  (∀ (s : State) (m : Master) (x : Bridge) (guard : Bool), (s.dev.modWritable m x 0x0C = false ∨ s.dev.get (MOD.CTL_SRC x) ≠ 1) →
    Completes (.groupCommit m x guard) s (s.dev.busError m (0x4040000C + 0x10000 * x) true)) ∧
  (∀ (s : State) (m : Master) (x : Bridge), s.dev.modWritable m x 0x0C = true → s.dev.get (MOD.CTL_SRC x) = 1 →
    (s.dev.get (MOD.CTL_GRP x) ≠ 1 → ∀ g : Bool, Completes (.groupCommit m x g) s (s.dev.busOk 0)) ∧
    (s.dev.get (MOD.CTL_GRP x) = 1 →
      Completes (.groupCommit m x true) s
        ((((s.dev.modMod x fun q => { q with deferred := union q.deferred allRegs }).set (MOD.GUARD_DEFERRED x) 1).countSat
          (MOD.GUARD_DEFCNT x)).busOk 0)) ∧
    (s.dev.get (MOD.CTL_GRP x) = 1 →
      Reaches (.groupCommit m x false) s fun t =>
        t.dev.get (MOD.GUARD_PEND x) = 1 ∧ (t.dev.modS x).waits = allRegs ∧ (t.dev.modS x).pend.prd = (s.dev.shadow x).prd ∧
        (t.dev.modS x).pend.cmp = (s.dev.shadow x).cmp ∧ (t.dev.modS x).act = (s.dev.modS x).act ∧ t.mem = s.mem)) ∧
  (∀ (s : State) (m : Master) (x : Bridge) (r : Fin 8) (v : Word), s.dev.modWritable m x 8 = true → s.dev.get (MOD.CTL_SRC x) = 1 →
    let w := if r = 0 then v.toNat % 16777216 / 2 * 2 else v.toNat
    (s.dev.get (MOD.CTL_GRP x) = 1 → ∀ g : Bool, Completes (.groupRegisterWrite m x r v g) s ((s.dev.set (groupFld x r) w).busOk 0)) ∧
    (s.dev.get (MOD.CTL_GRP x) ≠ 1 →
      Reaches (.groupRegisterWrite m x r v false) s fun t =>
        t.dev.get (groupFld x r) = w % 2 ^ (groupFld x r).width ∧ t.dev.get (MOD.GUARD_PEND x) = 1 ∧ r.val ∈ (t.dev.modS x).waits ∧
        (t.dev.modS x).act = (s.dev.modS x).act ∧ t.mem = s.mem)) ∧
  (∀ (s : State) (m : Master) (x : Bridge) (r : Fin 8) (v : Word) (g : Bool), (s.dev.modWritable m x 8 = false ∨ s.dev.get (MOD.CTL_SRC x) ≠ 1) →
    Completes (.groupRegisterWrite m x r v g) s (s.dev.busError m (groupFld x r).addr true))

/-- Mode, dead time, refresh and heartbeat (R13, R201, R217, R219, R227): with `RUN` 1 a write of `MODE`, or of `EN` 0, leaves both and sets
`MODEREJ`; so does a write of the dead time; with `RUN` 0 they take their values; a locked dead time takes nothing and records nothing (the model's choice with
`RUN` 1, log 146); a refresh pulse of a leg that the source commands HIGH is noted and counted, and ends; a lost heartbeat applies the bridge safe state with
its cause and raises line 31. -/
def Obligations.ModulatorModes : Prop :=
  (∀ (s : State) (m : Master) (x : Bridge) (v : Word), s.dev.modWritable m x 4 = true →
    (s.dev.get (MOD.CTL_RUN x) = 1 → s.dev.get (MOD.CTL_LOCK x) ≠ 1 →
      Completes (.modeWrite m x (.dead v)) s ((s.dev.set (MOD.STAT_MODEREJ x) 1).busOk 0)) ∧
    (s.dev.get (MOD.CTL_RUN x) ≠ 1 → s.dev.get (MOD.CTL_LOCK x) ≠ 1 →
      Completes (.modeWrite m x (.dead v)) s ((s.dev.set (MOD.DEAD_DT x) v.toNat).busOk 0)) ∧
    (s.dev.get (MOD.CTL_LOCK x) = 1 → Completes (.modeWrite m x (.dead v)) s (s.dev.busOk 0))) ∧
  (∀ (s : State) (m : Master) (x : Bridge) (v : Word),
    (s.dev.modWritable m x 4 = false → Completes (.modeWrite m x (.dead v)) s (s.dev.busError m (0x40400004 + 0x10000 * x) true)) ∧
    (s.dev.modWritable m x 0 = false → Completes (.modeWrite m x (.ctl v)) s (s.dev.busError m (0x40400000 + 0x10000 * x) true))) ∧
  (∀ (s : State) (m : Master) (x : Bridge) (v : Word), s.dev.modWritable m x 0 = true → s.dev.get (MOD.CTL_LOCK x) ≠ 1 →
    (s.dev.get (MOD.CTL_RUN x) = 1 →
      Reaches (.modeWrite m x (.ctl v)) s fun t =>
        t.dev.get (MOD.STAT_MODEREJ x) = 1 ∧ t.dev.get (MOD.CTL_MODE x) = s.dev.get (MOD.CTL_MODE x) ∧
        (natBit v.toNat 0 = false → t.dev.get (MOD.CTL_EN x) = s.dev.get (MOD.CTL_EN x)) ∧ t.dev.bus = { error := false, data := 0 } ∧ t.mem = s.mem) ∧
    (s.dev.get (MOD.CTL_RUN x) ≠ 1 →
      Reaches (.modeWrite m x (.ctl v)) s fun t =>
        t.dev.get (MOD.CTL_MODE x) = natField v.toNat 1 2 ∧ t.dev.get (MOD.CTL_EN x) = b2n (natBit v.toNat 0) ∧
        t.dev.bus = { error := false, data := 0 } ∧ t.mem = s.mem)) ∧
  (∀ (s : State) (x : Bridge) (p : Fin 3),
    (s.dev.get (MOD.CTL_RUN x) = 1 → s.dev.refreshLeg x p = true → vget (s.dev.modS x).leg p = 2 → vget (s.dev.modS x).refresh p = false →
      natField (s.dev.get (MOD.OMASK_OMASK x)) (4 * p) 2 ≠ 2 →
      Reaches (.refreshPulse x p true) s fun t =>
        vget (t.dev.modS x).refresh p = true ∧ t.dev.get (MOD.STAT_RFINS x) = 1 ∧
        t.dev.get (MOD.STAT_RFCNT x) = (s.dev.get (MOD.STAT_RFCNT x) + 1) % 2 ^ (MOD.STAT_RFCNT x).width ∧ t.mem = s.mem) ∧
    (s.dev.get (MOD.CTL_RUN x) ≠ 1 ∨ s.dev.refreshLeg x p = false ∨ vget (s.dev.modS x).leg p ≠ 2 → Completes (.refreshPulse x p true) s s.dev) ∧
    (Reaches (.refreshPulse x p false) s fun t => vget (t.dev.modS x).refresh p = false ∧ t.mem = s.mem)) ∧
  (∀ (s : State) (x : Bridge),
    (s.dev.domainUp 5 = true →
      Reaches (.heartbeatLoss x) s fun t =>
        t.dev.get (GL.BSTAT_HBEAT x) = 1 ∧ t.dev.get (GL.BSTAT_APPLIED x) = 1 ∧ (31, brMask x) ∈ t.dev.raised ∧ t.mem = s.mem) ∧
    (s.dev.domainUp 5 = false → Completes (.heartbeatLoss x) s s.dev))

/-- What an island does with a symbol and a fault of its own (R64, R256, R257, R272, R274, R275): a launched ON turns the switch on where the link was
set up, the supply is valid, no latch holds and no soft turn-off runs, and changes nothing otherwise; OFF turns it off but does not interrupt a soft turn-off;
the loss of the edge path latches cause 3 where no cause stood; a desaturation of a switch that is on latches cause 1 and a hard short, enabled in the island's own
register 0x00 bit 2, cause 2, each with a soft turn-off and a FAULT frame ahead of the others; a wrong width counts a symbol error. -/
def Obligations.IslandSwitch : Prop :=
  ∀ (s : State) (n : Chan),
    let g := s.dev.gate n
    let may := g.launched = true ∧ g.linked = true ∧ g.supplied = true ∧ g.islLatch = 0 ∧ g.dieLatch = false ∧ g.sw = 0
    (may → Completes (.on n) s (s.dev.modGate n fun g => { g with sw := 1 })) ∧
    (¬ may → Reaches (.on n) s fun t => t.dev.gate n = g ∧ t.dev.regs = s.dev.regs ∧ t.dev.nv = s.dev.nv ∧ t.mem = s.mem) ∧
    (g.sw ≠ 2 → Completes (.off n) s (s.dev.modGate n fun g => { g with sw := 0 }.applyProt)) ∧
    (g.sw = 2 → Reaches (.off n) s fun t => t.dev.gate n = g ∧ t.dev.regs = s.dev.regs ∧ t.mem = s.mem) ∧
    (Reaches (.islandEdgePathLoss n) s fun t =>
      (t.dev.gate n).sw = (if g.sw = 2 then 2 else 0) ∧ (t.dev.gate n).islLatch = (if g.islLatch = 0 then 3 else g.islLatch) ∧
      (t.dev.gate n).faultQ = g.faultQ ++ [3] ∧ t.dev.regs = s.dev.regs ∧ t.mem = s.mem) ∧
    (g.sw = 1 → Completes (.desaturation n) s (s.dev.modGate n fun g => { g with islLatch := 1, sw := 2, faultQ := 1 :: g.faultQ })) ∧
    (g.sw ≠ 1 → Reaches (.desaturation n) s fun t => t.dev.gate n = g ∧ t.dev.regs = s.dev.regs ∧ t.mem = s.mem) ∧
    (g.sw = 1 → natBit (vget g.regs 0) 2 = true →
      Completes (.hardShort n) s (s.dev.modGate n fun g => { g with islLatch := 2, sw := 2, faultQ := 2 :: g.faultQ })) ∧
    (g.sw ≠ 1 ∨ natBit (vget g.regs 0) 2 = false →
      Reaches (.hardShort n) s fun t => t.dev.gate n = g ∧ t.dev.regs = s.dev.regs ∧ t.mem = s.mem) ∧
    Completes (.symbolError n) s (s.dev.modGate n fun g => { g with symErr := g.symErr + 1 })

/-- The frames of the service path (R256 to R261, R265, R510): a gate report is taken with its level and lets a waiting turn-on go; an idle symbol keeps the loss watch
quiet; a frame with the CRC of Table 9-2 acts, and one with another is discarded by an island, counted by the gate link, and the third in a row loses the path; HELLO
starts the set-up, `WR` brings the gate link's own value, `CLR` with 0xC1EA clears the island's latch, `RD` makes an answer due, and RDR answers the oldest
one with the island's value, which is compared where a send is due; HEALTH goes to its register; FAULT reports the oldest cause, and none in time counts as
desaturation with `SPLOSS`. -/
def Obligations.GateFrames : Prop :=
  (∀ (s : State) (n : Chan), s.dev.glWorks = true →
    let live := s.dev.modGate n fun g => { g with spDown := false, badCrc := 0 }
    Completes (.gateOn n) s (s.dev.modGate n fun g => { g with rep := some true, onSince := false, epDown := false }).drive ∧
    Completes (.gateOff n) s (s.dev.modGate n fun g => { g with rep := some false, onSince := false, epDown := false }).drive ∧
    Completes (.idle n false) s (s.dev.modGate n fun g => { g with epDown := false }) ∧
    Completes (.idle n true) s s.dev ∧
    (∀ (rev : BitVec 8) (cap : Bool) (c : BitVec 8), (s.dev.gate n).supplied = true → (s.dev.gate n).hello = true →
      c.toNat = frameCrc 0 rev.toNat (b2n cap) →
      Completes (.hello n rev cap c) s
        (((live.modGate n fun g => { g with sync := List.range 12, rd := [], greeted := true }).setBit (GL.CHSTAT_CAPPRES n) cap).set (GL.CHSTAT_LINK n) 0)) ∧
    (∀ (rev : BitVec 8) (cap : Bool) (c : BitVec 8), (s.dev.gate n).supplied = false ∨ (s.dev.gate n).hello = false →
      Completes (.hello n rev cap c) s s.dev) ∧
    (∀ (v : BitVec 16) (c : BitVec 8),
      (c.toNat = frameCrc 3 0 v.toNat → Completes (.health n 0 v c) s (live.set (GL.CHTEMP_TDIE n) v.toNat)) ∧
      (c.toNat = frameCrc 3 1 v.toNat →
        Completes (.health n 1 v c) s ((live.set (GL.CHTEMP_NTC n) v.toNat).modGate n fun g => { g with fresh := true })) ∧
      (c.toNat = frameCrc 3 2 v.toNat → Completes (.health n 2 v c) s (live.set (GL.CHSUP_VPOS n) v.toNat)) ∧
      (∀ sub : BitVec 8, c.toNat ≠ frameCrc 3 sub.toNat v.toNat →
        ((s.dev.gate n).badCrc < 2 →
          Completes (.health n sub v c) s (s.dev.modGate n fun g => { g with badCrc := g.badCrc + 1 })) ∧
        (2 ≤ (s.dev.gate n).badCrc → Completes (.health n sub v c) s (s.dev.servicePathLost n))))) ∧
  (∀ (s : State) (n : Chan) (v : BitVec 16) (c : BitVec 8) (k : Nat) (l : List Nat), s.dev.glWorks = true → (s.dev.gate n).faultQ = k :: l →
    c.toNat = frameCrc 4 k v.toNat →
    let got := (s.dev.modGate n fun g => { g with faultQ := g.faultQ.drop 1 }).modGate n fun g => { g with spDown := false, badCrc := 0 }
    let done := got.modGate n fun g => { g with frameDue := false }
    (k = 1 → Completes (.faultFrame n v c) s ((done.set (GL.CHSTAT_DS n) 1).assertLine 35 (Dev.chanMask n))) ∧
    (k = 2 → Completes (.faultFrame n v c) s ((done.set (GL.CHSTAT_HS n) 1).assertLine 36 (Dev.chanMask n))) ∧
    (k = 3 → Completes (.faultFrame n v c) s ((got.set (GL.CHSTAT_EPLOSS n) 1).assertLine 32 (Dev.chanMask n))) ∧
    (k = 4 → Completes (.faultFrame n v c) s got) ∧
    (k = 5 → (s.dev.gate n).dieLatch = false ∨ s.dev.get (GL.CHSTAT_ST n) = 7 → Completes (.faultFrame n v c) s got) ∧
    (k = 5 → (s.dev.gate n).dieLatch = true → s.dev.get (GL.CHSTAT_ST n) ≠ 7 →
      Completes (.faultFrame n v c) s ((got.assertLine 44 (Dev.chanMask n)).chanTo n 7))) ∧
  (∀ (s : State) (n : Chan) (v : BitVec 16) (c : BitVec 8), (s.dev.gate n).faultQ = [] → Completes (.faultFrame n v c) s s.dev) ∧
  (∀ (s : State) (n : Chan),
    ((s.dev.gate n).frameDue = true →
      Completes (.faultFrameTimeout n) s
        (((((s.dev.modGate n fun g => { g with frameDue := false }).set (GL.CHSTAT_DS n) 1).set (GL.CHSTAT_SPLOSS n) 1).assertLine 35
          (Dev.chanMask n)).assertLine 32 (Dev.chanMask n))) ∧
    ((s.dev.gate n).frameDue = false → Completes (.faultFrameTimeout n) s s.dev) ∧
    Completes (.islandServiceTimeout n) s (s.dev.modGate n fun g => { g with hello := true })) ∧
  (∀ (s : State) (n : Chan) (a c : BitVec 8) (v : BitVec 16),
    (c.toNat = frameCrc 0 0 0 → Completes (.keep n c) s (s.dev.modGate n fun g => { g with hello := false })) ∧
    (c.toNat ≠ frameCrc 0 0 0 → Completes (.keep n c) s s.dev) ∧
    (c.toNat = frameCrc 2 a.toNat 0 → Completes (.rd n a c) s (s.dev.modGate n fun g => { g with hello := false, rd := g.rd ++ [a.toNat] })) ∧
    (c.toNat ≠ frameCrc 2 a.toNat 0 → Completes (.rd n a c) s s.dev) ∧
    (c.toNat = frameCrc 3 0 v.toNat →
      Reaches (.clr n v c) s fun t =>
        (t.dev.gate n).islLatch = (if v = 0xC1EA#16 then 0 else (s.dev.gate n).islLatch) ∧ (t.dev.gate n).hello = false ∧ t.dev.regs = s.dev.regs ∧
        t.mem = s.mem) ∧
    (c.toNat ≠ frameCrc 3 0 v.toNat → Completes (.clr n v c) s s.dev) ∧
    (∀ h : a.toNat < 12, c.toNat = frameCrc 1 a.toNat (s.dev.mirror n ⟨a.toNat, h⟩) →
      Reaches (.wr n a c) s fun t =>
        (t.dev.gate n).regs = vset (s.dev.gate n).regs ⟨a.toNat, h⟩ (s.dev.mirror n ⟨a.toNat, h⟩) ∧ (t.dev.gate n).hello = false ∧
        (a.toNat ≠ 3 → t.dev.regs = s.dev.regs) ∧ t.mem = s.mem) ∧
    (12 ≤ a.toNat → c.toNat = frameCrc 1 a.toNat 0 →
      Completes (.wr n a c) s (s.dev.modGate n fun g => { g with hello := false, badWr := true }))) ∧
  (∀ (s : State) (n : Chan) (a : Fin 12) (l : List Nat) (v : BitVec 16) (c : BitVec 8), s.dev.glWorks = true →
    (s.dev.gate n).rd = a.val :: l → c.toNat = frameCrc 1 a (vget (s.dev.gate n).regs a) →
    (a.val ∈ (s.dev.gate n).sync →
      Reaches (.rdr n v c) s fun t =>
        (t.dev.gate n).rd = l ∧ t.mem = s.mem ∧
        (vget (s.dev.gate n).regs a = s.dev.mirror n a →
          (t.dev.gate n).sync = (s.dev.gate n).sync.filter (· ≠ a.val) ∧ t.dev.regs = s.dev.regs) ∧
        (vget (s.dev.gate n).regs a ≠ s.dev.mirror n a →
          t.dev.get (GL.CHSTAT_SPLOSS n) = 1 ∧ (t.dev.gate n).sync = (s.dev.gate n).sync)) ∧
    (a.val ∉ (s.dev.gate n).sync →
      Reaches (.rdr n v c) s fun t => (t.dev.gate n).rd = l ∧ (t.dev.gate n).sync = (s.dev.gate n).sync ∧ t.dev.regs = s.dev.regs ∧ t.mem = s.mem)) ∧
  (∀ (s : State) (n : Chan) (v : BitVec 16) (c : BitVec 8), (s.dev.gate n).rd = [] → Completes (.rdr n v c) s s.dev)

/-- The entry of a channel into a state (R262, R264, Table 9-5): `ST` takes it, a change fires the channel's source, and in any state but
ARMED its leg is held off until an epoch after both positions are ARMED again.
The links of a channel and its enable (R257, R260 to R265, R302, R304): with every register read back equal the link is up and a channel in NOLINK goes to DISABLED,
or to OTLATCH where its die latch holds (an island needs a valid supply and a HELLO first); a loss of the edge path latches the channel with `EPLOSS` and line 32, a loss of the service path sets `SPLOSS` and
rebuilds the link, both together lead to NOLINK with `EN` 0; a register whose send is due takes the gate link's own value where the frame arrives and is compared, and one whose
send is not due stays; `EN` is taken when nothing forbids it, else `ENREJ` is set, through the object with 0x0622; `EN` 0 takes ARMED, WAIT and LATCHED to
DISABLED; a turn-on that the interlock never lets go latches the channel with line 34. -/
def Obligations.ChannelStates : Prop :=
  (
    (∀ (d : Dev) (n : Chan) (st : Nat), st < 8 →
      (d.chanTo n st).get (GL.CHSTAT_ST n) = st ∧ (d.get (GL.CHSTAT_ST n) ≠ st → 192 + n.val ∈ (d.chanTo n st).edges) ∧
      (st ≠ 2 → vget (d.chanTo n st).vol.gl.legHeld (chanLeg n) = true) ∧ (d.chanTo n st).nv = d.nv) ∧
    (∀ (s : State) (l : Fin 6), s.dev.glWorks = true →
      (s.dev.get (GL.CHSTAT_ST (2 * l)) = 2 → s.dev.get (GL.CHSTAT_ST (2 * l + 1)) = 2 →
        Completes (.legResume l) s (s.dev.modGl fun g => { g with legHeld := vset g.legHeld l false }).drive) ∧
      (s.dev.get (GL.CHSTAT_ST (2 * l)) ≠ 2 ∨ s.dev.get (GL.CHSTAT_ST (2 * l + 1)) ≠ 2 → Completes (.legResume l) s s.dev))) ∧
  (
    (∀ (s : State) (n : Chan),
      (s.dev.glWorks = true → (s.dev.gate n).greeted = true → (s.dev.gate n).supplied = true → (s.dev.gate n).sync = [] →
        s.dev.get (GL.CHSTAT_LINK n) = 0 → (s.dev.gate n).clrDue = false →
        Reaches (.linkUp n) s fun t =>
          t.dev.get (GL.CHSTAT_LINK n) = 1 ∧
          (s.dev.get (GL.CHSTAT_ST n) = 0 → t.dev.get (GL.CHSTAT_ST n) = (if (s.dev.gate n).dieLatch then 7 else 1)) ∧
          (s.dev.get (GL.CHSTAT_ST n) ≠ 0 → t.dev.get (GL.CHSTAT_ST n) = s.dev.get (GL.CHSTAT_ST n)) ∧ (t.dev.gate n).linked = true ∧ t.mem = s.mem) ∧
      (s.dev.glWorks = false ∨ (s.dev.gate n).greeted = false ∨ (s.dev.gate n).supplied = false ∨ (s.dev.gate n).sync ≠ [] ∨
        s.dev.get (GL.CHSTAT_LINK n) = 1 → Completes (.linkUp n) s s.dev)) ∧
    (∀ (s : State) (n : Chan), s.dev.glWorks = true →
      (s.dev.get (GL.CHSTAT_ST n) ≠ 0 → (s.dev.gate n).spDown = false →
        Completes (.edgePathLoss n) s
          ((((s.dev.modGate n fun g => { g with epDown := true }).set (GL.CHSTAT_EPLOSS n) 1).assertLine 32 (Dev.chanMask n)).latchChan n)) ∧
      (s.dev.get (GL.CHSTAT_ST n) ≠ 0 → (s.dev.gate n).spDown = true →
        Reaches (.edgePathLoss n) s fun t =>
          t.dev.get (GL.CHSTAT_ST n) = 0 ∧ t.dev.get (GL.CHSTAT_LINK n) = 0 ∧ t.dev.get (GL.CHCFG_EN n) = 0 ∧ (t.dev.gate n).kept = true ∧ t.mem = s.mem) ∧
      ((s.dev.gate n).epDown = false →
        Completes (.servicePathLoss n) s
          ((((s.dev.modGate n fun g => { g with spDown := true, badCrc := 0, sync := List.range 12, rd := [] }).set (GL.CHSTAT_SPLOSS n) 1).set
            (GL.CHSTAT_LINK n) 0).assertLine 32 (Dev.chanMask n))) ∧
      ((s.dev.gate n).epDown = true →
        Reaches (.servicePathLoss n) s fun t =>
          t.dev.get (GL.CHSTAT_ST n) = 0 ∧ t.dev.get (GL.CHSTAT_LINK n) = 0 ∧ t.dev.get (GL.CHCFG_EN n) = 0 ∧ t.dev.get (GL.CHSTAT_SPLOSS n) = 1 ∧
          t.mem = s.mem)) ∧
    (∀ (s : State) (n : Chan), s.dev.glWorks = false ∨ s.dev.get (GL.CHSTAT_ST n) = 0 → Completes (.edgePathLoss n) s s.dev) ∧
    (∀ (s : State) (n : Chan) (a : Fin 12), s.dev.glWorks = true → (s.dev.gate n).greeted = true → a.val ∈ (s.dev.gate n).sync →
      (Reaches (.islandRegisterSync n a true) s fun t =>
        (t.dev.gate n).regs = vset (s.dev.gate n).regs a (s.dev.mirror n a) ∧ (t.dev.gate n).hello = false ∧
        (t.dev.gate n).sync = (s.dev.gate n).sync.filter (· ≠ a.val) ∧ (a ≠ 3 → t.dev.regs = s.dev.regs) ∧ t.mem = s.mem) ∧
      (Reaches (.islandRegisterSync n a false) s fun t =>
        (t.dev.gate n).regs = (s.dev.gate n).regs ∧
        (vget (s.dev.gate n).regs a ≠ s.dev.mirror n a → t.dev.get (GL.CHSTAT_SPLOSS n) = 1 ∧ (t.dev.gate n).sync = (s.dev.gate n).sync) ∧
        t.mem = s.mem)) ∧
    (∀ (s : State) (n : Chan) (a : Fin 12) (arrives : Bool), a.val ∉ (s.dev.gate n).sync ∨ (s.dev.gate n).greeted = false → Completes (.islandRegisterSync n a arrives) s s.dev) ∧
    (∀ (s : State) (m : Master) (n : Chan),
      (s.dev.accessAllowed m (chcfgAddr n) true = true → Completes (.channelEnable m false n) s ((s.dev.chanEnable n).busOk 0)) ∧
      (s.dev.accessAllowed m (chcfgAddr n) true = false →
        Completes (.channelEnable m false n) s (s.dev.busError m (chcfgAddr n) true) ∧
        Completes (.channelDisable m false n) s (s.dev.busError m (chcfgAddr n) true)) ∧
      (s.dev.accessAllowed .dict (chcfgAddr n) true = true →
        (s.dev.enableAccepted n = true → Completes (.channelEnable m true n) s ((s.dev.chanEnable n).answer 0 0)) ∧
        (s.dev.enableAccepted n = false → Completes (.channelEnable m true n) s ((s.dev.chanEnable n).abort (0x2500 + n) 1 0x0622 0)) ∧
        Completes (.channelDisable m true n) s ((s.dev.chanDisable n).answer 0 0)) ∧
      (s.dev.get (GL.CHCFG_EN n) = 0 → s.dev.enableOk n = true → s.dev.chanEnable n = (s.dev.set (GL.CHCFG_EN n) 1).chanTo n 2) ∧
      (s.dev.get (GL.CHCFG_EN n) = 0 → s.dev.enableOk n = false → s.dev.chanEnable n = s.dev.set (GL.CHSTAT_ENREJ n) 1)) ∧
    (∀ (s : State) (m : Master) (n : Chan), s.dev.accessAllowed m (chcfgAddr n) true = true →
      (s.dev.get (GL.CHSTAT_ST n) ∈ [2, 4, 5] →
        Completes (.channelDisable m false n) s (((s.dev.set (GL.CHCFG_EN n) 0).chanTo n 1).busOk 0)) ∧
      (s.dev.get (GL.CHSTAT_ST n) = 6 →
        Completes (.channelDisable m false n) s (((s.dev.set (GL.CHCFG_EN n) 0).modGate n fun g => { g with before := 1 }).busOk 0)) ∧
      (s.dev.get (GL.CHSTAT_ST n) ∈ [0, 1, 3, 7] → Completes (.channelDisable m false n) s ((s.dev.set (GL.CHCFG_EN n) 0).busOk 0))) ∧
    (∀ (s : State) (n : Chan),
      ((s.dev.gate n).waitOn = true →
        Completes (.interlockTimeout n) s
          ((((s.dev.modGate n fun g => { g with waitOn := false }).set (GL.CHSTAT_INTLKTMO n) 1).assertLine 34 (Dev.chanMask n)).latchChan n)) ∧
      ((s.dev.gate n).waitOn = false → Completes (.interlockTimeout n) s s.dev)))

/-- Protection and retries (R259, R262, R268, R269, R275, R276, R278, R510): a FAULT symbol of an enabled channel is counted and takes it to SOFTOFF, one of a channel in SOFTOFF is not
counted again, and one of a channel that is off for another reason is counted and leaves its state (the model's choice, log 150); the end of the
soft turn-off leads to WAIT while the recent faults allow it and else to LATCHED, or to DISABLED where `EN` was cleared; the end of the
wait arms the channel again, with the link down as soon as it is up; under-voltage holds the switch off with line 33 and its release returns the state before; a measured edge queues its EDGE frame, a soft or invalid one
moves nothing and a normal one moves the strength by one step within its bounds; a latch is cleared in OFF, IDLE and HELD only. -/
def Obligations.ChannelProtection : Prop :=
  (∀ (s : State) (n : Chan), s.dev.glWorks = true →
    let alive := s.dev.modGate n fun g => { g with epDown := false }
    let counted := (alive.modGate n fun g => { g with faults := s.dev.now :: g.faults, frameDue := true }).countSat (GL.CHSTAT_FCNT n)
    (s.dev.get (GL.CHSTAT_ST n) ∈ [1, 2, 4] → Completes (.fault n) s (counted.chanTo n 3)) ∧
    (s.dev.get (GL.CHSTAT_ST n) = 3 → Completes (.fault n) s alive) ∧
    (s.dev.get (GL.CHSTAT_ST n) ∈ [0, 5, 7] → Completes (.fault n) s counted) ∧
    (s.dev.get (GL.CHSTAT_ST n) = 6 →
      Reaches (.fault n) s fun t => t.dev.get (GL.CHSTAT_ST n) = 6 ∧ (t.dev.gate n).frameDue = true ∧ t.dev.regs = counted.regs ∧ t.mem = s.mem)) ∧
  (∀ (s : State) (n : Chan), s.dev.get (GL.CHSTAT_ST n) = 3 →
    Reaches (.softTurnOffEnd n) s fun t =>
      (s.dev.get (GL.CHCFG_EN n) = 1 → s.dev.recentFaults n ≤ s.dev.get (GL.CHRTY_RETRYN n) → t.dev.get (GL.CHSTAT_ST n) = 4) ∧
      (s.dev.get (GL.CHCFG_EN n) = 1 → s.dev.get (GL.CHRTY_RETRYN n) < s.dev.recentFaults n →
        t.dev.get (GL.CHSTAT_ST n) = 5 ∧ (t.dev.gate n).kept = true) ∧
      (s.dev.get (GL.CHCFG_EN n) ≠ 1 → t.dev.get (GL.CHSTAT_ST n) = 1) ∧ ((s.dev.gate n).sw = 2 → (t.dev.gate n).sw = 0) ∧ t.mem = s.mem) ∧
  (∀ (s : State) (n : Chan),
    ((s.dev.gate n).retry = true → s.dev.get (GL.CHSTAT_LINK n) = 1 → s.dev.get (GL.CHSTAT_ST n) = 4 →
      Completes (.retryWaitEnd n) s ((s.dev.modGate n fun g => { g with retry := false, clrDue := false, islLatch := 0 }).chanTo n 2)) ∧
    ((s.dev.gate n).retry = true → s.dev.get (GL.CHSTAT_LINK n) = 1 → s.dev.get (GL.CHSTAT_ST n) ≠ 4 →
      Completes (.retryWaitEnd n) s (s.dev.modGate n fun g => { g with retry := false, clrDue := false, islLatch := 0 })) ∧
    ((s.dev.gate n).retry = false → Completes (.retryWaitEnd n) s s.dev)) ∧
  (∀ (s : State) (n : Chan),
    let off := s.dev.modGate n fun g => { g with supplied := false, sw := 0, faultQ := g.faultQ ++ [4] }.applyProt
    (s.dev.get (GL.CHSTAT_ST n) ∈ [1, 2, 4, 5] →
      Completes (.islandUvlo n) s
        (((off.modGate n fun g => { g with before := s.dev.get (GL.CHSTAT_ST n) }).assertLine 33 (Dev.chanMask n)).chanTo n 6)) ∧
    (s.dev.get (GL.CHSTAT_ST n) = 3 →
      Reaches (.islandUvlo n) s fun t =>
        t.dev.get (GL.CHSTAT_ST n) = 6 ∧ (t.dev.gate n).before = s.dev.retryOutcome n ∧ (t.dev.gate n).sw = 0 ∧ t.mem = s.mem) ∧
    (s.dev.get (GL.CHSTAT_ST n) ∈ [0, 6, 7] → Completes (.islandUvlo n) s off)) ∧
  (∀ (s : State) (n : Chan),
    (s.dev.get (GL.CHSTAT_ST n) = 6 → (s.dev.gate n).before < 8 →
      Reaches (.islandUvloRelease n) s fun t =>
        t.dev.get (GL.CHSTAT_ST n) = (s.dev.gate n).before ∧ (t.dev.gate n).supplied = true ∧ (t.dev.gate n).dieLatch = false ∧
        (t.dev.gate n).retry = ((s.dev.gate n).retry || decide ((s.dev.gate n).before = 4)) ∧ t.mem = s.mem) ∧
    (s.dev.get (GL.CHSTAT_ST n) = 7 →
      Reaches (.islandUvloRelease n) s fun t =>
        t.dev.get (GL.CHSTAT_ST n) = 0 ∧ t.dev.get (GL.CHSTAT_LINK n) = 0 ∧ (t.dev.gate n).supplied = true ∧ (t.dev.gate n).dieLatch = false ∧
        (t.dev.gate n).hello = true ∧ t.mem = s.mem) ∧
    (s.dev.get (GL.CHSTAT_ST n) < 6 →
      Reaches (.islandUvloRelease n) s fun t =>
        t.dev.regs = s.dev.regs ∧ (t.dev.gate n).supplied = true ∧ (t.dev.gate n).linked = false ∧ (t.dev.gate n).hello = true ∧ t.mem = s.mem)) ∧
  (∀ (s : State) (n : Chan) (off soft : Bool) (v : BitVec 16),
    let g := s.dev.gate n
    let str := vget g.regs 3 / (if off then 256 else 1) % 64
    let rest := soft = true ∨ v = 0xFFFF#16 ∨ natBit (vget g.regs 0) (if off then 1 else 0) = false
    let queued := s.dev.modGate n fun g => g.queueEdge { off := off, str := str, time := v.toNat, code := g.edgeCode }
    (rest → Completes (.islandEdgeMeasured n off soft v) s queued) ∧
    (¬ rest →
      Reaches (.islandEdgeMeasured n off soft v) s fun t =>
        s.dev.sameBut t.dev [GL.CHSTR_STON n, GL.CHSTR_STOFF n, GL.CHSTAT_ATBOUND n] ∧ t.mem = s.mem ∧
        (t.dev.gate n).regs = (g.adapt off (g.nextStrength off v.toNat)).regs ∧ (t.dev.gate n).edges = (queued.gate n).edges ∧
        (s.dev.glWorks = true → s.dev.get (GL.CHSTAT_LINK n) = 1 → g.atBound off (g.nextStrength off v.toNat) = true →
          t.dev.get (GL.CHSTAT_ATBOUND n) = 1)) ∧
    g.nextStrength off v.toNat ≤ str + 1 ∧ str ≤ g.nextStrength off v.toNat + 1) ∧
  (∀ (s : State) (m : Master) (n : BitVec 8) (h : n.toNat < 12),
    let c : Chan := ⟨n.toNat, h⟩
    let freed := (s.dev.modGate c fun g => { g with islLatch := 0, kept := false, faults := [] }).set (GL.CHCFG_EN n.toNat) 0
    (s.dev.accessAllowed m (chcfgAddr c + 0x2C) true = true →
      (s.dev.latchClearable c = true → s.dev.get (GL.CHSTAT_ST n.toNat) = 5 →
        Completes (.clearLatch m false n) s
          ((if (s.dev.gate c).dieLatch then (freed.assertLine 44 (Dev.chanMask c)).chanTo c 7 else freed.chanTo c 1).busOk 0)) ∧
      (s.dev.latchClearable c = false → Completes (.clearLatch m false n) s (s.dev.busOk 0))) ∧
    (s.dev.accessAllowed m (chcfgAddr c + 0x2C) true = false →
      Completes (.clearLatch m false n) s (s.dev.busError m (chcfgAddr c + 0x2C) true)) ∧
    (s.dev.accessAllowed .dict (chcfgAddr c + 0x2C) true = true → s.dev.latchClearable c = false →
      Completes (.clearLatch m true n) s (s.dev.abort 0x3021 1 0x0622 0))) ∧
  (∀ (s : State) (m : Master) (n : BitVec 8), 11 < n.toNat →
    Completes (.clearLatch m true n) s (s.dev.abort 0x3021 1 0x0611 0) ∧ Completes (.clearLatch m false n) s s.dev) ∧
  (∀ (s : State) (n : Chan), (s.dev.gate n).retry = true → s.dev.get (GL.CHSTAT_LINK n) = 0 →
    Completes (.retryWaitEnd n) s (s.dev.modGate n fun g => { g with clrDue := true })) ∧
  (∀ (s : State) (n : Chan), s.dev.glWorks = true → (s.dev.gate n).greeted = true → (s.dev.gate n).supplied = true → (s.dev.gate n).sync = [] →
    s.dev.get (GL.CHSTAT_LINK n) = 0 → (s.dev.gate n).clrDue = true → s.dev.get (GL.CHSTAT_ST n) = 4 →
    Reaches (.linkUp n) s fun t =>
      t.dev.get (GL.CHSTAT_LINK n) = 1 ∧ t.dev.get (GL.CHSTAT_ST n) = 2 ∧ (t.dev.gate n).clrDue = false ∧ (t.dev.gate n).retry = false ∧
      (t.dev.gate n).islLatch = 0 ∧ t.mem = s.mem)

/-- The active discharge (R281 to R283): a request of Truss or the dictionary engine begins it by the method that `MODE` and the bridges select; another master meets
R34; it is DONE below `VTHR`, held between 20 and 60 V, with the time taken; in `MODE` 2 it falls back to the pin after the winding's time; where it does not end in
time it is FAILED with line 38; clearing the request ends it. -/
def Obligations.ActiveDischarge : Prop :=
  (∀ (s : State) (m : Master), s.dev.dscWritable m = true →
    (s.dev.get GL.DSCCTL_REQ ≠ 1 →
      Completes (.dischargeRequest m false) s
        (((((s.dev.set GL.DSCCTL_REQ 1).set GL.DSCSTAT_TDSC 0).modGl fun g =>
          { g with dscFrom := s.dev.now, dscPin := false, dscFell := false }).dscTo 1).dscFollow.busOk 0)) ∧
    (s.dev.get GL.DSCCTL_REQ = 1 → Completes (.dischargeRequest m false) s (s.dev.busOk 0)) ∧
    Completes (.dischargeEnd m false) s
      ((((s.dev.set GL.DSCCTL_REQ 0).modGl fun g => { g with dscPin := false, dscFell := false }).dscTo 0).busOk 0)) ∧
  (∀ (s : State) (m : Master), s.dev.dscWritable .dict = true →
    (s.dev.get GL.DSCCTL_REQ = 1 → Completes (.dischargeRequest m true) s (s.dev.answer 0 0)) ∧
    Completes (.dischargeEnd m true) s
      ((((s.dev.set GL.DSCCTL_REQ 0).modGl fun g => { g with dscPin := false, dscFell := false }).dscTo 0).answer 0 0)) ∧
  (∀ (s : State) (m : Master), s.dev.dscWritable m = false →
    Completes (.dischargeRequest m false) s (s.dev.busError m 0x40500900 true) ∧ Completes (.dischargeEnd m false) s (s.dev.busError m 0x40500900 true)) ∧
  (∀ s : State, s.dev.get GL.DSCCTL_REQ = 1 → (s.dev.get GL.DSCSTAT_ST = 1 ∨ s.dev.get GL.DSCSTAT_ST = 2) →
    (s.dev.linkVolts < (max 20 (min 60 (s.dev.get GL.DSCCTL_VTHR)) : Nat) * 1048576 →
      Completes .dischargeJudge s ((s.dev.set GL.DSCSTAT_TDSC (min 65535 ((s.dev.now - s.dev.vol.gl.dscFrom) / 4000))).dscTo 3)) ∧
    ((max 20 (min 60 (s.dev.get GL.DSCCTL_VTHR)) : Nat) * 1048576 ≤ s.dev.linkVolts → Completes .dischargeJudge s s.dev.dscFollow) ∧
    Completes .dischargeTimeout s (((s.dev.set GL.DSCSTAT_FAIL 1).assertLine 38 0).dscTo 4) ∧
    (s.dev.get GL.DSCSTAT_ST = 1 → 2 ≤ s.dev.get GL.DSCCTL_MODE →
      Completes .dischargeFallback s (s.dev.modGl fun g => { g with dscFell := true }).dscFollow) ∧
    (s.dev.get GL.DSCSTAT_ST = 2 ∨ s.dev.get GL.DSCCTL_MODE < 2 → Completes .dischargeFallback s s.dev)) ∧
  (∀ s : State, s.dev.get GL.DSCCTL_REQ = 0 → Completes .dischargeJudge s s.dev ∧ Completes .dischargeTimeout s s.dev ∧ Completes .dischargeFallback s s.dev) ∧
  (∀ (d : Dev) (st : Nat), st < 8 → (d.dscTo st).get GL.DSCSTAT_ST = st ∧ (d.get GL.DSCSTAT_ST ≠ st → 218 ∈ (d.dscTo st).edges) ∧
    d.sameBut (d.dscTo st) [GL.DSCSTAT_ST])

/-- What a confirmed condition of the thermal block does (R291, R292, R301, R302): a channel above or below its threshold in `NFILT` rounds
running sets `HIA` or `LOA` and raises line 40, and in fewer rounds nothing; a warning raises line 42, a stop line 43, each confirmed the same way, the
die stop in 10 rounds; values that grow stale while a bridge is ACTIVE put loop 5 of both bridges at `DMIN` with line 41, and change nothing otherwise; an island over its temperature turns
its switch off, sets its die latch, has the cause to report, and takes its channel to OTLATCH with line 44. -/
def Obligations.ThermalConditions : Prop :=
  (∀ (s : State) (c : Fin 24),
    (s.dev.nfilt ≤ vget s.dev.vol.th.hiN c →
      Completes (.thresholdConfirmed c true) s (((s.dev.set (TH.HKVAL_HIA c) 1).set TH.STAT_HI 1).assertLine 40 0)) ∧
    (vget s.dev.vol.th.hiN c < s.dev.nfilt → Completes (.thresholdConfirmed c true) s s.dev) ∧
    (s.dev.nfilt ≤ vget s.dev.vol.th.loN c →
      Completes (.thresholdConfirmed c false) s (((s.dev.set (TH.HKVAL_LOA c) 1).set TH.STAT_LO 1).assertLine 40 0)) ∧
    (vget s.dev.vol.th.loN c < s.dev.nfilt → Completes (.thresholdConfirmed c false) s s.dev)) ∧
  (∀ (s : State) (n : Chan),
    (s.dev.nfilt ≤ vget s.dev.vol.th.tjWarnN n →
      Completes (.thermalConditionConfirmed (.tjWarn n)) s ((s.dev.set TH.STAT_WARN 1).assertLine 42 (Dev.chanMask n))) ∧
    (s.dev.nfilt ≤ vget s.dev.vol.th.islWarnN n →
      Completes (.thermalConditionConfirmed (.islWarn n)) s ((s.dev.set TH.STAT_WARN 1).assertLine 42 (Dev.chanMask n))) ∧
    (s.dev.nfilt ≤ vget s.dev.vol.th.tjStopN n →
      Completes (.thermalConditionConfirmed (.tjStop n)) s ((s.dev.set TH.STAT_TJSTOP 1).assertLine 43 (Dev.chanMask n))) ∧
    (s.dev.nfilt ≤ vget s.dev.vol.th.islStopN n →
      Completes (.thermalConditionConfirmed (.islStop n)) s ((s.dev.set TH.STAT_ISLSTOP 1).assertLine 43 (Dev.chanMask n))) ∧
    (vget s.dev.vol.th.tjWarnN n < s.dev.nfilt → Completes (.thermalConditionConfirmed (.tjWarn n)) s s.dev) ∧
    (vget s.dev.vol.th.islWarnN n < s.dev.nfilt → Completes (.thermalConditionConfirmed (.islWarn n)) s s.dev) ∧
    (vget s.dev.vol.th.tjStopN n < s.dev.nfilt → Completes (.thermalConditionConfirmed (.tjStop n)) s s.dev) ∧
    (vget s.dev.vol.th.islStopN n < s.dev.nfilt → Completes (.thermalConditionConfirmed (.islStop n)) s s.dev) ∧
    (10 ≤ s.dev.vol.th.dieN →
      Completes (.thermalConditionConfirmed .dieStop) s ((s.dev.set TH.STAT_DIESTOP 1).assertLine 43 0)) ∧
    (s.dev.vol.th.dieN < 10 → Completes (.thermalConditionConfirmed .dieStop) s s.dev)) ∧
  (∀ (s : State), s.dev.works 4 3 = true → s.dev.anyBridgeActive = true →
    Reaches .housekeepingStale s fun t =>
      (∀ b : Bridge, t.dev.get (CE.LPARP_LPARP b 5) = s.dev.get (TH.DERMIN_DMIN b) % 2 ^ 32 ∧
        t.dev.get (CE.LPARN_LPARN b 5) = s.dev.get (TH.DERMIN_DMIN b) % 2 ^ 32) ∧
      t.dev.get TH.STAT_STALE = 1 ∧ (41, 0) ∈ t.dev.raised ∧ t.mem = s.mem ∧
      s.dev.sameBut t.dev [CE.LPARP_LPARP 0 5, CE.LPARN_LPARN 0 5, CE.LPARP_LPARP 1 5, CE.LPARN_LPARN 1 5, TH.STAT_STALE]) ∧
  (∀ (s : State), s.dev.works 4 3 = false ∨ s.dev.anyBridgeActive = false → Completes .housekeepingStale s s.dev) ∧
  (∀ (s : State) (n : Chan),
    let hot := s.dev.modGate n fun g => { g with sw := 0, dieLatch := true, faultQ := g.faultQ ++ [5] }.applyProt
    (s.dev.glWorks = true → s.dev.get (GL.CHSTAT_ST n) ≠ 7 →
      Completes (.islandOvertemperature n) s ((hot.assertLine 44 (Dev.chanMask n)).chanTo n 7)) ∧
    (s.dev.glWorks = false ∨ s.dev.get (GL.CHSTAT_ST n) = 7 → Completes (.islandOvertemperature n) s hot))

/-- The housekeeping round, the junction model and the edge times (R259, R288, R290, R294, R295, R299): a round takes the converted channels, saturated
to 16 bits, marks a die channel outside -55 to 200 degrees as broken, publishes the derating limit of the hottest position to loop 5, counts itself and fires source 224;
a model step advances every position that runs by its Cauer ladder, the mean of its energy and the reference then in force, and leaves the others; the oldest queued edge with a
right CRC enters `CHTIME` where its time is valid, sets `TINV` where it is not, and feeds the switching loss; the derating limit is `DMAX` up to `TDSTART` and `DMIN` from `TDEND`. -/
def Obligations.HousekeepingAndModel : Prop :=
  (∀ (s : State) (conv : Vector Int 12) (caps : List (Chan × Nat)), s.dev.thWorks = true → s.dev.get TH.CTL_EN = 1 →
    Reaches (.housekeepingRound conv caps) s fun t =>
      (∀ i : Fin 12, t.dev.sget (TH.HKVAL_VAL (12 + i.val)) = satBits 16 (vget conv i) ∧
        t.dev.get (TH.HKVAL_BRK (12 + i.val)) = (if i.val < 4 ∧ (vget conv i < -5500 ∨ 20000 < vget conv i) then 1 else 0)) ∧
      (∀ b : Bridge, t.dev.sget (CE.LPARP_LPARP b 5) = t.dev.derate b (t.dev.hottest b) ∧
        t.dev.sget (CE.LPARN_LPARN b 5) = t.dev.derate b (t.dev.hottest b)) ∧
      t.dev.get TH.STAT_ROUNDS = (s.dev.get TH.STAT_ROUNDS + 1) % 2 ^ TH.STAT_ROUNDS.width ∧ 224 ∈ t.dev.edges ∧ t.mem = s.mem) ∧
  (∀ (s : State) (conv : Vector Int 12) (caps : List (Chan × Nat)), s.dev.thWorks = false ∨ s.dev.get TH.CTL_EN ≠ 1 →
    Completes (.housekeepingRound conv caps) s s.dev ∧ Completes .junctionModelStep s s.dev) ∧
  (∀ (s : State), s.dev.thWorks = true → s.dev.get TH.CTL_EN = 1 →
    Reaches .junctionModelStep s fun t => s.dev.sameBut t.dev (allChans.map fun n : Chan => TH.PMREF_TREF n.val) ∧ t.dev.nv = s.dev.nv ∧ t.mem = s.mem ∧ ∀ n : Chan,
      let p := roundDiv ((s.dev.thPos n).eCond + (s.dev.thPos n).eSw) 100000000000;
      (s.dev.thRunning n = false → t.dev.thPos n = s.dev.thPos n) ∧
      (s.dev.thRunning n = true →
        (t.dev.thPos n).steps = (s.dev.thPos n).steps + 1 ∧ (t.dev.thPos n).eCond = 0 ∧ (t.dev.thPos n).eSw = 0 ∧
        (t.dev.thPos n).pSum = (s.dev.thPos n).pSum + p ∧
        (t.dev.thPos n).t = .ofFn fun j => (ladderStep (s.dev.ladder n) p (s.dev.thRef n * 10000000)).getD j.val 0)) ∧
  (∀ (s : State) (n : Chan) (c : BitVec 8) (e : EdgeFrame) (l : List EdgeFrame), s.dev.glWorks = true → s.dev.thWorks = true →
    (s.dev.gate n).edges = e :: l → c.toNat = frameCrc 2 (128 * b2n e.off + e.str) e.time → e.time < 65536 →
    (e.time ≠ 0xFFFF → Reaches (.edge n c) s fun t =>
      t.dev.get (if e.off then GL.CHTIME_TOFFM n else GL.CHTIME_TONM n) = e.time ∧ (t.dev.gate n).edges = l ∧
      (t.dev.thPos n).eSw = (s.dev.thPos n).eSw + s.dev.edgeEnergy n e.off e.code e.time ∧
      s.dev.sameBut t.dev [if e.off then GL.CHTIME_TOFFM n else GL.CHTIME_TONM n] ∧ t.mem = s.mem) ∧
    (e.time = 0xFFFF → Reaches (.edge n c) s fun t =>
      t.dev.get (GL.CHSTAT_TINV n) = 1 ∧ (t.dev.gate n).edges = l ∧ s.dev.sameBut t.dev [GL.CHSTAT_TINV n] ∧ t.mem = s.mem)) ∧
  (∀ (s : State) (n : Chan) (c : BitVec 8), (s.dev.gate n).edges = [] → Completes (.edge n c) s s.dev) ∧
  (∀ (d : Dev) (b : Bridge) (t : Int), d.sget (TH.DERT_TDSTART b) < d.sget (TH.DERT_TDEND b) →
    (t ≤ d.sget (TH.DERT_TDSTART b) → d.derate b t = d.sget (TH.DERMAX_DMAX b)) ∧
    (d.sget (TH.DERT_TDEND b) ≤ t → d.derate b t = d.sget (TH.DERMIN_DMIN b)))

/-- The vote on the outputs of Truss and its frame (R310, R313, R314, R316, R317, R328 to R331, R334, R335): with three running harts the output that two copies share is
forwarded, the odd hart is flagged and held with line 10, and with no majority Truss stops with `DBL`, `MODE` 3 and line 12 and forwards nothing; a pair forwards what it agrees on and else
stops; a single hart, in debug, is forwarded unchecked; a stopped Truss forwards nothing. A held hart whose copy carries the same signature runs again at the frame, and
one whose signature differs is retired, with line 13. A scrub that finds nothing only counts, and one at a point that has reintegrated leaves Truss alone; a
span whose signatures differ is reset with cause 2; a hart whose sample is apart from the agreed time is flagged, and of a held one it is only counted. -/
def Obligations.TrussVote : Prop :=
  (∀ (s : State) (c0 c1 c2 : BusOut), s.dev.running = true → s.dev.get KS.TSTAT_MODE ≠ 3 →
    (s.dev.trussHarts = [0, 1, 2] →
      (c0 = c1 → c1 = c2 → Completes (.trussOutput c0 c1 c2) s (s.dev.giveOut 0 c0)) ∧
      (c0 = c1 → c1 ≠ c2 → Completes (.trussOutput c0 c1 c2) s (((s.dev.dissent (busKind c2) 2 (busAddr c2))).giveOut 0 c0)) ∧
      (c1 = c2 → c0 ≠ c1 → Completes (.trussOutput c0 c1 c2) s (((s.dev.dissent (busKind c0) 0 (busAddr c0))).giveOut 0 c1)) ∧
      (c0 = c2 → c0 ≠ c1 → Completes (.trussOutput c0 c1 c2) s (((s.dev.dissent (busKind c1) 1 (busAddr c1))).giveOut 0 c0)) ∧
      (c0 ≠ c1 → c1 ≠ c2 → c0 ≠ c2 → Completes (.trussOutput c0 c1 c2) s
        ((((s.dev.set KS.TSTAT_DBL 1).set KS.TSTAT_MODE 3).assertLine 12 0).giveOut 0 .none))) ∧
    (∀ p q : Fin 3, s.dev.trussHarts = [p, q] →
      (pick3 c0 c1 c2 p = pick3 c0 c1 c2 q → s.dev.vol.ks.signed = none →
        Completes (.trussOutput c0 c1 c2) s (s.dev.giveOut 0 (pick3 c0 c1 c2 p))) ∧
      (∀ h : Fin 3, pick3 c0 c1 c2 p = pick3 c0 c1 c2 q → s.dev.get KS.TSTAT_HELDM = 2 ^ h.val → s.dev.vol.ks.signed = some (s.dev.now, h) →
        (pick3 c0 c1 c2 h = pick3 c0 c1 c2 p → Completes (.trussOutput c0 c1 c2) s (s.dev.giveOut 0 (pick3 c0 c1 c2 p))) ∧
        (pick3 c0 c1 c2 h ≠ pick3 c0 c1 c2 p → Completes (.trussOutput c0 c1 c2) s
          ((((s.dev.set KS.TLAST_KIND (busKind (pick3 c0 c1 c2 h))).set KS.TADDR_ADDR (busAddr (pick3 c0 c1 c2 h))).modKs fun k =>
            { k with signed := none }).giveOut 0 (pick3 c0 c1 c2 p)))) ∧
      (pick3 c0 c1 c2 p ≠ pick3 c0 c1 c2 q → Completes (.trussOutput c0 c1 c2) s
        ((((s.dev.set KS.TSTAT_DBL 1).set KS.TSTAT_MODE 3).assertLine 12 0).giveOut 0 .none))) ∧
    (∀ p : Fin 3, s.dev.trussHarts = [p] → Completes (.trussOutput c0 c1 c2) s (s.dev.giveOut 0 (pick3 c0 c1 c2 p)))) ∧
  (∀ (s : State) (c0 c1 c2 : BusOut), s.dev.running = false ∨ s.dev.get KS.TSTAT_MODE = 3 → Completes (.trussOutput c0 c1 c2) s s.dev) ∧
  (∀ (d : Dev) (k : Nat) (h : Fin 3) (a : Nat), k ≤ 3 → a < 2 ^ 32 →
    (d.get KS.TSTAT_HELDM = 0 →
      (d.dissent k h a).get KS.TSTAT_DISS = 1 ∧ (d.dissent k h a).get KS.TSTAT_DHART = h ∧ (d.dissent k h a).get KS.TLAST_KIND = k ∧
      (d.dissent k h a).get KS.TLAST_HART = h ∧ (d.dissent k h a).get KS.TADDR_ADDR = a ∧
      (d.dissent k h a).get KS.TSTAT_HELDM = 2 ^ h.val ∧ (d.dissent k h a).get KS.TSTAT_MODE = 1 ∧ (10, 0) ∈ (d.dissent k h a).raised) ∧
    (d.get KS.TSTAT_HELDM ≠ 0 → natBit (d.get KS.TSTAT_HELDM) h = false →
      (d.dissent k h a).get KS.TSTAT_MODE = 3 ∧ (d.dissent k h a).get KS.TSTAT_DBL = 1 ∧ (12, 0) ∈ (d.dissent k h a).raised) ∧
    (natBit (d.get KS.TSTAT_HELDM) h = true → d.signedNow h = false → d.sameBut (d.dissent k h a) [KS.TCNT_DISSENTS]) ∧
    (natBit (d.get KS.TSTAT_HELDM) h = true → d.signedNow h = true →
      d.sameBut (d.dissent k h a) [KS.TLAST_KIND, KS.TADDR_ADDR] ∧ (d.dissent k h a).get KS.TLAST_KIND = k)) ∧
  (∀ (s : State) (w0 w1 w2 : List Word) (g0 g1 g2 : BitVec 64) (lv : List (BitVec 10)), s.dev.trussWorks = true →
    let d1 := (s.dev.sampleLevels (lv.map (·.toNat))).inclsInForce 0
    let d2 := d1.modKs fun k => { k with reint := some s.dev.now }
    (s.dev.dueHarts = [] → Completes (.trussFrame w0 w1 w2 g0 g1 g2 lv) s (d1.frameWork (lv.map (·.toNat)))) ∧
    (∀ h p q : Fin 3, s.dev.dueHarts = [h] → s.dev.trussHarts = [p, q] → pick3 w0 w1 w2 p = pick3 w0 w1 w2 q →
      pick3 g0 g1 g2 p = pick3 g0 g1 g2 q →
      (pick3 g0 g1 g2 h = pick3 g0 g1 g2 p →
        Completes (.trussFrame w0 w1 w2 g0 g1 g2 lv) s ((d2.rejoin h).frameWork (lv.map (·.toNat)))) ∧
      (pick3 g0 g1 g2 h ≠ pick3 g0 g1 g2 p →
        Completes (.trussFrame w0 w1 w2 g0 g1 g2 lv) s ((d2.latentTruss.countDissent.retire h).frameWork (lv.map (·.toNat))))) ∧
    (∀ h p q : Fin 3, s.dev.dueHarts = [h] → s.dev.trussHarts = [p, q] →
      (pick3 w0 w1 w2 p ≠ pick3 w0 w1 w2 q → Completes (.trussFrame w0 w1 w2 g0 g1 g2 lv) s d2.trussStop) ∧
      (pick3 w0 w1 w2 p = pick3 w0 w1 w2 q → pick3 g0 g1 g2 p ≠ pick3 g0 g1 g2 q →
        Completes (.trussFrame w0 w1 w2 g0 g1 g2 lv) s d2.latentTruss.trussStop))) ∧
  (∀ (s : State) (w0 w1 w2 : List Word) (g0 g1 g2 : BitVec 64) (lv : List (BitVec 10)), s.dev.trussWorks = false →
    (s.dev.sioWorks = true → Completes (.trussFrame w0 w1 w2 g0 g1 g2 lv) s (s.dev.sampleLevels (lv.map (·.toNat)))) ∧
    (s.dev.sioWorks = false → Completes (.trussFrame w0 w1 w2 g0 g1 g2 lv) s s.dev)) ∧
  (∀ (s : State) (t x y : BitVec 64), s.dev.running = true →
    (s.dev.reintNow = false → Completes (.stateScrub t t t x x y y) s ((s.dev.countWrap KS.SCRUBST_SCRUBS).set KS.SCRUBST_LASTDIV 0)) ∧
    (∀ t' t'' : BitVec 64, s.dev.reintNow = true →
      Completes (.stateScrub t t' t'' x x y y) s
        ((s.dev.countWrap KS.SCRUBST_SCRUBS).set KS.SCRUBST_LASTDIV (s.dev.get KS.SCRUBST_LASTDIV % 2)))) ∧
  (∀ (s : State) (t t' x y : BitVec 64), s.dev.running = true → s.dev.reintNow = false → s.dev.get KS.TSTAT_MODE < 2 →
    s.dev.trussHarts = [0, 1, 2] → t ≠ t' →
    Completes (.stateScrub t t t' x x y y) s
      (((((((s.dev.countWrap KS.SCRUBST_SCRUBS).set KS.SCRUBST_LASTDIV 0).set KS.TSTAT_LATENT_DIV 1).set KS.SCRUBST_LASTDIV 1).assertLine 13 0).dissent
        4 2 0).modKs fun k => { k with signed := some (s.dev.now, 2) })) ∧
  (∀ (s : State) (sp : Fin 2) (t x x' y : BitVec 64), s.dev.running = true → s.dev.lockstep sp = true → s.dev.reintNow = false → x ≠ x' →
    Completes (if sp = 0 then .stateScrub t t t x x' y y else .stateScrub t t t y y x x') s
      ((((((s.dev.countWrap KS.SCRUBST_SCRUBS).set KS.SCRUBST_LASTDIV 0).set (KS.SPSTAT_LATENT_DIV sp) 1).set KS.SCRUBST_LASTDIV
        (2 ^ (sp.val + 1))).assertLine 13 0).spanReset sp 0 2)) ∧
  (∀ (s : State) (a : BitVec 64) (x : BitVec 64), s.dev.running = true → (vget s.dev.vol.ks.incls 0).2 = true → s.dev.get KS.TSTAT_MODE < 2 →
    (s.dev.trussHarts = [0, 1, 2] →
      (4 < max a.toNat x.toNat - min a.toNat x.toNat → Completes (.inputDisagreement 0 (.time a a x)) s (s.dev.dissent 5 2 0)) ∧
      (max a.toNat x.toNat - min a.toNat x.toNat ≤ 4 → Completes (.inputDisagreement 0 (.time a a x)) s s.dev)) ∧
    (s.dev.trussHarts = [0, 1] → s.dev.get KS.TSTAT_HELDM = 4 → 4 < max a.toNat x.toNat - min a.toNat x.toNat →
      Completes (.inputDisagreement 0 (.time a a x)) s s.dev.countDissent)) ∧
  (∀ (s : State) (t : Fin 3) (x y z : BitVec 8), s.dev.running = true → (vget s.dev.vol.ks.incls t).1 = false →
    Completes (.inputDisagreement t (.line x y z)) s s.dev)

/-- The lock-step of the spans and debug (R318 to R321, R328, R331 to R334, R359): equal copies are forwarded; copies that differ are suppressed, set `MISMATCH` and the
address with line 14 and reset the span; the release counts the reset, takes its cause, the lowest of those that arose, aborts and counts the DMA channels of the span that were busy, and lets the span run again unless it has come
`SPRMAX` times within a second, which parks it with line 15; a restart has cause 4; a debug halt takes a target out of comparison and leaves its flag in the first of a power-on period, and a resume brings a span
back; a split hart halts and runs on by itself; the flag is cleared where the life cycle lets it be, and stored while PWR_FAIL_N is high. -/
def Obligations.SpansAndDebug : Prop :=
  (∀ (s : State) (sp : Fin 2) (c0 c1 : BusOut), s.dev.lockstep sp = true →
    (c0 = c1 → Completes (.spanOutput sp c0 c1) s (s.dev.giveOut (spanTarget sp) c0)) ∧
    (c0 ≠ c1 → Completes (.spanOutput sp c0 c1) s
      ((((s.dev.set (KS.SPSTAT_MISMATCH sp) 1).set (KS.SPADDR_ADDR sp) (busAddr c1)).assertLine 14 0).spanReset sp 0 1))) ∧
  (∀ (s : State) (sp : Fin 2) (c0 c1 : BusOut), s.dev.lockstep sp = false → s.dev.resetNow sp = false →
    (s.dev.get (KS.SPSTAT_MODE sp) ≠ 3 → Completes (.spanOutput sp c0 c1) s s.dev) ∧
    (s.dev.get (KS.SPSTAT_MODE sp) = 3 → s.dev.spanRuns sp (s.dev.spanIdx sp 0) = true →
      Completes (.spanOutput sp c0 c1) s (s.dev.giveOut (spanTarget sp) c0))) ∧
  (∀ (s : State) (sp : Fin 2) (c0 c1 : BusOut), s.dev.lockstep sp = false → s.dev.resetNow sp = true → c0 ≠ c1 →
    Completes (.spanOutput sp c0 c1) s
      ((((s.dev.set (KS.SPSTAT_MISMATCH sp) 1).set (KS.SPADDR_ADDR sp) (busAddr c1)).assertLine 14 0).spanReset sp 0 1)) ∧
  (∀ (s : State) (sp h : Fin 2) (dma : BitVec 16) (cause : Nat), s.dev.split sp = false →
    vget s.dev.vol.ks.pending (s.dev.spanIdx sp h) = some cause → cause ≤ 4 →
    Reaches (.spanResetRelease sp h dma) s fun t =>
      t.dev.get (KS.SPSTAT_CAUSE sp) = cause ∧ vget t.dev.vol.ks.pending (s.dev.spanIdx sp h) = none ∧ t.mem = s.mem ∧
      t.dev.get FCOL.RELSTAT_DMAABT = min (s.dev.get FCOL.RELSTAT_DMAABT + (s.dev.dmaStops sp h dma).length) 255 ∧
      (∀ c : Fin 16, (vget t.dev.dma c).aborted = ((vget s.dev.dma c).aborted || (s.dev.dmaStops sp h dma).contains c)) ∧
      (1 ≤ cause → cause ≤ 3 → max 1 (s.dev.get (KS.SPCTL_SPRMAX sp)) ≤ (s.dev.lastSecond (vget s.dev.vol.ks.resets sp)).length + 1 →
        t.dev.get (KS.SPSTAT_MODE sp) = 2 ∧ t.dev.get (KS.SPSTAT_PARK sp) = 1 ∧ (15, 0) ∈ t.dev.raised) ∧
      (cause = 0 ∨ cause = 4 ∨ (s.dev.lastSecond (vget s.dev.vol.ks.resets sp)).length + 1 < max 1 (s.dev.get (KS.SPCTL_SPRMAX sp)) →
        t.dev.get (KS.SPSTAT_MODE sp) = 0)) ∧
  (∀ (s : State) (sp h : Fin 2) (dma : BitVec 16), vget s.dev.vol.ks.pending (s.dev.spanIdx sp h) = none →
    Completes (.spanResetRelease sp h dma) s s.dev) ∧
  (∀ (s : State) (m : Master) (sp : Fin 2),
    (s.dev.accessAllowed m (0x40040100 + 0x20 * sp.val) true = true → s.dev.works 2 1 = true →
      Completes (.spanRestart m sp) s
        (((s.dev.modKs fun k => { k with resets := vset k.resets sp [] }).spanReset sp (if s.dev.bit (KS.SPCTL_HSEL sp) then 1 else 0) 4).busOk 0)) ∧
    (s.dev.accessAllowed m (0x40040100 + 0x20 * sp.val) true = false →
      Completes (.spanRestart m sp) s (s.dev.busError m (0x40040100 + 0x20 * sp.val) true))) ∧
  (∀ (d : Dev) (sp h : Fin 2) (cause : Nat), d.split sp = false → vget d.vol.ks.pending (d.spanIdx sp h) = none →
    vget (d.spanReset sp h cause).vol.ks.pending (d.spanIdx sp h) = some cause ∧ (d.spanReset sp h cause).get (KS.SPSTAT_MODE sp) = 1 ∧
    vget (d.spanReset sp h cause).vol.ks.out (spanTarget sp) = .none) ∧
  (∀ (d : Dev) (sp h : Fin 2) (cause x : Nat), vget d.vol.ks.pending (d.spanIdx sp h) = some x →
    vget (d.spanReset sp h cause).vol.ks.pending (d.spanIdx sp h) = some (min x cause)) ∧
  (∀ (s : State) (h : Fin 2), s.dev.running = true → s.dev.debugOpen 0 = true → s.dev.inDebug 0 = false → s.dev.get KS.TSTAT_MODE ≠ 3 →
    s.dev.get (MOD.CTL_RUN 0) ≠ 1 → s.dev.get (MOD.CTL_RUN 1) ≠ 1 →
    Reaches (.debugHalt 0 h) s fun t =>
      t.dev.inDebug 0 = true ∧ t.dev.get KS.TSTAT_MODE = 2 ∧ t.mem = s.mem ∧ t.dev.pier.dbgSeen = true ∧
      (s.dev.pier.dbgSeen = false → t.dev.nv.dbgls = true ∧ t.dev.get KS.DBG_DBGLS = 1 ∧ (16, 0) ∈ t.dev.raised)) ∧
  (∀ (s : State) (sp h : Fin 2), s.dev.lockstep sp = true → s.dev.debugOpen (spanTarget sp) = true → s.dev.inDebug (spanTarget sp) = false →
    Reaches (.debugHalt (spanTarget sp) h) s fun t =>
      t.dev.inDebug (spanTarget sp) = true ∧ t.dev.get (KS.SPSTAT_MODE sp) = 3 ∧ t.mem = s.mem ∧ t.dev.pier.dbgSeen = true) ∧
  (∀ (s : State) (t : Fin 3) (h : Fin 2), s.dev.debugOpen t = false → Completes (.debugHalt t h) s s.dev) ∧
  (∀ (s : State) (sp h : Fin 2), s.dev.running = true → s.dev.debugOpen (spanTarget sp) = true → s.dev.inDebug (spanTarget sp) = false →
    s.dev.split sp = true → s.dev.spanRuns sp (s.dev.spanIdx sp h) = true → s.dev.get (MOD.CTL_RUN 0) ≠ 1 → s.dev.get (MOD.CTL_RUN 1) ≠ 1 →
    s.dev.lockstep sp = false →
    Completes (.debugHalt (spanTarget sp) h) s (s.dev.modKs fun k => { k with halted := vset k.halted (s.dev.spanIdx sp h) true })) ∧
  (∀ (s : State) (sp h : Fin 2), s.dev.running = true →
    (s.dev.inDebug (spanTarget sp) = true →
      Reaches (.debugResume (spanTarget sp) h) s fun t =>
        t.dev.inDebug (spanTarget sp) = false ∧ t.mem = s.mem ∧ (s.dev.get (KS.SPSTAT_MODE sp) = 3 → t.dev.get (KS.SPSTAT_MODE sp) = 0)) ∧
    (s.dev.inDebug (spanTarget sp) = false →
      Completes (.debugResume (spanTarget sp) h) s
        ((s.dev.modKs fun k => { k with halted := vset k.halted (s.dev.spanIdx sp h) false }).settleIrq))) ∧
  (∀ (s : State),
    (s.dev.dbglsClearable = true → s.dev.get DE.STAT_OPSTATE ≠ 6 →
      (s.dev.lands.failN = true →
        Completes (.dbglsClear false) s (({ s.dev with nv := { s.dev.nv with dbgls := false } }.set KS.DBG_DBGLS 0).answer 0 0)) ∧
      (s.dev.lands.failN = false →
        Completes (.dbglsClear false) s { s.dev.set KS.DBG_DBGLS 0 with resp := { code := 0, detail := 2, data := 0, len := 0 } })) ∧
    (s.dev.dbglsClearable = true → s.dev.get DE.STAT_OPSTATE ≠ 6 → Completes (.dbglsClear true) s (s.dev.abort 0x4710 3 0x0611 0)) ∧
    (∀ v : Bool, (s.dev.dbglsClearable = false → Completes (.dbglsClear v) s (s.dev.abort 0x4710 3 0x0630 0)) ∧
      (s.dev.dbglsClearable = true → s.dev.get DE.STAT_OPSTATE = 6 → Completes (.dbglsClear v) s (s.dev.abort 0x4710 3 0x0622 0))))

/-- The interrupt controller (R324, R340, R342 to R345, R348, R357): an edge source that has fired, or a level source that is asserted and not active, becomes
pending, and the pending lines then reach the harts; a claim takes the delivered source with the highest priority, lowest number first, makes it active and reads `0x80000000` plus
its number, or 0, and the pending lines show what remains; a completion by its claimant ends it, samples a level source again, and any other is spurious; `SWSET` fires 384 plus the bit, for Truss and the spans; a
parity error of the controller stops its deliveries with line 58. Another master, or a forbidden access, meets the bus error. -/
def Obligations.Interrupts : Prop :=
  (∀ (s : State) (i : Fin 512) (seen : BitVec 7), s.dev.running = true →
    (srcIsEdge i = true → i.val ∈ s.dev.edges →
      Completes (.interruptAssert i seen) s
        ((({ s.dev with edges := s.dev.edges.filter (· ≠ i.val) } : Dev).set (INTC.SRCCFG_PEND i) 1).sampleIrq seen)) ∧
    (srcIsEdge i = true → i.val ∉ s.dev.edges → Completes (.interruptAssert i seen) s (s.dev.sampleIrq seen)) ∧
    (srcIsEdge i = false → s.dev.srcLevel i = true → s.dev.get (INTC.SRCCFG_ACTIVE i) ≠ 1 →
      Completes (.interruptAssert i seen) s ((s.dev.set (INTC.SRCCFG_PEND i) 1).sampleIrq seen)) ∧
    (srcIsEdge i = false → s.dev.srcLevel i = false ∨ s.dev.get (INTC.SRCCFG_ACTIVE i) = 1 →
      Completes (.interruptAssert i seen) s (s.dev.sampleIrq seen))) ∧
  (∀ (s : State) (i : Fin 512) (seen : BitVec 7), s.dev.running = false → Completes (.interruptAssert i seen) s s.dev) ∧
  (∀ (d : Dev), (d.sampleIrq 0x7F#7).regs = d.regs ∧
    (d.get KS.TSTAT_MODE ≠ 3 → d.trussHarts.length ≠ 0 → vget (d.sampleIrq 0x7F#7).vol.ks.irq 0 = d.irqLine 0)) ∧
  (∀ (s : State) (m : Master) (t : Fin 6) (late : Option (Fin 512)), s.dev.accessAllowed m (0x40023004 + 0x10 * t.val) false = true →
    (∀ i : Fin 512, s.dev.targetLive t = true → s.dev.delivers t late i = true →
      (∀ j : Fin 512, s.dev.delivers t late j = true → s.dev.get (INTC.SRCCFG_PRIO j) < s.dev.get (INTC.SRCCFG_PRIO i) ∨
        (s.dev.get (INTC.SRCCFG_PRIO j) = s.dev.get (INTC.SRCCFG_PRIO i) ∧ i ≤ j)) →
      Completes (.claim m t late) s
        ((((s.dev.set (INTC.SRCCFG_PEND i) 0).set (INTC.SRCCFG_ACTIVE i) 1).modFlt fun f =>
          { f with claims := (i.val, t.val) :: f.claims, masked := f.masked.filter fun x => decide (x ≠ (t.val, i.val, s.dev.now)) }).settleIrq.busOk
          (2 ^ 31 + i.val))) ∧
    ((∀ i : Fin 512, s.dev.delivers t late i = false) ∨ s.dev.targetLive t = false → Completes (.claim m t late) s (s.dev.busOk 0))) ∧
  (∀ (s : State) (m : Master) (t : Fin 6) (late : Option (Fin 512)), s.dev.accessAllowed m (0x40023004 + 0x10 * t.val) false = false →
    Completes (.claim m t late) s (s.dev.busError m (0x40023004 + 0x10 * t.val) false)) ∧
  (∀ (s : State) (m : Master) (t : Fin 6) (src : BitVec 9), s.dev.accessAllowed m (0x40023004 + 0x10 * t.val) true = true →
    (targetMaster t = some m → (src.toNat, t.val) ∈ s.dev.vol.flt.claims → s.dev.get (INTC.SRCCFG_ACTIVE src.toNat) = 1 →
      Reaches (.interruptComplete m t src) s fun u =>
        u.dev.get (INTC.SRCCFG_ACTIVE src.toNat) = 0 ∧ (src.toNat, t.val) ∉ u.dev.vol.flt.claims ∧
        u.dev.bus = { error := false, data := 0 } ∧ u.mem = s.mem ∧
        s.dev.sameBut u.dev [INTC.SRCCFG_ACTIVE src.toNat, INTC.SRCCFG_PEND src.toNat]) ∧
    (targetMaster t = some m → (src.toNat, t.val) ∉ s.dev.vol.flt.claims →
      Completes (.interruptComplete m t src) s
        ((((s.dev.countSat INTC.SPUR_SPURCNT).set INTC.SPUR_SPURSRC src.toNat).set INTC.SPUR_SPURTGT t).busOk 0)) ∧
    (targetMaster t ≠ some m →
      Completes (.interruptComplete m t src) s (s.dev.busError m (0x40023004 + 0x10 * t.val) true))) ∧
  (∀ (s : State) (m : Master) (i : Fin 64), s.dev.accessAllowed m 0x40020008 true = true →
    (m = .truss ∨ isSpan m = true → Completes (.intcSwset m i) s ((s.dev.edge (384 + i)).busOk 0)) ∧
    (m ≠ .truss → isSpan m = false → Completes (.intcSwset m i) s (s.dev.busError m 0x40020008 true))) ∧
  (∀ (s : State), s.dev.running = true →
    Completes (.parityError true) s ((s.dev.modFlt fun f => { f with dead := true }).assertLine 58 0) ∧
    Completes (.parityError false) s ((s.dev.set FCOL.REACT_PARERR 1).assertLine 63 0)) ∧
  (∀ (s : State) (b : Bool), s.dev.running = false → Completes (.parityError b) s s.dev)

/-- The fault collector (R349 to R353, R356, R358, R360, R362): with nothing raised the collector rests; else every line raised is latched, each for the bridges of its
assertions, lines 22 to 25 for the bridges whose `POSSEL` names the block; into an empty `STATUS` the lowest line goes with the time to `FIRST`; a line of class 1 or above that was not
latched enters the history `0x4801`, and one of class 2 or above triggers capture source 5; a line of class 2 stops an ACTIVE bridge in order and clears `OUTEN` of one with `SRC` 1, one of class 3
sets `FCOL` of its bridge, one of class 4 sets `MSS` and leads to LOCKOUT, and class 3 on both bridges to operating state 5; an orderly stop that lasts too long applies the bridge safe
state and keeps reaction 3; a latched line clears only when its condition has gone, and with the last one `FIRST` is free again;
a class below its minimum is refused with `CLSREJ`, a class at or above it is taken, and a locked register keeps its classes; the errors of memory and fabric raise their lines;
a free semaphore is taken by its reader, a taken one names its owner, and only the owner's write frees it; `SWSET` raises the line of the writing master alone. -/
def Obligations.FaultLines : Prop :=
  (∀ (s : State), s.dev.raised = [] ∨ s.dev.running = false → Completes .faultLineLatch s s.dev) ∧
  (∀ (s : State) (l : Fin 64), s.dev.running = true → s.dev.raised ≠ [] →
    Reaches .faultLineLatch s fun t =>
      (t.dev.get (FCOL.STATUS_L l) = 1 ↔ s.dev.get (FCOL.STATUS_L l) = 1 ∨ ∃ r ∈ s.dev.raised, r.1 = l.val) ∧
      (¬ (22 ≤ l.val ∧ l.val ≤ 25) →
        (t.dev.get (FCOL.BRA_L l) = 1 ↔ s.dev.get (FCOL.BRA_L l) = 1 ∨ ∃ r ∈ s.dev.raised, r.1 = l.val ∧ (r.2 = 0 ∨ r.2 % 2 = 1)) ∧
        (t.dev.get (FCOL.BRB_L l) = 1 ↔ s.dev.get (FCOL.BRB_L l) = 1 ∨ ∃ r ∈ s.dev.raised, r.1 = l.val ∧ (r.2 = 0 ∨ r.2 / 2 % 2 = 1))) ∧
      (22 ≤ l.val → l.val ≤ 25 →
        (t.dev.get (FCOL.BRA_L l) = 1 ↔
          s.dev.get (FCOL.BRA_L l) = 1 ∨ ((∃ r ∈ s.dev.raised, r.1 = l.val) ∧ s.dev.get (CE.BCFG_POSSEL 0) = l.val % 2)) ∧
        (t.dev.get (FCOL.BRB_L l) = 1 ↔
          s.dev.get (FCOL.BRB_L l) = 1 ∨ ((∃ r ∈ s.dev.raised, r.1 = l.val) ∧ s.dev.get (CE.BCFG_POSSEL 1) = l.val % 2))) ∧
      t.mem = s.mem) ∧
  (∀ s : State, s.dev.running = true →
    (∀ l : Fin 64, (∀ k : Fin 64, s.dev.get (FCOL.STATUS_L k) ≠ 1) → (∃ r ∈ s.dev.raised, r.1 = l.val) → (∀ r ∈ s.dev.raised, l.val ≤ r.1) →
      Reaches .faultLineLatch s fun t =>
        t.dev.get FCOL.FIRST_FVALID = 1 ∧ t.dev.get FCOL.FIRST_LINE = l.val ∧ t.dev.get FCOL.FIRSTTS_TS = s.dev.get TB.CNT_W % 2 ^ 32 ∧
        t.mem = s.mem) ∧
    ((∃ k : Fin 64, s.dev.get (FCOL.STATUS_L k) = 1) →
      Reaches .faultLineLatch s fun t =>
        t.dev.get FCOL.FIRST_FVALID = s.dev.get FCOL.FIRST_FVALID ∧ t.dev.get FCOL.FIRST_LINE = s.dev.get FCOL.FIRST_LINE ∧
        t.dev.get FCOL.FIRSTTS_TS = s.dev.get FCOL.FIRSTTS_TS ∧ t.mem = s.mem)) ∧
  (∀ (s : State) (l : Fin 64) (br : Nat), s.dev.running = true → s.dev.raised = [(l.val, br)] →
    (s.dev.get (FCOL.STATUS_L l) ≠ 1 → 1 ≤ s.dev.classOf l →
      Reaches .faultLineLatch s fun t =>
        t.dev.nv.faultHist = ((l.val * 2 ^ 58 + t.dev.get (FCOL.BRA_L l) * 2 ^ 57 + t.dev.get (FCOL.BRB_L l) * 2 ^ 56 + s.dev.kaCount % 2 ^ 56) ::
          s.dev.nv.faultHist).take 16 ∧
        (2 ≤ s.dev.classOf l → 5 ∈ t.dev.capTrig) ∧ t.mem = s.mem) ∧
    (s.dev.get (FCOL.STATUS_L l) = 1 ∨ s.dev.classOf l = 0 →
      Reaches .faultLineLatch s fun t => t.dev.nv.faultHist = s.dev.nv.faultHist ∧ t.mem = s.mem)) ∧
  (∀ (s : State) (l : Fin 64) (br : Nat), s.dev.running = true → (l.val, br) ∈ s.dev.raised →
    (s.dev.classOf l = 4 →
      Reaches .faultLineLatch s fun t =>
        t.dev.get FCOL.REACT_MSS = 1 ∧ t.dev.get DE.STAT_OPSTATE = 6 ∧
        (∀ b : Bridge, t.dev.get (GL.BSTAT_FCOL b) = 1 ∧ t.dev.get (GL.BSTAT_APPLIED b) = 1 ∧ t.dev.get (CE.BSTAT_ST b) ≠ 3) ∧ t.mem = s.mem) ∧
    (∀ b : Bridge, ¬ (22 ≤ l.val ∧ l.val ≤ 25) → br = 0 ∨ natBit br b = true →
      (s.dev.classOf l = 3 →
        Reaches .faultLineLatch s fun t =>
          t.dev.get (GL.BSTAT_FCOL b) = 1 ∧ t.dev.get (GL.BSTAT_APPLIED b) = 1 ∧ t.dev.get (CE.BSTAT_ST b) ≠ 3 ∧ t.mem = s.mem) ∧
      (s.dev.classOf l = 3 → br % 4 = 0 ∨ br % 4 = 3 → (∀ k : Fin 64, s.dev.classOf k ≠ 4) → 1 ≤ s.dev.get DE.STAT_OPSTATE →
        s.dev.get DE.STAT_OPSTATE ≤ 4 → Reaches .faultLineLatch s fun t => t.dev.get DE.STAT_OPSTATE = 5 ∧ t.mem = s.mem) ∧
      (s.dev.classOf l = 2 → s.dev.get (MOD.CTL_SRC b) = 1 → Reaches .faultLineLatch s fun t => t.dev.get (MOD.CTL_OUTEN b) = 0 ∧ t.mem = s.mem) ∧
      (s.dev.classOf l = 2 → s.dev.get (MOD.CTL_SRC b) = 0 → s.dev.active b = true → (∀ k : Fin 64, s.dev.classOf k ≤ 2) →
        (∀ k : Bridge, vget s.dev.vol.stopTimed k = false) →
        Reaches .faultLineLatch s fun t => (t.dev.engS b).stop ≠ none ∧ t.dev.active b = true ∧ t.mem = s.mem))) ∧
  (∀ (d : Dev) (r : Nat × Nat), d.sameBut (d.latchLine r) [FCOL.STATUS_L r.1, FCOL.BRA_L r.1, FCOL.BRB_L r.1] ∧
    (d.latchLine r).vol = d.vol ∧ (d.latchLine r).raised = d.raised) ∧
  (∀ (s : State) (b : Bridge),
    ((s.dev.engS b).stop ≠ none →
      Reaches (.orderlyStopTimeout b) s fun t => t.dev.get FCOL.REACT_STOPTO = 1 ∧ vget t.dev.vol.stopTimed b = true ∧
        3 ≤ t.dev.reaction b ∧ t.dev.get (GL.BSTAT_FCOL b) = 1 ∧ t.mem = s.mem) ∧
    ((s.dev.engS b).stop = none → Completes (.orderlyStopTimeout b) s s.dev)) ∧
  (∀ (s : State) (l : Fin 64),
    (s.dev.lineAsserted l = true → Reaches (.faultStatusClear (.object (BitVec.ofNat 8 l.val))) s fun t =>
      t.dev.get (FCOL.STATUS_L l) = s.dev.get (FCOL.STATUS_L l) ∧ t.dev.resp.code = 0 ∧ t.mem = s.mem) ∧
    (s.dev.lineAsserted l = false → l ≠ 46 → l ≠ 47 → Reaches (.faultStatusClear (.object (BitVec.ofNat 8 l.val))) s fun t =>
      t.dev.get (FCOL.STATUS_L l) = 0 ∧ t.dev.get (FCOL.BRA_L l) = 0 ∧ t.dev.get (FCOL.BRB_L l) = 0 ∧ t.dev.resp.code = 0 ∧
      ((∀ k : Fin 64, k ≠ l → s.dev.get (FCOL.STATUS_L k) ≠ 1) → t.dev.get FCOL.FIRST_FVALID = 0) ∧ t.mem = s.mem) ∧
    (s.dev.lineAsserted l = false → l = 46 ∨ l = 47 → s.dev.get (FCOL.STATUS_L l) = 1 →
      Reaches (.faultStatusClear (.object (BitVec.ofNat 8 l.val))) s fun t =>
        t.dev.get (FCOL.STATUS_L l) = 0 ∧ t.dev.get (SIO.STO_DIAGLAT (l.val - 46)) = 0 ∧ t.dev.resp.code = 0 ∧ t.mem = s.mem) ∧
    (s.dev.lineAsserted l = false → l.val < 46 → Reaches (.faultStatusClear (.object 255#8)) s fun t =>
      t.dev.get (FCOL.STATUS_L l) = 0 ∧ t.dev.get (FCOL.BRA_L l) = 0 ∧ t.dev.get (FCOL.BRB_L l) = 0 ∧ t.dev.resp.code = 0 ∧ t.mem = s.mem)) ∧
  (∀ (s : State) (v : BitVec 8), 64 ≤ v.toNat → v.toNat ≠ 255 → Completes (.faultStatusClear (.object v)) s (s.dev.abort 0x2801 1 0x0611 0)) ∧
  (∀ (s : State) (m : Master) (high : Bool) (v : Word),
    (s.dev.accessAllowed m (if high then 0x40030014 else 0x40030010) true = false →
      Completes (.faultStatusClear (.reg m high v)) s (s.dev.busError m (if high then 0x40030014 else 0x40030010) true)) ∧
    (s.dev.accessAllowed m (if high then 0x40030014 else 0x40030010) true = true → ∀ j : Fin 32, natBit v.toNat j = true →
      (j.val = 14 ∨ j.val = 15 → high = false) → s.dev.lineAsserted (if high then 32 + j.val else j.val) = false →
      Reaches (.faultStatusClear (.reg m high v)) s fun t =>
        t.dev.get (FCOL.STATUS_L (if high then 32 + j.val else j.val)) = 0 ∧ t.mem = s.mem)) ∧
  (∀ (s : State) (m : Master) (j : Fin 8) (v : Word),
    (s.dev.accessAllowed m (0x40030040 + 4 * j.val) true = false →
      Completes (.classWrite m j v) s (s.dev.busError m (0x40030040 + 4 * j.val) true)) ∧
    (s.dev.accessAllowed m (0x40030040 + 4 * j.val) true = true →
      (s.dev.get FCOL.CTL_LOCK = 1 → Completes (.classWrite m j v) s (s.dev.busOk 0)) ∧
      (s.dev.get FCOL.CTL_LOCK ≠ 1 → ∀ k : Fin 8, lineClassMin (8 * j.val + k) ≠ 4 →
        lineClassMin (8 * j.val + k) ≤ min 4 (natField v.toNat (4 * k.val) 3) →
        Reaches (.classWrite m j v) s fun t => t.dev.get (FCOL.CLS_C (8 * j.val + k)) = natField v.toNat (4 * k.val) 3 ∧ t.mem = s.mem) ∧
      (s.dev.get FCOL.CTL_LOCK ≠ 1 → ∀ k : Fin 8, min 4 (natField v.toNat (4 * k.val) 3) < lineClassMin (8 * j.val + k) →
        Reaches (.classWrite m j v) s fun t =>
          t.dev.get (FCOL.CLS_C (8 * j.val + k)) = s.dev.get (FCOL.CLS_C (8 * j.val + k)) ∧ t.dev.get FCOL.CTL_CLSREJ = 1 ∧ t.mem = s.mem))) ∧
  (∀ (d : Dev) (l : Fin 64) (c : Nat), c < 8 →
    (min 4 c < lineClassMin l → d.writeClass l c = d.set FCOL.CTL_CLSREJ 1) ∧
    (lineClassMin l ≤ min 4 c → lineClassMin l ≠ 4 → (d.writeClass l c).get (FCOL.CLS_C l) = c)) ∧
  (∀ (s : State) (m : Master) (a : Word), s.dev.running = true →
    Completes (.fabricTimeout m a) s (s.dev.assertLine 59 0) ∧ Completes (.eccError .corrected) s (s.dev.assertLine 4 0) ∧
    Completes (.eccError .sram) s (s.dev.assertLine 5 0) ∧ Completes (.eccError .nonvolatile) s (s.dev.assertLine 6 0)) ∧
  (∀ (s : State) (m : Master) (a : Word) (k : EccKind), s.dev.running = false →
    Completes (.fabricTimeout m a) s s.dev ∧ Completes (.eccError k) s s.dev) ∧
  (∀ (s : State) (m : Master) (i : Fin 32),
    (s.dev.accessAllowed m (0x40030100 + 4 * i.val) false = true →
      (s.dev.get (FCOL.SEM_TAKEN i) ≠ 1 → Completes (.semaphoreRead m i) s
        (((s.dev.set (FCOL.SEM_TAKEN i) 1).set (FCOL.SEM_OWNER i) (reqbyCode m)).busOk (256 + reqbyCode m))) ∧
      (s.dev.get (FCOL.SEM_TAKEN i) = 1 → Completes (.semaphoreRead m i) s (s.dev.busOk (256 + s.dev.get (FCOL.SEM_OWNER i))))) ∧
    (s.dev.accessAllowed m (0x40030100 + 4 * i.val) true = true →
      (s.dev.get (FCOL.SEM_TAKEN i) = 1 → s.dev.get (FCOL.SEM_OWNER i) = reqbyCode m →
        Completes (.semaphoreRelease m i) s (((s.dev.set (FCOL.SEM_TAKEN i) 0).set (FCOL.SEM_OWNER i) 0).busOk 0)) ∧
      (s.dev.get (FCOL.SEM_TAKEN i) ≠ 1 ∨ s.dev.get (FCOL.SEM_OWNER i) ≠ reqbyCode m →
        Completes (.semaphoreRelease m i) s (s.dev.busOk 0))) ∧
    (s.dev.accessAllowed m (0x40030100 + 4 * i.val) false = false →
      Completes (.semaphoreRead m i) s (s.dev.busError m (0x40030100 + 4 * i.val) false)) ∧
    (s.dev.accessAllowed m (0x40030100 + 4 * i.val) true = false →
      Completes (.semaphoreRelease m i) s (s.dev.busError m (0x40030100 + 4 * i.val) true))) ∧
  (∀ (s : State) (m : Master) (v : BitVec 3),
    (s.dev.accessAllowed m 0x40030078 true = false → Completes (.fcolSwset m v) s (s.dev.busError m 0x40030078 true)) ∧
    (s.dev.accessAllowed m 0x40030078 true = true →
      (m = .truss → natBit v.toNat 0 = true → Completes (.fcolSwset m v) s ((s.dev.assertLine 60 0).busOk 0)) ∧
      (m = .span0 ∨ m = .span0h1 → natBit v.toNat 1 = true → Completes (.fcolSwset m v) s ((s.dev.assertLine 61 0).busOk 0)) ∧
      (m = .span1 ∨ m = .span1h1 → natBit v.toNat 2 = true → Completes (.fcolSwset m v) s ((s.dev.assertLine 62 0).busOk 0)) ∧
      (m = .span0 → natBit v.toNat 1 = false → Completes (.fcolSwset m v) s (s.dev.busOk 0))))

/-- The safety inputs, their tests, STO and SS1 (R364 to R372): an input that changes shows its demand, fires its source and reaches STO and SS1, and one that does not change does
nothing; STO in force on a bridge counts in `ENTRIES` and sends its engine to HELD; a pair that differs sets `DISCERR` with line 49; a test pulse whose read-back differs in three samples in a row sets
`TPOERR` with line 48; at a pulse an input in use that is high before and after it fails where it is not low with its own line, or is low with another (Table 13-2), the pulse of line 0 begins a new period, and the first
failure in `TPNERR` + 1 periods in a row sets its `TPERR` bit with the line of the input; a pulse that finds nothing leaves everything; a position still on under STO sets `GATEF` and latches STO; SS1 is requested by object for each bridge, but not in LOCKOUT, and refuses
other values; a request moves an ACTIVE bridge's SS1 to DECEL with its time; the end of `SS1T` makes it DONE and sets its STO source. -/
def Obligations.SafetyInputsAndSto : Prop :=
  (∀ (s : State) (i : Fin 10) (low : Bool), s.dev.sioWorks = true → natBit (s.dev.get SIO.INSTAT_DEM) i = !low →
    Completes (.inputDemandChange i low) s
      ((s.dev.set SIO.INSTAT_DEM (if low then s.dev.get SIO.INSTAT_DEM + 2 ^ i.val else s.dev.get SIO.INSTAT_DEM - 2 ^ i.val)).when
        (decide (2 ≤ i.val)) fun d => d.edge (240 + i)).safetyFollow) ∧
  (∀ (s : State) (i : Fin 10) (low : Bool), natBit (s.dev.get SIO.INSTAT_DEM) i = low → Completes (.inputDemandChange i low) s s.dev) ∧
  (∀ (d : Dev) (x : Bridge) (n : Fin 5), d.get (SIO.STO_SRC x) < 32 →
    (d.stoSource x n true).get (SIO.STO_ACT x) = 1 ∧ natBit ((d.stoSource x n true).get (SIO.STO_SRC x)) n = true ∧
    (d.get (SIO.STO_ACT x) = 0 → d.get (SIO.STO_ENTRIES x) + 1 < 2 ^ (SIO.STO_ENTRIES x).width →
      (d.stoSource x n true).get (SIO.STO_ENTRIES x) = d.get (SIO.STO_ENTRIES x) + 1) ∧
    (d.get (SIO.STO_ACT x) = 1 → (d.stoSource x n true).get (SIO.STO_ENTRIES x) = d.get (SIO.STO_ENTRIES x)) ∧
    (d.get (SIO.STO_ACT x) = 0 → d.get (CE.BSTAT_ST x) = 3 → (d.stoSource x n true).get (CE.BSTAT_ST x) = 4) ∧
    (d.get (SIO.STO_SRC x) = 2 ^ n.val → d.get (SIO.STO_ACT x) = 1 → (d.stoSource x n false).get (SIO.STO_ACT x) = 0)) ∧
  (∀ (s : State) (k : Fin 4),
    let i := 2 + 2 * k.val
    let apart := natBit (s.dev.get SIO.INSTAT_DEM) i ≠ natBit (s.dev.get SIO.INSTAT_DEM) (i + 1)
    (s.dev.sioWorks = true → s.dev.get (SIO.INCFG_PAIR i) = 1 → s.dev.get (SIO.INCFG_USE i) = 1 → apart →
      Completes (.pairDiscrepancy k) s ((s.dev.set SIO.TPSTAT_DISCERR (s.dev.get SIO.TPSTAT_DISCERR ||| 2 ^ k.val)).assertLine 49 0)) ∧
    (s.dev.get (SIO.INCFG_PAIR i) ≠ 1 ∨ s.dev.get (SIO.INCFG_USE i) ≠ 1 ∨ ¬ apart → Completes (.pairDiscrepancy k) s s.dev)) ∧
  (∀ (s : State) (j : Fin 4) (l : List Bool), s.dev.sioWorks = true → j ≠ 0 →
    (natBit (s.dev.get SIO.CTL_TPEN) j = true →
      (readBackBad l = true → ∀ mid : BitVec 10, Completes (.testPulse j l 0#10 mid 0#10) s
        ((s.dev.set SIO.TPSTAT_TPOERR (s.dev.get SIO.TPSTAT_TPOERR ||| 2 ^ j.val)).assertLine 48 0)) ∧
      (readBackBad l = false → ∀ pre mid post : BitVec 10, (∀ i : Fin 10, natBit pre.toNat i = true → natBit post.toNat i = true →
          s.dev.get (SIO.INCFG_USE (s.dev.inGov i)) = 1 → s.dev.get (SIO.INCFG_TPSEL i) ≤ 3 →
          (natBit mid.toNat i = true ↔ s.dev.get (SIO.INCFG_TPSEL i) ≠ j.val)) →
        Completes (.testPulse j l pre mid post) s s.dev)) ∧
    (natBit (s.dev.get SIO.CTL_TPEN) j = false → ∀ pre mid post : BitVec 10, Completes (.testPulse j l pre mid post) s s.dev)) ∧
  (∀ (s : State) (b : Bridge),
    (∀ n : Chan, s.dev.sioWorks = true → s.dev.get (SIO.STO_ACT b) = 1 → chanBridge n = b → s.dev.armed n = true → (s.dev.gate n).rep ≠ some false →
      Completes (.stoGateFeedbackCheck b) s ((s.dev.set (SIO.STO_GATEF b) 1).stoDiag b)) ∧
    (s.dev.get (SIO.STO_ACT b) ≠ 1 → Completes (.stoGateFeedbackCheck b) s s.dev)) ∧
  (∀ (s : State) (v : BitVec 8),
    (s.dev.get DE.STAT_OPSTATE ≠ 6 → v.toNat ≤ 3 →
      Completes (.ss1Request v) s ((s.dev.set SIO.SWREQ_OBJSS1 v.toNat).safetyFollow.answer 0 0)) ∧
    (s.dev.get DE.STAT_OPSTATE ≠ 6 → 3 < v.toNat → Completes (.ss1Request v) s (s.dev.abort 0x3040 1 0x0611 0)) ∧
    (s.dev.get DE.STAT_OPSTATE = 6 → Completes (.ss1Request v) s (s.dev.abort 0x3040 1 0x0622 0))) ∧
  (∀ (d : Dev) (x : Bridge), d.ss1Requested x = true → d.get (SIO.SS1_ST x) = 0 → d.active x = true →
    (d.ss1Follow x).get (SIO.SS1_ST x) = 1 ∧ (d.ss1Follow x).get (SIO.SS1R_REM x) = d.ss1Time x ∧
    vget (d.ss1Follow x).vol.safe.ss1From x = d.now ∧
    ((d.ss1Follow x).engS x).ss1 = some { c := 0, rate := (d.get (SIO.SS1R_SS1RATE x) : Int) * 4096, begun := false, low := 0 }) ∧
  (∀ (s : State) (b : Bridge),
    (s.dev.get (SIO.SS1_ST b) = 1 → Completes (.ss1Expiry b) s
      ((((s.dev.set (SIO.SS1_ST b) 2).set (SIO.SS1R_REM b) 0).modSafe fun x => { x with ss1Done := vset x.ss1Done b s.dev.now }).stoSource b 2 true)) ∧
    (s.dev.get (SIO.SS1_ST b) ≠ 1 → Completes (.ss1Expiry b) s s.dev)) ∧
  (∀ (s : State) (j : Fin 4) (l : List Bool) (pre mid post : BitVec 10) (i : Fin 10), s.dev.sioWorks = true → natBit (s.dev.get SIO.CTL_TPEN) j = true →
    let fails := s.dev.get (SIO.INCFG_USE (s.dev.inGov i)) = 1 ∧ s.dev.get (SIO.INCFG_TPSEL i) ≤ 3 ∧ natBit pre.toNat i = true ∧
      natBit post.toNat i = true ∧ (natBit mid.toNat i = true ↔ s.dev.get (SIO.INCFG_TPSEL i) = j.val)
    let again := j ≠ 0 ∧ vget s.dev.vol.safe.errThis i = true
    let n := if j = 0 ∧ vget s.dev.vol.safe.errThis i = false then 0 else vget s.dev.vol.safe.errN i
    (fails → ¬ again → n < s.dev.get SIO.TPCFG_TPNERR →
      Reaches (.testPulse j l pre mid post) s fun t =>
        vget t.dev.vol.safe.errN i = n + 1 ∧ vget t.dev.vol.safe.errThis i = true ∧
        natBit (t.dev.get SIO.TPSTAT_TPERR) i = natBit (s.dev.get SIO.TPSTAT_TPERR) i ∧ t.mem = s.mem) ∧
    (fails → ¬ again → s.dev.get SIO.TPCFG_TPNERR ≤ n →
      Reaches (.testPulse j l pre mid post) s fun t =>
        vget t.dev.vol.safe.errN i = n + 1 ∧ vget t.dev.vol.safe.errThis i = true ∧ natBit (t.dev.get SIO.TPSTAT_TPERR) i = true ∧
        (2 ≤ i.val → (48, 0) ∈ t.dev.raised) ∧
        (i.val < 2 → (46 + i.val, 2 ^ i.val) ∈ t.dev.raised ∧ t.dev.get (SIO.STO_DIAGLAT i.val) = 1 ∧ t.dev.get (SIO.STO_ACT i.val) = 1) ∧
        t.mem = s.mem) ∧
    (¬ fails ∨ again →
      Reaches (.testPulse j l pre mid post) s fun t =>
        vget t.dev.vol.safe.errN i = n ∧ (vget t.dev.vol.safe.errThis i = true ↔ again) ∧
        natBit (t.dev.get SIO.TPSTAT_TPERR) i = natBit (s.dev.get SIO.TPSTAT_TPERR) i ∧ t.mem = s.mem)) ∧
  (∀ (s : State) (l : List Bool) (pre mid post : BitVec 10), s.dev.sioWorks = true → natBit (s.dev.get SIO.CTL_TPEN) 0 = false →
    Completes (.testPulse 0 l pre mid post) s
      (s.dev.modSafe fun x =>
        { x with errThis := .replicate 10 false, errN := .ofFn fun i => if vget x.errThis i then vget x.errN i else 0 })) ∧
  (∀ (s : State) (j : Fin 4) (l : List Bool) (pre mid post : BitVec 10), s.dev.sioWorks = false → Completes (.testPulse j l pre mid post) s s.dev)

/-- Contactors, the torque monitor and Causeway (R373 to R383): a contactor takes a request unless the module is LOCKOUT or a cause holds it open; a feedback that
does not follow the drive sets `FBERR` with line 50; the torque check serves both bridges and fires source 257, and enough bad checks running trip with line 51;
an invalid copy is rejected and counted, a first valid one ahead of the last is held, a partner equal to it within `SKEW` accepts it, one that differs or comes too late discards both with `CONTENT` and line 52,
another takes its place and it is accepted alone; a late copy equal to the accepted one sets `SKEWERR`, one that differs `CONTENT`; a held one is accepted alone when the window expires; a loss sets `LOSS` with line 52, where
Causeway is configured; a status message goes out and its sequence advances. -/
def Obligations.ContactorsTorqueCauseway : Prop :=
  (∀ (s : State) (k : Fin 4),
    (s.dev.get DE.STAT_OPSTATE ≠ 6 → s.dev.openCause k = false →
      Completes (.contactorClose k) s ((s.dev.modSafe fun x => { x with ctr := vset x.ctr k (some true) }).answer 0 0)) ∧
    (s.dev.get DE.STAT_OPSTATE = 6 ∨ s.dev.openCause k = true → Completes (.contactorClose k) s (s.dev.abort 0x3041 (k.val + 1) 0x0622 0)) ∧
    Completes (.contactorOpen k) s ((s.dev.modSafe fun x => { x with ctr := vset x.ctr k (some false) }).answer 0 0) ∧
    (∀ level : Bool,
      (s.dev.sioWorks = true → s.dev.get (SIO.CTRCFG_FBEN k) = 1 → level ≠ xor (s.dev.bit (SIO.CTRCFG_DRV k)) (s.dev.bit (SIO.CTRCFG_FBINV k)) →
        Completes (.contactorFeedbackMismatch k level) s (((s.dev.setBit (SIO.CTRSTAT_FB k) level).set (SIO.CTRSTAT_FBERR k) 1).assertLine 50 0)) ∧
      (s.dev.get (SIO.CTRCFG_FBEN k) ≠ 1 ∨ level = xor (s.dev.bit (SIO.CTRCFG_DRV k)) (s.dev.bit (SIO.CTRCFG_FBINV k)) →
        Completes (.contactorFeedbackMismatch k level) s (s.dev.setBit (SIO.CTRSTAT_FB k) level)))) ∧
  (∀ (s : State),
    (s.dev.trussWorks = true → Completes .torqueCheck s (((s.dev.torqueCheck 0).torqueCheck 1).edge 257)) ∧
    (s.dev.trussWorks = false → Completes .torqueCheck s s.dev) ∧
    (∀ b : Bridge, s.dev.role b = 0 → (s.dev.torqueCheck b).get (SIO.TMSTAT_TMRUN b) = 0) ∧
    (∀ b : Bridge, (s.dev.torqueCheck b).sget (CE.LPARP_LPARP b 6) = s.dev.envelope b 5 s.dev.vol.safe.envP ∧
      (s.dev.torqueCheck b).sget (CE.LPARN_LPARN b 6) = s.dev.envelope b 6 s.dev.vol.safe.envN)) ∧
  (∀ (s : State) (b : Bridge),
    let n := max 1 (min 64 (s.dev.setVal (0x5003 + b) 9))
    (s.dev.trussWorks = true → s.dev.get (SIO.TMSTAT_TQERR b) ≠ 1 → n ≤ (vget s.dev.vol.safe.tq b).bad →
      Completes (.torqueMonitorTrip b) s (((s.dev.set (SIO.TMSTAT_TQERR b) 1).countSat (SIO.TMSTAT_TRIPS b)).assertLine 51 (brMask b))) ∧
    (s.dev.get (SIO.TMSTAT_TQERR b) = 1 ∨ (vget s.dev.vol.safe.tq b).bad < n → Completes (.torqueMonitorTrip b) s s.dev)) ∧
  (∀ (s : State) (p : Fin 4) (f : CanFrame) (age : Word), s.dev.trussWorks = true → s.dev.portUp p = true → s.dev.get (CAN.CTL_LBK p) ≠ 2 →
    (p, false) ∈ s.dev.cwPorts ∨ (p, true) ∈ s.dev.cwPorts →
    (s.dev.cwParse p f (s.dev.sofStamp age.toNat) = none → Completes (.causewayCopy p f age) s ((s.dev.edge 255).countSat SIO.CWCNT_REJECTED)) ∧
    (∀ c : CwCopy, s.dev.cwParse p f (s.dev.sofStamp age.toNat) = some c → s.dev.vol.safe.held = none →
      1 ≤ (c.seq + 65536 - s.dev.get SIO.CWSTAT_LASTSEQ) % 65536 → (c.seq + 65536 - s.dev.get SIO.CWSTAT_LASTSEQ) % 65536 ≤ 32767 →
      Completes (.causewayCopy p f age) s ((s.dev.edge 255).modSafe fun x => { x with held := some c }))) ∧
  (∀ (s : State) (p : Fin 4) (f : CanFrame) (age : Word), s.dev.cwPorts = [] → Completes (.causewayCopy p f age) s s.dev) ∧
  (∀ (s : State) (h : CwCopy), s.dev.trussWorks = true → s.dev.vol.safe.held = some h → h.seq < 65536 →
    Reaches .causewaySkewExpiry s fun t => t.dev.get SIO.CWSTAT_LASTSEQ = h.seq ∧ t.dev.get SIO.CWSTAT_ONEPATH = 1 ∧
      t.dev.vol.safe.held = none ∧ t.dev.vol.safe.cmd = some h.data ∧ t.dev.vol.safe.loss = false ∧ 258 ∈ t.dev.edges ∧ t.mem = s.mem) ∧
  (∀ (s : State), s.dev.vol.safe.held = none → Completes .causewaySkewExpiry s s.dev) ∧
  (∀ (s : State),
    (s.dev.get SIO.CWTMO_TMO ≠ 0 → s.dev.get SIO.CWCFG_PORTA ≠ s.dev.get SIO.CWCFG_PORTB → s.dev.trussWorks = true →
      Completes .causewayLoss s (((s.dev.set SIO.CWSTAT_LOSS 1).modSafe fun x => { x with loss := true }).assertLine 52 0).safetyFollow) ∧
    (s.dev.get SIO.CWTMO_TMO = 0 ∨ s.dev.get SIO.CWCFG_PORTA = s.dev.get SIO.CWCFG_PORTB → Completes .causewayLoss s s.dev)) ∧
  (∀ (s : State), s.dev.trussWorks = true → s.dev.netWorks = true →
    Reaches .causewayStatus s fun t => t.dev.vol.safe.statSeq = (s.dev.vol.safe.statSeq + 1) % 65536 ∧ t.mem = s.mem) ∧
  (∀ (s : State), s.dev.trussWorks = false → Completes .causewayStatus s s.dev) ∧
  (∀ (s : State) (p : Fin 4) (f : CanFrame) (age : Word) (c h : CwCopy), s.dev.trussWorks = true → s.dev.portUp p = true →
    s.dev.get (CAN.CTL_LBK p) ≠ 2 → s.dev.cwParse p f (s.dev.sofStamp age.toNat) = some c →
    let ahead := (c.seq + 65536 - s.dev.get SIO.CWSTAT_LASTSEQ) % 65536
    let within := fun y : CwCopy => (toSigned 32 (c.stamp + 2 ^ 32 - y.stamp)).natAbs ≤ 80000 * max 1 (min 40 (s.dev.get SIO.CWCFG_SKEW))
    (1 ≤ ahead → ahead ≤ 32767 → s.dev.vol.safe.held = some h →
      (h.copy ≠ c.copy → h.seq = c.seq → h.data = c.data → within h →
        Reaches (.causewayCopy p f age) s fun t =>
          t.dev.get SIO.CWSTAT_LASTSEQ = c.seq ∧ t.dev.get SIO.CWCNT_ACCEPTED = (s.dev.get SIO.CWCNT_ACCEPTED + 1) % 2 ^ SIO.CWCNT_ACCEPTED.width ∧
          t.dev.get SIO.CWSTAT_ONEPATH = s.dev.get SIO.CWSTAT_ONEPATH ∧ t.dev.get SIO.CWCNT_ONEPATHS = s.dev.get SIO.CWCNT_ONEPATHS ∧
          t.dev.get SIO.CWSTAT_SEQGAP = (if 1 < ahead then 1 else s.dev.get SIO.CWSTAT_SEQGAP) ∧
          t.dev.vol.safe.held = none ∧ t.dev.vol.safe.cmd = some c.data ∧ t.dev.vol.safe.accData = c.data ∧ t.dev.vol.safe.loss = false ∧
          255 ∈ t.dev.edges ∧ t.mem = s.mem) ∧
      (h.copy ≠ c.copy → h.seq = c.seq → h.data ≠ c.data ∨ ¬ within h →
        Completes (.causewayCopy p f age) s
          ((((((s.dev.edge 255).modSafe fun x => { x with held := none }).countSat SIO.CWCNT_REJECTED).countSat SIO.CWCNT_REJECTED).set
            SIO.CWSTAT_CONTENT 1).assertLine 52 0)) ∧
      (h.copy = c.copy ∨ h.seq ≠ c.seq → h.seq < 65536 →
        Reaches (.causewayCopy p f age) s fun t =>
          t.dev.get SIO.CWSTAT_LASTSEQ = h.seq ∧ t.dev.get SIO.CWSTAT_ONEPATH = 1 ∧ t.dev.vol.safe.held = some c ∧
          t.dev.vol.safe.cmd = some h.data ∧ t.dev.vol.safe.accData = h.data ∧ t.dev.vol.safe.loss = false ∧ 258 ∈ t.dev.edges ∧ t.mem = s.mem)) ∧
    (ahead = 0 → c.data ≠ s.dev.vol.safe.accData →
      Completes (.causewayCopy p f age) s (((s.dev.edge 255).set SIO.CWSTAT_CONTENT 1).assertLine 52 0)) ∧
    (ahead = 0 → c.data = s.dev.vol.safe.accData → Completes (.causewayCopy p f age) s ((s.dev.edge 255).set SIO.CWSTAT_SKEWERR 1)) ∧
    (32767 < ahead → Completes (.causewayCopy p f age) s ((s.dev.edge 255).countSat SIO.CWCNT_REJECTED))) ∧
  (∀ (s : State) (p : Fin 4) (f : CanFrame) (age : Word), s.dev.trussWorks = false ∨ s.dev.portUp p = false ∨ s.dev.get (CAN.CTL_LBK p) = 2 →
    Completes (.causewayCopy p f age) s s.dev)

/-- The bridge start and stop, the causes of a bridge safe state, and the safety parameter set (R280, R352, R370, R384 to R386, R442): a start whose conditions all hold goes to its path test, and with a path
that follows the engine starts; every other is refused with 0x0622, with the flag of each condition that fails
(angle, PLL, battery window, class of a latched line and the others) and nothing else, and nothing starts; a stop acts on an ACTIVE bridge, not in LOCKOUT; a cause that has
gone is cleared by its bit; a working copy whose CRC differs raises line 53, one that agrees with its registers does nothing; a staging copy takes a value in range while it may be written; an activation with a
right CRC and values in range stores the set and ends DONE, one with a wrong CRC fails with 0x0660. -/
def Obligations.BridgeStartAndSafetySet : Prop :=
  (∀ (s : State) (b : Bridge),
    ((s.dev.startChecks b).all (fun c => c.1) = true → Completes (.bridgeStart b) s (s.dev.pathTestBegin b)) ∧
    (s.dev.get DE.STAT_OPSTATE ≠ 3 ∨ s.dev.get (SIO.STO_ACT b) = 1 ∨ s.dev.get (CE.BSTAT_ST b) ≠ 1 →
      Reaches (.bridgeStart b) s fun t => t.dev.resp.code = 0x0622 ∧ t.dev.vol = s.dev.vol ∧ t.dev.get DE.LASTCODE_CODE = 0x0622 ∧ t.mem = s.mem)) ∧
  (∀ (s : State) (b : Bridge), (s.dev.engS b).pathTest = true →
    let d := s.dev.modEng b fun e => { e with pathTest := false }
    Completes (.stoPathTestEnd b true) s
      ((if (d.startChecks b).all (fun c => c.1) then (d.modEng b fun e => { e with starting := true }).answer 0 0
        else (d.flagChecks (d.startChecks b)).abort (startObj b) 1 0x0622 0).startAnswered b) ∧
    Completes (.stoPathTestEnd b false) s ((((d.set (SIO.STO_PATHF b) 1).stoDiag b).abort (startObj b) 1 0x0622 0).startAnswered b)) ∧
  (∀ (s : State) (b : Bridge) (ok : Bool), (s.dev.engS b).pathTest = false → Completes (.stoPathTestEnd b ok) s s.dev) ∧
  (∀ (s : State) (b : Bridge),
    (s.dev.get DE.STAT_OPSTATE ≠ 6 → s.dev.get (CE.BSTAT_ST b) = 3 → Completes (.bridgeStop b) s ((s.dev.orderlyStop b).answer 0 0)) ∧
    (s.dev.get DE.STAT_OPSTATE ≠ 6 → s.dev.get (CE.BSTAT_ST b) ≠ 3 → Completes (.bridgeStop b) s (s.dev.answer 0 0))) ∧
  (∀ (s : State) (m : Master) (x : Bridge),
    (s.dev.accessAllowed m (0x40500800 + 0x20 * x.val) true = true →
      (∀ mask : BitVec 5, Completes (.bstatCauseClear m x mask) s ((s.dev.clearCauses x mask.toNat).busOk 0)) ∧
      (s.dev.get KS.DBG_TGT = 0 → Reaches (.bstatCauseClear m x 2#5) s fun t =>
        t.dev.get (GL.BSTAT_HALT x) = 0 ∧ t.dev.get (GL.BSTAT_FCOL x) = s.dev.get (GL.BSTAT_FCOL x) ∧ t.mem = s.mem) ∧
      (s.dev.get KS.DBG_TGT ≠ 0 → Reaches (.bstatCauseClear m x 2#5) s fun t =>
        t.dev.get (GL.BSTAT_HALT x) = s.dev.get (GL.BSTAT_HALT x) ∧ t.mem = s.mem)) ∧
    (s.dev.accessAllowed m (0x40500800 + 0x20 * x.val) true = false → ∀ mask : BitVec 5,
      Completes (.bstatCauseClear m x mask) s (s.dev.busError m (0x40500800 + 0x20 * x.val) true))) ∧
  (∀ (s : State) (copy : List (BitVec 8)),
    (s.dev.trussWorks = true → s.dev.vol.safe.noSet = false → crc32c copy ≠ crc32c (setBytes s.dev.setVal) ∨ s.dev.safetyEqual = false →
      Completes (.safetySetCheck copy) s (s.dev.assertLine 53 0)) ∧
    (s.dev.trussWorks = false ∨ s.dev.vol.safe.noSet = true ∨ (crc32c copy = crc32c (setBytes s.dev.setVal) ∧ s.dev.safetyEqual = true) →
      Completes (.safetySetCheck copy) s s.dev)) ∧
  (∀ (s : State) (i : BitVec 16) (sub : BitVec 8) (v : Word), 0x5000 ≤ i.toNat → i.toNat ≤ 0x5005 → (objOf i.toNat sub.toNat).isSome = true →
    sub ≠ 0 →
    let x := v.toNat % 256 ^ safetySize i.toNat sub.toNat
    (s.dev.stagingBar = 0 → safetyRange i.toNat sub.toNat x = true →
      Completes (.safetyParamWrite i sub v) s ((s.dev.setStaging i.toNat sub.toNat x).answer 0 0)) ∧
    (s.dev.stagingBar = 0 → safetyRange i.toNat sub.toNat x = false →
      Completes (.safetyParamWrite i sub v) s (s.dev.abort i.toNat sub.toNat 0x0611 0)) ∧
    (s.dev.stagingBar ≠ 0 → Completes (.safetyParamWrite i sub v) s (s.dev.abort i.toNat sub.toNat s.dev.stagingBar 0))) ∧
  (∀ (s : State) (crc : Word) (d1 : Dev),
    (s.dev.opBegin 0x7020 1 [(1, crc.toNat)] (decide (s.dev.get DE.STAT_OPSTATE = 4)) true = (d1, true) →
      (d1.objVal 0x7020 1 0 ≠ crc32c (setBytes s.dev.stagingVal) → Completes (.safetyActivation crc) s (d1.opFail 0x7020 0x0660)) ∧
      (d1.objVal 0x7020 1 0 = crc32c (setBytes s.dev.stagingVal) → (∀ k ∈ safetyKeys, safetyRange k.1 k.2 (s.dev.stagingVal k.1 k.2) = true) →
        Reaches (.safetyActivation crc) s fun t =>
          (∀ k ∈ safetyKeys, t.dev.stored k.1 k.2 = some (s.dev.stagingVal k.1 k.2)) ∧ t.dev.handle 0x7020 = 2 * 2 ^ 29 + 100 * 2 ^ 16 ∧
          t.dev.opRunning 0x7020 = false ∧ t.mem = s.mem)) ∧
    (s.dev.opBegin 0x7020 1 [(1, crc.toNat)] (decide (s.dev.get DE.STAT_OPSTATE = 4)) true = (d1, false) →
      Completes (.safetyActivation crc) s d1)) ∧
  (∀ (s : State) (crc : Word), s.dev.opRunning 0x7020 = false →
    (s.dev.get DE.STAT_OPSTATE ≠ 4 → Completes (.safetyActivation crc) s (s.dev.abort 0x7020 1 0x0622 0)) ∧
    (s.dev.get DE.STAT_OPSTATE = 4 → s.dev.vol.dict.ops = [] → s.dev.nextReq = none →
      (crc.toNat ≠ crc32c (setBytes s.dev.stagingVal) →
        Reaches (.safetyActivation crc) s fun t =>
          t.dev.handle 0x7020 / 2 ^ 29 = 3 ∧ t.dev.handle 0x7020 % 2 ^ 16 = 0x0660 ∧ t.dev.opRunning 0x7020 = false ∧ t.dev.resp.code = 0 ∧
          t.dev.nv = s.dev.nv ∧ t.mem = s.mem) ∧
      (crc.toNat = crc32c (setBytes s.dev.stagingVal) → (∀ k ∈ safetyKeys, safetyRange k.1 k.2 (s.dev.stagingVal k.1 k.2) = true) →
        Reaches (.safetyActivation crc) s fun t =>
          (∀ k ∈ safetyKeys, t.dev.stored k.1 k.2 = some (s.dev.stagingVal k.1 k.2)) ∧ t.dev.handle 0x7020 = 2 * 2 ^ 29 + 100 * 2 ^ 16 ∧
          t.dev.opRunning 0x7020 = false ∧ t.dev.resp.code = 0 ∧ t.mem = s.mem))) ∧
  (∀ (s : State) (b : Bridge),
    let flags := [CE.BSTAT_MODEMIS b, CE.BSTAT_INVALID b, CE.SAFECTL_NOANGLE b, CE.PLLST_PLLNL b, CE.DCDCST_VBOUT b, GL.BSTAT_NOTARMED b,
      FCOL.REACT_STREJA, FCOL.REACT_STREJB, DE.LASTAB_INDEX, DE.LASTAB_SUB, DE.LASTCODE_CODE, DE.LASTCODE_DETAIL, DE.CNT_STREJ]
    let refused := fun t : State =>
      t.dev.resp.code = 0x0622 ∧ t.dev.vol = s.dev.vol ∧ t.dev.nv = s.dev.nv ∧ t.dev.raised = s.dev.raised ∧ t.mem = s.mem ∧ s.dev.sameBut t.dev flags
    ((s.dev.startChecks b).all (fun c => c.1) = false →
      Reaches (.bridgeStart b) s fun t =>
        refused t ∧ (∀ c ∈ s.dev.startChecks b, c.1 = false → ∀ f ∈ c.2, t.dev.get f = 1)) ∧
    (s.dev.role b = 3 → s.dev.batteryOk b = false → Reaches (.bridgeStart b) s fun t => refused t ∧ t.dev.get (CE.DCDCST_VBOUT b) = 1) ∧
    (s.dev.role b = 2 → s.dev.get (CE.PLLST_PLLST b) ≠ 2 → Reaches (.bridgeStart b) s fun t => refused t ∧ t.dev.get (CE.PLLST_PLLNL b) = 1) ∧
    (s.dev.role b = 1 → (s.dev.ctrl b = 2 ∧ s.dev.get (POS.STAT_POSST (s.dev.posSel b)) ≠ 2) ∨
        (s.dev.ctrl b ≠ 2 ∧ 1 < s.dev.get (POS.ANGLE_ACTSRC (s.dev.posSel b))) →
      Reaches (.bridgeStart b) s fun t => refused t ∧ t.dev.get (CE.SAFECTL_NOANGLE b) = 1) ∧
    (2 ≤ s.dev.reaction b →
      Reaches (.bridgeStart b) s fun t => refused t ∧ t.dev.get (if b = 0 then FCOL.REACT_STREJA else FCOL.REACT_STREJB) = 1)) ∧
  (∀ (d : Dev) (b : Bridge), ((d.pathTestBegin b).engS b).pathTest = true ∧ d.sameBut (d.pathTestBegin b) [GL.BSTAT_STO b] ∧
    (d.pathTestBegin b).nv = d.nv ∧ (d.pathTestBegin b).raised = d.raised) ∧
  (∀ (s : State) (b : Bridge), s.dev.get DE.STAT_OPSTATE = 6 → Completes (.bridgeStop b) s (s.dev.abort (startObj b) 1 0x0622 0))

/-- The refusals of a bridge start that R203 and R266 state: while the control mode does not agree with its modulator (`SRC` 1, or another `MODE` than 2 for band, 1
for carrier and 3 for block commutation) `MODEMIS` is set, while one of the six channels is not ARMED `NOTARMED` is set; either way the start through the
dictionary is rejected with 0x0622 and the engine stays in its state. -/
def Obligations.BridgeStartRefusals : Prop :=
  (∀ (s : State) (b : Bridge) (ctrl mode : Nat), (ctrl, mode) ∈ [(0, 2), (1, 1), (2, 3)] → s.dev.get (CE.BCFG_CTRL b) = ctrl →
    s.dev.get (MOD.CTL_SRC b) = 1 ∨ s.dev.get (MOD.CTL_MODE b) ≠ mode →
    Reaches (.bridgeStart b) s fun t =>
      t.dev.get (CE.BSTAT_MODEMIS b) = 1 ∧ t.dev.resp.code = 0x0622 ∧ t.dev.get (CE.BSTAT_ST b) = s.dev.get (CE.BSTAT_ST b) ∧
      t.dev.vol = s.dev.vol ∧ t.mem = s.mem) ∧
  (∀ (s : State) (b : Bridge) (n : Chan), chanBridge n = b → s.dev.get (GL.CHSTAT_ST n) ≠ 2 →
    Reaches (.bridgeStart b) s fun t =>
      t.dev.get (GL.BSTAT_NOTARMED b) = 1 ∧ t.dev.resp.code = 0x0622 ∧ t.dev.get (CE.BSTAT_ST b) = s.dev.get (CE.BSTAT_ST b) ∧
      t.dev.vol = s.dev.vol ∧ t.mem = s.mem)

/-- A completion whose source is not active, or which another target claimed, is ignored (R344): `SPURCNT` counts it and `SPURSRC` and `SPURTGT` take the
source and the writing target; every other register, the claims and the memory stay. -/
def Obligations.SpuriousCompletion : Prop :=
  ∀ (s : State) (m : Master) (t : Fin 6) (src : BitVec 9), s.dev.accessAllowed m (0x40023004 + 0x10 * t.val) true = true → targetMaster t = some m →
    s.dev.get (INTC.SRCCFG_ACTIVE src.toNat) ≠ 1 ∨ (src.toNat, t.val) ∉ s.dev.vol.flt.claims →
    Reaches (.interruptComplete m t src) s fun u =>
      u.dev.get INTC.SPUR_SPURSRC = src.toNat ∧ u.dev.get INTC.SPUR_SPURTGT = t.val ∧
      (s.dev.get INTC.SPUR_SPURCNT + 1 < 2 ^ INTC.SPUR_SPURCNT.width → u.dev.get INTC.SPUR_SPURCNT = s.dev.get INTC.SPUR_SPURCNT + 1) ∧
      s.dev.sameBut u.dev [INTC.SPUR_SPURCNT, INTC.SPUR_SPURSRC, INTC.SPUR_SPURTGT] ∧ u.dev.vol = s.dev.vol ∧
      u.dev.bus = { error := false, data := 0 } ∧ u.mem = s.mem

/-- A refused request has no side effect (R431, R433, R440): a read, a part of one or a write that fails its checks, and a request for an object that does not exist, leave the memory, what is stored, what
waits to be stored, every operation and the raised lines as they are, and change no register but `LASTAB`, `LASTCODE`, `STREJ`, the level of the queue and those that carry the answer (the registers of the local target,
or the mailboxes of the Kinak engine on the port); an operating-state command and the start of an operation that are refused change none either, 0x0622 by the state and 0x0640 while four run; an abort sets `LASTAB` and `LASTCODE`, and 0x0622 also counts in `STREJ` and fires
source 339. -/
def Obligations.RefusedRequest : Prop :=
  (∀ (s : State) (r : Req) (t : List Req), s.dev.nextReq = some (r, t) → isCustomer r.idx = false →
    let d1 := (s.dev.modDict fun x => { x with queue := t }).showQueue
    let carry := match r.src with
      | .local k => [DE.LCTL_BUSY k, DE.LCTL_DONE k, DE.LRSP_CODE k, DE.LRSP_LEN k]
      | .kinak p _ _ _ => (List.range 8).flatMap fun mb => [CAN.MBCTL_WRITER p mb, CAN.MBCTL_STATE p mb, CAN.MBCTL_FMT p mb, CAN.MBCTL_BRS p mb,
          CAN.MBCTL_LEN p mb, CAN.MBID_ID p mb, CAN.MBXL_PID p mb, CAN.MBXL_VCID p mb, CAN.MBXL_SDT p mb]
      | .gone => []
    let refused := fun (code : Nat) (u : State) =>
      u.mem = s.mem ∧ u.dev.nv = s.dev.nv ∧ u.dev.raised = s.dev.raised ∧ u.dev.vol.dict = { s.dev.vol.dict with queue := t } ∧
      u.dev.vol.objs = s.dev.vol.objs ∧ u.dev.get DE.LASTCODE_CODE = code ∧ u.dev.resp.code = code ∧
      (∀ k : Fin 5, r.src = .local k → u.dev.get (DE.LRSP_CODE k) = code ∧ u.dev.get (DE.LCTL_DONE k) = 1 ∧ u.dev.get (DE.LCTL_BUSY k) = 0 ∧
        u.dev.get (DE.LRSP_LEN k) = 0) ∧
      s.dev.sameBut u.dev ([DE.STAT_QLEVEL, DE.LASTAB_INDEX, DE.LASTAB_SUB, DE.LASTCODE_CODE, DE.LASTCODE_DETAIL, DE.CNT_STREJ] ++ carry) ∧
      (code ≠ 0x0622 → u.dev.get DE.CNT_STREJ = s.dev.get DE.CNT_STREJ)
    (objOf r.idx r.sub = none →
      (r.op = 1 → ∀ nonce : BitVec 128, Reaches (.objectRead nonce) s fun u => refused (existBar r.idx r.sub).1 u) ∧
      (r.op = 3 → ∀ nonce : BitVec 128, Reaches (.readPart nonce) s fun u => refused (existBar r.idx r.sub).1 u) ∧
      (r.op = 4 → Reaches .describe s fun u => refused (existBar r.idx r.sub).1 u) ∧
      (r.op = 2 → ∀ (g : Bool) (sig : SpanSigs), Reaches (.objectWrite g sig) s fun u => refused (existBar r.idx r.sub).1 u)) ∧
    (∀ o : Obj, objOf r.idx r.sub = some o →
      (r.op = 1 → (d1.readBar r o).1 ≠ 0 → ∀ nonce : BitVec 128, Reaches (.objectRead nonce) s fun u => refused (d1.readBar r o).1 u) ∧
      (r.op = 3 → (d1.readBar r o).1 ≠ 0 → ∀ nonce : BitVec 128, Reaches (.readPart nonce) s fun u => refused (d1.readBar r o).1 u) ∧
      (r.op = 2 → (d1.writeBar r o).1 ≠ 0 → ∀ (g : Bool) (sig : SpanSigs), Reaches (.objectWrite g sig) s fun u => refused (d1.writeBar r o).1 u))) ∧
  (∀ (d : Dev) (i sub code cause : Nat), i < 2 ^ 16 → sub < 2 ^ 8 → code < 2 ^ 16 →
    (d.abort i sub code cause).get DE.LASTAB_INDEX = i ∧ (d.abort i sub code cause).get DE.LASTAB_SUB = sub ∧
    (d.abort i sub code cause).get DE.LASTCODE_CODE = code ∧ (d.abort i sub code cause).resp.code = code ∧
    (d.abort i sub code cause).vol = d.vol ∧ (d.abort i sub code cause).nv = d.nv ∧ (d.abort i sub code cause).raised = d.raised ∧
    d.sameBut (d.abort i sub code cause) [DE.LASTAB_INDEX, DE.LASTAB_SUB, DE.LASTCODE_CODE, DE.LASTCODE_DETAIL, DE.CNT_STREJ] ∧
    (code = 0x0622 → 339 ∈ (d.abort i sub code cause).edges ∧
      (d.get DE.CNT_STREJ + 1 < 2 ^ DE.CNT_STREJ.width → (d.abort i sub code cause).get DE.CNT_STREJ = d.get DE.CNT_STREJ + 1)) ∧
    (code ≠ 0x0622 → (d.abort i sub code cause).edges = d.edges ∧ (d.abort i sub code cause).get DE.CNT_STREJ = d.get DE.CNT_STREJ)) ∧
  (∀ s : State,
    (s.dev.get DE.STAT_OPSTATE = 6 →
      Completes (.stateCommandStandby false) s (s.dev.abort 0x1001 3 0x0622 0) ∧ Completes (.stateCommandReady false) s (s.dev.abort 0x1001 3 0x0622 0) ∧
      Completes (.stateCommandService false) s (s.dev.abort 0x1001 3 0x0622 0)) ∧
    (s.dev.get DE.STAT_OPSTATE ∈ [1, 4, 5, 6] → 1 ≤ s.dev.get LC.LCSTATE_STATE → s.dev.get LC.LCSTATE_STATE ≤ 5 → Completes (.stateCommandRun false) s (s.dev.abort 0x1001 3 0x0622 0)) ∧
    (∀ (k : KMsg) (t : List KMsg), s.dev.vol.net.inbox = k :: t → k.svc = 0x012 → leNat (k.body.take 1) = 3 → s.dev.get DE.STAT_OPSTATE = 6 →
      1 ≤ s.dev.get LC.LCSTATE_STATE → s.dev.get LC.LCSTATE_STATE ≤ 5 →
      Completes (.stateCommandRun true) s
        (((s.dev.modNet fun n => { n with inbox := t }).abort 0x1001 3 0x0622 0).sendMessage k.port k.node 0x013 k.prio k.tag
          (leList 1 3 ++ leList 1 6 ++ leList 2 0x0622)))) ∧
  (∀ (s : State) (x : BitVec 16) (crc : Word) (ok : Bool) (fail : Option (Fin 255)),
    (s.dev.opRunning 0x7001 = false →
      (s.dev.opStateOk 0x7001 = false → Completes (.restoreDefaults x) s (s.dev.abort 0x7001 1 0x0622 0)) ∧
      (s.dev.opStateOk 0x7001 = true → 4 ≤ s.dev.vol.dict.ops.length → Completes (.restoreDefaults x) s (s.dev.abort 0x7001 1 0x0640 2))) ∧
    (s.dev.opRunning 0x7002 = false →
      (s.dev.opStateOk 0x7002 = false → CompletesMem (.imageEraseBank ok) s (s.dev.abort 0x7002 4 0x0622 0) s.mem ∧
        CompletesMem (.imageProgram fail) s (s.dev.abort 0x7002 4 0x0622 0) s.mem) ∧
      (s.dev.opStateOk 0x7002 = true → 4 ≤ s.dev.vol.dict.ops.length → CompletesMem (.imageEraseBank ok) s (s.dev.abort 0x7002 4 0x0640 2) s.mem ∧
        CompletesMem (.imageProgram fail) s (s.dev.abort 0x7002 4 0x0640 2) s.mem)) ∧
    (s.dev.opRunning 0x7004 = false → s.dev.opStateOk 0x7004 = false →
      CompletesMem .networkLoadProgram s (s.dev.abort 0x7004 4 0x0622 0) s.mem ∧ CompletesMem .networkImageStart s (s.dev.abort 0x7004 4 0x0622 0) s.mem) ∧
    (s.dev.opRunning 0x7020 = false →
      (s.dev.get DE.STAT_OPSTATE ≠ 4 → Completes (.safetyActivation crc) s (s.dev.abort 0x7020 1 0x0622 0)) ∧
      (s.dev.get DE.STAT_OPSTATE = 4 → 4 ≤ s.dev.vol.dict.ops.length → Completes (.safetyActivation crc) s (s.dev.abort 0x7020 1 0x0640 2))))

/-- The transmit mailboxes (R390, R394, R399 to R401): a free mailbox takes a request and its writer, one that is not free keeps what it holds, and another owner's mailbox is forbidden; an abort of a
pending one ends it with its source, one that is being sent is noted, and any other does nothing; on an idle bus, of all pending mailboxes and of the forwarding
queue, the frame with the lowest arbitration key that the port can send starts, the first of equals, and one that it cannot send goes on waiting; an error-passive sender marks its FD frames with ESI; its success is DONE with the stamp of its start of frame, reports a measured transmitter delay, and lowers TEC with the warning and the state that follow it; its loss returns it to
PENDING, or to ABORTED where that was written; a forwarded frame leaves its queue when it is sent and stays when it is lost; with nothing on the bus an end does nothing. -/
def Obligations.CanTransmit : Prop :=
  (∀ (s : State) (m : Master) (p : Fin 4) (mb : Fin 32),
    s.dev.accessAllowed m (0x40800400 + 0x10000 * p.val + 0x20 * mb.val) true = true → mbWritable m mb = true →
    (s.dev.mbFree p mb = true → Completes (.mailboxRequest m p mb) s
      ((((s.dev.set (CAN.MBCTL_WRITER p mb) (reqbyCode m)).set (CAN.MBCTL_STATE p mb) 1).modPort p fun c =>
        { c with mbData := c.mbData.filter fun e => decide (e.1 ≠ mb.val) }).busOk 0)) ∧
    (s.dev.mbFree p mb = false → Completes (.mailboxRequest m p mb) s (s.dev.busOk 0)) ∧
    (s.dev.get (CAN.MBCTL_STATE p mb) = 1 → (s.dev.canPort p).kq = [] → Reaches (.mailboxAbort m p mb) s fun t =>
      t.dev.get (CAN.MBCTL_STATE p mb) = 4 ∧ canSrc p 4 ∈ t.dev.edges ∧ s.dev.sameBut t.dev [CAN.MBCTL_STATE p mb] ∧ t.mem = s.mem) ∧
    (s.dev.get (CAN.MBCTL_STATE p mb) = 2 → Completes (.mailboxAbort m p mb) s
      ((s.dev.modPort p fun c => { c with curAbort := true }).busOk 0)) ∧
    (s.dev.mbFree p mb = true → Completes (.mailboxAbort m p mb) s (s.dev.busOk 0))) ∧
  (∀ (s : State) (m : Master) (p : Fin 4) (mb : Fin 32),
    mbWritable m mb = false ∨ s.dev.accessAllowed m (0x40800400 + 0x10000 * p.val + 0x20 * mb.val) true = false →
    Completes (.mailboxRequest m p mb) s (s.dev.busError m (0x40800400 + 0x10000 * p.val + 0x20 * mb.val) true) ∧
    Completes (.mailboxAbort m p mb) s (s.dev.busError m (0x40800400 + 0x10000 * p.val + 0x20 * mb.val) true)) ∧
  (∀ (s : State) (p : Fin 4), s.dev.portUp p = true → s.dev.get (CAN.CTL_LBK p) ≠ 1 → (s.dev.canPort p).cur = none →
    vget s.dev.pier.entering 7 = none →
    ((∀ y ∈ s.dev.candidates s.mem p, s.dev.sendable p y.2 = false) → CompletesMem (.transmitStart p) s s.dev s.mem) ∧
    (∀ x ∈ s.dev.candidates s.mem p, s.dev.sendable p x.2 = true →
      (∀ y ∈ s.dev.candidates s.mem p, s.dev.sendable p y.2 = true → arbKey x.2 < arbKey y.2 ∨ (arbKey x.2 = arbKey y.2 ∧ x.1 ≤ y.1)) →
      (x.1 < 32 → CompletesMem (.transmitStart p) s
        ((s.dev.modPort p fun c => { c with cur := some x, curAbort := false }).set (CAN.MBCTL_STATE p x.1) 2) s.mem) ∧
      (32 ≤ x.1 → CompletesMem (.transmitStart p) s (s.dev.modPort p fun c => { c with cur := some x, curAbort := false }) s.mem))) ∧
  (∀ (d : Dev) (m : Mem) (p : Fin 4) (x : Nat × CanFrame),
    (x ∈ d.candidates m p ↔
      (∃ mb : Fin 32, d.get (CAN.MBCTL_STATE p mb) = 1 ∧ x = (mb.val, d.sentBy p (d.mbFrame m p mb))) ∨
        (∃ k : Fin 16, ((d.canPort p).fwdq[k.val]?).map (fun g => (32 + k.val, d.sentBy p g)) = some x)) ∧
    (d.sentBy p x.2 = { x.2 with esi := d.sentBy p x.2 |>.esi } ∧
      ((d.sentBy p x.2).esi = true ↔ ((x.2.fmt = 2 ∨ x.2.fmt = 3) ∧ d.get (CAN.ERR_EST p) = 1))) ∧
    (d.sendable p x.2 = true ↔
      x.2.fmt.val ≤ 1 ∨ ((x.2.fmt = 2 ∨ x.2.fmt = 3) ∧ d.get (CAN.CTL_FDEN p) = 1) ∨
        (x.2.fmt = 4 ∧ d.get (CAN.CTL_XLEN p) = 1 ∧ x.2.data ≠ []))) ∧
  (∀ (s : State) (p : Fin 4), s.dev.portUp p = false ∨ s.dev.get (CAN.CTL_LBK p) = 1 ∨ (s.dev.canPort p).cur ≠ none →
    CompletesMem (.transmitStart p) s s.dev s.mem) ∧
  (∀ (s : State) (p : Fin 4) (mb : Fin 32) (f : CanFrame) (age : Word) (delay : BitVec 8), (s.dev.canPort p).cur = some (mb.val, f) →
    (s.dev.canPort p).kq = [] →
    (s.dev.get (CAN.CTL_LBK p) < 2 ∨ (s.dev.get (CAN.CTL_ROLE p) = 0 ∧ ∀ i < 16, s.dev.filterHit p f i = false) →
      8 ≤ mb.val ∨ kSvc f ≠ 0x101 →
      Reaches (.transmitComplete p .sent age delay) s fun t =>
        t.dev.get (CAN.MBCTL_STATE p mb) = 3 ∧ t.dev.get (CAN.MBTS_TS p mb) = s.dev.sofStamp age.toNat ∧ (t.dev.canPort p).cur = none ∧
        t.dev.get (CAN.ERR_TEC p) = (s.dev.get (CAN.ERR_TEC p) - 1) % 2 ^ (CAN.ERR_TEC p).width ∧
        (s.dev.get (CAN.MBCTL_TXIE p mb) = 1 → canSrc p 3 ∈ t.dev.edges) ∧
        (s.dev.get (CAN.TDC_TDCEN p) = 1 → 2 ≤ f.fmt.val → t.dev.get (CAN.TDC_TDCV p) = delay.toNat % 2 ^ (CAN.TDC_TDCV p).width) ∧
        t.dev.bit (CAN.ERR_EWARN p) = (decide (96 ≤ t.dev.get (CAN.ERR_TEC p)) || decide (96 ≤ s.dev.get (CAN.ERR_REC p))) ∧
        (s.dev.get (CAN.ERR_EST p) = 1 → t.dev.get (CAN.ERR_TEC p) < 128 → s.dev.get (CAN.ERR_REC p) < 128 → t.dev.get (CAN.ERR_EST p) = 0) ∧
        s.dev.sameBut t.dev [CAN.MBCTL_STATE p mb, CAN.MBTS_TS p mb, CAN.ERR_TEC p, CAN.ERR_EWARN p, CAN.ERR_EST p, CAN.TDC_TDCV p] ∧ t.mem = s.mem) ∧
    ((s.dev.canPort p).curAbort = false → Completes (.transmitComplete p .lost age delay) s
      ((s.dev.modPort p fun c => { c with cur := none, curAbort := false }).set (CAN.MBCTL_STATE p mb) 1)) ∧
    ((s.dev.canPort p).curAbort = true → Reaches (.transmitComplete p .lost age delay) s fun t =>
      t.dev.get (CAN.MBCTL_STATE p mb) = 4 ∧ canSrc p 4 ∈ t.dev.edges ∧ t.mem = s.mem)) ∧
  (∀ (s : State) (p : Fin 4) (e : TxEnd) (age : Word) (delay : BitVec 8), (s.dev.canPort p).cur = none →
    CompletesMem (.transmitComplete p e age delay) s s.dev s.mem) ∧
  (∀ (s : State) (p : Fin 4) (k : Fin 16) (f : CanFrame) (age : Word) (delay : BitVec 8), (s.dev.canPort p).cur = some (32 + k.val, f) →
    (s.dev.get (CAN.CTL_LBK p) < 2 ∨ (s.dev.get (CAN.CTL_ROLE p) = 0 ∧ ∀ i < 16, s.dev.filterHit p f i = false) →
      Reaches (.transmitComplete p .sent age delay) s fun t =>
        (t.dev.canPort p).fwdq = (s.dev.canPort p).fwdq.eraseIdx k ∧ (t.dev.canPort p).cur = none ∧
        t.dev.get (CAN.ERR_TEC p) = (s.dev.get (CAN.ERR_TEC p) - 1) % 2 ^ (CAN.ERR_TEC p).width ∧
        s.dev.sameBut t.dev [CAN.ERR_TEC p, CAN.ERR_EWARN p, CAN.ERR_EST p, CAN.TDC_TDCV p] ∧ t.mem = s.mem) ∧
    Completes (.transmitComplete p .lost age delay) s (s.dev.modPort p fun c => { c with cur := none, curAbort := false }))

/-- Reception, errors and recovery (R390, R391, R393, R394, R395, R402 to R404, R410): a port that is down or in internal loop-back takes no frame; a frame of a format that the port
does not speak is a receive error, but an XL frame with `FDEN` 1 none; one whose frame no filter accepts only counts REC down, from above 127 to an open value between 119 and 127 (the model's choice, log 34); an accepted frame enters the ring with its header and data and moves `WR` and `LEVEL`, or is
lost and counted when it does not fit; one that would pass the ring's end starts at `RXBASE`, with a header of format 7 over the units left out; a read moves `RD`; a transfer that times out is dropped and counted; errors raise TEC by 8 and REC by 1 or 8, bus-off past 255 with line 55; the
recovery returns a port to error-active; the configuration of an enabled port stays, with `CFGREJ` where a write would change it, and that of another takes its values. -/
def Obligations.CanReceive : Prop :=
  (∀ (s : State) (p : Fin 4) (f : CanFrame) (age : Word),
    (s.dev.portUp p = false ∨ s.dev.get (CAN.CTL_LBK p) = 2 → CompletesMem (.canFrameReceived p f age) s s.dev s.mem) ∧
    (s.dev.portUp p = true → s.dev.get (CAN.CTL_LBK p) ≠ 2 → s.dev.speaks p f = false →
      CompletesMem (.canFrameReceived p f age) s
        (if f.fmt = 4 ∧ s.dev.get (CAN.CTL_FDEN p) = 1 then s.dev else (s.dev.countBySat (CAN.ERR_REC p) 1).errState p false) s.mem) ∧
    (s.dev.portUp p = true → s.dev.get (CAN.CTL_LBK p) ≠ 2 → s.dev.speaks p f = true → s.dev.get (CAN.CTL_ROLE p) = 0 →
      s.dev.get (CAN.ERR_REC p) < 128 →
      ((∀ i < 16, s.dev.filterHit p f i = false) →
        CompletesMem (.canFrameReceived p f age) s ((s.dev.set (CAN.ERR_REC p) (s.dev.get (CAN.ERR_REC p) - 1)).errFall p) s.mem) ∧
      (∀ i < 16, s.dev.filterHit p f i = true →
        CompletesMem (.canFrameReceived p f age) s
          (((s.dev.set (CAN.ERR_REC p) (s.dev.get (CAN.ERR_REC p) - 1)).errFall p).ringPut s.mem p f false (s.dev.sofStamp age.toNat)).1
          (((s.dev.set (CAN.ERR_REC p) (s.dev.get (CAN.ERR_REC p) - 1)).errFall p).ringPut s.mem p f false (s.dev.sofStamp age.toNat)).2)) ∧
    (s.dev.portUp p = true → s.dev.get (CAN.CTL_LBK p) ≠ 2 → s.dev.speaks p f = true → s.dev.get (CAN.CTL_ROLE p) = 0 →
      128 ≤ s.dev.get (CAN.ERR_REC p) → (∀ i < 16, s.dev.filterHit p f i = false) →
      Reaches (.canFrameReceived p f age) s fun t =>
        119 ≤ t.dev.get (CAN.ERR_REC p) ∧ t.dev.get (CAN.ERR_REC p) ≤ 127 ∧
        s.dev.sameBut t.dev [CAN.ERR_REC p, CAN.ERR_EWARN p, CAN.ERR_EST p] ∧ t.mem = s.mem)) ∧
  (∀ (d : Dev) (m : Mem) (p : Fin 4) (f : CanFrame) (kin : Bool) (stamp n : Nat), n = 1 + (f.data.length + 15) / 16 →
    d.get (CAN.RXPTR_WR p) < d.ringSize p → d.ringSize p < 2 ^ 16 →
    (d.get (CAN.RXPTR_WR p) + n ≤ d.ringSize p → d.get (CAN.RXSTAT_LEVEL p) + n ≤ d.ringSize p →
      (d.ringPut m p f kin stamp).1.get (CAN.RXPTR_WR p) = (d.get (CAN.RXPTR_WR p) + n) % d.ringSize p ∧
      (d.ringPut m p f kin stamp).1.get (CAN.RXSTAT_LEVEL p) = d.get (CAN.RXSTAT_LEVEL p) + n ∧
      canSrc p 0 ∈ (d.ringPut m p f kin stamp).1.edges ∧
      (d.ringPut m p f kin stamp).2 = writeNet m (d.get (CAN.RXBASE_BASE p) / 16 * 16 + 16 * d.get (CAN.RXPTR_WR p))
        (entryHeader f kin stamp ++ padTo (16 * (n - 1)) f.data)) ∧
    (d.ringSize p < d.get (CAN.RXPTR_WR p) + n → d.get (CAN.RXSTAT_LEVEL p) + (d.ringSize p - d.get (CAN.RXPTR_WR p)) + n ≤ d.ringSize p →
      (d.ringPut m p f kin stamp).1.get (CAN.RXPTR_WR p) = n % d.ringSize p ∧
      (d.ringPut m p f kin stamp).1.get (CAN.RXSTAT_LEVEL p) =
        d.get (CAN.RXSTAT_LEVEL p) + (d.ringSize p - d.get (CAN.RXPTR_WR p)) + n ∧
      canSrc p 0 ∈ (d.ringPut m p f kin stamp).1.edges ∧
      (d.ringPut m p f kin stamp).2 =
        writeNet (writeNet m (d.get (CAN.RXBASE_BASE p) / 16 * 16 + 16 * d.get (CAN.RXPTR_WR p)) (leList 16 (7 * 2 ^ 29)))
          (d.get (CAN.RXBASE_BASE p) / 16 * 16) (entryHeader f kin stamp ++ padTo (16 * (n - 1)) f.data)) ∧
    (d.ringSize p < d.get (CAN.RXSTAT_LEVEL p) + n ∨
        (d.ringSize p < d.get (CAN.RXPTR_WR p) + n ∧ d.ringSize p < d.get (CAN.RXSTAT_LEVEL p) + (d.ringSize p - d.get (CAN.RXPTR_WR p)) + n) →
      d.ringPut m p f kin stamp = ((d.set (CAN.STAT_RXOVF p) 1).countSat (CAN.RXSTAT_LOST p), m))) ∧
  (∀ (s : State) (m : Master) (p : Fin 4) (v : BitVec 16), s.dev.accessAllowed m (0x40800028 + 0x10000 * p.val) true = true → v.toNat < s.dev.ringSize p →
    s.dev.get (CAN.RXPTR_WR p) < s.dev.ringSize p → s.dev.ringSize p < 2 ^ 16 →
    Reaches (.rxRingRead m p v) s fun t =>
      t.dev.get (CAN.RXPTR_RD p) = v.toNat ∧
      t.dev.get (CAN.RXSTAT_LEVEL p) = (s.dev.get (CAN.RXPTR_WR p) + s.dev.ringSize p - v.toNat) % s.dev.ringSize p ∧
      s.dev.sameBut t.dev [CAN.RXPTR_RD p, CAN.RXSTAT_LEVEL p] ∧ t.mem = s.mem) ∧
  (∀ (s : State) (p : Fin 4) (node : BitVec 14) (svc : BitVec 10) (tag : BitVec 4),
    ((s.dev.canPort p).transfers.any (fun t => keyIs t node.toNat svc.toNat tag.toNat) = true →
      Completes (.segmentTimeout p node svc tag) s
        ((s.dev.modPort p fun c => { c with transfers := c.transfers.filter fun t => !keyIs t node.toNat svc.toNat tag.toNat }).countSat KN.STAT_SEGERR)) ∧
    ((s.dev.canPort p).transfers = [] → Completes (.segmentTimeout p node svc tag) s s.dev)) ∧
  (∀ (s : State) (p : Fin 4), s.dev.portUp p = true →
    (s.dev.get (CAN.ERR_TEC p) + 8 ≤ 255 → Reaches (.canError p .transmit) s fun t =>
      t.dev.get (CAN.ERR_TEC p) = s.dev.get (CAN.ERR_TEC p) + 8 ∧
      (s.dev.get (CAN.ERR_REC p) < 128 → t.dev.get (CAN.ERR_EST p) = (if 128 ≤ s.dev.get (CAN.ERR_TEC p) + 8 then 1 else 0)) ∧ t.mem = s.mem) ∧
    (255 < s.dev.get (CAN.ERR_TEC p) + 8 → Reaches (.canError p .transmit) s fun t =>
      t.dev.get (CAN.ERR_EST p) = 2 ∧ (55, 0) ∈ t.dev.raised ∧ t.mem = s.mem) ∧
    (s.dev.get (CAN.ERR_REC p) + 8 ≤ 255 →
      (Reaches (.canError p .receive) s fun t => t.dev.get (CAN.ERR_REC p) = s.dev.get (CAN.ERR_REC p) + 1 ∧ t.mem = s.mem) ∧
      (Reaches (.canError p .receiveDominant) s fun t => t.dev.get (CAN.ERR_REC p) = s.dev.get (CAN.ERR_REC p) + 8 ∧ t.mem = s.mem))) ∧
  (∀ (s : State) (p : Fin 4) (e : CanErr), s.dev.portUp p = false → Completes (.canError p e) s s.dev) ∧
  (∀ (s : State) (m : Master) (p : Fin 4),
    (s.dev.accessAllowed m (0x4080001C + 0x10000 * p.val) true = true →
      (s.dev.get (CAN.ERR_EST p) = 2 → Completes (.recover m p) s ((s.dev.modPort p fun c => { c with recovering := true }).busOk 0)) ∧
      (s.dev.get (CAN.ERR_EST p) ≠ 2 → Completes (.recover m p) s (s.dev.busOk 0))) ∧
    (s.dev.accessAllowed m (0x4080001C + 0x10000 * p.val) true = false →
      Completes (.recover m p) s (s.dev.busError m (0x4080001C + 0x10000 * p.val) true)) ∧
    (∀ v : BitVec 16, s.dev.accessAllowed m (0x40800028 + 0x10000 * p.val) true = false →
      Completes (.rxRingRead m p v) s (s.dev.busError m (0x40800028 + 0x10000 * p.val) true))) ∧
  (∀ (s : State) (p : Fin 4), s.dev.netWorks = true → s.dev.get (CAN.ERR_EST p) = 2 → (s.dev.canPort p).recovering = true →
    Reaches (.busOffRecoveryComplete p) s fun t => t.dev.get (CAN.ERR_EST p) = 0 ∧ t.dev.get (CAN.ERR_TEC p) = 0 ∧ t.dev.get (CAN.ERR_REC p) = 0 ∧
      t.dev.get (CAN.ERR_EWARN p) = 0 ∧ (t.dev.canPort p).recovering = false ∧ canSrc p 8 ∈ t.dev.edges ∧ t.mem = s.mem) ∧
  (∀ (s : State) (p : Fin 4), s.dev.get (CAN.ERR_EST p) ≠ 2 ∨ (s.dev.canPort p).recovering = false → Completes (.busOffRecoveryComplete p) s s.dev) ∧
  (∀ (s : State) (m : Master) (p : Fin 4) (k : Fin 3) (v : Word),
    let a := 0x40800004 + 0x10000 * p.val + 4 * k.val
    let w : CanWrite := if k = 0 then .nbt v else if k = 1 then .dbt v else .xbt v
    let fs := if k = 0 then [CAN.NBT_SJW p, CAN.NBT_TSEG1 p, CAN.NBT_TSEG2 p, CAN.NBT_BRP p]
      else if k = 1 then [CAN.DBT_SJW p, CAN.DBT_TSEG1 p, CAN.DBT_TSEG2 p, CAN.DBT_BRP p]
      else [CAN.XBT_SJW p, CAN.XBT_TSEG1 p, CAN.XBT_TSEG2 p, CAN.XBT_BRP p]
    (s.dev.accessAllowed m a true = true →
      (s.dev.get (CAN.CTL_EN p) = 1 → (∃ f ∈ fs, s.dev.get f ≠ natField v.toNat f.lo f.width) →
        Completes (.portEnable m p w) s ((s.dev.set (CAN.STAT_CFGREJ p) 1).busOk 0)) ∧
      (s.dev.get (CAN.CTL_EN p) = 1 → (∀ f ∈ fs, s.dev.get f = natField v.toNat f.lo f.width) → Completes (.portEnable m p w) s (s.dev.busOk 0)) ∧
      (s.dev.get (CAN.CTL_EN p) ≠ 1 → Reaches (.portEnable m p w) s fun t =>
        (∀ f ∈ fs, t.dev.get f = natField v.toNat f.lo f.width) ∧ s.dev.sameBut t.dev fs ∧ t.mem = s.mem)) ∧
    (s.dev.accessAllowed m a true = false → Completes (.portEnable m p w) s (s.dev.busError m a true))) ∧
  (∀ (s : State) (m : Master) (p : Fin 4) (v : Word),
    (s.dev.accessAllowed m (0x40800000 + 0x10000 * p.val) true = false →
      Completes (.portEnable m p (.ctl v)) s (s.dev.busError m (0x40800000 + 0x10000 * p.val) true)) ∧
    (s.dev.accessAllowed m (0x40800000 + 0x10000 * p.val) true = true →
      (s.dev.get (CAN.CTL_EN p) = 1 → Reaches (.portEnable m p (.ctl v)) s fun t =>
        t.dev.get (CAN.CTL_EN p) = v.toNat % 2 ∧
        (t.dev.get (CAN.STAT_CFGREJ p) = if ∃ f ∈ [CAN.CTL_XLEN p, CAN.CTL_FDEN p, CAN.CTL_LBK p], s.dev.get f ≠ natField v.toNat f.lo f.width then 1
          else s.dev.get (CAN.STAT_CFGREJ p)) ∧
        s.dev.sameBut t.dev [CAN.CTL_EN p, CAN.STAT_CFGREJ p] ∧ t.mem = s.mem) ∧
      (s.dev.get (CAN.CTL_EN p) ≠ 1 → Reaches (.portEnable m p (.ctl v)) s fun t =>
        t.dev.get (CAN.CTL_EN p) = v.toNat % 2 ∧ t.dev.get (CAN.CTL_LBK p) = v.toNat / 2 ^ (CAN.CTL_LBK p).lo % 2 ^ (CAN.CTL_LBK p).width ∧
        s.dev.sameBut t.dev [CAN.CTL_EN p, CAN.CTL_XLEN p, CAN.CTL_FDEN p, CAN.CTL_LBK p] ∧ t.mem = s.mem)))

/-- The timebase and what the Kinak engine sends by itself (R324, R396 to R398, R415, R416, R469, R470, R496): a read of the low half latches the high half, with `OFS` for the network time, and so for the keep-alive count and
the totals of the ledger; the CSR gives the agreed time, and once the network domain sleeps the time that is kept; the wrap marks every enabled port; a timer that fires disarms itself or advances by its period with its source;
a heartbeat advances its count; a time message advances its number; a follow-up of the last sync, on a port that the Kinak engine serves, sets `OFS` and `TSVALID`, and a missed one clears `TSVALID`. -/
def Obligations.NetworkTime : Prop :=
  (∀ (s : State) (m : Master),
    (s.dev.accessAllowed m 0x40C00000 false = true → Completes (.timebaseRead m .cntl) s
      ((s.dev.set TB.CNTH_LATCH (s.dev.get TB.CNT_W / 2 ^ 32)).busOk (s.dev.get TB.CNT_W % 2 ^ 32))) ∧
    (s.dev.accessAllowed m 0x40C00000 false = false → Completes (.timebaseRead m .cntl) s (s.dev.busError m 0x40C00000 false)) ∧
    (s.dev.accessAllowed m 0x40C00008 false = true → Completes (.timebaseRead m .netl) s
      ((s.dev.set TB.NETH_LATCH ((s.dev.get TB.CNT_W + s.dev.get KN.OFS_W) % 2 ^ 64 / 2 ^ 32)).busOk
        ((s.dev.get TB.CNT_W + s.dev.get KN.OFS_W) % 2 ^ 64 % 2 ^ 32))) ∧
    (s.dev.accessAllowed m 0x40C00008 false = false → Completes (.timebaseRead m .netl) s (s.dev.busError m 0x40C00008 false)) ∧
    (∀ (high : Bool) (k0 k1 k2 : BitVec 4), s.dev.masterExists m = true →
      (s.dev.domainUp 7 = true →
        Completes (.timebaseRead m (.csr high k0 k1 k2)) s (s.dev.timeCsr m (s.dev.get TB.CNT_W) high fun h => (pick3 k0 k1 k2 h).toNat)) ∧
      (s.dev.domainUp 7 = false →
        Completes (.timebaseRead m (.csr high k0 k1 k2)) s (s.dev.timeCsr m (s.dev.sleepTime s.mem) high fun _ => 0))) ∧
    (∀ (high : Bool) (k0 k1 k2 : BitVec 4), s.dev.masterExists m = false → Completes (.timebaseRead m (.csr high k0 k1 k2)) s s.dev) ∧
    (s.dev.accessAllowed m 0x40000880 false = true → Completes (.timebaseRead m .kacntl) s
      ((s.dev.set PIER.KACNTH_LATCH (s.dev.get PIER.KACNT_W / 2 ^ 32)).busOk (s.dev.get PIER.KACNT_W % 2 ^ 32))) ∧
    (s.dev.accessAllowed m 0x40000880 false = false → Completes (.timebaseRead m .kacntl) s (s.dev.busError m 0x40000880 false)) ∧
    (∀ i : Fin 5,
      let word := ([LG.IMP_W, LG.EXP_W, LG.DIS_W, LG.CHG_W, LG.SEQ_W][i.val]?).getD LG.SEQ_W
      let latch := if i.val < 4 then LG.TOTH_LATCH i else LG.SEQH_LATCH
      let a := ([0x40A00030, 0x40A00038, 0x40A00040, 0x40A00048, 0x40A00058][i.val]?).getD 0
      (s.dev.accessAllowed m a false = true → Completes (.timebaseRead m (.ledger i)) s
        ((s.dev.set latch (s.dev.get word / 2 ^ 32)).busOk (s.dev.get word % 2 ^ 32))) ∧
      (s.dev.accessAllowed m a false = false → Completes (.timebaseRead m (.ledger i)) s (s.dev.busError m a false)))) ∧
  (∀ (d : Dev) (base k : Nat) (high : Bool), d.get KS.TSTAT_MODE < 2 → d.trussHarts = [0, 1, 2] →
    d.timeCsr .truss base high (fun _ => k) = d.busOk (if high then (base + k) % 2 ^ 64 / 2 ^ 32 else (base + k) % 2 ^ 64 % 2 ^ 32)) ∧
  (∀ (s : State), s.dev.netWorks = true →
    Reaches .timestampWrap s fun t => (∀ p : Fin 4, s.dev.get (CAN.CTL_EN p) = 1 → t.dev.get (CAN.STAT_TSWRAP p) = 1 ∧ canSrc p 11 ∈ t.dev.edges) ∧
      s.dev.sameBut t.dev [CAN.STAT_TSWRAP 0, CAN.STAT_TSWRAP 1, CAN.STAT_TSWRAP 2, CAN.STAT_TSWRAP 3] ∧ t.mem = s.mem) ∧
  (∀ (s : State) (i : Fin 8),
    (s.dev.netWorks = true → s.dev.get (TB.TIMCTL_EN i) = 1 →
      (s.dev.get (TB.TIMPER_PER i) = 0 → Completes (.timerFire i) s ((s.dev.set (TB.TIMCTL_EN i) 0).edge (368 + i))) ∧
      (s.dev.get (TB.TIMPER_PER i) ≠ 0 → Completes (.timerFire i) s
        ((s.dev.set (TB.TIMCMP_CMP i) (s.dev.get (TB.TIMCMP_CMP i) + s.dev.get (TB.TIMPER_PER i))).edge (368 + i)))) ∧
    (s.dev.netWorks = false ∨ s.dev.get (TB.TIMCTL_EN i) ≠ 1 → Completes (.timerFire i) s s.dev)) ∧
  (∀ (s : State),
    (s.dev.netWorks = true → s.dev.get KN.CFG_HBPER ≠ 0 →
      Reaches .heartbeat s fun t => t.dev.vol.net.hbCount = (s.dev.vol.net.hbCount + 1) % 256 ∧ t.mem = s.mem ∧
        (s.dev.kinakPorts = [] → t.dev.regs = s.dev.regs)) ∧
    (s.dev.netWorks = false ∨ s.dev.get KN.CFG_HBPER = 0 → Completes .heartbeat s s.dev)) ∧
  (∀ (s : State),
    (s.dev.netWorks = true → s.dev.get KN.CFG_TSYNC = 2 →
      Reaches .timeSync s fun t => t.dev.vol.net.syncN = (s.dev.vol.net.syncN + 1) % 256 ∧ t.mem = s.mem) ∧
    (s.dev.netWorks = false ∨ s.dev.get KN.CFG_TSYNC ≠ 2 → Completes .timeSync s s.dev)) ∧
  (∀ (s : State) (p : Fin 4) (node : BitVec 14) (n : BitVec 8) (time : BitVec 56),
    (∀ sof : Nat, s.dev.vol.net.lastSync = some (n.toNat, sof) →
      s.dev.kinakPort p = true → s.dev.get (CAN.CTL_LBK p) ≠ 2 → s.dev.portUp p = true → s.dev.get KN.CFG_TSYNC = 1 → s.dev.get KN.CFG_TSPORT = p.val → s.dev.get KN.TSNODE_TSNODE = node.toNat →
      Completes (.followUp p node n time) s
        ((s.dev.set KN.OFS_W (nearest56 s.dev.netTime time.toNat + 2 ^ 64 - sof % 2 ^ 64)).set KN.STAT_TSVALID 1)) ∧
    (s.dev.vol.net.lastSync = none ∨ s.dev.get KN.CFG_TSYNC ≠ 1 ∨ s.dev.kinakPort p = false ∨ s.dev.get (CAN.CTL_LBK p) = 2 → Completes (.followUp p node n time) s s.dev)) ∧
  (∀ (s : State),
    (s.dev.netWorks = true → Completes .timeSyncTimeout s (s.dev.set KN.STAT_TSVALID 0)) ∧
    (s.dev.netWorks = false → Completes .timeSyncTimeout s s.dev))

/-- The access service (R422, R431 to R437, R448, R449, R451): a message for the engine enters its queue, or is answered 0x0640 when sixteen wait; the next request is checked, and a read, a part of one, and a
description are answered with their data or refused with the code of the first check that fails; a local write of `GO` submits a request unless its requester is busy; a request for a
customer object goes to the server of its range, and its response or its timeout ends it; with no request waiting nothing is done. -/
def Obligations.RequestsServed : Prop :=
  (∀ (s : State) (k : KMsg) (t : List KMsg), s.dev.vol.net.inbox = k :: t → s.dev.get DE.STAT_OPSTATE ≠ 0 → k.svc = 0x010 →
    (s.dev.vol.dict.queue.length < 16 → Reaches .requestEnqueue s fun u =>
      u.dev.vol.dict.queue = s.dev.vol.dict.queue ++ [parseReq (.kinak k.port k.node k.prio k.tag) k.body] ∧ u.dev.vol.net.inbox = t ∧
      u.dev.get DE.STAT_QLEVEL = (s.dev.vol.dict.queue.length + 1) % 2 ^ DE.STAT_QLEVEL.width ∧ s.dev.sameBut u.dev [DE.STAT_QLEVEL] ∧ u.mem = s.mem) ∧
    (16 ≤ s.dev.vol.dict.queue.length → Reaches .requestEnqueue s fun u =>
      u.dev.vol.dict.queue = s.dev.vol.dict.queue ∧ u.dev.vol.net.inbox = t ∧ u.dev.resp.code = 0x0640 ∧ u.mem = s.mem)) ∧
  (∀ s : State, s.dev.vol.net.inbox = [] → Completes .requestEnqueue s s.dev) ∧
  (∀ (s : State) (nonce : BitVec 128), s.dev.nextReq = none →
    CompletesMem (.objectRead nonce) s s.dev s.mem ∧ CompletesMem (.readPart nonce) s s.dev s.mem ∧ CompletesMem .describe s s.dev s.mem ∧
    CompletesMem .customerRequest s s.dev s.mem ∧ ∀ (g : Bool) (sig : SpanSigs), CompletesMem (.objectWrite g sig) s s.dev s.mem) ∧
  (∀ (s : State) (nonce : BitVec 128) (r : Req) (t : List Req) (d1 : Dev), s.dev.nextReq = some (r, t) →
    d1 = (s.dev.modDict fun x => { x with queue := t }).showQueue → isCustomer r.idx = false →
    (r.op = 1 → objOf r.idx r.sub = none →
      CompletesMem (.objectRead nonce) s (d1.refuse r (existBar r.idx r.sub).1 (existBar r.idx r.sub).2) s.mem) ∧
    (∀ o : Obj, objOf r.idx r.sub = some o →
      (r.op = 1 → (d1.readBar r o).1 = 0 →
        let x := d1.readValue s.mem r.idx r.sub o nonce.toNat
        (x.1.length ≤ 4086 → CompletesMem (.objectRead nonce) s (x.2.finishData s.mem r x.1).1 (x.2.finishData s.mem r x.1).2) ∧
        (4086 < x.1.length → CompletesMem (.objectRead nonce) s (d1.refuse r 0x0611 0) s.mem)) ∧
      (r.op = 1 → (d1.readBar r o).1 ≠ 0 → CompletesMem (.objectRead nonce) s (d1.refuse r (d1.readBar r o).1 (d1.readBar r o).2) s.mem) ∧
      (r.op = 3 → (d1.readBar r o).1 = 0 → 1 ≤ r.n → r.n ≤ 4086 →
        let x := d1.readValue s.mem r.idx r.sub o nonce.toNat
        CompletesMem (.readPart nonce) s (x.2.finishData s.mem r ((x.1.drop r.off).take r.n)).1 (x.2.finishData s.mem r ((x.1.drop r.off).take r.n)).2) ∧
      (r.op = 3 → (d1.readBar r o).1 ≠ 0 → CompletesMem (.readPart nonce) s (d1.refuse r (d1.readBar r o).1 (d1.readBar r o).2) s.mem) ∧
      (r.op = 3 → (d1.readBar r o).1 = 0 → 4086 < r.n → CompletesMem (.readPart nonce) s (d1.refuse r 0x0611 0) s.mem) ∧
      (r.op = 4 → CompletesMem .describe s (d1.finishData s.mem r (descriptor r.idx r.sub o)).1
        (d1.finishData s.mem r (descriptor r.idx r.sub o)).2))) ∧
  (∀ (s : State) (m : Master) (t : Fin 5) (v : Word), s.dev.mayWrite m (0x40900100 + 0x10 * t.val) = true →
    natBit v.toNat 31 = false ∨ s.dev.get (DE.LCTL_BUSY t) = 1 →
    Completes (.localRequest m t v) s ((s.dev.regFieldsWrite m (0x40900100 + 0x10 * t.val) v.toNat).busOk 0)) ∧
  (∀ (s : State) (m : Master) (t : Fin 5) (v : Word), s.dev.mayWrite m (0x40900100 + 0x10 * t.val) = true → natBit v.toNat 31 = true →
    s.dev.get (DE.LCTL_BUSY t) ≠ 1 → (s.dev.regFieldsWrite m (0x40900100 + 0x10 * t.val) v.toNat).vol.dict.queue.length < 16 →
    Reaches (.localRequest m t v) s fun u => u.dev.get (DE.LCTL_BUSY t) = 1 ∧ u.mem = s.mem ∧
      ∃ r : Req, r.src = .local t ∧ u.dev.vol.dict.queue = (s.dev.regFieldsWrite m (0x40900100 + 0x10 * t.val) v.toNat).vol.dict.queue ++ [r]) ∧
  (∀ (s : State) (m : Master) (t : Fin 5) (c : Fin 4) (v : Word),
    (s.dev.mayWrite m (0x40900100 + 0x10 * t.val) = false →
      Completes (.localRequest m t v) s (s.dev.busError m (0x40900100 + 0x10 * t.val) true)) ∧
    (s.dev.mayWrite m (0x40900308 + 0x10 * (c.val + 1)) = false →
      CompletesMem (.customerResponse m c v) s (s.dev.busError m (0x40900308 + 0x10 * (c.val + 1)) true) s.mem)) ∧
  (∀ (s : State) (r : Req) (t : List Req) (d1 : Dev), s.dev.nextReq = some (r, t) →
    d1 = (s.dev.modDict fun x => { x with queue := t }).showQueue → isCustomer r.idx = true →
    (d1.custRange r.idx = none → CompletesMem .customerRequest s (d1.refuse r 0x0609 0) s.mem) ∧
    (∀ (k : Nat) (c : Fin 4), d1.custRange r.idx = some k → d1.get (DE.CUSTA_SERVER k) = c.val + 1 →
      (d1.serverPresent c = true → CompletesMem .customerRequest s (d1.handOver s.mem r c).1 (d1.handOver s.mem r c).2) ∧
      (d1.serverPresent c = false → CompletesMem .customerRequest s (d1.refuse r 0x0640 3) s.mem))) ∧
  (∀ (s : State) (m : Master) (c : Fin 4) (v : Word) (d1 : Dev), s.dev.mayWrite m (0x40900308 + 0x10 * (c.val + 1)) = true →
    d1 = (s.dev.regFieldsWrite m (0x40900308 + 0x10 * (c.val + 1)) v.toNat).busOk 0 →
    (natBit v.toNat 31 = false → CompletesMem (.customerResponse m c v) s d1 s.mem) ∧
    (natBit v.toNat 31 = true → vget d1.vol.dict.cust c = none →
      CompletesMem (.customerResponse m c v) s (d1.countSat (DE.CINF_CLATE (c.val + 1))) s.mem) ∧
    (natBit v.toNat 31 = true → ∀ r : Req, vget d1.vol.dict.cust c = some r →
      let d2 := (d1.modDict fun x => { x with cust := vset x.cust c none }).set (DE.CREQ_VALID (c.val + 1)) 0
      (d1.get (DE.CRSP_CODE (c.val + 1)) ≠ 0 → CompletesMem (.customerResponse m c v) s (d2.refuse r (d1.get (DE.CRSP_CODE (c.val + 1))) 0) s.mem) ∧
      (d1.get (DE.CRSP_CODE (c.val + 1)) = 0 → r.op = 2 →
        CompletesMem (.customerResponse m c v) s (d2.finishData s.mem r []).1 (d2.finishData s.mem r []).2))) ∧
  (∀ (s : State) (c : Fin 4),
    (vget s.dev.vol.dict.cust c = none → Completes (.customerTimeout c) s s.dev) ∧
    (∀ r : Req, vget s.dev.vol.dict.cust c = some r → Completes (.customerTimeout c) s
      (((s.dev.modDict fun x => { x with cust := vset x.cust c none }).set (DE.CREQ_VALID (c.val + 1)) 0).refuse r 0x0640 3)))

/-- Object writes and operating states (R425, R427, R429, R432, R439, R440): a write that passes its checks is carried out and answered, and one that does not is refused with its code; Truss performs the oldest write
that waits for it; the oldest accepted value goes to its record, in two copies with a CRC-32 each, with source 341 at the last; a command for the present state is accepted and changes none; STANDBY, READY, RUN and SERVICE are entered where Table 15-11 lets
them, and a command in INIT does nothing. -/
def Obligations.WritesAndOperatingStates : Prop :=
  (∀ (s : State) (g : Bool) (sig : SpanSigs) (r : Req) (t : List Req) (d1 : Dev), s.dev.nextReq = some (r, t) →
    d1 = (s.dev.modDict fun x => { x with queue := t }).showQueue → isCustomer r.idx = false → r.op = 2 →
    (objOf r.idx r.sub = none → CompletesMem (.objectWrite g sig) s (d1.refuse r (existBar r.idx r.sub).1 (existBar r.idx r.sub).2) s.mem) ∧
    (∀ o : Obj, objOf r.idx r.sub = some o →
      ((d1.writeBar r o).1 ≠ 0 → CompletesMem (.objectWrite g sig) s (d1.refuse r (d1.writeBar r o).1 (d1.writeBar r o).2) s.mem) ∧
      ((d1.writeBar r o).1 = 0 → (d1.objectWrite s.mem r o g sig).1.vol.dict.start = none → CompletesMem (.objectWrite g sig) s
        ((d1.objectWrite s.mem r o g sig).1.finish (d1.objectWrite s.mem r o g sig).2 r []).1
        ((d1.objectWrite s.mem r o g sig).1.finish (d1.objectWrite s.mem r o g sig).2 r []).2))) ∧
  (∀ (s : State) (k v : Nat) (t : List (Nat × Nat)), s.dev.vol.dict.truss = (k, v) :: t →
    (s.dev.trussWorks = true → Completes .trussServedWrite s ((s.dev.modDict fun x => { x with truss := t }).trussWrite k v)) ∧
    (s.dev.trussWorks = false → Completes .trussServedWrite s s.dev)) ∧
  (∀ (s : State) (k v : Nat) (t : List (Nat × Nat)), s.dev.vol.dict.stores = (k, v) :: t →
    Reaches .persistenceStore s fun u => rfFind u.dev.nv.objs k = some v ∧ u.dev.vol.dict.stores = t ∧ (t = [] → 341 ∈ u.dev.edges) ∧
      u.dev.regs = s.dev.regs ∧ Mem.sameOutside s.mem u.mem 0x101E0000 0xFF00 ∧
      (s.mem.wf = true → ∀ c : Fin 2, u.mem.readLE (recordPlace k c + 12) 4 = crc32c (u.mem.readBytes (recordPlace k c) 12))) ∧
  (∀ s : State, (s.dev.vol.dict.stores = [] → Completes .persistenceStore s s.dev) ∧ (s.dev.vol.dict.truss = [] → Completes .trussServedWrite s s.dev)) ∧
  (∀ s : State, s.dev.vol.net.inbox = [] →
    Completes (.stateCommandStandby true) s s.dev ∧ Completes (.stateCommandReady true) s s.dev ∧ Completes (.stateCommandRun true) s s.dev ∧
    Completes (.stateCommandService true) s s.dev) ∧
  (∀ (s : State) (k : KMsg) (t : List KMsg), s.dev.vol.net.inbox = k :: t → k.svc = 0x012 → leNat (k.body.take 1) = 1 → s.dev.get DE.STAT_OPSTATE = 1 →
    Completes (.stateCommandStandby true) s
      (((s.dev.modNet fun n => { n with inbox := t }).modDict fun x => { x with readyAsked := false }).sendMessage k.port k.node 0x013 k.prio k.tag
        (leList 1 1 ++ leList 1 1 ++ leList 2 0))) ∧
  (∀ (s : State), s.dev.get DE.STAT_OPSTATE = 0 →
    Completes (.stateCommandStandby false) s s.dev ∧ Completes (.stateCommandReady false) s s.dev ∧ Completes (.stateCommandRun false) s s.dev ∧
    Completes (.stateCommandService false) s s.dev) ∧
  (∀ (s : State), s.dev.get DE.STAT_OPSTATE = 2 →
    (Completes (.stateCommandReady false) s ((s.dev.modDict fun x => { x with readyAsked := false }).answer 0 0)) ∧
    (Completes (.stateCommandStandby false) s (((s.dev.each allChans fun d n => d.chanDisable n).opTo 1).answer 0 0)) ∧
    (s.dev.get LC.LCSTATE_STATE = 3 →
      (s.dev.lineLatched 2 bridges = false → Completes (.stateCommandRun false) s ((s.dev.opTo 3).answer 0 0)) ∧
      (s.dev.lineLatched 2 bridges = true → Completes (.stateCommandRun false) s (s.dev.abort 0x1001 3 0x0622 0))) ∧
    (s.dev.get LC.LCSTATE_STATE = 6 → Completes (.stateCommandRun false) s (s.dev.abort 0x1001 3 0x0630 0)) ∧
    (s.dev.get (CE.BSTAT_ST 0) ≠ 3 → s.dev.get (CE.BSTAT_ST 1) ≠ 3 → Completes (.stateCommandService false) s ((s.dev.opTo 4).answer 0 0)) ∧
    (s.dev.get (CE.BSTAT_ST 0) = 3 → Completes (.stateCommandService false) s (s.dev.abort 0x1001 3 0x0622 0))) ∧
  (∀ (s : State), s.dev.get DE.STAT_OPSTATE = 3 → Completes (.stateCommandReady false) s (s.dev.readyLater.answer 0 0)) ∧
  (∀ (s : State), s.dev.get DE.STAT_OPSTATE = 6 →
    Completes (.stateCommandReady false) s (s.dev.abort 0x1001 3 0x0622 0) ∧ Completes (.stateCommandStandby false) s (s.dev.abort 0x1001 3 0x0622 0)) ∧
  (∀ (s : State), s.dev.get DE.STAT_OPSTATE = 1 →
    ((∀ n : Chan, s.dev.get (GL.CHSTAT_LINK n) = 1) → Completes (.stateCommandReady false) s (s.dev.enterReady.answer 0 0)) ∧
    ((∃ n : Chan, s.dev.get (GL.CHSTAT_LINK n) ≠ 1) → Completes (.stateCommandReady false) s (s.dev.abort 0x1001 3 0x0622 0)))

/-- A write of a mirrored object (R425, R427, R429, for the thresholds of the thermal channels, 0x2600): a request of four bytes, served outside RUN and LOCKOUT with the block up and not locked, writes both fields of the
register, is answered with code and detail 0, and its value waits last for the MRAM store; under the block's lock the register stays, the value waits for the next start, and the detail is 1. -/
def Obligations.MirroredWrite : Prop :=
  ∀ (s : State) (g : Bool) (sig : SpanSigs) (r : Req) (t : List Req) (k : Fin 24) (v : BitVec 32), s.dev.nextReq = some (r, t) →
    r.op = 2 → r.idx = 0x2600 → r.sub = k.val + 1 → r.n = 4 → r.data = leList 4 v.toNat → s.dev.get DE.STAT_OPSTATE ≠ 3 → s.dev.get DE.STAT_OPSTATE ≠ 6 →
    s.dev.domainUp 6 = true → s.dev.lands.failN = true →
    (s.dev.get TH.CTL_LOCK = 0 → Reaches (.objectWrite g sig) s fun u =>
      u.dev.get (TH.HKTHR_THI k) = v.toNat / 2 ^ 16 ∧ u.dev.get (TH.HKTHR_TLO k) = v.toNat % 2 ^ 16 ∧ u.dev.resp.code = 0 ∧ u.dev.resp.detail = 0 ∧
      u.dev.vol.dict.stores = s.dev.vol.dict.stores ++ [(objKey 0x2600 (k.val + 1), v.toNat)] ∧ u.mem = s.mem) ∧
    (s.dev.get TH.CTL_LOCK = 1 → Reaches (.objectWrite g sig) s fun u =>
      u.dev.get (TH.HKTHR_THI k) = s.dev.get (TH.HKTHR_THI k) ∧ u.dev.get (TH.HKTHR_TLO k) = s.dev.get (TH.HKTHR_TLO k) ∧
      u.dev.resp.code = 0 ∧ u.dev.resp.detail = 1 ∧
      u.dev.vol.dict.stores = s.dev.vol.dict.stores ++ [(objKey 0x2600 (k.val + 1), v.toNat)] ∧ u.mem = s.mem)

/-- Stepped operations (R443 to R445, R447): a step moves the first operation to the end of the turn, shows its progress and fires source 337, or ends it CANCELLED; no step comes while a request waits; a cancel marks an operation that may be cancelled, and is refused in LOCKOUT; the command of an operation starts it where it does not run, refused with 0x0622 by its
state, 0x0640 while four run and 0x0611 by its range, ends it where its cancel waits, and takes its steps once its turn has come and no request waits; a restore removes the stored records and the values that wait for them;
an erase leaves its bank erased, a program writes the staged bytes, the lines before the first one that is not erased or fails its read-back whole, and that one with open bytes; both are refused with 0x0622 while a flash
command runs or the bank executes in place; a load puts the bytes into application SRAM, and the image start verifies first and takes its entry points. -/
def Obligations.SteppedOperations : Prop :=
  (∀ (s : State) (p : Fin 101) (i : Nat) (t : List (Nat × Bool)),
    (s.dev.nextReq ≠ none → Completes (.step p) s s.dev) ∧
    (s.dev.nextReq = none → s.dev.vol.dict.ops = (i, false) :: t → Reaches (.step p) s fun u =>
      u.dev.vol.dict.ops = t ++ [(i, false)] ∧ u.dev.handle i = 2 ^ 29 + p.val * 2 ^ 16 ∧ 337 ∈ u.dev.edges ∧ u.dev.regs = s.dev.regs ∧ u.mem = s.mem) ∧
    (s.dev.nextReq = none → s.dev.vol.dict.ops = (i, true) :: t → Reaches (.step p) s fun u =>
      (∀ b : Bool, (i, b) ∉ u.dev.vol.dict.ops) ∧ u.dev.handle i / 2 ^ 29 = 4 ∧ 338 ∈ u.dev.edges ∧ u.mem = s.mem)) ∧
  (∀ (s : State) (i : BitVec 16), s.dev.get DE.STAT_OPSTATE = 2 →
    (cancellable i.toNat = true → Reaches (.steppedCancel i) s fun u =>
      u.dev.resp.code = 0 ∧ u.dev.regs = s.dev.regs ∧ u.mem = s.mem ∧ (∀ b : Bool, (i.toNat, b) ∈ u.dev.vol.dict.ops → b = true)) ∧
    (isOp i.toNat = true → cancellable i.toNat = false → Completes (.steppedCancel i) s (s.dev.abort i.toNat 0xFE 0x0622 0))) ∧
  (∀ (d : Dev) (i sub : Nat) (args : List (Nat × Nat)) (stateOk rangeOk : Bool), i < 0x8000 →
    ((i, true) ∈ d.vol.dict.ops → d.opBegin i sub args stateOk rangeOk = (d.opEnd i 4 0, false)) ∧
    ((i, true) ∉ d.vol.dict.ops → (i, false) ∈ d.vol.dict.ops → d.opBegin i sub args stateOk rangeOk = (d, d.opTurn i)) ∧
    (d.opRunning i = false →
      (stateOk = false → d.opBegin i sub [] stateOk rangeOk = (d.abort i sub 0x0622 0, false)) ∧
      (stateOk = true → 4 ≤ d.vol.dict.ops.length → d.opBegin i sub [] stateOk rangeOk = (d.abort i sub 0x0640 2, false)) ∧
      (stateOk = true → d.vol.dict.ops.length < 4 → rangeOk = false → d.opBegin i sub [] stateOk rangeOk = (d.abort i sub 0x0611 0, false)) ∧
      (stateOk = true → d.vol.dict.ops.length < 4 → rangeOk = true → ∀ a v : Nat, a < 256 → args = [(a, v)] →
        (d.opBegin i sub args stateOk rangeOk).2 = (decide (d.nextReq = none) && d.vol.dict.ops.isEmpty) ∧
        (d.opBegin i sub args stateOk rangeOk).1.vol.dict.ops = d.vol.dict.ops ++ [(i, false)] ∧
        (d.opBegin i sub args stateOk rangeOk).1.handle i = 2 ^ 29 ∧ (d.opBegin i sub args stateOk rangeOk).1.objVal i a 0 = v ∧
        (d.opBegin i sub args stateOk rangeOk).1.resp.code = 0 ∧ (d.opBegin i sub args stateOk rangeOk).1.nv = d.nv ∧
        d.sameBut (d.opBegin i sub args stateOk rangeOk).1 [DE.STAT_NRUN]))) ∧
  (∀ (d : Dev) (i : Nat), d.opTurn i = true ↔ (d.nextReq = none ∧ d.vol.dict.ops.head?.map (fun o => o.1) = some i)) ∧
  (∀ (s : State) (x : BitVec 16) (d1 : Dev),
    (s.dev.opBegin 0x7001 1 [(1, x.toNat)] (s.dev.opStateOk 0x7001) true = (d1, true) →
      Reaches (.restoreDefaults x) s fun u =>
        u.dev.nv = ({ s.dev.nv with objs := s.dev.nv.objs.filter fun kv => !restores (d1.objVal 0x7001 1 0) kv.1 } : NonVol).restoreHeld
          (d1.objVal 0x7001 1 0) ∧
        u.dev.vol.dict.stores = s.dev.vol.dict.stores.filter (fun kv => !restores (d1.objVal 0x7001 1 0) kv.1) ∧ u.dev.handle 0x7001 = 2 * 2 ^ 29 + 100 * 2 ^ 16 ∧
        u.dev.opRunning 0x7001 = false ∧ 338 ∈ u.dev.edges ∧ u.dev.resp = d1.resp ∧ u.mem = s.mem ∧ s.dev.sameBut u.dev [DE.STAT_NRUN]) ∧
    (s.dev.opBegin 0x7001 1 [(1, x.toNat)] (s.dev.opStateOk 0x7001) true = (d1, false) → Completes (.restoreDefaults x) s d1)) ∧
  (∀ (s : State) (ok : Bool),
    let b := s.dev.opBegin 0x7002 4 [(4, 1)] (s.dev.opStateOk 0x7002) true
    let d1 := b.1
    let bank := d1.objVal 0x7002 1 0
    let base := 0x08000000 + 0x800000 * bank
    let goes := b.2 = true ∧ d1.objVal 0x7002 4 0 = 1
    (¬ goes → CompletesMem (.imageEraseBank ok) s d1 s.mem) ∧
    (goes → 1 < bank → CompletesMem (.imageEraseBank ok) s (d1.opFail 0x7002 0x0611) s.mem) ∧
    (goes → bank ≤ 1 → s.dev.get LC.FLCTL_BUSY = 1 ∨ s.dev.bankRuns base = true → Reaches (.imageEraseBank ok) s fun u =>
      u.mem = s.mem ∧ u.dev.handle 0x7002 / 2 ^ 29 = 3 ∧ u.dev.handle 0x7002 % 2 ^ 16 = 0x0622) ∧
    (goes → bank ≤ 1 → s.dev.get LC.FLCTL_BUSY ≠ 1 → s.dev.bankRuns base = false →
      (ok = true → Reaches (.imageEraseBank ok) s fun u =>
        u.mem = s.mem.clearRange base (base + 0x800000) ∧ u.dev.handle 0x7002 = 2 * 2 ^ 29 + 100 * 2 ^ 16 ∧ 338 ∈ u.dev.edges) ∧
      (ok = false → Reaches (.imageEraseBank ok) s fun u =>
        Mem.sameOutside s.mem u.mem base 0x800000 ∧ u.dev.get LC.FLCTL_ERR = 1 ∧ u.dev.handle 0x7002 / 2 ^ 29 = 3 ∧
        u.dev.handle 0x7002 % 2 ^ 16 = 0x0611 ∧ 338 ∈ u.dev.edges))) ∧
  (∀ (s : State) (fail : Option (Fin 255)), s.mem.wf = true →
    let b := s.dev.opBegin 0x7002 4 [(4, 2)] (s.dev.opStateOk 0x7002) true
    let d1 := b.1
    let bank := d1.objVal 0x7002 1 0
    let a := 0x08000000 + 0x800000 * bank + d1.objVal 0x7002 2 0
    let v := d1.domain 0x7002 3
    let goes := b.2 = true ∧ d1.objVal 0x7002 4 0 = 2
    (¬ goes → CompletesMem (.imageProgram fail) s d1 s.mem) ∧
    (goes → 1 < bank ∨ d1.stagedOk 0x7002 0x800000 = false → CompletesMem (.imageProgram fail) s (d1.opFail 0x7002 0x0611) s.mem) ∧
    (goes → bank ≤ 1 → d1.stagedOk 0x7002 0x800000 = true →
      (v = [] → CompletesMem (.imageProgram fail) s (d1.opDone 0x7002) s.mem) ∧
      (v ≠ [] → s.dev.get LC.FLCTL_BUSY = 1 ∨ s.dev.bankRuns a = true → Reaches (.imageProgram fail) s fun u =>
        u.mem = s.mem ∧ u.dev.handle 0x7002 / 2 ^ 29 = 3 ∧ u.dev.handle 0x7002 % 2 ^ 16 = 0x0622) ∧
      (v ≠ [] → s.dev.get LC.FLCTL_BUSY ≠ 1 → s.dev.bankRuns a = false →
        (failingLine s.mem a (v.length / 16) fail = none → Reaches (.imageProgram fail) s fun u =>
          u.mem = s.mem.writeBytes a v ∧ u.dev.handle 0x7002 = 2 * 2 ^ 29 + 100 * 2 ^ 16 ∧ 338 ∈ u.dev.edges) ∧
        (∀ k : Nat, failingLine s.mem a (v.length / 16) fail = some k → Reaches (.imageProgram fail) s fun u =>
          u.mem = (s.mem.writeBytes a (v.take (16 * k))).writeBytes (a + 16 * k) (u.mem.readBytes (a + 16 * k) 16) ∧
          Mem.sameOutside s.mem u.mem a (16 * k + 16) ∧ u.dev.get LC.FLCTL_ERR = 1 ∧ u.dev.handle 0x7002 / 2 ^ 29 = 3 ∧
          u.dev.handle 0x7002 % 2 ^ 16 = 0x0611 ∧ 338 ∈ u.dev.edges)))) ∧
  (∀ (mem : Mem) (a n k : Nat) (fail : Option (Fin 255)), failingLine mem a n fail = some k →
    k < n ∧ (fail.map (fun x => x.val) = some k ∨ ∃ b ∈ mem.readBytes (a + 16 * k) 16, b ≠ 0xFF#8) ∧
    ∀ j < k, fail.map (fun x => x.val) ≠ some j ∧ ∀ b ∈ mem.readBytes (a + 16 * j) 16, b = 0xFF#8) ∧
  (∀ (s : State),
    let b := s.dev.opBegin 0x7004 4 [(4, 2)] (s.dev.opStateOk 0x7004) true
    let d1 := b.1
    let goes := b.2 = true ∧ d1.objVal 0x7004 4 0 = 2
    (¬ goes → CompletesMem .networkLoadProgram s d1 s.mem) ∧
    (goes → d1.stagedOk 0x7004 0x200000 = true → s.dev.domainUp 2 = true → CompletesMem .networkLoadProgram s (d1.opDone 0x7004)
      (s.mem.writeBytes (0x20000000 + d1.objVal 0x7004 2 0) (d1.domain 0x7004 3))) ∧
    (goes → d1.stagedOk 0x7004 0x200000 = true → s.dev.domainUp 2 = false →
      CompletesMem .networkLoadProgram s (d1.opFail 0x7004 0x0622) s.mem) ∧
    (goes → d1.stagedOk 0x7004 0x200000 = false → CompletesMem .networkLoadProgram s (d1.opFail 0x7004 0x0611) s.mem)) ∧
  (∀ (s : State),
    let b := s.dev.opBegin 0x7004 4 [(4, 1)] (s.dev.opStateOk 0x7004) true
    let d1 := b.1
    let goes := b.2 = true ∧ d1.objVal 0x7004 4 0 = 1
    (¬ goes → CompletesMem .networkImageStart s d1 s.mem) ∧
    (goes → s.dev.imageValid s.mem 0x20000000 = true → natBit (s.mem.readLE 0x20000010 4) 0 = false → Reaches .networkImageStart s fun u =>
      u.dev.get LC.BOOTSTAT_IMG_SRC = 3 ∧ u.dev.handle 0x7004 = 2 * 2 ^ 29 + 100 * 2 ^ 16 ∧
      (∀ k : Fin 2, vget u.dev.vol.start.entry k = s.mem.readLE (0x20000014 + 4 * k.val) 4) ∧ u.mem = s.mem) ∧
    (goes → s.dev.imageValid s.mem 0x20000000 = false → Reaches .networkImageStart s fun u =>
      u.dev.handle 0x7004 / 2 ^ 29 = 3 ∧ u.dev.handle 0x7004 % 2 ^ 16 = 0x0660 ∧
      (s.mem.readLE 0x20000000 4 = 0x5E0C8620 → u.dev.get LC.BOOTSTAT_IMG_BAD = 1 ∧ (7, 0) ∈ u.dev.raised) ∧ u.mem = s.mem)) ∧
  (∀ (s : State) (x : BitVec 16),
    (s.dev.get DE.STAT_OPSTATE = 0 → Completes (.steppedCancel x) s s.dev) ∧
    (s.dev.get DE.STAT_OPSTATE ≠ 0 → isOp x.toNat = false → maxSub x.toNat = 0 → Completes (.steppedCancel x) s (s.dev.abort x.toNat 0xFE 0x0609 0)) ∧
    (s.dev.get DE.STAT_OPSTATE = 6 → isOp x.toNat = true → Completes (.steppedCancel x) s (s.dev.abort x.toNat 0xFE 0x0622 0)))

/-- Requests for RET or OFF (R455 to R457): a writer other than Truss and the dictionary engine meets R34; an entry that nothing blocks
begins, with the request held, the state that it leaves remembered, the domain in transition, and the mailboxes of the network domain aborted; a domain that is in the state asked stays; a blocked one stays, with `REFUSED`, the count, the block code and source
381; a span whose signatures differ in the entry's scrub blocks with code 4, and is scrubbed (R338).
The end and the abort of an entry (R456, R457, R458): a request for ON, or a wake, before isolation returns the domain to the state that it was in with `ABORTED`, the count, block
code 7 and source 381; a network entry waits for the frame that is in arbitration or on the bus, and after 5 ms of that is refused with code 8; when the blocks are quiet the domain goes to the state
asked with its list saved so that it passes the check, keeps no internal state but what the rules save, and its registers outside the Pier return to
reset; in OFF its memory is cleared. -/
def Obligations.DomainEntry : Prop :=
  (
    (∀ (s : State) (m : Master) (p : Fin 9) (a b a' b' : BitVec 64), s.dev.mayWrite m (0x40000200 + 4 * p) = false →
      Completes (.domainRetRequest m p a b a' b') s (s.dev.busError m (0x40000200 + 4 * p) true) ∧
      Completes (.domainOffRequest m p) s (s.dev.busError m (0x40000200 + 4 * p) true) ∧
      Completes (.domainOnRequest m p) s (s.dev.busError m (0x40000200 + 4 * p) true)) ∧
    (∀ (s : State) (m : Master) (p : Fin 9) (a b : BitVec 64), p ≠ 0 → s.dev.mayWrite m (0x40000200 + 4 * p) = true →
      (s.dev.domSt p ≠ 1 → s.dev.entryBlock p false false = 0 →
        Completes (.domainRetRequest m p a a b b) s
          (((((s.dev.set (PIER.PDCTL_REQ p) 1).modPier fun q =>
            { q with entering := vset q.entering p (some 1), enterFrom := vset q.enterFrom p (s.dev.domSt p) }).setSt p 3).when (decide (p = 7))
            Dev.abortPending).busOk 0)) ∧
      (s.dev.domSt p ≠ 2 → s.dev.entryBlock p true false = 0 →
        Completes (.domainOffRequest m p) s
          (((((s.dev.set (PIER.PDCTL_REQ p) 2).modPier fun q =>
            { q with entering := vset q.entering p (some 2), enterFrom := vset q.enterFrom p (s.dev.domSt p) }).setSt p 3).when (decide (p = 7))
            Dev.abortPending).busOk 0)) ∧
      (s.dev.domSt p = 1 → Completes (.domainRetRequest m p a a b b) s ((s.dev.set (PIER.PDCTL_REQ p) 1).busOk 0)) ∧
      (s.dev.domSt p = 2 → Completes (.domainOffRequest m p) s ((s.dev.set (PIER.PDCTL_REQ p) 2).busOk 0)) ∧
      (s.dev.domSt p ≠ 2 → s.dev.entryBlock p true false ≠ 0 →
        Completes (.domainOffRequest m p) s
          ((((((s.dev.set (PIER.PDCTL_REQ p) 2).set (PIER.PDCTL_REFUSED p) 1).countSat (PIER.REF_REFCNT p)).set (PIER.REF_BLOCK p)
            (s.dev.entryBlock p true false)).edge 381).busOk 0)) ∧
      (s.dev.domSt p ≠ 1 → s.dev.entryBlock p false false ≠ 0 →
        Completes (.domainRetRequest m p a a b b) s
          ((((((s.dev.set (PIER.PDCTL_REQ p) 1).set (PIER.PDCTL_REFUSED p) 1).countSat (PIER.REF_REFCNT p)).set (PIER.REF_BLOCK p)
            (s.dev.entryBlock p false false)).edge 381).busOk 0))) ∧
    (∀ (s : State) (m : Master) (a a' b b' : BitVec 64), s.dev.mayWrite m 0x40000208 = true → s.dev.domSt 2 = 0 →
      (s.dev.lockstep 0 = true ∧ a ≠ a') ∨ (s.dev.lockstep 1 = true ∧ b ≠ b') →
      Completes (.domainRetRequest m 2 a a' b b') s
        ((((((((s.dev.set (PIER.PDCTL_REQ 2) 1).set (PIER.PDCTL_REFUSED 2) 1).countSat (PIER.REF_REFCNT 2)).set (PIER.REF_BLOCK 2) 4).edge 381).scrubSpan
          0 a a').scrubSpan 1 b b').busOk 0)) ∧
    (∀ d : Dev, d.domSt 2 = 0 → d.entryBlock 2 false true = 4) ∧
    (∀ (d : Dev) (off bad : Bool) (p : Fin 9), d.domSt p = 0 → d.anyBridgeActive = true → p ∈ ([3, 4, 5, 7] : List (Fin 9)) →
      d.entryBlock p off bad = 2)) ∧
  (
    (∀ (s : State) (p : Fin 9), (vget s.dev.pier.entering p).isSome = true →
      Completes (.entryAbort p) s
        (((((s.dev.modPier fun q => { q with entering := vset q.entering p none }).setSt p (vget s.dev.pier.enterFrom p)).set (PIER.PDCTL_ABORTED p) 1).countSat
          (PIER.REF_ABTCNT p)).set (PIER.REF_BLOCK p) 7 |>.edge 381)) ∧
    (∀ (s : State) (p : Fin 9), (vget s.dev.pier.entering p) = none → Completes (.entryAbort p) s s.dev) ∧
    (∀ (s : State) (p : Fin 4), (vget s.dev.pier.entering 7).isSome = true → (s.dev.canPort p).cur.isSome = true →
      Completes .networkQuiesceTimeout s
        (((((s.dev.modPier fun q => { q with entering := vset q.entering 7 none }).setSt 7 (vget s.dev.pier.enterFrom 7)).set (PIER.PDCTL_REFUSED 7)
          1).countSat (PIER.REF_REFCNT 7)).set (PIER.REF_BLOCK 7) 8 |>.edge 381) ∧
      CompletesMem (.domainQuiesced 7) s s.dev s.mem) ∧
    (∀ s : State, vget s.dev.pier.entering 7 = none ∨ (∀ p : Fin 4, (s.dev.canPort p).cur = none) → Completes .networkQuiesceTimeout s s.dev) ∧
    (∀ (s : State) (p : Fin 9), vget s.dev.pier.entering p = none → CompletesMem (.domainQuiesced p) s s.dev s.mem) ∧
    (∀ (s : State) (p : Fin 9) (st : Nat), vget s.dev.pier.entering p = some st → (st = 1 ∨ st = 2) → p ∈ sleepDomains →
      (p = 7 → ∀ c : Fin 4, (s.dev.canPort c).cur = none) →
      Reaches (.domainQuiesced p) s fun t =>
        t.dev.domSt p = st ∧ vget t.dev.pier.entering p = none ∧ t.pending = s.pending ∧
        (∀ f : Fld, f.lo < 32 → windowDomain f.addr = some p → f.addr ≠ TH.LATCH_DIE.addr → t.dev.get f = f.rst) ∧
        (st = 1 → s.mem.wf = true → t.dev.listOk t.mem p = true) ∧
        (st = 1 → p ∈ ([2, 5, 8] : List (Fin 9)) → vget t.dev.pier.saves p = some (s.dev.regs.filter fun kv => savedKey p kv.1)) ∧
        (p = 2 → t.dev.vol = s.dev.vol) ∧
        (p = 3 → t.dev.vol.ana = { AnaState.reset with trims := if st = 1 then s.dev.abandonVisit.vol.ana.trims else AnaState.reset.trims }) ∧
        (p = 4 → t.dev.vol.pos = Vol.reset.pos ∧ t.dev.vol.eng = Vol.reset.eng ∧ t.dev.vol.ce = Vol.reset.ce ∧ t.dev.vol.mod = Vol.reset.mod ∧
          t.dev.vol.lg = Vol.reset.lg) ∧
        (p = 5 → t.dev.vol.gl = s.dev.vol.gl.restart) ∧
        (p = 6 → t.dev.vol.th = { ThermState.reset with wear := s.dev.rainflowFlush.nv.wear }) ∧
        (p = 7 → t.dev.vol.net = Vol.reset.net) ∧
        (p = 8 → t.dev.vol.cap = Vol.reset.cap) ∧
        (st = 2 → s.mem.wf = true →
          ∀ r ∈ ([(2, 0x20000000, 0x20200000), (4, 0x22000000, 0x22040000), (7, 0x24000000, 0x24040000), (8, 0x23000000, 0x230C0000)] :
            List (Fin 9 × Nat × Nat)), p = r.1 → ∀ a : Nat, r.2.1 ≤ a → a < r.2.2 → t.mem.read a = 0#8)) ∧
    (∀ s : State, (vget s.dev.pier.entering 1).isSome = true →
      Reaches (.domainQuiesced 1) s fun t => t.dev.vol = s.dev.vol.restart ∧ t.dev.nv = s.dev.nv ∧ ∀ p : Fin 9, p ≠ 0 → t.dev.domSt p = 2))

/-- Wake events (R455, R461, R462, R463): an enabled wake source, or a request for ON, makes each sleeping domain of its mask wake; a source that is
not enabled does nothing, the alarm acts only at the count `KAALM`, and CAN activity counts only while VIO is in range. With one domain in its mask and no wake under way
the source is pending, the domain is in transition, and an episode begins with attempt 1, from OFF with the reset cause `WAKE`; a domain that is ON stays; in shelf and during a shutdown with test the source is
recorded and the domain joins the episode; while a wake from shelf is under way a domain that it does not bring up waits for a second one.
The course of a wake (R463, R465, R466): with power-good the domain is ON and no longer waking, and the last one ends the episode with source 379; a first attempt that is not ready is
followed by a second with source 380, the second by the back-off, whose end starts the third, and a third failure sets `WFAIL` with the three causes. -/
def Obligations.Wakes : Prop :=
  (
    (∀ (s : State) (k : Fin 4) (p : Fin 4),
      (s.dev.get (PIER.WCFG_EN (k + 1)) ≠ 1 → Completes (.wakePin k) s s.dev) ∧
      (s.dev.get (PIER.WCFG_EN 5) ≠ 1 ∨ s.dev.kaCount ≠ s.dev.get PIER.KAALML_V + 2 ^ 32 * s.dev.get PIER.KAALMH_V → Completes .keepaliveAlarm s s.dev) ∧
      (s.dev.get (PIER.WCFG_EN (p + 6)) ≠ 1 ∨ s.dev.supplyUp .vio = false → Completes (.canWakeActivity p) s s.dev)) ∧
    (∀ (s : State) (p : Fin 9) (c : Nat) (i : Instr), p ∈ sleepDomains → s.dev.bit (PIER.WCFG_EN c) = true →
      s.dev.maskDomains c = [1, p] → vget s.dev.pier.entering 1 = none →
      ((∃ k : Fin 4, i = .wakePin k ∧ c = k.val + 1) ∨
        (i = .keepaliveAlarm ∧ c = 5 ∧ s.dev.kaCount = s.dev.get PIER.KAALML_V + 2 ^ 32 * s.dev.get PIER.KAALMH_V) ∨
        (∃ q : Fin 4, i = .canWakeActivity q ∧ c = q.val + 6 ∧ s.dev.supplyUp .vio = true)) →
      (s.dev.inShelf = false → s.dev.opRunning 0x7030 = false → s.dev.wakingShelf = false → s.dev.get PIER.WSTAT_WSTATE ≠ 5 → s.dev.anyWaking = false →
        s.dev.asleep 1 = false → s.dev.domSt p = 1 → vget s.dev.pier.entering p = none → s.dev.pier.episode = [] →
        Completes i s
          (((((((s.dev.modPier fun q => { q with waking := vset q.waking p (some true) }).setSt p 3).pendSource c).modPier fun q =>
            { q with episode := [p] }).modPier fun q => { q with rcTried := false, causes := [] }).set PIER.WSTAT_ATTEMPT 1).set PIER.WSTAT_WSTATE 2)) ∧
      (s.dev.inShelf = false → s.dev.opRunning 0x7030 = false → s.dev.wakingShelf = false → s.dev.get PIER.WSTAT_WSTATE ≠ 5 → s.dev.asleep 1 = false →
        s.dev.domSt p = 0 → vget s.dev.pier.entering p = none → Completes i s s.dev) ∧
      (s.dev.inShelf = false → s.dev.opRunning 0x7030 = true → Completes i s ((s.dev.pendSource c).joinEpisode [p])) ∧
      (s.dev.inShelf = false → s.dev.opRunning 0x7030 = false → s.dev.wakingShelf = true → s.dev.domSt p = 2 → vget s.dev.pier.entering p = none →
        p ∉ s.dev.pier.episode → s.dev.asleep 1 = false →
        Completes i s ((s.dev.set PIER.WSTAT_PEND (s.dev.get PIER.WSTAT_PEND ||| 2 ^ (c - 1))).modPier fun q =>
          { q with laterPend := q.laterPend ||| 2 ^ (c - 1), later := sleepDomains.filter fun d => q.later.contains d || d == p })) ∧
      (s.dev.inShelf = true → Reaches i s fun t =>
        natBit (t.dev.get PIER.WSTAT_PEND) (c - 1) = true ∧ p ∈ t.dev.pier.episode ∧ t.dev.pier.shelfWake = true ∧
        (s.dev.pier.shelfWake = false → t.dev.get PIER.WSTAT_ATTEMPT = 1 ∧ t.dev.get PIER.WSTAT_WSTATE = 1) ∧ t.mem = s.mem)) ∧
    (∀ (s : State) (m : Master) (p : Fin 9), p ≠ 0 → s.dev.mayWrite m (0x40000200 + 4 * p) = true → vget s.dev.pier.entering p = none →
      (s.dev.domSt p = 3 →
        Completes (.domainOnRequest m p) s
          ((((((s.dev.set (PIER.PDCTL_REQ p) 0).set (PIER.PDCTL_REFUSED p) 1).countSat (PIER.REF_REFCNT p)).set (PIER.REF_BLOCK p) 1).edge 381).busOk
            0)) ∧
      (s.dev.domSt p = 0 → s.dev.inShelf = false → s.dev.opRunning 0x7030 = false → s.dev.wakingShelf = false → vget s.dev.pier.entering 1 = none →
        Completes (.domainOnRequest m p) s ((s.dev.set (PIER.PDCTL_REQ p) 0).busOk 0)) ∧
      (s.dev.inShelf = false → s.dev.opRunning 0x7030 = false → s.dev.wakingShelf = false → s.dev.get PIER.WSTAT_WSTATE ≠ 5 → s.dev.anyWaking = false →
        s.dev.pier.episode = [] → vget s.dev.pier.entering 1 = none → p ∈ sleepDomains →
        (s.dev.domSt p = 1 →
          Completes (.domainOnRequest m p) s
            (((((((((s.dev.set (PIER.PDCTL_REQ p) 0).modPier fun q => { q with waking := vset q.waking p (some true) }).setSt p 3).pendSource 10).modPier fun q =>
              { q with episode := [p], rcTried := false, causes := [] }).set PIER.WSTAT_ATTEMPT 1).set PIER.WSTAT_WSTATE 2)).busOk 0)) ∧
        (s.dev.domSt p = 2 →
          Completes (.domainOnRequest m p) s
            ((((((((((s.dev.set (PIER.PDCTL_REQ p) 0).modPier fun q => { q with waking := vset q.waking p (some false) }).setSt p 3).pendSource 10).modPier
              fun q => { q with episode := [p], rcTried := false, causes := [] }).resetCause LC.RSTCAUSE_WAKE).set PIER.WSTAT_ATTEMPT 1).set
              PIER.WSTAT_WSTATE 2)).busOk 0))))) ∧
  (
    (∀ (s : State) (p : Fin 9) (damaged : Bool) (cf : List (Fin 34)),
      (vget s.dev.pier.waking p = none → CompletesMem (.wakePowerGood p damaged cf) s s.dev s.mem) ∧
      (∀ r : Bool, vget s.dev.pier.waking p = some r → s.dev.vol.start.phase = .complete → p ∈ sleepDomains →
        Reaches (.wakePowerGood p damaged cf) s fun t => t.dev.domSt p = 0 ∧ vget t.dev.pier.waking p = none ∧ t.pending = s.pending)) ∧
    (∀ (s : State) (p : Fin 9), vget s.dev.pier.waking p = some true → s.dev.vol.start.phase = .complete →
      p ∈ ([6, 8] : List (Fin 9)) → s.dev.listOk s.mem p = true → vget s.dev.pier.saves p = none → s.dev.pier.shelfWake = false →
      (∀ q ∈ sleepDomains, q ≠ p → vget s.dev.pier.waking q = none) → s.dev.pier.served = 0 → s.dev.pier.laterPend = 0 →
      Reaches (.wakePowerGood p false []) s fun t =>
        t.dev.domSt p = 0 ∧ vget t.dev.pier.waking p = none ∧ t.dev.get PIER.WSTAT_WSTATE = 0 ∧ t.dev.pier.episode = [] ∧
        t.dev.edges = (s.dev.edge 379).edges ∧ t.mem = s.mem ∧ s.dev.sameBut t.dev [PIER.PDCTL_ST p, PIER.WSTAT_WSTATE, CPM.DOMCTL_ACTIVE 8]) ∧
    (∀ (s : State) (crystal otp : Bool), s.dev.get PIER.WSTAT_WSTATE ∉ [0, 4, 5, 6] → s.dev.anyWaking = true ∨ s.dev.pier.shelfWake = true →
      let cause := s.dev.wakeCause crystal
      let n := s.dev.get PIER.WSTAT_ATTEMPT
      let p := (s.dev.modPier fun q => { q with
          causes := q.causes ++ [cause], rcTried := q.rcTried || (decide (n = 1) && decide (cause = 5) && s.dev.bit PIER.CTL_RCFB) }).episodeOff s.mem
      (n ≤ 1 → CompletesMem (.wakeAttemptTimeout crystal otp) s (p.1.retry 2) p.2) ∧
      (n = 2 → CompletesMem (.wakeAttemptTimeout crystal otp) s (p.1.set PIER.WSTAT_WSTATE 5) p.2) ∧
      (n = 3 → s.dev.pier.causes.length = 2 → s.dev.pier.laterPend = 0 →
        Reaches (.wakeAttemptTimeout crystal otp) s fun t =>
          t.dev.get PIER.CTL_WFAIL = 1 ∧ t.dev.get PIER.WFAILR_CAUSE3 = cause ∧ t.dev.get PIER.WFAILR_CAUSE2 = s.dev.pier.causes.getD 1 0 % 16 ∧
          t.dev.get PIER.WSTAT_PEND = 0 ∧ t.dev.get PIER.LW6410_SRC6410 = s.dev.get PIER.LW6410_SRC6410 % 128 + 128)) ∧
    (∀ (s : State) (crystal otp : Bool), s.dev.get PIER.WSTAT_WSTATE ∈ [0, 4, 5] →
      CompletesMem (.wakeAttemptTimeout crystal otp) s s.dev s.mem) ∧
    (∀ (d : Dev) (n : Nat), n < 4 →
      (d.retry n).get PIER.WSTAT_ATTEMPT = n ∧ (d.retry n).get PIER.WSTAT_WSTATE = (if d.inShelf then 1 else 2) ∧
      (d.inShelf = false → 380 ∈ (d.retry n).edges)) ∧
    (∀ s : State,
      (s.dev.get PIER.WSTAT_WSTATE = 5 → Completes .wakeBackoffEnd s (s.dev.retry 3)) ∧
      (s.dev.get PIER.WSTAT_WSTATE ≠ 5 → Completes .wakeBackoffEnd s s.dev)) ∧
    (∀ (s : State) (v : Bool), s.dev.get DE.STAT_OPSTATE ≠ 4 → Completes (.wfailClear v) s (s.dev.abort 0x3050 9 0x0622 0)) ∧
    (∀ s : State, s.dev.get DE.STAT_OPSTATE = 4 →
      Completes (.wfailClear true) s ((s.dev.set PIER.CTL_WFAIL 0).answer 0 0) ∧ Completes (.wfailClear false) s (s.dev.abort 0x3050 9 0x0611 0)))

/-- Keep-alive, the forerunner's wake register, and the ways into shelf (R62, R467, R470, R471, R479, R491): `VKALOW` is reported; a read of
`LW6410` answers it and clears bit 7; shelf is entered when no bridge is active and no operation runs; a shutdown with test begins by disabling the
channels and opening the contactors, and in its turn ends in shelf with every island's switch off, its record in MRAM, and the wake events that it recorded served; in shelf every domain but the Pier is off. A fall of PWR_FAIL_N
raises line 2 and source 378 while the module runs, and a rise ends the warning. -/
def Obligations.ShelfAndPowerFail : Prop :=
  (∀ s : State, Completes .vkaLow s (s.dev.set PIER.CTL_VKALOW 1)) ∧
  (∀ (s : State) (m : Master), s.dev.running = true → s.dev.accessAllowed m 0x40000848 false = true →
    Completes (.lw6410Read m) s
      ((s.dev.set PIER.LW6410_SRC6410 (s.dev.get PIER.LW6410_SRC6410 % 128)).busOk (s.dev.get PIER.LW6410_SRC6410))) ∧
  (∀ (s : State) (m : Master), s.dev.running = false ∨ s.dev.accessAllowed m 0x40000848 false = false →
    Completes (.lw6410Read m) s (s.dev.busError m 0x40000848 false)) ∧
  (∀ s : State, s.dev.running = false → CompletesMem .enterShelf s s.dev s.mem) ∧
  (∀ s : State, s.dev.running = true → s.dev.pier.shutdown = false → s.dev.shelfOk = false →
    Completes .enterShelf s (s.dev.abort 0x3050 1 0x0622 0)) ∧
  (∀ s : State, s.dev.running = true → s.dev.shelfOk = true ∨ s.dev.pier.shutdown = true →
    Reaches .enterShelf s fun t => { t.dev.vol with gl := GateLink.reset } = Vol.reset ∧ (∀ p : Fin 9, p ≠ 0 → t.dev.domSt p = 2) ∧ t.dev.inShelf = true) ∧
  (∀ (s : State) (pass : Bool) (part dom : BitVec 8) (ms : BitVec 32), s.dev.running = true → s.dev.get DE.STAT_OPSTATE ∈ [1, 2, 4, 5, 6] →
    (s.dev.vol.dict.ops = [] → s.dev.nextReq = none →
      Reaches (.shutdownWithTest pass part dom ms) s fun t =>
        { t.dev.vol with gl := GateLink.reset } = Vol.reset ∧ (∀ p : Fin 9, p ≠ 0 → t.dev.domSt p = 2) ∧ t.dev.pier.faultLow = (s.dev.pier.faultLow || !pass) ∧
        (∀ n : Chan, (s.dev.gate n).supplied = true → (t.dev.gate n).sw = 0) ∧ t.dev.pier.shelfWake = (s.dev.pier.shelfWake || decide (s.dev.get PIER.WSTAT_PEND ≠ 0)) ∧
        (s.mem.wf = true → t.mem.readLE 0x101EFF00 4 = 0xB1578620 ∧ (t.mem.read 0x101EFF0B).toNat / 128 = b2n pass)) ∧
    (s.dev.opFree 0x7030 = true → s.dev.vol.dict.ops ≠ [] →
      CompletesMem (.shutdownWithTest pass part dom ms) s ((s.dev.opStart 0x7030).answer 0 0).shutdownBegin s.mem)) ∧
  (∀ (s : State) (pass : Bool) (part dom : BitVec 8) (ms : BitVec 32), s.dev.get DE.STAT_OPSTATE ∈ [0, 3] → s.dev.opRunning 0x7030 = false →
    CompletesMem (.shutdownWithTest pass part dom ms) s (s.dev.abort 0x7030 1 0x0622 0) s.mem) ∧
  (∀ s : State, s.dev.running = true →
    Reaches .pwrFailNFall s fun t => t.dev.lands.failN = false ∧ (2, 0) ∈ t.dev.raised ∧ 378 ∈ t.dev.edges) ∧
  (∀ s : State, Completes .pwrFailNRise s { s.dev with lands := { s.dev.lands with failN := true } })

/-- The energy ledger (R481 to R484, R488 to R491, R495, R496): a conversion moves whole units into the account and keeps the remainder, so nothing is lost; a second counts itself and, during a store, makes none of its own; a requested store
begins when none is in progress; the signed record is written at its place, with the sequence advanced; a store is requested by the masters that may write `CMD`; an
export gathers the running record (stored anew, for reason 4), the event records, the history from its newest on, or the wear block, and refuses another selection. -/
def Obligations.Ledger : Prop :=
  (∀ (s : State), s.dev.lgRuns = true →
    Reaches .ledgerConversionEpoch s fun t =>
      t.dev.get LG.IMP_W = (s.dev.get LG.IMP_W + (vget s.dev.vol.lg.acc 0 * s.dev.get LG.GAINE_GAINE + vget s.dev.vol.lg.rem 0) / 2 ^ 64) % 2 ^ 64 ∧
      vget t.dev.vol.lg.rem 0 = (vget s.dev.vol.lg.acc 0 * s.dev.get LG.GAINE_GAINE + vget s.dev.vol.lg.rem 0) % 2 ^ 64 ∧
      t.dev.get LG.EXP_W = (s.dev.get LG.EXP_W + (vget s.dev.vol.lg.acc 1 * s.dev.get LG.GAINE_GAINE + vget s.dev.vol.lg.rem 1) / 2 ^ 64) % 2 ^ 64 ∧
      vget t.dev.vol.lg.rem 1 = (vget s.dev.vol.lg.acc 1 * s.dev.get LG.GAINE_GAINE + vget s.dev.vol.lg.rem 1) % 2 ^ 64 ∧
      t.dev.get LG.DIS_W = (s.dev.get LG.DIS_W + (vget s.dev.vol.lg.acc 2 * s.dev.get LG.GAINA_GAINA + vget s.dev.vol.lg.rem 2) / 2 ^ 64) % 2 ^ 64 ∧
      vget t.dev.vol.lg.rem 2 = (vget s.dev.vol.lg.acc 2 * s.dev.get LG.GAINA_GAINA + vget s.dev.vol.lg.rem 2) % 2 ^ 64 ∧
      t.dev.get LG.CHG_W = (s.dev.get LG.CHG_W + (vget s.dev.vol.lg.acc 3 * s.dev.get LG.GAINA_GAINA + vget s.dev.vol.lg.rem 3) / 2 ^ 64) % 2 ^ 64 ∧
      vget t.dev.vol.lg.rem 3 = (vget s.dev.vol.lg.acc 3 * s.dev.get LG.GAINA_GAINA + vget s.dev.vol.lg.rem 3) % 2 ^ 64 ∧
      (∀ i : Fin 4, vget t.dev.vol.lg.acc i = 0) ∧ s.dev.sameBut t.dev [LG.PWR_PWR, LG.IMP_W, LG.EXP_W, LG.DIS_W, LG.CHG_W] ∧ t.mem = s.mem) ∧
  (∀ (s : State), s.dev.lgRuns = false → Completes .ledgerConversionEpoch s s.dev ∧ CompletesMem .ledgerSecond s s.dev s.mem) ∧
  (∀ (s : State) (st : LgStore), s.dev.lgRuns = true → s.dev.vol.lg.store = some st →
    Reaches .ledgerSecond s fun t =>
      t.dev.get LG.SECS_V = (s.dev.get LG.SECS_V + 1) % 2 ^ LG.SECS_V.width ∧ t.dev.vol.lg.store = some st ∧ t.mem = s.mem ∧
      vget t.dev.vol.lg.acc 0 = vget s.dev.vol.lg.acc 0) ∧
  (∀ (s : State), s.dev.lgRuns = true → s.dev.vol.lg.store = none →
    Reaches .ledgerSecond s fun t => t.dev.get LG.STAT_BUSY = 1 ∧ ∃ st : LgStore, t.dev.vol.lg.store = some st ∧ st.kind = 0 ∧ st.reason = 0) ∧
  (∀ (s : State),
    (s.dev.vol.lg.reqs = [] → CompletesMem .ledgerStore s s.dev s.mem) ∧
    (∀ (k r : Nat) (t : List (Nat × Nat)), s.dev.vol.lg.reqs = (k, r) :: t → s.dev.lgRuns = true → s.dev.vol.lg.store = none →
      CompletesMem .ledgerStore s ((s.dev.modLg fun l => { l with reqs := t }).storeBegin s.mem k r).1
        ((s.dev.modLg fun l => { l with reqs := t }).storeBegin s.mem k r).2)) ∧
  (∀ (s : State) (sig : BitVec 512) (ok : Bool),
    (s.dev.vol.lg.store = none → CompletesMem (.recordSigned sig ok) s s.dev s.mem) ∧
    (∀ st : LgStore, s.dev.vol.lg.store = some st → Reaches (.recordSigned sig ok) s fun t =>
      t.dev.get LG.SEQ_W = (s.dev.get LG.SEQ_W + 1) % 2 ^ LG.SEQ_W.width ∧ t.dev.get LG.STAT_BUSY = 0 ∧ t.dev.vol.lg.store = none ∧
      t.mem = s.mem.writeBytes st.addr (sealRecord s.dev.vol.start.keys.device st.body sig.toNat) ∧
      (ok = false → t.dev.get LG.STAT_STERR = 1 ∧ (57, 0) ∈ t.dev.raised))) ∧
  (∀ (s : State) (m : Master),
    (s.dev.mayWrite m 0x40A0001C = true → s.dev.lgRuns = true → Completes (.store m) s ((s.dev.modLg fun l => { l with reqs := l.reqs ++ [(0, 6)] }).busOk 0)) ∧
    (s.dev.mayWrite m 0x40A0001C = true → s.dev.lgRuns = false → Completes (.store m) s (s.dev.busOk 0)) ∧
    (s.dev.mayWrite m 0x40A0001C = false → Completes (.store m) s (s.dev.busError m 0x40A0001C true))) ∧
  (∀ (s : State) (sel : BitVec 8), s.dev.opRunning 0x7040 = false → s.dev.vol.dict.ops.length < 4 → s.dev.get DE.STAT_OPSTATE ≠ 0 → 3 < sel.toNat →
    CompletesMem (.ledgerExport sel) s (s.dev.abort 0x7040 1 0x0611 0) s.mem) ∧
  (∀ (s : State) (sel : BitVec 8), s.dev.vol.dict.ops = [] → s.dev.nextReq = none → s.dev.get DE.STAT_OPSTATE ≠ 0 →
    (sel = 0 → s.dev.lgRuns = false → Reaches (.ledgerExport sel) s fun t => t.dev.handle 0x7040 = 2 * 2 ^ 29 + 100 * 2 ^ 16 ∧
      t.dev.domain 0x7040 4 = exportSlot s.mem (s.dev.runningSlot s.mem) ∧ t.mem = s.mem) ∧
    (sel = 0 → s.dev.lgRuns = true → s.dev.vol.lg.store = none → s.mem.wf = true →
      Reaches (.ledgerExport sel) s fun t => t.dev.handle 0x7040 = 2 * 2 ^ 29 + 100 * 2 ^ 16 ∧
        t.dev.domain 0x7040 4 = exportSlot t.mem (t.dev.runningSlot t.mem) ∧ t.dev.get LG.SEQ_W = (s.dev.get LG.SEQ_W + 1) % 2 ^ LG.SEQ_W.width ∧
        ((t.dev.domain 0x7040 4).getD 7 0).toNat = 4) ∧
    (sel = 1 → Reaches (.ledgerExport sel) s fun t => t.dev.handle 0x7040 = 2 * 2 ^ 29 + 100 * 2 ^ 16 ∧
      t.dev.domain 0x7040 4 = (List.range 4).flatMap (fun k => exportSlot s.mem (lgEvent k)) ∧ t.mem = s.mem) ∧
    (sel = 2 → Reaches (.ledgerExport sel) s fun t => t.dev.handle 0x7040 = 2 * 2 ^ 29 + 100 * 2 ^ 16 ∧
      t.dev.domain 0x7040 4 = (List.range (max 1 (min 238 (s.dev.objVal 0x7040 3 1)))).flatMap (fun j =>
        exportSlot s.mem (lgHist (s.dev.histSlot s.mem + 2 * 238 - 1 - (s.dev.objVal 0x7040 2 0 + j) % 238))) ∧ t.mem = s.mem) ∧
    (sel = 3 → Reaches (.ledgerExport sel) s fun t => t.dev.handle 0x7040 = 2 * 2 ^ 29 + 100 * 2 ^ 16 ∧
      t.dev.domain 0x7040 4 = s.mem.readBytes (lgWear (s.dev.wearSlot s.mem)) 0x600 ∧ t.mem = s.mem))

/-- Compressed capture (R500 to R504): a write to an active channel is refused with `CFGERR`, a start takes a valid ring and its owner; a block of 512 kept samples is written, and fewer wait; the first trigger of a running
channel, by its source, its register or the mask of the object, moves it to TRIGGERED with its place; a stop writes the partial block with `END` and ends the run STOPPED; `EN` 0 stops every channel; a read-out refuses a running channel and another number. -/
def Obligations.Capture : Prop :=
  (∀ (s : State) (m : Master) (c : Fin 8) (v : Word), s.dev.mayWrite m (0x40A10100 + 0x20 * c.val + 4) = true →
    s.dev.mayWrite m (0x40A10100 + 0x20 * c.val + 0) = true →
    (s.dev.capActive c = true → CompletesMem (.captureStart m false c true v) s ((s.dev.set (CAP.STAT_CFGERR c) 1).busOk 0) s.mem) ∧
    (s.dev.capActive c = false → CompletesMem (.captureStart m false c true v) s ((s.dev.writeFields (capBufFields c) v.toNat).busOk 0) s.mem) ∧
    (s.dev.capActive c = false → natBit v.toNat 31 = true →
      ((s.dev.writeFields (capCfgFields c) v.toNat).capStartOk m c = true →
        CompletesMem (.captureStart m false c false v) s (((s.dev.writeFields (capCfgFields c) v.toNat).capStart c).busOk 0) s.mem) ∧
      ((s.dev.writeFields (capCfgFields c) v.toNat).capStartOk m c = false →
        CompletesMem (.captureStart m false c false v) s
          (((if m = .dict then s.dev else s.dev.writeFields (capCfgFields c) v.toNat).set (CAP.STAT_CFGERR c) 1).busOk 0) s.mem)) ∧
    (s.dev.capActive c = false → natBit v.toNat 31 = false →
      CompletesMem (.captureStart m false c false v) s (((s.dev.writeFields (capCfgFields c) v.toNat).set (CAP.CFG_EN c) 0).busOk 0) s.mem)) ∧
  (∀ (s : State) (m : Master) (c : Fin 8) (v : Word), s.dev.mayWrite m (0x40A10100 + 0x20 * c.val + 4) = false →
    CompletesMem (.captureStart m false c true v) s (s.dev.busError m (0x40A10100 + 0x20 * c.val + 4) true) s.mem) ∧
  (∀ (d : Dev) (c : Fin 8), (d.capStart c).get (CAP.CFG_EN c) = 1 ∧ (d.capStart c).get (CAP.STAT_ST c) = 1 ∧ (d.capStart c).get (CAP.BLK_BLOCKS c) = 0 ∧
    (d.capStart c).capCh c = CapChan.reset) ∧
  (∀ (s : State) (c : Fin 8), s.dev.capWorks = true → s.dev.capActive c = true →
    (512 ≤ (s.dev.capCh c).fifo.length → CompletesMem (.captureBlockWrite c) s (s.dev.capBlock s.mem c 512 false).1 (s.dev.capBlock s.mem c 512 false).2) ∧
    ((s.dev.capCh c).fifo.length < 512 → CompletesMem (.captureBlockWrite c) s s.dev s.mem)) ∧
  (∀ (s : State) (c : Fin 8), s.dev.capActive c = false → CompletesMem (.captureBlockWrite c) s s.dev s.mem) ∧
  (∀ (s : State) (n : Fin 8), n.val ∉ s.dev.capTrig → Completes (.captureTrigger n) s s.dev) ∧
  (∀ (s : State) (n : Fin 8), n.val ∈ s.dev.capTrig → 1 ≤ n.val → n.val ≤ 5 → s.dev.capWorks = true →
    Reaches (.captureTrigger n) s fun t => n.val ∉ t.dev.capTrig ∧ t.mem = s.mem ∧
      ∀ c : Fin 8, s.dev.get (CAP.BUF_TSRC c) = n.val → s.dev.get (CAP.STAT_ST c) = 1 →
        t.dev.get (CAP.STAT_ST c) = 2 ∧ t.dev.get (CAP.STAT_TRIGF c) = 1 ∧ (t.dev.capCh c).trigAt = some (s.dev.capCh c).fifo.length) ∧
  (∀ (s : State) (m : Master) (c : Fin 8),
    (s.dev.mayWrite m (0x40A10118 + 0x20 * c.val) = true →
      (s.dev.get (CAP.STAT_ST c) = 1 → Reaches (.swtrig (.reg m c)) s fun t =>
        t.dev.get (CAP.STAT_ST c) = 2 ∧ t.dev.get (CAP.STAT_TRIGF c) = 1 ∧ t.dev.bus = { error := false, data := 0 } ∧ t.mem = s.mem) ∧
      (s.dev.get (CAP.STAT_ST c) ≠ 1 → Completes (.swtrig (.reg m c)) s (s.dev.busOk 0)) ∧
      (s.dev.capActive c = false → CompletesMem (.stop (.reg m c)) s (s.dev.busOk 0) s.mem) ∧
      (s.dev.capActive c = true → (s.dev.capCh c).fifo = [] → CompletesMem (.stop (.reg m c)) s ((s.dev.capEnd c 5).busOk 0) s.mem) ∧
      (s.dev.capActive c = true → 1 ≤ (s.dev.capCh c).fifo.length → (s.dev.capCh c).fifo.length ≤ 512 →
        CompletesMem (.stop (.reg m c)) s (((s.dev.capBlock s.mem c (s.dev.capCh c).fifo.length true).1.capEnd c 5).busOk 0)
          (s.dev.capBlock s.mem c (s.dev.capCh c).fifo.length true).2 ∧
        (s.mem.wf = true → Reaches (.stop (.reg m c)) s fun t =>
          t.dev.get (CAP.STAT_ST c) = 5 ∧ t.dev.get (CAP.CFG_EN c) = 0 ∧ t.dev.bus = { error := false, data := 0 } ∧
          t.dev.get (CAP.BLK_BLOCKS c) = (s.dev.get (CAP.BLK_BLOCKS c) + 1) % 2 ^ (CAP.BLK_BLOCKS c).width ∧
          t.mem.readLE (0x23000000 + s.dev.get (CAP.WP_WP c) + 6) 2 = (s.dev.capCh c).fifo.length ∧
          natBit (t.mem.readLE (0x23000000 + s.dev.get (CAP.WP_WP c) + 2) 1) 4 = true ∧ 365 ∈ t.dev.edges))) ∧
    (s.dev.mayWrite m (0x40A10118 + 0x20 * c.val) = false →
      Completes (.swtrig (.reg m c)) s (s.dev.busError m (0x40A10118 + 0x20 * c.val) true) ∧
      CompletesMem (.stop (.reg m c)) s (s.dev.busError m (0x40A10118 + 0x20 * c.val) true) s.mem)) ∧
  (∀ (s : State) (m : Master) (v : Bool), s.dev.mayWrite m 0x40A10000 = false →
    CompletesMem (.captureStopAll m v) s (s.dev.busError m 0x40A10000 true) s.mem) ∧
  (∀ (s : State) (mask : BitVec 8), s.dev.capWorks = true →
    Reaches (.swtrig (.object mask)) s fun t => t.dev.resp.code = 0 ∧ t.mem = s.mem ∧
      ∀ c : Fin 8, s.dev.get (CAP.STAT_ST c) = 1 → t.dev.get (CAP.STAT_ST c) = (if natBit mask.toNat c.val then 2 else 1)) ∧
  (∀ (s : State) (m : Master), s.dev.mayWrite m 0x40A10000 = true →
    CompletesMem (.captureStopAll m true) s ((s.dev.set CAP.CTL_EN 1).busOk 0) s.mem ∧
    ((∀ c : Fin 8, s.dev.capActive c = false) → CompletesMem (.captureStopAll m false) s ((s.dev.set CAP.CTL_EN 0).busOk 0) s.mem) ∧
    Reaches (.captureStopAll m false) s (fun t => t.dev.get CAP.CTL_EN = 0 ∧ t.dev.bus = { error := false, data := 0 } ∧
      ∀ c : Fin 8, t.dev.capActive c = false ∧ t.dev.get (CAP.STAT_ST c) = (if s.dev.capActive c then
        (if 512 < (s.dev.capCh c).fifo.length then t.dev.get (CAP.STAT_ST c) else 5) else s.dev.get (CAP.STAT_ST c)) ∧
        (s.dev.capActive c = true → t.dev.get (CAP.CFG_EN c) = 0 ∧ (t.dev.capCh c).fifo = []))) ∧
  (∀ (s : State) (c : BitVec 8), s.dev.opRunning 0x7050 = false → s.dev.vol.dict.ops.length < 4 → s.dev.get DE.STAT_OPSTATE ≠ 0 → 7 < c.toNat →
    Completes (.captureReadout c) s (s.dev.abort 0x7050 1 0x0611 0)) ∧
  (∀ (s : State) (c : BitVec 8), s.dev.vol.dict.ops = [] → s.dev.nextReq = none → s.dev.get DE.STAT_OPSTATE ≠ 0 →
    (∀ h : c.toNat < 8, s.dev.capActive ⟨c.toNat, h⟩ = true → Reaches (.captureReadout c) s fun t =>
      t.dev.handle 0x7050 / 2 ^ 29 = 3 ∧ t.dev.handle 0x7050 % 2 ^ 16 = 0x0622 ∧ t.mem = s.mem) ∧
    (∀ h : c.toNat < 8, s.dev.capActive ⟨c.toNat, h⟩ = false → Reaches (.captureReadout c) s fun t =>
      t.dev.handle 0x7050 = 2 * 2 ^ 29 + 100 * 2 ^ 16 ∧ t.dev.domain 0x7050 3 = s.dev.capData s.mem ⟨c.toNat, h⟩ ∧ t.mem = s.mem))
end

