-- ==== Sys2Proof/Laws/Memory.lean ====
section
/-! SUPPORT. The memory: every operation keeps its canonical form, a byte reads as it was last written, and a write leaves every other
byte. -/

namespace Sys2Proof.Machine

/-! ### Reading after a write -/

theorem Mem.read_insert_same (m : Mem) (a : Nat) (x : Byte) : (m.insert a x).read a = x := by
  induction m with
  | nil => simp [Mem.insert, Mem.read]
  | cons e t ih =>
    obtain ⟨k, b⟩ := e
    by_cases h1 : a < k
    · simp [Mem.insert, h1, Mem.read]
    · by_cases h2 : a = k
      · simp [Mem.insert, h2, Mem.read]
      · simp only [Mem.insert, h1, h2, if_false, Mem.read, Ne.symm h2, ih]

theorem Mem.read_insert_ne (m : Mem) (a b : Nat) (x : Byte) (h : b ≠ a) : (m.insert a x).read b = m.read b := by
  induction m with
  | nil => simp [Mem.insert, Mem.read, Ne.symm h]
  | cons e t ih =>
    obtain ⟨k, c⟩ := e
    by_cases h1 : a < k
    · simp [Mem.insert, h1, Mem.read, Ne.symm h]
    · by_cases h2 : a = k
      · subst h2; simp [Mem.insert, Mem.read, Ne.symm h]
      · simp only [Mem.insert, h1, h2, if_false, Mem.read, ih]

theorem Mem.read_erase_ne (m : Mem) (a b : Nat) (h : b ≠ a) : (m.erase a).read b = m.read b := by
  induction m with
  | nil => rfl
  | cons e t ih =>
    obtain ⟨k, c⟩ := e
    by_cases h1 : k = a
    · subst h1; simp [Mem.erase, Mem.read, Ne.symm h]
    · simp only [Mem.erase, h1, if_false, Mem.read, ih]

/-- Every entry lies at or above `lo`. -/
theorem Mem.rising_mono {lo lo' : Nat} (m : Mem) (hle : lo' ≤ lo) (h : Mem.risingFrom lo m = true) : Mem.risingFrom lo' m = true := by
  cases m with
  | nil => rfl
  | cons e t =>
    obtain ⟨k, c⟩ := e
    simp only [Mem.risingFrom, Bool.and_eq_true, decide_eq_true_eq] at h ⊢
    exact ⟨Nat.le_trans hle h.1, h.2⟩

theorem Mem.read_below (m : Mem) (lo a : Nat) (h : Mem.risingFrom lo m = true) (ha : a < lo) : m.read a = memDefault a := by
  induction m generalizing lo with
  | nil => rfl
  | cons e t ih =>
    obtain ⟨k, c⟩ := e
    simp only [Mem.risingFrom, Bool.and_eq_true, decide_eq_true_eq] at h
    have hk : k ≠ a := by omega
    simp only [Mem.read, hk, if_false]
    exact ih (k + 1) h.2 (by omega)

theorem Mem.read_erase_same (m : Mem) (lo a : Nat) (h : Mem.risingFrom lo m = true) : (m.erase a).read a = memDefault a := by
  induction m generalizing lo with
  | nil => rfl
  | cons e t ih =>
    obtain ⟨k, c⟩ := e
    simp only [Mem.risingFrom, Bool.and_eq_true, decide_eq_true_eq] at h
    by_cases h1 : k = a
    · subst h1
      simp only [Mem.erase, if_true]
      exact Mem.read_below t (k + 1) k h.2 (by omega)
    · simp only [Mem.erase, h1, if_false, Mem.read]
      exact ih (k + 1) h.2

/-! ### The canonical form -/

theorem Mem.rising_insert (m : Mem) (lo a : Nat) (x : Byte) (ha : lo ≤ a) (h : Mem.risingFrom lo m = true) :
    Mem.risingFrom lo (m.insert a x) = true := by
  induction m generalizing lo with
  | nil => simp [Mem.insert, Mem.risingFrom, ha]
  | cons e t ih =>
    obtain ⟨k, c⟩ := e
    simp only [Mem.risingFrom, Bool.and_eq_true, decide_eq_true_eq] at h
    by_cases h1 : a < k
    · simp only [Mem.insert, h1, if_true, Mem.risingFrom, Bool.and_eq_true, decide_eq_true_eq]
      exact ⟨ha, h1, h.2⟩
    · by_cases h2 : a = k
      · subst h2
        simp only [Mem.insert, Nat.lt_irrefl, if_true, if_false, Mem.risingFrom, Bool.and_eq_true, decide_eq_true_eq]
        exact ⟨ha, h.2⟩
      · simp only [Mem.insert, h1, h2, if_false, Mem.risingFrom, Bool.and_eq_true, decide_eq_true_eq]
        exact ⟨h.1, ih (k + 1) (by omega) h.2⟩

theorem Mem.rising_erase (m : Mem) (lo a : Nat) (h : Mem.risingFrom lo m = true) : Mem.risingFrom lo (m.erase a) = true := by
  induction m generalizing lo with
  | nil => rfl
  | cons e t ih =>
    obtain ⟨k, c⟩ := e
    simp only [Mem.risingFrom, Bool.and_eq_true, decide_eq_true_eq] at h
    by_cases h1 : k = a
    · simp only [Mem.erase, h1, if_true]
      exact Mem.rising_mono t (by omega) h.2
    · simp only [Mem.erase, h1, if_false, Mem.risingFrom, Bool.and_eq_true, decide_eq_true_eq]
      exact ⟨h.1, ih (k + 1) h.2⟩

theorem Mem.rising_filter (m : Mem) (lo : Nat) (p : Host.Cell → Bool) (h : Mem.risingFrom lo m = true) :
    Mem.risingFrom lo (m.filter p) = true := by
  induction m generalizing lo with
  | nil => rfl
  | cons e t ih =>
    obtain ⟨k, c⟩ := e
    simp only [Mem.risingFrom, Bool.and_eq_true, decide_eq_true_eq] at h
    by_cases h1 : p (k, c) = true
    · simp only [List.filter, h1, Mem.risingFrom, Bool.and_eq_true, decide_eq_true_eq]
      exact ⟨h.1, ih (k + 1) h.2⟩
    · simp only [List.filter, h1]
      exact Mem.rising_mono _ (by omega) (ih (k + 1) h.2)

/-- An entry of a list after an insertion is the new one or an old one. -/
theorem Mem.mem_insert (m : Mem) (a : Nat) (x : Byte) (e : Host.Cell) (h : e ∈ m.insert a x) : e = (a, x) ∨ e ∈ m := by
  induction m with
  | nil => simpa [Mem.insert] using h
  | cons f t ih =>
    obtain ⟨k, c⟩ := f
    by_cases h1 : a < k
    · simpa [Mem.insert, h1] using h
    · by_cases h2 : a = k
      · rw [show Mem.insert ((k, c) :: t) a x = (a, x) :: t by simp [Mem.insert, h2]] at h
        rcases List.mem_cons.1 h with e1 | e1
        · exact Or.inl e1
        · exact Or.inr (List.mem_cons_of_mem _ e1)
      · rw [show Mem.insert ((k, c) :: t) a x = (k, c) :: Mem.insert t a x by simp [Mem.insert, h1, h2]] at h
        rcases List.mem_cons.1 h with e1 | e1
        · exact Or.inr (e1 ▸ List.mem_cons_self)
        · rcases ih e1 with e2 | e2
          · exact Or.inl e2
          · exact Or.inr (List.mem_cons_of_mem _ e2)

theorem Mem.mem_erase (m : Mem) (a : Nat) (e : Host.Cell) (h : e ∈ m.erase a) : e ∈ m := by
  induction m with
  | nil => exact h
  | cons f t ih =>
    obtain ⟨k, c⟩ := f
    by_cases h1 : k = a
    · rw [show Mem.erase ((k, c) :: t) a = t by simp [Mem.erase, h1]] at h
      exact List.mem_cons_of_mem _ h
    · rw [show Mem.erase ((k, c) :: t) a = (k, c) :: Mem.erase t a by simp [Mem.erase, h1]] at h
      rcases List.mem_cons.1 h with e1 | e1
      · exact e1 ▸ List.mem_cons_self
      · exact List.mem_cons_of_mem _ (ih e1)

theorem Mem.wf_iff (m : Mem) : m.wf = true ↔ Mem.risingFrom 0 m = true ∧ ∀ e ∈ m, e.2 ≠ memDefault e.1 := by
  simp [Mem.wf]

/-- A write keeps the canonical form. -/
theorem Mem.wf_write (m : Mem) (a : Nat) (x : Byte) (h : m.wf = true) : (m.write a x).wf = true := by
  obtain ⟨h1, h2⟩ := (Mem.wf_iff m).1 h
  rw [Mem.wf_iff]
  by_cases hx : x = memDefault a
  · simp only [Mem.write, hx, if_true]
    exact ⟨Mem.rising_erase m 0 a h1, fun e he => h2 e (Mem.mem_erase m a e he)⟩
  · simp only [Mem.write, hx, if_false]
    refine ⟨Mem.rising_insert m 0 a x (Nat.zero_le a) h1, fun e he => ?_⟩
    rcases Mem.mem_insert m a x e he with e1 | e1
    · subst e1; exact hx
    · exact h2 e e1

theorem Mem.wf_writeBytes (l : List Byte) (m : Mem) (a : Nat) (h : m.wf = true) : (m.writeBytes a l).wf = true := by
  induction l generalizing m a with
  | nil => exact h
  | cons x t ih => exact ih (m.write a x) (a + 1) (Mem.wf_write m a x h)

theorem Mem.wf_writeLE (m : Mem) (a n v : Nat) (h : m.wf = true) : (m.writeLE a n v).wf = true := Mem.wf_writeBytes _ m a h

theorem Mem.wf_writeWord (m : Mem) (a v : Nat) (h : m.wf = true) : (m.writeWord a v).wf = true := Mem.wf_writeLE m a 4 v h

/-- Clearing a range keeps the canonical form. -/
theorem Mem.wf_clearRange (m : Mem) (lo hi : Nat) (h : m.wf = true) : (m.clearRange lo hi).wf = true := by
  obtain ⟨h1, h2⟩ := (Mem.wf_iff m).1 h
  rw [Mem.wf_iff]
  exact ⟨Mem.rising_filter m 0 _ h1, fun e he => h2 e ((List.mem_filter.1 he).1)⟩

/-! ### What a write does -/

/-- A byte that was written reads as written. -/
theorem Mem.read_write_same (m : Mem) (a : Nat) (x : Byte) (h : m.wf = true) : (m.write a x).read a = x := by
  by_cases hx : x = memDefault a
  · simp only [Mem.write, hx, if_true]
    exact Mem.read_erase_same m 0 a ((Mem.wf_iff m).1 h).1
  · simp only [Mem.write, hx, if_false]
    exact Mem.read_insert_same m a x

/-- A write leaves every other byte. -/
theorem Mem.read_write_ne (m : Mem) (a b : Nat) (x : Byte) (h : b ≠ a) : (m.write a x).read b = m.read b := by
  unfold Mem.write
  split
  · exact Mem.read_erase_ne m a b h
  · exact Mem.read_insert_ne m a b x h

/-- Writing bytes leaves every byte outside them. -/
theorem Mem.read_writeBytes_outside (l : List Byte) (m : Mem) (a b : Nat) (h : b < a ∨ a + l.length ≤ b) :
    (m.writeBytes a l).read b = m.read b := by
  induction l generalizing m a with
  | nil => rfl
  | cons x t ih =>
    simp only [List.length_cons] at h
    simp only [Mem.writeBytes]
    rw [ih (m.write a x) (a + 1) (by omega), Mem.read_write_ne m a b x (by omega)]

/-- Bytes that were written read as written. -/
theorem Mem.read_writeBytes_inside (l : List Byte) (m : Mem) (a k : Nat) (h : m.wf = true) (hk : k < l.length) :
    (m.writeBytes a l).read (a + k) = l[k] := by
  induction l generalizing m a k with
  | nil => simp at hk
  | cons x t ih =>
    simp only [Mem.writeBytes]
    cases k with
    | zero =>
      rw [Mem.read_writeBytes_outside t _ _ _ (by omega)]
      simpa using Mem.read_write_same m a x h
    | succ j =>
      have := ih (m.write a x) (a + 1) j (Mem.wf_write m a x h) (by simpa using hk)
      simpa [Nat.add_assoc, Nat.add_comm 1 j] using this

theorem leBytes_length (n v : Nat) : (leBytes n v).length = n := by
  induction n generalizing v with
  | zero => rfl
  | succ n ih => simp [leBytes, ih]

/-- Writing a number leaves every byte outside its own. -/
theorem Mem.read_writeLE_outside (m : Mem) (a n v b : Nat) (h : b < a ∨ a + n ≤ b) : (m.writeLE a n v).read b = m.read b :=
  Mem.read_writeBytes_outside _ m a b (by rw [leBytes_length]; exact h)

theorem ofLeBytes_leBytes (n v : Nat) : ofLeBytes (leBytes n v) = v % 256 ^ n := by
  induction n generalizing v with
  | zero => simp [leBytes, ofLeBytes, Nat.mod_one]
  | succ n ih =>
    simp only [leBytes, ofLeBytes, ih, BitVec.toNat_ofNat]
    have h1 : (256 : Nat) ^ (n + 1) = 256 * 256 ^ n := by rw [Nat.pow_succ, Nat.mul_comm]
    rw [h1, Nat.mod_mul]

theorem Mem.readBytes_writeBytes (l : List Byte) (m : Mem) (a : Nat) (h : m.wf = true) : (m.writeBytes a l).readBytes a l.length = l := by
  induction l generalizing m a with
  | nil => rfl
  | cons x t ih =>
    simp only [Mem.writeBytes, List.length_cons, Mem.readBytes]
    rw [ih _ (a + 1) (Mem.wf_write m a x h), Mem.read_writeBytes_outside t _ _ _ (by omega), Mem.read_write_same m a x h]

/-- A number that was written reads as its low bytes (R9). -/
theorem Mem.readLE_writeLE (m : Mem) (a n v : Nat) (h : m.wf = true) : (m.writeLE a n v).readLE a n = v % 256 ^ n := by
  have := Mem.readBytes_writeBytes (leBytes n v) m a h
  rw [leBytes_length] at this
  simp [Mem.readLE, Mem.writeLE, this, ofLeBytes_leBytes]

/-- Clearing a range leaves every byte outside it. -/
theorem Mem.read_clearRange_outside (m : Mem) (lo hi a : Nat) (h : a < lo ∨ hi ≤ a) : (m.clearRange lo hi).read a = m.read a := by
  induction m with
  | nil => rfl
  | cons e t ih =>
    obtain ⟨k, c⟩ := e
    by_cases hk : k = a
    · subst hk
      have hp : (!(decide (lo ≤ k) && decide (k < hi))) = true := by
        rcases h with h | h
        · simp [Nat.not_le.2 h]
        · simp [Nat.not_lt.2 h]
      simp [Mem.clearRange, List.filter, hp, Mem.read]
    · by_cases hp : (!(decide (lo ≤ k) && decide (k < hi))) = true
      · simp only [Mem.clearRange, List.filter, hp, Mem.read, hk, if_false]
        exact ih
      · simp only [Mem.clearRange, List.filter, hp, Mem.read, hk, if_false]
        exact ih

/-- A cleared byte reads as unwritten memory does. -/
theorem Mem.read_clearRange_inside (m : Mem) (lo hi a : Nat) (h1 : lo ≤ a) (h2 : a < hi) : (m.clearRange lo hi).read a = memDefault a := by
  induction m with
  | nil => rfl
  | cons e t ih =>
    obtain ⟨k, c⟩ := e
    by_cases hk : k = a
    · subst hk
      have hp : (!(decide (lo ≤ k) && decide (k < hi))) = false := by simp [h1, h2]
      simp only [Mem.clearRange, List.filter, hp]
      exact ih
    · by_cases hp : (!(decide (lo ≤ k) && decide (k < hi))) = true
      · simp only [Mem.clearRange, List.filter, hp, Mem.read, hk, if_false]
        exact ih
      · simp only [Mem.clearRange, List.filter, hp]
        exact ih

end Sys2Proof.Machine
end

