-- ==== Sys2Proof/Laws/Canonical.lean ====
section
/-! SUPPORT. Every operation that reads or writes the memory keeps its canonical form: one lemma for each. -/

namespace Sys2Proof.Machine

theorem ite_wf (c : Prop) [Decidable c] (a b : Dev × Mem) (ha : a.2.wf = true) (hb : b.2.wf = true) : (if c then a else b).2.wf = true := by
  split <;> assumption

theorem clearSram_wf (m : Mem) (p : Fin 9) (h : m.wf = true) : (clearSram m p).wf = true := by
  unfold clearSram; split <;> first | exact h | exact Mem.wf_clearRange _ _ _ h

theorem foldl_clearSram_wf (l : List (Fin 9)) (m : Mem) (h : m.wf = true) : (l.foldl clearSram m).wf = true := by
  induction l generalizing m with
  | nil => exact h
  | cons p t ih => exact ih _ (clearSram_wf m p h)

theorem offWord_wf (m : Mem) (p : Fin 9) (h : m.wf = true) : (offWord m p).wf = true := Mem.wf_writeWord _ _ _ h

theorem foldl_offWord_wf (l : List (Fin 9)) (m : Mem) (h : m.wf = true) : (l.foldl offWord m).wf = true := by
  induction l generalizing m with
  | nil => exact h
  | cons p t ih => exact ih _ (offWord_wf m p h)

theorem writeNet_wf (m : Mem) (a : Nat) (l : List (BitVec 8)) (h : m.wf = true) : (writeNet m a l).wf = true := by
  unfold writeNet; split <;> first | exact h | exact Mem.wf_writeBytes _ _ _ h

theorem latchTime_wf (d : Dev) (m : Mem) (h : m.wf = true) : (latchTime d m).wf = true :=
  Mem.wf_writeLE _ _ _ _ (Mem.wf_writeLE _ _ _ _ h)

/-- What domains that lose their power leave in memory is canonical. -/
theorem Dev.offMem_wf (d : Dev) (l : List (Fin 9)) (m : Mem) (h : m.wf = true) : (d.offMem l m).wf = true := by
  unfold Dev.offMem
  refine foldl_offWord_wf _ _ (foldl_clearSram_wf _ _ ?_)
  split <;> first | exact h | exact latchTime_wf _ _ h

theorem Dev.storeRecord_wf (d : Dev) (m : Mem) (k v : Nat) (h : m.wf = true) : (d.storeRecord m k v).2.wf = true :=
  Mem.wf_writeBytes _ _ _ (Mem.wf_writeBytes _ _ _ h)

theorem Dev.storeRecords_wf (l : List (Nat × Nat)) (d : Dev) (m : Mem) (h : m.wf = true) : (Dev.storeRecords l d m).2.wf = true := by
  induction l generalizing d m with
  | nil => exact h
  | cons kv t ih => exact ih _ _ (Dev.storeRecord_wf _ _ _ _ h)

theorem Dev.flushStores_wf (d : Dev) (m : Mem) (h : m.wf = true) : (d.flushStores m).2.wf = true := Dev.storeRecords_wf _ _ _ h

theorem Dev.queueStore_wf (d : Dev) (m : Mem) (q e : Nat) (h : m.wf = true) : (d.queueStore m q e).2.wf = true := by
  unfold Dev.queueStore Dev.queueOverflow
  repeat' split
  all_goals first | exact h | exact Mem.wf_writeWord _ _ _ h

theorem Dev.queueWriteNext_wf (d : Dev) (m : Mem) (q : Nat) (h : m.wf = true) : (d.queueWriteNext m q).2.wf = true := by
  unfold Dev.queueWriteNext; split <;> first | exact h | exact Dev.queueStore_wf _ _ _ _ h

theorem Dev.ringPut_wf (d : Dev) (m : Mem) (p : Fin 4) (f : CanFrame) (kin : Bool) (st : Nat) (h : m.wf = true) :
    (d.ringPut m p f kin st).2.wf = true := by
  unfold Dev.ringPut
  dsimp only
  repeat' split
  all_goals first | exact h | exact writeNet_wf _ _ _ h | exact writeNet_wf _ _ _ (writeNet_wf _ _ _ h)

theorem Dev.kinakReceive_wf (d : Dev) (m : Mem) (p : Fin 4) (f : CanFrame) (st : Nat) (own : Bool) (h : m.wf = true) :
    (d.kinakReceive m p f st own).2.wf = true := by
  unfold Dev.kinakReceive
  dsimp only
  repeat' split
  all_goals first | exact h | exact Dev.ringPut_wf _ _ _ _ _ _ h

theorem Dev.segmentEnd_wf (d : Dev) (m : Mem) (c : Fin 8) (h : m.wf = true) : (d.segmentEnd m c).2.wf = true := by
  unfold Dev.segmentEnd
  dsimp only
  repeat' split
  all_goals first | exact h | exact Mem.wf_writeBytes _ _ _ h

theorem Dev.capBlock_wf (d : Dev) (m : Mem) (c : Fin 8) (n : Nat) (e : Bool) (h : m.wf = true) : (d.capBlock m c n e).2.wf = true := by
  unfold Dev.capBlock
  dsimp only
  apply Mem.wf_writeBytes
  apply Dev.segmentEnd_wf
  exact h

theorem Dev.capLastBlock_wf (r : Dev × Mem) (c : Fin 8) (h : r.2.wf = true) : (Dev.capLastBlock r c).2.wf = true := by
  unfold Dev.capLastBlock
  split
  · exact h
  split
  · exact h
  · dsimp only
    exact Dev.capBlock_wf r.1 r.2 c _ true h

theorem Dev.capStop_wf (d : Dev) (m : Mem) (c : Fin 8) (h : m.wf = true) : (d.capStop m c).2.wf = true := by
  unfold Dev.capStop
  split
  · refine Dev.capLastBlock_wf _ c ?_
    split
    · exact Dev.capBlock_wf d m c 512 false h
    · exact h
  · exact h

theorem Dev.capStopAll_wf (l : List (Fin 8)) (d : Dev) (m : Mem) (h : m.wf = true) : (Dev.capStopAll l d m).2.wf = true := by
  induction l generalizing d m with
  | nil => exact h
  | cons c t ih => exact ih _ _ (Dev.capStop_wf _ _ _ h)

theorem Dev.capWrite_wf (d : Dev) (m : Mem) (w : Master) (c : Fin 8) (b : Bool) (v : Nat) (h : m.wf = true) :
    (d.capWrite m w c b v).2.1.wf = true := by
  unfold Dev.capWrite
  dsimp only
  repeat' split
  all_goals first | exact h | exact Dev.capStop_wf _ _ _ h

theorem Dev.writeCapture_wf (d : Dev) (m : Mem) (i s v : Nat) (h : m.wf = true) : (d.writeCapture m i s v).2.wf = true := by
  unfold Dev.writeCapture
  dsimp only
  repeat' split
  all_goals first | exact h | exact Dev.capWrite_wf _ _ _ _ _ _ h | exact Dev.capStopAll_wf _ _ _ h

theorem Dev.objectWrite_wf (d : Dev) (m : Mem) (r : Req) (o : Obj) (g : Bool) (x : SpanSigs) (h : m.wf = true) :
    (d.objectWrite m r o g x).2.wf = true := by
  unfold Dev.objectWrite
  dsimp only
  repeat' split
  all_goals first | exact h | exact Dev.writeCapture_wf _ _ _ _ _ h

theorem Dev.finish_wf (d : Dev) (m : Mem) (r : Req) (l : List (BitVec 8)) (h : m.wf = true) : (d.finish m r l).2.wf = true := by
  unfold Dev.finish
  dsimp only
  repeat' split
  all_goals first | exact h | exact Mem.wf_writeBytes _ _ _ h

theorem Dev.finishData_wf (d : Dev) (m : Mem) (r : Req) (l : List (BitVec 8)) (h : m.wf = true) : (d.finishData m r l).2.wf = true :=
  Dev.finish_wf _ _ _ _ h

theorem Dev.checked_wf (d : Dev) (m : Mem) (r : Req) (bar : Obj → Nat × Nat) (go : Obj → Dev × Mem) (h : m.wf = true)
    (hg : ∀ o, (go o).2.wf = true) : (d.checked m r bar go).2.wf = true := by
  unfold Dev.checked
  repeat' split
  all_goals first | exact h | exact hg _

theorem Dev.handOver_wf (d : Dev) (m : Mem) (r : Req) (c : Fin 4) (h : m.wf = true) : (d.handOver m r c).2.wf = true := by
  unfold Dev.handOver
  dsimp only
  repeat' split
  all_goals first | exact h | exact Mem.wf_writeBytes _ _ _ h

theorem Dev.storeBegin_wf (d : Dev) (m : Mem) (k r : Nat) (h : m.wf = true) : (d.storeBegin m k r).2.wf = true := by
  unfold Dev.storeBegin
  split <;> first | exact h | exact Mem.wf_writeBytes _ _ _ h

theorem Dev.storeEnd_wf (d : Dev) (m : Mem) (sig : Nat) (ok : Bool) (h : m.wf = true) : (d.storeEnd m sig ok).2.wf = true := by
  unfold Dev.storeEnd
  split <;> first | exact h | exact Mem.wf_writeBytes _ _ _ h

theorem Dev.storeNow_wf (d : Dev) (m : Mem) (k r : Nat) (h : m.wf = true) : (d.storeNow m k r).2.wf = true := by
  unfold Dev.storeNow
  refine Dev.storeEnd_wf _ _ _ _ (Dev.storeBegin_wf _ _ _ _ ?_)
  split <;> first | exact h | exact Dev.storeEnd_wf _ _ _ _ h

theorem Dev.storePowerFail_wf (d : Dev) (m : Mem) (h : m.wf = true) : (d.storePowerFail m).2.wf = true := by
  unfold Dev.storePowerFail
  split <;> first | exact h | exact Dev.storeBegin_wf _ _ _ _ h

theorem Dev.lgEventWrite_wf (d : Dev) (m : Mem) (k : Nat) (h : m.wf = true) : (d.lgEventWrite m k).2.wf = true := by
  unfold Dev.lgEventWrite
  exact Mem.wf_writeBytes _ _ _ h

theorem Dev.lgStart_wf (d : Dev) (m : Mem) (h : m.wf = true) : (d.lgStart m).2.wf = true := by
  unfold Dev.lgStart
  dsimp only
  repeat' split
  all_goals first | exact h | exact Dev.lgEventWrite_wf _ _ _ h

theorem Dev.startEngine_wf (d : Dev) (m : Mem) (r : Bool) (h : m.wf = true) : (d.startEngine m r).2.wf = true := Dev.lgStart_wf _ _ h

theorem Dev.afterWake_wf (d : Dev) (m : Mem) (p : Fin 9) (r q : Bool) (l : List (Fin 34)) (h : m.wf = true) :
    (d.afterWake m p r q l).2.wf = true := by
  unfold Dev.afterWake
  split <;> first | exact h | exact Dev.startEngine_wf _ _ _ h

theorem Dev.rcOutcome_wf (d : Dev) (m : Mem) (n : Nat) (h : m.wf = true) : (d.rcOutcome m n).2.wf = true := Mem.wf_writeBytes _ _ _ h

theorem Dev.toShelf_wf (d : Dev) (m : Mem) (h : m.wf = true) : (d.toShelf m).2.wf = true := by
  unfold Dev.toShelf
  exact Dev.offMem_wf _ _ _ h

theorem Dev.save_wf (d : Dev) (m : Mem) (p : Fin 9) (st : Nat) (h : m.wf = true) : (d.save m p st).2.wf = true :=
  Mem.wf_writeWord _ _ _ (Mem.wf_writeWord _ _ _ (Mem.wf_writeWord _ _ _ (Mem.wf_writeBytes _ _ _ h)))

theorem Dev.saveNone_wf (d : Dev) (m : Mem) (p : Fin 9) (st : Nat) (h : m.wf = true) : (d.saveNone m p st).2.wf = true :=
  Mem.wf_writeWord _ _ _ h

theorem Dev.quiesce_wf (d : Dev) (m : Mem) (p : Fin 9) (h : m.wf = true) : (d.quiesce m p).2.wf = true := by
  unfold Dev.quiesce
  repeat' split
  all_goals first | exact h | exact Dev.storeNow_wf _ _ _ _ h

theorem Dev.lower_wf (d : Dev) (m : Mem) (p : Fin 9) (st : Nat) (h : m.wf = true) : (d.lower m p st).2.wf = true := by
  have hq := Dev.quiesce_wf (d.when (decide (p = 3)) Dev.abandonVisit) m p h
  unfold Dev.lower
  generalize (d.when (decide (p = 3)) Dev.abandonVisit).quiesce m p = q at hq ⊢
  dsimp only
  have hm : (if p = 7 ∧ q.1.netclkRuns = true then latchTime q.1 q.2 else q.2).wf = true := by
    split
    · exact latchTime_wf _ _ hq
    · exact hq
  generalize (if p = 7 ∧ q.1.netclkRuns = true then latchTime q.1 q.2 else q.2) = m1 at hm ⊢
  have hr : (if st = 1 ∨ (p ≠ 2 ∧ p ≠ 7) then q.1.save m1 p st else q.1.saveNone m1 p st).2.wf = true :=
    ite_wf _ _ _ (Dev.save_wf _ _ _ _ hm) (Dev.saveNone_wf _ _ _ _ hm)
  generalize (if st = 1 ∨ (p ≠ 2 ∧ p ≠ 7) then q.1.save m1 p st else q.1.saveNone m1 p st) = r at hr ⊢
  split
  · exact clearSram_wf _ _ hr
  · exact hr

theorem Dev.allOff_wf (l : List (Fin 9)) (d : Dev) (m : Mem) (h : m.wf = true) : (Dev.allOff l d m).2.wf = true := by
  induction l generalizing d m with
  | nil => exact Dev.toShelf_wf _ _ h
  | cons p t ih =>
    unfold Dev.allOff
    split
    · exact ih _ _ h
    · exact ih _ _ (Dev.lower_wf _ _ _ _ h)

theorem Dev.flashOpen_wf (d : Dev) (m : Mem) (c : FlashCmd) (h : m.wf = true) : (d.flashOpen m c).2.wf = true := Mem.wf_writeBytes _ _ _ h

theorem Dev.resetAll_wf (d : Dev) (m : Mem) (l : List RstCause) (h : m.wf = true) : (d.resetAll m l).2.wf = true := by
  unfold Dev.resetAll
  dsimp only
  split <;> first | exact h | exact Dev.flashOpen_wf _ _ _ h

theorem Dev.requestReset_wf (d : Dev) (m : Mem) (c : RstCause) (h : m.wf = true) : (d.requestReset m c).2.wf = true := by
  unfold Dev.requestReset
  repeat' split
  all_goals first | exact h | exact Dev.resetAll_wf _ _ _ h

theorem Dev.decryptImage_wf (d : Dev) (m : Mem) (a : Nat) (h : m.wf = true) : (d.decryptImage m a).2.wf = true := Mem.wf_writeBytes _ _ _ h

theorem Dev.runImage_wf (d : Dev) (m : Mem) (a : Nat) (h : m.wf = true) : (d.runImage m a).2.wf = true := by
  unfold Dev.runImage
  dsimp only
  split <;> first | exact h | exact Dev.decryptImage_wf _ _ _ h

theorem Dev.startImage_wf (d : Dev) (m : Mem) (h : m.wf = true) : (d.startImage m).2.wf = true := by
  unfold Dev.startImage
  dsimp only
  repeat' split
  all_goals first | exact h | exact Dev.runImage_wf _ _ _ h

theorem Dev.bootPhase_wf (e : Dev × Mem) (h : e.2.wf = true) : (Dev.bootPhase e).2.wf = true := by
  unfold Dev.bootPhase
  exact ite_wf _ _ _ h h

theorem Dev.bootRestore_wf (d : Dev) (m : Mem) (l k : List Nat) (n : Nat) (f : List (Fin 34)) (h : m.wf = true) :
    (d.bootRestore m l k n f).2.wf = true := by
  have hs := Dev.startImage_wf d m h
  unfold Dev.bootRestore
  generalize d.startImage m = r at hs ⊢
  exact Dev.bootPhase_wf _ (ite_wf _ _ _ (Dev.startEngine_wf _ _ _ hs) hs)

theorem Dev.episodeOff_wf (d : Dev) (m : Mem) (h : m.wf = true) : (d.episodeOff m).2.wf = true := by
  unfold Dev.episodeOff
  by_cases h1 : d.pier.shelfWake
  · rw [if_pos h1]
    exact ite_wf _ _ _ h (Dev.toShelf_wf _ _ h)
  · rw [if_neg h1]
    exact Dev.offMem_wf _ _ _ h

theorem Dev.wakeLocked_wf (d : Dev) (m : Mem) (h : m.wf = true) : (d.wakeLocked m).2.wf = true := by
  unfold Dev.wakeLocked
  dsimp only
  repeat' split
  all_goals first | exact h | exact Dev.rcOutcome_wf _ _ _ h

end Sys2Proof.Machine
end

