-- ==== Sys2Proof/Laws/Regs.lean ====
section
/-! SUPPORT. Reading back what was set: the register file, fixed-length arrays, conditional and repeated operations. -/

namespace Sys2Proof

/-! ### Fixed-length arrays -/

@[simp] theorem vget_vset_same {α : Type} {n : Nat} (v : Vector α n) (i : Fin n) (x : α) : vget (vset v i x) i = x := by
  simp [vget, vset]

theorem vget_vset_ne {α : Type} {n : Nat} (v : Vector α n) (i j : Fin n) (x : α) (h : i ≠ j) :
    vget (vset v i x) j = vget v j := by
  have h' : i.val ≠ j.val := fun e => h (Fin.ext e)
  simp [vget, vset, Vector.getElem_set_ne _ _ h']

namespace Machine

/-! ### The register file -/

theorem rfFind_erase_same (rf : RegFile) (q : Nat) : rfFind (rfErase rf q) q = none := by
  induction rf with
  | nil => rfl
  | cons e t ih =>
    obtain ⟨k, v⟩ := e
    by_cases h : k = q <;> simp [rfErase, rfFind, h, ih]

theorem rfFind_erase_ne (rf : RegFile) (q k : Nat) (h : k ≠ q) : rfFind (rfErase rf q) k = rfFind rf k := by
  induction rf with
  | nil => rfl
  | cons e t ih =>
    obtain ⟨j, v⟩ := e
    by_cases h1 : j = q
    · have h2 : j ≠ k := fun e => h (e.symm.trans h1)
      simp only [rfErase, h1, if_true, rfFind]
      rw [if_neg (h1 ▸ h2)]; exact ih
    · simp only [rfErase, h1, if_false, rfFind, ih]

theorem rfFind_insert_same (rf : RegFile) (q x : Nat) (h : rfFind rf q = none) : rfFind (rfInsert rf q x) q = some x := by
  induction rf with
  | nil => simp [rfInsert, rfFind]
  | cons e t ih =>
    obtain ⟨k, v⟩ := e
    have hk : k ≠ q := by
      intro e; simp [rfFind, e] at h
    have ht : rfFind t q = none := by simpa [rfFind, hk] using h
    by_cases h1 : q < k
    · simp [rfInsert, h1, rfFind]
    · simp [rfInsert, h1, rfFind, hk, ih ht]

theorem rfFind_insert_ne (rf : RegFile) (q k x : Nat) (h : k ≠ q) : rfFind (rfInsert rf q x) k = rfFind rf k := by
  induction rf with
  | nil => simp [rfInsert, rfFind, Ne.symm h]
  | cons e t ih =>
    obtain ⟨j, v⟩ := e
    by_cases h1 : q < j
    · simp [rfInsert, h1, rfFind, Ne.symm h]
    · simp only [rfInsert, h1, if_false, rfFind, ih]

/-- A key that was set reads as what was set. -/
theorem rfGet_set_same (rf : RegFile) (q d x : Nat) : rfGet (rfSet rf q d x) q d = x := by
  unfold rfGet rfSet
  by_cases h : x = d
  · simp [h, rfFind_erase_same]
  · simp [h, rfFind_insert_same _ _ _ (rfFind_erase_same rf q)]

/-- Setting a key leaves every other one. -/
theorem rfGet_set_ne (rf : RegFile) (q d x k e : Nat) (h : k ≠ q) : rfGet (rfSet rf q d x) k e = rfGet rf k e := by
  unfold rfGet rfSet
  by_cases hx : x = d
  · simp [hx, rfFind_erase_ne _ _ _ h]
  · simp [hx, rfFind_insert_ne _ _ _ _ h, rfFind_erase_ne _ _ _ h]

/-! ### Fields -/

/-- A field that was set reads as the low bits of the value (R15). -/
@[simp] theorem Dev.get_set_same (d : Dev) (f : Fld) (v : Nat) : (d.set f v).get f = v % 2 ^ f.width := by
  simp [Dev.get, Dev.set, rfGet_set_same]

/-- Setting a field leaves a field of another key. -/
theorem Dev.get_set_ne (d : Dev) (f g : Fld) (v : Nat) (h : g.key ≠ f.key) : (d.set f v).get g = d.get g := by
  simp [Dev.get, Dev.set, rfGet_set_ne _ _ _ _ _ _ h]

/-- What a field reads as depends on the register file alone. -/
theorem Dev.get_congr {d e : Dev} (h : d.regs = e.regs) (f : Fld) : d.get f = e.get f := by simp [Dev.get, h]

theorem Dev.bit_def (d : Dev) (f : Fld) : d.bit f = decide (d.get f = 1) := rfl

/-- Writing a field its own value changes no field. -/
theorem Dev.get_setBit_ne (d : Dev) (f g : Fld) (b : Bool) (h : g.key ≠ f.key) : (d.setBit f b).get g = d.get g :=
  d.get_set_ne f g _ h

@[simp] theorem Dev.get_setBit_same (d : Dev) (f : Fld) (b : Bool) (h : f.width = 1) : (d.setBit f b).get f = b2n b := by
  cases b <;> simp [Dev.setBit, b2n, h]

/-! ### Conditional and repeated operations -/

@[simp] theorem Dev.when_true (d : Dev) (f : Dev → Dev) : d.when true f = f d := rfl
@[simp] theorem Dev.when_false (d : Dev) (f : Dev → Dev) : d.when false f = d := rfl

/-- What an operation keeps, doing it under a condition keeps. -/
theorem Dev.when_keep {β : Type} (P : Dev → β) (d : Dev) (c : Bool) (f : Dev → Dev) (h : P (f d) = P d) : P (d.when c f) = P d := by
  cases c <;> simp [h]

/-- What each round keeps, all rounds keep. -/
theorem Dev.each_keep {α β : Type} (P : Dev → β) (l : List α) (f : Dev → α → Dev) (h : ∀ d x, x ∈ l → P (f d x) = P d) (d : Dev) :
    P (d.each l f) = P d := by
  induction l generalizing d with
  | nil => rfl
  | cons x t ih =>
    simp only [Dev.each]
    rw [ih (fun d y hy => h d y (List.mem_cons_of_mem _ hy)), h d x (List.mem_cons_self)]

/-- What each setting keeps, several settings keep. -/
theorem Dev.setAll_get_ne (l : List (Fld × Nat)) (g : Fld) (h : ∀ e ∈ l, g.key ≠ e.1.key) (d : Dev) : (d.setAll l).get g = d.get g := by
  induction l generalizing d with
  | nil => rfl
  | cons e t ih =>
    obtain ⟨f, v⟩ := e
    simp only [Dev.setAll]
    rw [ih (fun e he => h e (List.mem_cons_of_mem _ he)), d.get_set_ne f g v (h (f, v) (List.mem_cons_self))]

end Machine
end Sys2Proof
end

