-- ==== Sys2Proof/Laws/State.lean ====
section
/-! SUPPORT. What each update of the device leaves: one lemma per update and field, so that no later proof unfolds a record. -/

namespace Sys2Proof.Machine

/-! ### Commands -/

/-- A lifted command answers a next state with the device changed, and with the memory and the queue as they were. -/
theorem State.lift_eq (s : State) (f : Dev → Dev) : s.lift f = .next { s with dev := f s.dev } := rfl
theorem State.liftMem_eq (s : State) (f : Dev → Mem → Dev × Mem) :
    s.liftMem f = .next { s with dev := (f s.dev s.mem).1, mem := (f s.dev s.mem).2 } := rfl

/-! ### Updates of the device -/

@[simp] theorem Dev.set_now (d : Dev) (f : Fld) (v : Nat) : (d.set f v).now = d.now := rfl
@[simp] theorem Dev.set_free (d : Dev) (f : Fld) (v : Nat) : (d.set f v).free = d.free := rfl
@[simp] theorem Dev.set_bus (d : Dev) (f : Fld) (v : Nat) : (d.set f v).bus = d.bus := rfl
@[simp] theorem Dev.set_access (d : Dev) (f : Fld) (v : Nat) : (d.set f v).access = d.access := rfl
@[simp] theorem Dev.set_raised (d : Dev) (f : Fld) (v : Nat) : (d.set f v).raised = d.raised := rfl
@[simp] theorem Dev.set_edges (d : Dev) (f : Fld) (v : Nat) : (d.set f v).edges = d.edges := rfl
@[simp] theorem Dev.set_lands (d : Dev) (f : Fld) (v : Nat) : (d.set f v).lands = d.lands := rfl
@[simp] theorem Dev.set_pier (d : Dev) (f : Fld) (v : Nat) : (d.set f v).pier = d.pier := rfl
@[simp] theorem Dev.set_resp (d : Dev) (f : Fld) (v : Nat) : (d.set f v).resp = d.resp := rfl
@[simp] theorem Dev.set_capTrig (d : Dev) (f : Fld) (v : Nat) : (d.set f v).capTrig = d.capTrig := rfl
@[simp] theorem Dev.set_dma (d : Dev) (f : Fld) (v : Nat) : (d.set f v).dma = d.dma := rfl
@[simp] theorem Dev.set_nv (d : Dev) (f : Fld) (v : Nat) : (d.set f v).nv = d.nv := rfl
@[simp] theorem Dev.set_vol (d : Dev) (f : Fld) (v : Nat) : (d.set f v).vol = d.vol := rfl

@[simp] theorem Dev.setBit_now (d : Dev) (f : Fld) (b : Bool) : (d.setBit f b).now = d.now := rfl
@[simp] theorem Dev.setBit_free (d : Dev) (f : Fld) (b : Bool) : (d.setBit f b).free = d.free := rfl
@[simp] theorem Dev.setBit_bus (d : Dev) (f : Fld) (b : Bool) : (d.setBit f b).bus = d.bus := rfl
@[simp] theorem Dev.setBit_access (d : Dev) (f : Fld) (b : Bool) : (d.setBit f b).access = d.access := rfl
@[simp] theorem Dev.setBit_raised (d : Dev) (f : Fld) (b : Bool) : (d.setBit f b).raised = d.raised := rfl
@[simp] theorem Dev.setBit_edges (d : Dev) (f : Fld) (b : Bool) : (d.setBit f b).edges = d.edges := rfl
@[simp] theorem Dev.setBit_lands (d : Dev) (f : Fld) (b : Bool) : (d.setBit f b).lands = d.lands := rfl
@[simp] theorem Dev.setBit_pier (d : Dev) (f : Fld) (b : Bool) : (d.setBit f b).pier = d.pier := rfl
@[simp] theorem Dev.setBit_resp (d : Dev) (f : Fld) (b : Bool) : (d.setBit f b).resp = d.resp := rfl
@[simp] theorem Dev.setBit_capTrig (d : Dev) (f : Fld) (b : Bool) : (d.setBit f b).capTrig = d.capTrig := rfl
@[simp] theorem Dev.setBit_dma (d : Dev) (f : Fld) (b : Bool) : (d.setBit f b).dma = d.dma := rfl
@[simp] theorem Dev.setBit_nv (d : Dev) (f : Fld) (b : Bool) : (d.setBit f b).nv = d.nv := rfl
@[simp] theorem Dev.setBit_vol (d : Dev) (f : Fld) (b : Bool) : (d.setBit f b).vol = d.vol := rfl

@[simp] theorem Dev.sset_now (d : Dev) (f : Fld) (x : Int) : (d.sset f x).now = d.now := rfl
@[simp] theorem Dev.sset_free (d : Dev) (f : Fld) (x : Int) : (d.sset f x).free = d.free := rfl
@[simp] theorem Dev.sset_bus (d : Dev) (f : Fld) (x : Int) : (d.sset f x).bus = d.bus := rfl
@[simp] theorem Dev.sset_access (d : Dev) (f : Fld) (x : Int) : (d.sset f x).access = d.access := rfl
@[simp] theorem Dev.sset_raised (d : Dev) (f : Fld) (x : Int) : (d.sset f x).raised = d.raised := rfl
@[simp] theorem Dev.sset_edges (d : Dev) (f : Fld) (x : Int) : (d.sset f x).edges = d.edges := rfl
@[simp] theorem Dev.sset_lands (d : Dev) (f : Fld) (x : Int) : (d.sset f x).lands = d.lands := rfl
@[simp] theorem Dev.sset_pier (d : Dev) (f : Fld) (x : Int) : (d.sset f x).pier = d.pier := rfl
@[simp] theorem Dev.sset_resp (d : Dev) (f : Fld) (x : Int) : (d.sset f x).resp = d.resp := rfl
@[simp] theorem Dev.sset_capTrig (d : Dev) (f : Fld) (x : Int) : (d.sset f x).capTrig = d.capTrig := rfl
@[simp] theorem Dev.sset_dma (d : Dev) (f : Fld) (x : Int) : (d.sset f x).dma = d.dma := rfl
@[simp] theorem Dev.sset_nv (d : Dev) (f : Fld) (x : Int) : (d.sset f x).nv = d.nv := rfl
@[simp] theorem Dev.sset_vol (d : Dev) (f : Fld) (x : Int) : (d.sset f x).vol = d.vol := rfl

@[simp] theorem Dev.countSat_now (d : Dev) (f : Fld) : (d.countSat f).now = d.now := by unfold Dev.countSat; split <;> rfl
@[simp] theorem Dev.countSat_free (d : Dev) (f : Fld) : (d.countSat f).free = d.free := by unfold Dev.countSat; split <;> rfl
@[simp] theorem Dev.countSat_bus (d : Dev) (f : Fld) : (d.countSat f).bus = d.bus := by unfold Dev.countSat; split <;> rfl
@[simp] theorem Dev.countSat_access (d : Dev) (f : Fld) : (d.countSat f).access = d.access := by unfold Dev.countSat; split <;> rfl
@[simp] theorem Dev.countSat_raised (d : Dev) (f : Fld) : (d.countSat f).raised = d.raised := by unfold Dev.countSat; split <;> rfl
@[simp] theorem Dev.countSat_edges (d : Dev) (f : Fld) : (d.countSat f).edges = d.edges := by unfold Dev.countSat; split <;> rfl
@[simp] theorem Dev.countSat_lands (d : Dev) (f : Fld) : (d.countSat f).lands = d.lands := by unfold Dev.countSat; split <;> rfl
@[simp] theorem Dev.countSat_pier (d : Dev) (f : Fld) : (d.countSat f).pier = d.pier := by unfold Dev.countSat; split <;> rfl
@[simp] theorem Dev.countSat_resp (d : Dev) (f : Fld) : (d.countSat f).resp = d.resp := by unfold Dev.countSat; split <;> rfl
@[simp] theorem Dev.countSat_capTrig (d : Dev) (f : Fld) : (d.countSat f).capTrig = d.capTrig := by unfold Dev.countSat; split <;> rfl
@[simp] theorem Dev.countSat_dma (d : Dev) (f : Fld) : (d.countSat f).dma = d.dma := by unfold Dev.countSat; split <;> rfl
@[simp] theorem Dev.countSat_nv (d : Dev) (f : Fld) : (d.countSat f).nv = d.nv := by unfold Dev.countSat; split <;> rfl
@[simp] theorem Dev.countSat_vol (d : Dev) (f : Fld) : (d.countSat f).vol = d.vol := by unfold Dev.countSat; split <;> rfl

@[simp] theorem Dev.countWrap_now (d : Dev) (f : Fld) : (d.countWrap f).now = d.now := rfl
@[simp] theorem Dev.countWrap_free (d : Dev) (f : Fld) : (d.countWrap f).free = d.free := rfl
@[simp] theorem Dev.countWrap_bus (d : Dev) (f : Fld) : (d.countWrap f).bus = d.bus := rfl
@[simp] theorem Dev.countWrap_access (d : Dev) (f : Fld) : (d.countWrap f).access = d.access := rfl
@[simp] theorem Dev.countWrap_raised (d : Dev) (f : Fld) : (d.countWrap f).raised = d.raised := rfl
@[simp] theorem Dev.countWrap_edges (d : Dev) (f : Fld) : (d.countWrap f).edges = d.edges := rfl
@[simp] theorem Dev.countWrap_lands (d : Dev) (f : Fld) : (d.countWrap f).lands = d.lands := rfl
@[simp] theorem Dev.countWrap_pier (d : Dev) (f : Fld) : (d.countWrap f).pier = d.pier := rfl
@[simp] theorem Dev.countWrap_resp (d : Dev) (f : Fld) : (d.countWrap f).resp = d.resp := rfl
@[simp] theorem Dev.countWrap_capTrig (d : Dev) (f : Fld) : (d.countWrap f).capTrig = d.capTrig := rfl
@[simp] theorem Dev.countWrap_dma (d : Dev) (f : Fld) : (d.countWrap f).dma = d.dma := rfl
@[simp] theorem Dev.countWrap_nv (d : Dev) (f : Fld) : (d.countWrap f).nv = d.nv := rfl
@[simp] theorem Dev.countWrap_vol (d : Dev) (f : Fld) : (d.countWrap f).vol = d.vol := rfl

@[simp] theorem Dev.edge_regs (d : Dev) (i : Nat) : (d.edge i).regs = d.regs := by unfold Dev.edge; split <;> rfl
@[simp] theorem Dev.edge_now (d : Dev) (i : Nat) : (d.edge i).now = d.now := by unfold Dev.edge; split <;> rfl
@[simp] theorem Dev.edge_free (d : Dev) (i : Nat) : (d.edge i).free = d.free := by unfold Dev.edge; split <;> rfl
@[simp] theorem Dev.edge_bus (d : Dev) (i : Nat) : (d.edge i).bus = d.bus := by unfold Dev.edge; split <;> rfl
@[simp] theorem Dev.edge_access (d : Dev) (i : Nat) : (d.edge i).access = d.access := by unfold Dev.edge; split <;> rfl
@[simp] theorem Dev.edge_raised (d : Dev) (i : Nat) : (d.edge i).raised = d.raised := by unfold Dev.edge; split <;> rfl
@[simp] theorem Dev.edge_lands (d : Dev) (i : Nat) : (d.edge i).lands = d.lands := by unfold Dev.edge; split <;> rfl
@[simp] theorem Dev.edge_pier (d : Dev) (i : Nat) : (d.edge i).pier = d.pier := by unfold Dev.edge; split <;> rfl
@[simp] theorem Dev.edge_resp (d : Dev) (i : Nat) : (d.edge i).resp = d.resp := by unfold Dev.edge; split <;> rfl
@[simp] theorem Dev.edge_capTrig (d : Dev) (i : Nat) : (d.edge i).capTrig = d.capTrig := by unfold Dev.edge; split <;> rfl
@[simp] theorem Dev.edge_dma (d : Dev) (i : Nat) : (d.edge i).dma = d.dma := by unfold Dev.edge; split <;> rfl
@[simp] theorem Dev.edge_nv (d : Dev) (i : Nat) : (d.edge i).nv = d.nv := by unfold Dev.edge; split <;> rfl
@[simp] theorem Dev.edge_vol (d : Dev) (i : Nat) : (d.edge i).vol = d.vol := by unfold Dev.edge; split <;> rfl
@[simp] theorem Dev.edge_get (d : Dev) (i : Nat) (g : Fld) : (d.edge i).get g = d.get g := Dev.get_congr (by simp) g
@[simp] theorem Dev.edge_bit (d : Dev) (i : Nat) (g : Fld) : (d.edge i).bit g = d.bit g := by simp [Dev.bit]

@[simp] theorem Dev.assertLine_regs (d : Dev) (l br : Nat) : (d.assertLine l br).regs = d.regs := by unfold Dev.assertLine; split <;> rfl
@[simp] theorem Dev.assertLine_now (d : Dev) (l br : Nat) : (d.assertLine l br).now = d.now := by unfold Dev.assertLine; split <;> rfl
@[simp] theorem Dev.assertLine_free (d : Dev) (l br : Nat) : (d.assertLine l br).free = d.free := by unfold Dev.assertLine; split <;> rfl
@[simp] theorem Dev.assertLine_bus (d : Dev) (l br : Nat) : (d.assertLine l br).bus = d.bus := by unfold Dev.assertLine; split <;> rfl
@[simp] theorem Dev.assertLine_access (d : Dev) (l br : Nat) : (d.assertLine l br).access = d.access := by unfold Dev.assertLine; split <;> rfl
@[simp] theorem Dev.assertLine_edges (d : Dev) (l br : Nat) : (d.assertLine l br).edges = d.edges := by unfold Dev.assertLine; split <;> rfl
@[simp] theorem Dev.assertLine_lands (d : Dev) (l br : Nat) : (d.assertLine l br).lands = d.lands := by unfold Dev.assertLine; split <;> rfl
@[simp] theorem Dev.assertLine_pier (d : Dev) (l br : Nat) : (d.assertLine l br).pier = d.pier := by unfold Dev.assertLine; split <;> rfl
@[simp] theorem Dev.assertLine_resp (d : Dev) (l br : Nat) : (d.assertLine l br).resp = d.resp := by unfold Dev.assertLine; split <;> rfl
@[simp] theorem Dev.assertLine_capTrig (d : Dev) (l br : Nat) : (d.assertLine l br).capTrig = d.capTrig := by unfold Dev.assertLine; split <;> rfl
@[simp] theorem Dev.assertLine_dma (d : Dev) (l br : Nat) : (d.assertLine l br).dma = d.dma := by unfold Dev.assertLine; split <;> rfl
@[simp] theorem Dev.assertLine_nv (d : Dev) (l br : Nat) : (d.assertLine l br).nv = d.nv := by unfold Dev.assertLine; split <;> rfl
@[simp] theorem Dev.assertLine_vol (d : Dev) (l br : Nat) : (d.assertLine l br).vol = d.vol := by unfold Dev.assertLine; split <;> rfl
@[simp] theorem Dev.assertLine_get (d : Dev) (l br : Nat) (g : Fld) : (d.assertLine l br).get g = d.get g := Dev.get_congr (by simp) g
@[simp] theorem Dev.assertLine_bit (d : Dev) (l br : Nat) (g : Fld) : (d.assertLine l br).bit g = d.bit g := by simp [Dev.bit]

@[simp] theorem Dev.fireCapture_regs (d : Dev) (n : Nat) : (d.fireCapture n).regs = d.regs := by unfold Dev.fireCapture; split <;> rfl
@[simp] theorem Dev.fireCapture_now (d : Dev) (n : Nat) : (d.fireCapture n).now = d.now := by unfold Dev.fireCapture; split <;> rfl
@[simp] theorem Dev.fireCapture_free (d : Dev) (n : Nat) : (d.fireCapture n).free = d.free := by unfold Dev.fireCapture; split <;> rfl
@[simp] theorem Dev.fireCapture_bus (d : Dev) (n : Nat) : (d.fireCapture n).bus = d.bus := by unfold Dev.fireCapture; split <;> rfl
@[simp] theorem Dev.fireCapture_access (d : Dev) (n : Nat) : (d.fireCapture n).access = d.access := by unfold Dev.fireCapture; split <;> rfl
@[simp] theorem Dev.fireCapture_raised (d : Dev) (n : Nat) : (d.fireCapture n).raised = d.raised := by unfold Dev.fireCapture; split <;> rfl
@[simp] theorem Dev.fireCapture_edges (d : Dev) (n : Nat) : (d.fireCapture n).edges = d.edges := by unfold Dev.fireCapture; split <;> rfl
@[simp] theorem Dev.fireCapture_lands (d : Dev) (n : Nat) : (d.fireCapture n).lands = d.lands := by unfold Dev.fireCapture; split <;> rfl
@[simp] theorem Dev.fireCapture_pier (d : Dev) (n : Nat) : (d.fireCapture n).pier = d.pier := by unfold Dev.fireCapture; split <;> rfl
@[simp] theorem Dev.fireCapture_resp (d : Dev) (n : Nat) : (d.fireCapture n).resp = d.resp := by unfold Dev.fireCapture; split <;> rfl
@[simp] theorem Dev.fireCapture_nv (d : Dev) (n : Nat) : (d.fireCapture n).nv = d.nv := by unfold Dev.fireCapture; split <;> rfl
@[simp] theorem Dev.fireCapture_vol (d : Dev) (n : Nat) : (d.fireCapture n).vol = d.vol := by unfold Dev.fireCapture; split <;> rfl
@[simp] theorem Dev.fireCapture_get (d : Dev) (n : Nat) (g : Fld) : (d.fireCapture n).get g = d.get g := Dev.get_congr (by simp) g
@[simp] theorem Dev.fireCapture_bit (d : Dev) (n : Nat) (g : Fld) : (d.fireCapture n).bit g = d.bit g := by simp [Dev.bit]

@[simp] theorem Dev.busOk_regs (d : Dev) (v : Nat) : (d.busOk v).regs = d.regs := rfl
@[simp] theorem Dev.busOk_now (d : Dev) (v : Nat) : (d.busOk v).now = d.now := rfl
@[simp] theorem Dev.busOk_free (d : Dev) (v : Nat) : (d.busOk v).free = d.free := rfl
@[simp] theorem Dev.busOk_access (d : Dev) (v : Nat) : (d.busOk v).access = d.access := rfl
@[simp] theorem Dev.busOk_raised (d : Dev) (v : Nat) : (d.busOk v).raised = d.raised := rfl
@[simp] theorem Dev.busOk_edges (d : Dev) (v : Nat) : (d.busOk v).edges = d.edges := rfl
@[simp] theorem Dev.busOk_lands (d : Dev) (v : Nat) : (d.busOk v).lands = d.lands := rfl
@[simp] theorem Dev.busOk_pier (d : Dev) (v : Nat) : (d.busOk v).pier = d.pier := rfl
@[simp] theorem Dev.busOk_resp (d : Dev) (v : Nat) : (d.busOk v).resp = d.resp := rfl
@[simp] theorem Dev.busOk_capTrig (d : Dev) (v : Nat) : (d.busOk v).capTrig = d.capTrig := rfl
@[simp] theorem Dev.busOk_dma (d : Dev) (v : Nat) : (d.busOk v).dma = d.dma := rfl
@[simp] theorem Dev.busOk_nv (d : Dev) (v : Nat) : (d.busOk v).nv = d.nv := rfl
@[simp] theorem Dev.busOk_vol (d : Dev) (v : Nat) : (d.busOk v).vol = d.vol := rfl
@[simp] theorem Dev.busOk_get (d : Dev) (v : Nat) (g : Fld) : (d.busOk v).get g = d.get g := Dev.get_congr (by simp) g
@[simp] theorem Dev.busOk_bit (d : Dev) (v : Nat) (g : Fld) : (d.busOk v).bit g = d.bit g := by simp [Dev.bit]

@[simp] theorem Dev.busError_regs (d : Dev) (m : Master) (a : Nat) (w : Bool) : (d.busError m a w).regs = d.regs := by
  unfold Dev.busError; split
  · simp only [Dev.busFault, Dev.assertLine_regs]
  · rfl
@[simp] theorem Dev.busError_now (d : Dev) (m : Master) (a : Nat) (w : Bool) : (d.busError m a w).now = d.now := by
  unfold Dev.busError; split
  · simp only [Dev.busFault, Dev.assertLine_now]
  · rfl
@[simp] theorem Dev.busError_free (d : Dev) (m : Master) (a : Nat) (w : Bool) : (d.busError m a w).free = d.free := by
  unfold Dev.busError; split
  · simp only [Dev.busFault, Dev.assertLine_free]
  · rfl
@[simp] theorem Dev.busError_edges (d : Dev) (m : Master) (a : Nat) (w : Bool) : (d.busError m a w).edges = d.edges := by
  unfold Dev.busError; split
  · simp only [Dev.busFault, Dev.assertLine_edges]
  · rfl
@[simp] theorem Dev.busError_lands (d : Dev) (m : Master) (a : Nat) (w : Bool) : (d.busError m a w).lands = d.lands := by
  unfold Dev.busError; split
  · simp only [Dev.busFault, Dev.assertLine_lands]
  · rfl
@[simp] theorem Dev.busError_pier (d : Dev) (m : Master) (a : Nat) (w : Bool) : (d.busError m a w).pier = d.pier := by
  unfold Dev.busError; split
  · simp only [Dev.busFault, Dev.assertLine_pier]
  · rfl
@[simp] theorem Dev.busError_resp (d : Dev) (m : Master) (a : Nat) (w : Bool) : (d.busError m a w).resp = d.resp := by
  unfold Dev.busError; split
  · simp only [Dev.busFault, Dev.assertLine_resp]
  · rfl
@[simp] theorem Dev.busError_capTrig (d : Dev) (m : Master) (a : Nat) (w : Bool) : (d.busError m a w).capTrig = d.capTrig := by
  unfold Dev.busError; split
  · simp only [Dev.busFault, Dev.assertLine_capTrig]
  · rfl
@[simp] theorem Dev.busError_nv (d : Dev) (m : Master) (a : Nat) (w : Bool) : (d.busError m a w).nv = d.nv := by
  unfold Dev.busError; split
  · simp only [Dev.busFault, Dev.assertLine_nv]
  · rfl
@[simp] theorem Dev.busError_vol (d : Dev) (m : Master) (a : Nat) (w : Bool) : (d.busError m a w).vol = d.vol := by
  unfold Dev.busError; split
  · simp only [Dev.busFault, Dev.assertLine_vol]
  · rfl
@[simp] theorem Dev.busError_get (d : Dev) (m : Master) (a : Nat) (w : Bool) (g : Fld) : (d.busError m a w).get g = d.get g := Dev.get_congr (by simp) g
@[simp] theorem Dev.busError_bit (d : Dev) (m : Master) (a : Nat) (w : Bool) (g : Fld) : (d.busError m a w).bit g = d.bit g := by simp [Dev.bit]

@[simp] theorem Dev.answer_regs (d : Dev) (x n : Nat) : (d.answer x n).regs = d.regs := rfl
@[simp] theorem Dev.answer_now (d : Dev) (x n : Nat) : (d.answer x n).now = d.now := rfl
@[simp] theorem Dev.answer_free (d : Dev) (x n : Nat) : (d.answer x n).free = d.free := rfl
@[simp] theorem Dev.answer_bus (d : Dev) (x n : Nat) : (d.answer x n).bus = d.bus := rfl
@[simp] theorem Dev.answer_access (d : Dev) (x n : Nat) : (d.answer x n).access = d.access := rfl
@[simp] theorem Dev.answer_raised (d : Dev) (x n : Nat) : (d.answer x n).raised = d.raised := rfl
@[simp] theorem Dev.answer_edges (d : Dev) (x n : Nat) : (d.answer x n).edges = d.edges := rfl
@[simp] theorem Dev.answer_lands (d : Dev) (x n : Nat) : (d.answer x n).lands = d.lands := rfl
@[simp] theorem Dev.answer_pier (d : Dev) (x n : Nat) : (d.answer x n).pier = d.pier := rfl
@[simp] theorem Dev.answer_capTrig (d : Dev) (x n : Nat) : (d.answer x n).capTrig = d.capTrig := rfl
@[simp] theorem Dev.answer_dma (d : Dev) (x n : Nat) : (d.answer x n).dma = d.dma := rfl
@[simp] theorem Dev.answer_nv (d : Dev) (x n : Nat) : (d.answer x n).nv = d.nv := rfl
@[simp] theorem Dev.answer_vol (d : Dev) (x n : Nat) : (d.answer x n).vol = d.vol := rfl
@[simp] theorem Dev.answer_get (d : Dev) (x n : Nat) (g : Fld) : (d.answer x n).get g = d.get g := Dev.get_congr (by simp) g
@[simp] theorem Dev.answer_bit (d : Dev) (x n : Nat) (g : Fld) : (d.answer x n).bit g = d.bit g := by simp [Dev.bit]

@[simp] theorem Dev.modPier_regs (d : Dev) (f : PierState → PierState) : (d.modPier f).regs = d.regs := rfl
@[simp] theorem Dev.modPier_now (d : Dev) (f : PierState → PierState) : (d.modPier f).now = d.now := rfl
@[simp] theorem Dev.modPier_free (d : Dev) (f : PierState → PierState) : (d.modPier f).free = d.free := rfl
@[simp] theorem Dev.modPier_bus (d : Dev) (f : PierState → PierState) : (d.modPier f).bus = d.bus := rfl
@[simp] theorem Dev.modPier_access (d : Dev) (f : PierState → PierState) : (d.modPier f).access = d.access := rfl
@[simp] theorem Dev.modPier_raised (d : Dev) (f : PierState → PierState) : (d.modPier f).raised = d.raised := rfl
@[simp] theorem Dev.modPier_edges (d : Dev) (f : PierState → PierState) : (d.modPier f).edges = d.edges := rfl
@[simp] theorem Dev.modPier_lands (d : Dev) (f : PierState → PierState) : (d.modPier f).lands = d.lands := rfl
@[simp] theorem Dev.modPier_resp (d : Dev) (f : PierState → PierState) : (d.modPier f).resp = d.resp := rfl
@[simp] theorem Dev.modPier_capTrig (d : Dev) (f : PierState → PierState) : (d.modPier f).capTrig = d.capTrig := rfl
@[simp] theorem Dev.modPier_dma (d : Dev) (f : PierState → PierState) : (d.modPier f).dma = d.dma := rfl
@[simp] theorem Dev.modPier_nv (d : Dev) (f : PierState → PierState) : (d.modPier f).nv = d.nv := rfl
@[simp] theorem Dev.modPier_vol (d : Dev) (f : PierState → PierState) : (d.modPier f).vol = d.vol := rfl
@[simp] theorem Dev.modPier_get (d : Dev) (f : PierState → PierState) (g : Fld) : (d.modPier f).get g = d.get g := Dev.get_congr (by simp) g
@[simp] theorem Dev.modPier_bit (d : Dev) (f : PierState → PierState) (g : Fld) : (d.modPier f).bit g = d.bit g := by simp [Dev.bit]

@[simp] theorem Dev.setStored_regs (d : Dev) (k v : Nat) : (d.setStored k v).regs = d.regs := rfl
@[simp] theorem Dev.setStored_now (d : Dev) (k v : Nat) : (d.setStored k v).now = d.now := rfl
@[simp] theorem Dev.setStored_free (d : Dev) (k v : Nat) : (d.setStored k v).free = d.free := rfl
@[simp] theorem Dev.setStored_bus (d : Dev) (k v : Nat) : (d.setStored k v).bus = d.bus := rfl
@[simp] theorem Dev.setStored_access (d : Dev) (k v : Nat) : (d.setStored k v).access = d.access := rfl
@[simp] theorem Dev.setStored_raised (d : Dev) (k v : Nat) : (d.setStored k v).raised = d.raised := rfl
@[simp] theorem Dev.setStored_edges (d : Dev) (k v : Nat) : (d.setStored k v).edges = d.edges := rfl
@[simp] theorem Dev.setStored_lands (d : Dev) (k v : Nat) : (d.setStored k v).lands = d.lands := rfl
@[simp] theorem Dev.setStored_pier (d : Dev) (k v : Nat) : (d.setStored k v).pier = d.pier := rfl
@[simp] theorem Dev.setStored_resp (d : Dev) (k v : Nat) : (d.setStored k v).resp = d.resp := rfl
@[simp] theorem Dev.setStored_capTrig (d : Dev) (k v : Nat) : (d.setStored k v).capTrig = d.capTrig := rfl
@[simp] theorem Dev.setStored_dma (d : Dev) (k v : Nat) : (d.setStored k v).dma = d.dma := rfl
@[simp] theorem Dev.setStored_vol (d : Dev) (k v : Nat) : (d.setStored k v).vol = d.vol := rfl
@[simp] theorem Dev.setStored_get (d : Dev) (k v : Nat) (g : Fld) : (d.setStored k v).get g = d.get g := Dev.get_congr (by simp) g
@[simp] theorem Dev.setStored_bit (d : Dev) (k v : Nat) (g : Fld) : (d.setStored k v).bit g = d.bit g := by simp [Dev.bit]

@[simp] theorem Dev.setObjVal_regs (d : Dev) (i s v : Nat) : (d.setObjVal i s v).regs = d.regs := rfl
@[simp] theorem Dev.setObjVal_now (d : Dev) (i s v : Nat) : (d.setObjVal i s v).now = d.now := rfl
@[simp] theorem Dev.setObjVal_free (d : Dev) (i s v : Nat) : (d.setObjVal i s v).free = d.free := rfl
@[simp] theorem Dev.setObjVal_bus (d : Dev) (i s v : Nat) : (d.setObjVal i s v).bus = d.bus := rfl
@[simp] theorem Dev.setObjVal_access (d : Dev) (i s v : Nat) : (d.setObjVal i s v).access = d.access := rfl
@[simp] theorem Dev.setObjVal_raised (d : Dev) (i s v : Nat) : (d.setObjVal i s v).raised = d.raised := rfl
@[simp] theorem Dev.setObjVal_edges (d : Dev) (i s v : Nat) : (d.setObjVal i s v).edges = d.edges := rfl
@[simp] theorem Dev.setObjVal_lands (d : Dev) (i s v : Nat) : (d.setObjVal i s v).lands = d.lands := rfl
@[simp] theorem Dev.setObjVal_pier (d : Dev) (i s v : Nat) : (d.setObjVal i s v).pier = d.pier := rfl
@[simp] theorem Dev.setObjVal_resp (d : Dev) (i s v : Nat) : (d.setObjVal i s v).resp = d.resp := rfl
@[simp] theorem Dev.setObjVal_capTrig (d : Dev) (i s v : Nat) : (d.setObjVal i s v).capTrig = d.capTrig := rfl
@[simp] theorem Dev.setObjVal_dma (d : Dev) (i s v : Nat) : (d.setObjVal i s v).dma = d.dma := rfl
@[simp] theorem Dev.setObjVal_nv (d : Dev) (i s v : Nat) : (d.setObjVal i s v).nv = d.nv := rfl
@[simp] theorem Dev.setObjVal_get (d : Dev) (i s v : Nat) (g : Fld) : (d.setObjVal i s v).get g = d.get g := Dev.get_congr (by simp) g
@[simp] theorem Dev.setObjVal_bit (d : Dev) (i s v : Nat) (g : Fld) : (d.setObjVal i s v).bit g = d.bit g := by simp [Dev.bit]
@[simp] theorem Dev.setObjVal_vol_start (d : Dev) (i s v : Nat) : (d.setObjVal i s v).vol.start = d.vol.start := rfl
@[simp] theorem Dev.setObjVal_vol_ana (d : Dev) (i s v : Nat) : (d.setObjVal i s v).vol.ana = d.vol.ana := rfl
@[simp] theorem Dev.setObjVal_vol_pos (d : Dev) (i s v : Nat) : (d.setObjVal i s v).vol.pos = d.vol.pos := rfl
@[simp] theorem Dev.setObjVal_vol_eng (d : Dev) (i s v : Nat) : (d.setObjVal i s v).vol.eng = d.vol.eng := rfl
@[simp] theorem Dev.setObjVal_vol_ce (d : Dev) (i s v : Nat) : (d.setObjVal i s v).vol.ce = d.vol.ce := rfl
@[simp] theorem Dev.setObjVal_vol_mod (d : Dev) (i s v : Nat) : (d.setObjVal i s v).vol.mod = d.vol.mod := rfl
@[simp] theorem Dev.setObjVal_vol_gl (d : Dev) (i s v : Nat) : (d.setObjVal i s v).vol.gl = d.vol.gl := rfl
@[simp] theorem Dev.setObjVal_vol_stopTimed (d : Dev) (i s v : Nat) : (d.setObjVal i s v).vol.stopTimed = d.vol.stopTimed := rfl
@[simp] theorem Dev.setObjVal_vol_th (d : Dev) (i s v : Nat) : (d.setObjVal i s v).vol.th = d.vol.th := rfl
@[simp] theorem Dev.setObjVal_vol_safe (d : Dev) (i s v : Nat) : (d.setObjVal i s v).vol.safe = d.vol.safe := rfl
@[simp] theorem Dev.setObjVal_vol_net (d : Dev) (i s v : Nat) : (d.setObjVal i s v).vol.net = d.vol.net := rfl
@[simp] theorem Dev.setObjVal_vol_flt (d : Dev) (i s v : Nat) : (d.setObjVal i s v).vol.flt = d.vol.flt := rfl
@[simp] theorem Dev.setObjVal_vol_ks (d : Dev) (i s v : Nat) : (d.setObjVal i s v).vol.ks = d.vol.ks := rfl
@[simp] theorem Dev.setObjVal_vol_dict (d : Dev) (i s v : Nat) : (d.setObjVal i s v).vol.dict = d.vol.dict := rfl
@[simp] theorem Dev.setObjVal_vol_lg (d : Dev) (i s v : Nat) : (d.setObjVal i s v).vol.lg = d.vol.lg := rfl
@[simp] theorem Dev.setObjVal_vol_cap (d : Dev) (i s v : Nat) : (d.setObjVal i s v).vol.cap = d.vol.cap := rfl

@[simp] theorem Dev.busOk_bus (d : Dev) (v : Nat) : (d.busOk v).bus = { error := false, data := v } := rfl
@[simp] theorem Dev.busFault_bus (d : Dev) (m : Master) (a : Nat) (w : Bool) : (d.busFault m a w).bus = { error := true, data := 0 } := by simp [Dev.busFault]

/-- A master that is there sees the bus error; another makes no access. -/
theorem Dev.busError_there (d : Dev) (m : Master) (a : Nat) (w : Bool) (h : d.masterExists m = true) : d.busError m a w = d.busFault m a w := by
  simp [Dev.busError, h]
theorem Dev.busError_absent (d : Dev) (m : Master) (a : Nat) (w : Bool) (h : d.masterExists m = false) : d.busError m a w = d := by
  simp [Dev.busError, h]
@[simp] theorem Dev.answer_resp (d : Dev) (x n : Nat) : (d.answer x n).resp = { code := 0, detail := 0, data := x, len := n } := rfl

/-! ### Updates of a block -/

@[simp] theorem Dev.modAna_regs (d : Dev) (f : AnaState → AnaState) : (d.modAna f).regs = d.regs := rfl
@[simp] theorem Dev.modAna_now (d : Dev) (f : AnaState → AnaState) : (d.modAna f).now = d.now := rfl
@[simp] theorem Dev.modAna_free (d : Dev) (f : AnaState → AnaState) : (d.modAna f).free = d.free := rfl
@[simp] theorem Dev.modAna_bus (d : Dev) (f : AnaState → AnaState) : (d.modAna f).bus = d.bus := rfl
@[simp] theorem Dev.modAna_access (d : Dev) (f : AnaState → AnaState) : (d.modAna f).access = d.access := rfl
@[simp] theorem Dev.modAna_raised (d : Dev) (f : AnaState → AnaState) : (d.modAna f).raised = d.raised := rfl
@[simp] theorem Dev.modAna_edges (d : Dev) (f : AnaState → AnaState) : (d.modAna f).edges = d.edges := rfl
@[simp] theorem Dev.modAna_lands (d : Dev) (f : AnaState → AnaState) : (d.modAna f).lands = d.lands := rfl
@[simp] theorem Dev.modAna_pier (d : Dev) (f : AnaState → AnaState) : (d.modAna f).pier = d.pier := rfl
@[simp] theorem Dev.modAna_resp (d : Dev) (f : AnaState → AnaState) : (d.modAna f).resp = d.resp := rfl
@[simp] theorem Dev.modAna_capTrig (d : Dev) (f : AnaState → AnaState) : (d.modAna f).capTrig = d.capTrig := rfl
@[simp] theorem Dev.modAna_dma (d : Dev) (f : AnaState → AnaState) : (d.modAna f).dma = d.dma := rfl
@[simp] theorem Dev.modAna_nv (d : Dev) (f : AnaState → AnaState) : (d.modAna f).nv = d.nv := rfl
@[simp] theorem Dev.modAna_vol_start (d : Dev) (f : AnaState → AnaState) : (d.modAna f).vol.start = d.vol.start := rfl
@[simp] theorem Dev.modAna_vol_pos (d : Dev) (f : AnaState → AnaState) : (d.modAna f).vol.pos = d.vol.pos := rfl
@[simp] theorem Dev.modAna_vol_eng (d : Dev) (f : AnaState → AnaState) : (d.modAna f).vol.eng = d.vol.eng := rfl
@[simp] theorem Dev.modAna_vol_ce (d : Dev) (f : AnaState → AnaState) : (d.modAna f).vol.ce = d.vol.ce := rfl
@[simp] theorem Dev.modAna_vol_mod (d : Dev) (f : AnaState → AnaState) : (d.modAna f).vol.mod = d.vol.mod := rfl
@[simp] theorem Dev.modAna_vol_gl (d : Dev) (f : AnaState → AnaState) : (d.modAna f).vol.gl = d.vol.gl := rfl
@[simp] theorem Dev.modAna_vol_objs (d : Dev) (f : AnaState → AnaState) : (d.modAna f).vol.objs = d.vol.objs := rfl
@[simp] theorem Dev.modAna_vol_stopTimed (d : Dev) (f : AnaState → AnaState) : (d.modAna f).vol.stopTimed = d.vol.stopTimed := rfl
@[simp] theorem Dev.modAna_vol_th (d : Dev) (f : AnaState → AnaState) : (d.modAna f).vol.th = d.vol.th := rfl
@[simp] theorem Dev.modAna_vol_safe (d : Dev) (f : AnaState → AnaState) : (d.modAna f).vol.safe = d.vol.safe := rfl
@[simp] theorem Dev.modAna_vol_net (d : Dev) (f : AnaState → AnaState) : (d.modAna f).vol.net = d.vol.net := rfl
@[simp] theorem Dev.modAna_vol_flt (d : Dev) (f : AnaState → AnaState) : (d.modAna f).vol.flt = d.vol.flt := rfl
@[simp] theorem Dev.modAna_vol_ks (d : Dev) (f : AnaState → AnaState) : (d.modAna f).vol.ks = d.vol.ks := rfl
@[simp] theorem Dev.modAna_vol_dict (d : Dev) (f : AnaState → AnaState) : (d.modAna f).vol.dict = d.vol.dict := rfl
@[simp] theorem Dev.modAna_vol_lg (d : Dev) (f : AnaState → AnaState) : (d.modAna f).vol.lg = d.vol.lg := rfl
@[simp] theorem Dev.modAna_vol_cap (d : Dev) (f : AnaState → AnaState) : (d.modAna f).vol.cap = d.vol.cap := rfl
@[simp] theorem Dev.modAna_vol_ana (d : Dev) (f : AnaState → AnaState) : (d.modAna f).vol.ana = f d.vol.ana := rfl
@[simp] theorem Dev.modAna_get (d : Dev) (f : AnaState → AnaState) (g : Fld) : (d.modAna f).get g = d.get g := rfl
@[simp] theorem Dev.modAna_bit (d : Dev) (f : AnaState → AnaState) (g : Fld) : (d.modAna f).bit g = d.bit g := rfl

@[simp] theorem Dev.modPos_regs (d : Dev) (p : Fin 2) (f : PosState → PosState) : (d.modPos p f).regs = d.regs := rfl
@[simp] theorem Dev.modPos_now (d : Dev) (p : Fin 2) (f : PosState → PosState) : (d.modPos p f).now = d.now := rfl
@[simp] theorem Dev.modPos_free (d : Dev) (p : Fin 2) (f : PosState → PosState) : (d.modPos p f).free = d.free := rfl
@[simp] theorem Dev.modPos_bus (d : Dev) (p : Fin 2) (f : PosState → PosState) : (d.modPos p f).bus = d.bus := rfl
@[simp] theorem Dev.modPos_access (d : Dev) (p : Fin 2) (f : PosState → PosState) : (d.modPos p f).access = d.access := rfl
@[simp] theorem Dev.modPos_raised (d : Dev) (p : Fin 2) (f : PosState → PosState) : (d.modPos p f).raised = d.raised := rfl
@[simp] theorem Dev.modPos_edges (d : Dev) (p : Fin 2) (f : PosState → PosState) : (d.modPos p f).edges = d.edges := rfl
@[simp] theorem Dev.modPos_lands (d : Dev) (p : Fin 2) (f : PosState → PosState) : (d.modPos p f).lands = d.lands := rfl
@[simp] theorem Dev.modPos_pier (d : Dev) (p : Fin 2) (f : PosState → PosState) : (d.modPos p f).pier = d.pier := rfl
@[simp] theorem Dev.modPos_resp (d : Dev) (p : Fin 2) (f : PosState → PosState) : (d.modPos p f).resp = d.resp := rfl
@[simp] theorem Dev.modPos_capTrig (d : Dev) (p : Fin 2) (f : PosState → PosState) : (d.modPos p f).capTrig = d.capTrig := rfl
@[simp] theorem Dev.modPos_dma (d : Dev) (p : Fin 2) (f : PosState → PosState) : (d.modPos p f).dma = d.dma := rfl
@[simp] theorem Dev.modPos_nv (d : Dev) (p : Fin 2) (f : PosState → PosState) : (d.modPos p f).nv = d.nv := rfl
@[simp] theorem Dev.modPos_vol_start (d : Dev) (p : Fin 2) (f : PosState → PosState) : (d.modPos p f).vol.start = d.vol.start := rfl
@[simp] theorem Dev.modPos_vol_ana (d : Dev) (p : Fin 2) (f : PosState → PosState) : (d.modPos p f).vol.ana = d.vol.ana := rfl
@[simp] theorem Dev.modPos_vol_eng (d : Dev) (p : Fin 2) (f : PosState → PosState) : (d.modPos p f).vol.eng = d.vol.eng := rfl
@[simp] theorem Dev.modPos_vol_ce (d : Dev) (p : Fin 2) (f : PosState → PosState) : (d.modPos p f).vol.ce = d.vol.ce := rfl
@[simp] theorem Dev.modPos_vol_mod (d : Dev) (p : Fin 2) (f : PosState → PosState) : (d.modPos p f).vol.mod = d.vol.mod := rfl
@[simp] theorem Dev.modPos_vol_gl (d : Dev) (p : Fin 2) (f : PosState → PosState) : (d.modPos p f).vol.gl = d.vol.gl := rfl
@[simp] theorem Dev.modPos_vol_objs (d : Dev) (p : Fin 2) (f : PosState → PosState) : (d.modPos p f).vol.objs = d.vol.objs := rfl
@[simp] theorem Dev.modPos_vol_stopTimed (d : Dev) (p : Fin 2) (f : PosState → PosState) : (d.modPos p f).vol.stopTimed = d.vol.stopTimed := rfl
@[simp] theorem Dev.modPos_vol_th (d : Dev) (p : Fin 2) (f : PosState → PosState) : (d.modPos p f).vol.th = d.vol.th := rfl
@[simp] theorem Dev.modPos_vol_safe (d : Dev) (p : Fin 2) (f : PosState → PosState) : (d.modPos p f).vol.safe = d.vol.safe := rfl
@[simp] theorem Dev.modPos_vol_net (d : Dev) (p : Fin 2) (f : PosState → PosState) : (d.modPos p f).vol.net = d.vol.net := rfl
@[simp] theorem Dev.modPos_vol_flt (d : Dev) (p : Fin 2) (f : PosState → PosState) : (d.modPos p f).vol.flt = d.vol.flt := rfl
@[simp] theorem Dev.modPos_vol_ks (d : Dev) (p : Fin 2) (f : PosState → PosState) : (d.modPos p f).vol.ks = d.vol.ks := rfl
@[simp] theorem Dev.modPos_vol_dict (d : Dev) (p : Fin 2) (f : PosState → PosState) : (d.modPos p f).vol.dict = d.vol.dict := rfl
@[simp] theorem Dev.modPos_vol_lg (d : Dev) (p : Fin 2) (f : PosState → PosState) : (d.modPos p f).vol.lg = d.vol.lg := rfl
@[simp] theorem Dev.modPos_vol_cap (d : Dev) (p : Fin 2) (f : PosState → PosState) : (d.modPos p f).vol.cap = d.vol.cap := rfl
@[simp] theorem Dev.modPos_get (d : Dev) (p : Fin 2) (f : PosState → PosState) (g : Fld) : (d.modPos p f).get g = d.get g := rfl
@[simp] theorem Dev.modPos_bit (d : Dev) (p : Fin 2) (f : PosState → PosState) (g : Fld) : (d.modPos p f).bit g = d.bit g := rfl

@[simp] theorem Dev.modEng_regs (d : Dev) (b : Bridge) (f : EngState → EngState) : (d.modEng b f).regs = d.regs := rfl
@[simp] theorem Dev.modEng_now (d : Dev) (b : Bridge) (f : EngState → EngState) : (d.modEng b f).now = d.now := rfl
@[simp] theorem Dev.modEng_free (d : Dev) (b : Bridge) (f : EngState → EngState) : (d.modEng b f).free = d.free := rfl
@[simp] theorem Dev.modEng_bus (d : Dev) (b : Bridge) (f : EngState → EngState) : (d.modEng b f).bus = d.bus := rfl
@[simp] theorem Dev.modEng_access (d : Dev) (b : Bridge) (f : EngState → EngState) : (d.modEng b f).access = d.access := rfl
@[simp] theorem Dev.modEng_raised (d : Dev) (b : Bridge) (f : EngState → EngState) : (d.modEng b f).raised = d.raised := rfl
@[simp] theorem Dev.modEng_edges (d : Dev) (b : Bridge) (f : EngState → EngState) : (d.modEng b f).edges = d.edges := rfl
@[simp] theorem Dev.modEng_lands (d : Dev) (b : Bridge) (f : EngState → EngState) : (d.modEng b f).lands = d.lands := rfl
@[simp] theorem Dev.modEng_pier (d : Dev) (b : Bridge) (f : EngState → EngState) : (d.modEng b f).pier = d.pier := rfl
@[simp] theorem Dev.modEng_resp (d : Dev) (b : Bridge) (f : EngState → EngState) : (d.modEng b f).resp = d.resp := rfl
@[simp] theorem Dev.modEng_capTrig (d : Dev) (b : Bridge) (f : EngState → EngState) : (d.modEng b f).capTrig = d.capTrig := rfl
@[simp] theorem Dev.modEng_dma (d : Dev) (b : Bridge) (f : EngState → EngState) : (d.modEng b f).dma = d.dma := rfl
@[simp] theorem Dev.modEng_nv (d : Dev) (b : Bridge) (f : EngState → EngState) : (d.modEng b f).nv = d.nv := rfl
@[simp] theorem Dev.modEng_vol_start (d : Dev) (b : Bridge) (f : EngState → EngState) : (d.modEng b f).vol.start = d.vol.start := rfl
@[simp] theorem Dev.modEng_vol_ana (d : Dev) (b : Bridge) (f : EngState → EngState) : (d.modEng b f).vol.ana = d.vol.ana := rfl
@[simp] theorem Dev.modEng_vol_pos (d : Dev) (b : Bridge) (f : EngState → EngState) : (d.modEng b f).vol.pos = d.vol.pos := rfl
@[simp] theorem Dev.modEng_vol_ce (d : Dev) (b : Bridge) (f : EngState → EngState) : (d.modEng b f).vol.ce = d.vol.ce := rfl
@[simp] theorem Dev.modEng_vol_mod (d : Dev) (b : Bridge) (f : EngState → EngState) : (d.modEng b f).vol.mod = d.vol.mod := rfl
@[simp] theorem Dev.modEng_vol_gl (d : Dev) (b : Bridge) (f : EngState → EngState) : (d.modEng b f).vol.gl = d.vol.gl := rfl
@[simp] theorem Dev.modEng_vol_objs (d : Dev) (b : Bridge) (f : EngState → EngState) : (d.modEng b f).vol.objs = d.vol.objs := rfl
@[simp] theorem Dev.modEng_vol_stopTimed (d : Dev) (b : Bridge) (f : EngState → EngState) : (d.modEng b f).vol.stopTimed = d.vol.stopTimed := rfl
@[simp] theorem Dev.modEng_vol_th (d : Dev) (b : Bridge) (f : EngState → EngState) : (d.modEng b f).vol.th = d.vol.th := rfl
@[simp] theorem Dev.modEng_vol_safe (d : Dev) (b : Bridge) (f : EngState → EngState) : (d.modEng b f).vol.safe = d.vol.safe := rfl
@[simp] theorem Dev.modEng_vol_net (d : Dev) (b : Bridge) (f : EngState → EngState) : (d.modEng b f).vol.net = d.vol.net := rfl
@[simp] theorem Dev.modEng_vol_flt (d : Dev) (b : Bridge) (f : EngState → EngState) : (d.modEng b f).vol.flt = d.vol.flt := rfl
@[simp] theorem Dev.modEng_vol_ks (d : Dev) (b : Bridge) (f : EngState → EngState) : (d.modEng b f).vol.ks = d.vol.ks := rfl
@[simp] theorem Dev.modEng_vol_dict (d : Dev) (b : Bridge) (f : EngState → EngState) : (d.modEng b f).vol.dict = d.vol.dict := rfl
@[simp] theorem Dev.modEng_vol_lg (d : Dev) (b : Bridge) (f : EngState → EngState) : (d.modEng b f).vol.lg = d.vol.lg := rfl
@[simp] theorem Dev.modEng_vol_cap (d : Dev) (b : Bridge) (f : EngState → EngState) : (d.modEng b f).vol.cap = d.vol.cap := rfl
@[simp] theorem Dev.modEng_get (d : Dev) (b : Bridge) (f : EngState → EngState) (g : Fld) : (d.modEng b f).get g = d.get g := rfl
@[simp] theorem Dev.modEng_bit (d : Dev) (b : Bridge) (f : EngState → EngState) (g : Fld) : (d.modEng b f).bit g = d.bit g := rfl

@[simp] theorem Dev.modCe_regs (d : Dev) (f : EngShared → EngShared) : (d.modCe f).regs = d.regs := rfl
@[simp] theorem Dev.modCe_now (d : Dev) (f : EngShared → EngShared) : (d.modCe f).now = d.now := rfl
@[simp] theorem Dev.modCe_free (d : Dev) (f : EngShared → EngShared) : (d.modCe f).free = d.free := rfl
@[simp] theorem Dev.modCe_bus (d : Dev) (f : EngShared → EngShared) : (d.modCe f).bus = d.bus := rfl
@[simp] theorem Dev.modCe_access (d : Dev) (f : EngShared → EngShared) : (d.modCe f).access = d.access := rfl
@[simp] theorem Dev.modCe_raised (d : Dev) (f : EngShared → EngShared) : (d.modCe f).raised = d.raised := rfl
@[simp] theorem Dev.modCe_edges (d : Dev) (f : EngShared → EngShared) : (d.modCe f).edges = d.edges := rfl
@[simp] theorem Dev.modCe_lands (d : Dev) (f : EngShared → EngShared) : (d.modCe f).lands = d.lands := rfl
@[simp] theorem Dev.modCe_pier (d : Dev) (f : EngShared → EngShared) : (d.modCe f).pier = d.pier := rfl
@[simp] theorem Dev.modCe_resp (d : Dev) (f : EngShared → EngShared) : (d.modCe f).resp = d.resp := rfl
@[simp] theorem Dev.modCe_capTrig (d : Dev) (f : EngShared → EngShared) : (d.modCe f).capTrig = d.capTrig := rfl
@[simp] theorem Dev.modCe_dma (d : Dev) (f : EngShared → EngShared) : (d.modCe f).dma = d.dma := rfl
@[simp] theorem Dev.modCe_nv (d : Dev) (f : EngShared → EngShared) : (d.modCe f).nv = d.nv := rfl
@[simp] theorem Dev.modCe_vol_start (d : Dev) (f : EngShared → EngShared) : (d.modCe f).vol.start = d.vol.start := rfl
@[simp] theorem Dev.modCe_vol_ana (d : Dev) (f : EngShared → EngShared) : (d.modCe f).vol.ana = d.vol.ana := rfl
@[simp] theorem Dev.modCe_vol_pos (d : Dev) (f : EngShared → EngShared) : (d.modCe f).vol.pos = d.vol.pos := rfl
@[simp] theorem Dev.modCe_vol_eng (d : Dev) (f : EngShared → EngShared) : (d.modCe f).vol.eng = d.vol.eng := rfl
@[simp] theorem Dev.modCe_vol_mod (d : Dev) (f : EngShared → EngShared) : (d.modCe f).vol.mod = d.vol.mod := rfl
@[simp] theorem Dev.modCe_vol_gl (d : Dev) (f : EngShared → EngShared) : (d.modCe f).vol.gl = d.vol.gl := rfl
@[simp] theorem Dev.modCe_vol_objs (d : Dev) (f : EngShared → EngShared) : (d.modCe f).vol.objs = d.vol.objs := rfl
@[simp] theorem Dev.modCe_vol_stopTimed (d : Dev) (f : EngShared → EngShared) : (d.modCe f).vol.stopTimed = d.vol.stopTimed := rfl
@[simp] theorem Dev.modCe_vol_th (d : Dev) (f : EngShared → EngShared) : (d.modCe f).vol.th = d.vol.th := rfl
@[simp] theorem Dev.modCe_vol_safe (d : Dev) (f : EngShared → EngShared) : (d.modCe f).vol.safe = d.vol.safe := rfl
@[simp] theorem Dev.modCe_vol_net (d : Dev) (f : EngShared → EngShared) : (d.modCe f).vol.net = d.vol.net := rfl
@[simp] theorem Dev.modCe_vol_flt (d : Dev) (f : EngShared → EngShared) : (d.modCe f).vol.flt = d.vol.flt := rfl
@[simp] theorem Dev.modCe_vol_ks (d : Dev) (f : EngShared → EngShared) : (d.modCe f).vol.ks = d.vol.ks := rfl
@[simp] theorem Dev.modCe_vol_dict (d : Dev) (f : EngShared → EngShared) : (d.modCe f).vol.dict = d.vol.dict := rfl
@[simp] theorem Dev.modCe_vol_lg (d : Dev) (f : EngShared → EngShared) : (d.modCe f).vol.lg = d.vol.lg := rfl
@[simp] theorem Dev.modCe_vol_cap (d : Dev) (f : EngShared → EngShared) : (d.modCe f).vol.cap = d.vol.cap := rfl
@[simp] theorem Dev.modCe_vol_ce (d : Dev) (f : EngShared → EngShared) : (d.modCe f).vol.ce = f d.vol.ce := rfl
@[simp] theorem Dev.modCe_get (d : Dev) (f : EngShared → EngShared) (g : Fld) : (d.modCe f).get g = d.get g := rfl
@[simp] theorem Dev.modCe_bit (d : Dev) (f : EngShared → EngShared) (g : Fld) : (d.modCe f).bit g = d.bit g := rfl

@[simp] theorem Dev.modMod_regs (d : Dev) (x : Bridge) (f : ModState → ModState) : (d.modMod x f).regs = d.regs := rfl
@[simp] theorem Dev.modMod_now (d : Dev) (x : Bridge) (f : ModState → ModState) : (d.modMod x f).now = d.now := rfl
@[simp] theorem Dev.modMod_free (d : Dev) (x : Bridge) (f : ModState → ModState) : (d.modMod x f).free = d.free := rfl
@[simp] theorem Dev.modMod_bus (d : Dev) (x : Bridge) (f : ModState → ModState) : (d.modMod x f).bus = d.bus := rfl
@[simp] theorem Dev.modMod_access (d : Dev) (x : Bridge) (f : ModState → ModState) : (d.modMod x f).access = d.access := rfl
@[simp] theorem Dev.modMod_raised (d : Dev) (x : Bridge) (f : ModState → ModState) : (d.modMod x f).raised = d.raised := rfl
@[simp] theorem Dev.modMod_edges (d : Dev) (x : Bridge) (f : ModState → ModState) : (d.modMod x f).edges = d.edges := rfl
@[simp] theorem Dev.modMod_lands (d : Dev) (x : Bridge) (f : ModState → ModState) : (d.modMod x f).lands = d.lands := rfl
@[simp] theorem Dev.modMod_pier (d : Dev) (x : Bridge) (f : ModState → ModState) : (d.modMod x f).pier = d.pier := rfl
@[simp] theorem Dev.modMod_resp (d : Dev) (x : Bridge) (f : ModState → ModState) : (d.modMod x f).resp = d.resp := rfl
@[simp] theorem Dev.modMod_capTrig (d : Dev) (x : Bridge) (f : ModState → ModState) : (d.modMod x f).capTrig = d.capTrig := rfl
@[simp] theorem Dev.modMod_dma (d : Dev) (x : Bridge) (f : ModState → ModState) : (d.modMod x f).dma = d.dma := rfl
@[simp] theorem Dev.modMod_nv (d : Dev) (x : Bridge) (f : ModState → ModState) : (d.modMod x f).nv = d.nv := rfl
@[simp] theorem Dev.modMod_vol_start (d : Dev) (x : Bridge) (f : ModState → ModState) : (d.modMod x f).vol.start = d.vol.start := rfl
@[simp] theorem Dev.modMod_vol_ana (d : Dev) (x : Bridge) (f : ModState → ModState) : (d.modMod x f).vol.ana = d.vol.ana := rfl
@[simp] theorem Dev.modMod_vol_pos (d : Dev) (x : Bridge) (f : ModState → ModState) : (d.modMod x f).vol.pos = d.vol.pos := rfl
@[simp] theorem Dev.modMod_vol_eng (d : Dev) (x : Bridge) (f : ModState → ModState) : (d.modMod x f).vol.eng = d.vol.eng := rfl
@[simp] theorem Dev.modMod_vol_ce (d : Dev) (x : Bridge) (f : ModState → ModState) : (d.modMod x f).vol.ce = d.vol.ce := rfl
@[simp] theorem Dev.modMod_vol_gl (d : Dev) (x : Bridge) (f : ModState → ModState) : (d.modMod x f).vol.gl = d.vol.gl := rfl
@[simp] theorem Dev.modMod_vol_objs (d : Dev) (x : Bridge) (f : ModState → ModState) : (d.modMod x f).vol.objs = d.vol.objs := rfl
@[simp] theorem Dev.modMod_vol_stopTimed (d : Dev) (x : Bridge) (f : ModState → ModState) : (d.modMod x f).vol.stopTimed = d.vol.stopTimed := rfl
@[simp] theorem Dev.modMod_vol_th (d : Dev) (x : Bridge) (f : ModState → ModState) : (d.modMod x f).vol.th = d.vol.th := rfl
@[simp] theorem Dev.modMod_vol_safe (d : Dev) (x : Bridge) (f : ModState → ModState) : (d.modMod x f).vol.safe = d.vol.safe := rfl
@[simp] theorem Dev.modMod_vol_net (d : Dev) (x : Bridge) (f : ModState → ModState) : (d.modMod x f).vol.net = d.vol.net := rfl
@[simp] theorem Dev.modMod_vol_flt (d : Dev) (x : Bridge) (f : ModState → ModState) : (d.modMod x f).vol.flt = d.vol.flt := rfl
@[simp] theorem Dev.modMod_vol_ks (d : Dev) (x : Bridge) (f : ModState → ModState) : (d.modMod x f).vol.ks = d.vol.ks := rfl
@[simp] theorem Dev.modMod_vol_dict (d : Dev) (x : Bridge) (f : ModState → ModState) : (d.modMod x f).vol.dict = d.vol.dict := rfl
@[simp] theorem Dev.modMod_vol_lg (d : Dev) (x : Bridge) (f : ModState → ModState) : (d.modMod x f).vol.lg = d.vol.lg := rfl
@[simp] theorem Dev.modMod_vol_cap (d : Dev) (x : Bridge) (f : ModState → ModState) : (d.modMod x f).vol.cap = d.vol.cap := rfl
@[simp] theorem Dev.modMod_get (d : Dev) (x : Bridge) (f : ModState → ModState) (g : Fld) : (d.modMod x f).get g = d.get g := rfl
@[simp] theorem Dev.modMod_bit (d : Dev) (x : Bridge) (f : ModState → ModState) (g : Fld) : (d.modMod x f).bit g = d.bit g := rfl

@[simp] theorem Dev.modGl_regs (d : Dev) (f : GateLink → GateLink) : (d.modGl f).regs = d.regs := rfl
@[simp] theorem Dev.modGl_now (d : Dev) (f : GateLink → GateLink) : (d.modGl f).now = d.now := rfl
@[simp] theorem Dev.modGl_free (d : Dev) (f : GateLink → GateLink) : (d.modGl f).free = d.free := rfl
@[simp] theorem Dev.modGl_bus (d : Dev) (f : GateLink → GateLink) : (d.modGl f).bus = d.bus := rfl
@[simp] theorem Dev.modGl_access (d : Dev) (f : GateLink → GateLink) : (d.modGl f).access = d.access := rfl
@[simp] theorem Dev.modGl_raised (d : Dev) (f : GateLink → GateLink) : (d.modGl f).raised = d.raised := rfl
@[simp] theorem Dev.modGl_edges (d : Dev) (f : GateLink → GateLink) : (d.modGl f).edges = d.edges := rfl
@[simp] theorem Dev.modGl_lands (d : Dev) (f : GateLink → GateLink) : (d.modGl f).lands = d.lands := rfl
@[simp] theorem Dev.modGl_pier (d : Dev) (f : GateLink → GateLink) : (d.modGl f).pier = d.pier := rfl
@[simp] theorem Dev.modGl_resp (d : Dev) (f : GateLink → GateLink) : (d.modGl f).resp = d.resp := rfl
@[simp] theorem Dev.modGl_capTrig (d : Dev) (f : GateLink → GateLink) : (d.modGl f).capTrig = d.capTrig := rfl
@[simp] theorem Dev.modGl_dma (d : Dev) (f : GateLink → GateLink) : (d.modGl f).dma = d.dma := rfl
@[simp] theorem Dev.modGl_nv (d : Dev) (f : GateLink → GateLink) : (d.modGl f).nv = d.nv := rfl
@[simp] theorem Dev.modGl_vol_start (d : Dev) (f : GateLink → GateLink) : (d.modGl f).vol.start = d.vol.start := rfl
@[simp] theorem Dev.modGl_vol_ana (d : Dev) (f : GateLink → GateLink) : (d.modGl f).vol.ana = d.vol.ana := rfl
@[simp] theorem Dev.modGl_vol_pos (d : Dev) (f : GateLink → GateLink) : (d.modGl f).vol.pos = d.vol.pos := rfl
@[simp] theorem Dev.modGl_vol_eng (d : Dev) (f : GateLink → GateLink) : (d.modGl f).vol.eng = d.vol.eng := rfl
@[simp] theorem Dev.modGl_vol_ce (d : Dev) (f : GateLink → GateLink) : (d.modGl f).vol.ce = d.vol.ce := rfl
@[simp] theorem Dev.modGl_vol_mod (d : Dev) (f : GateLink → GateLink) : (d.modGl f).vol.mod = d.vol.mod := rfl
@[simp] theorem Dev.modGl_vol_objs (d : Dev) (f : GateLink → GateLink) : (d.modGl f).vol.objs = d.vol.objs := rfl
@[simp] theorem Dev.modGl_vol_stopTimed (d : Dev) (f : GateLink → GateLink) : (d.modGl f).vol.stopTimed = d.vol.stopTimed := rfl
@[simp] theorem Dev.modGl_vol_th (d : Dev) (f : GateLink → GateLink) : (d.modGl f).vol.th = d.vol.th := rfl
@[simp] theorem Dev.modGl_vol_safe (d : Dev) (f : GateLink → GateLink) : (d.modGl f).vol.safe = d.vol.safe := rfl
@[simp] theorem Dev.modGl_vol_net (d : Dev) (f : GateLink → GateLink) : (d.modGl f).vol.net = d.vol.net := rfl
@[simp] theorem Dev.modGl_vol_flt (d : Dev) (f : GateLink → GateLink) : (d.modGl f).vol.flt = d.vol.flt := rfl
@[simp] theorem Dev.modGl_vol_ks (d : Dev) (f : GateLink → GateLink) : (d.modGl f).vol.ks = d.vol.ks := rfl
@[simp] theorem Dev.modGl_vol_dict (d : Dev) (f : GateLink → GateLink) : (d.modGl f).vol.dict = d.vol.dict := rfl
@[simp] theorem Dev.modGl_vol_lg (d : Dev) (f : GateLink → GateLink) : (d.modGl f).vol.lg = d.vol.lg := rfl
@[simp] theorem Dev.modGl_vol_cap (d : Dev) (f : GateLink → GateLink) : (d.modGl f).vol.cap = d.vol.cap := rfl
@[simp] theorem Dev.modGl_vol_gl (d : Dev) (f : GateLink → GateLink) : (d.modGl f).vol.gl = f d.vol.gl := rfl
@[simp] theorem Dev.modGl_get (d : Dev) (f : GateLink → GateLink) (g : Fld) : (d.modGl f).get g = d.get g := rfl
@[simp] theorem Dev.modGl_bit (d : Dev) (f : GateLink → GateLink) (g : Fld) : (d.modGl f).bit g = d.bit g := rfl

@[simp] theorem Dev.modGate_regs (d : Dev) (n : Chan) (f : GateState → GateState) : (d.modGate n f).regs = d.regs := rfl
@[simp] theorem Dev.modGate_now (d : Dev) (n : Chan) (f : GateState → GateState) : (d.modGate n f).now = d.now := rfl
@[simp] theorem Dev.modGate_free (d : Dev) (n : Chan) (f : GateState → GateState) : (d.modGate n f).free = d.free := rfl
@[simp] theorem Dev.modGate_bus (d : Dev) (n : Chan) (f : GateState → GateState) : (d.modGate n f).bus = d.bus := rfl
@[simp] theorem Dev.modGate_access (d : Dev) (n : Chan) (f : GateState → GateState) : (d.modGate n f).access = d.access := rfl
@[simp] theorem Dev.modGate_raised (d : Dev) (n : Chan) (f : GateState → GateState) : (d.modGate n f).raised = d.raised := rfl
@[simp] theorem Dev.modGate_edges (d : Dev) (n : Chan) (f : GateState → GateState) : (d.modGate n f).edges = d.edges := rfl
@[simp] theorem Dev.modGate_lands (d : Dev) (n : Chan) (f : GateState → GateState) : (d.modGate n f).lands = d.lands := rfl
@[simp] theorem Dev.modGate_pier (d : Dev) (n : Chan) (f : GateState → GateState) : (d.modGate n f).pier = d.pier := rfl
@[simp] theorem Dev.modGate_resp (d : Dev) (n : Chan) (f : GateState → GateState) : (d.modGate n f).resp = d.resp := rfl
@[simp] theorem Dev.modGate_capTrig (d : Dev) (n : Chan) (f : GateState → GateState) : (d.modGate n f).capTrig = d.capTrig := rfl
@[simp] theorem Dev.modGate_dma (d : Dev) (n : Chan) (f : GateState → GateState) : (d.modGate n f).dma = d.dma := rfl
@[simp] theorem Dev.modGate_nv (d : Dev) (n : Chan) (f : GateState → GateState) : (d.modGate n f).nv = d.nv := rfl
@[simp] theorem Dev.modGate_vol_start (d : Dev) (n : Chan) (f : GateState → GateState) : (d.modGate n f).vol.start = d.vol.start := rfl
@[simp] theorem Dev.modGate_vol_ana (d : Dev) (n : Chan) (f : GateState → GateState) : (d.modGate n f).vol.ana = d.vol.ana := rfl
@[simp] theorem Dev.modGate_vol_pos (d : Dev) (n : Chan) (f : GateState → GateState) : (d.modGate n f).vol.pos = d.vol.pos := rfl
@[simp] theorem Dev.modGate_vol_eng (d : Dev) (n : Chan) (f : GateState → GateState) : (d.modGate n f).vol.eng = d.vol.eng := rfl
@[simp] theorem Dev.modGate_vol_ce (d : Dev) (n : Chan) (f : GateState → GateState) : (d.modGate n f).vol.ce = d.vol.ce := rfl
@[simp] theorem Dev.modGate_vol_mod (d : Dev) (n : Chan) (f : GateState → GateState) : (d.modGate n f).vol.mod = d.vol.mod := rfl
@[simp] theorem Dev.modGate_vol_objs (d : Dev) (n : Chan) (f : GateState → GateState) : (d.modGate n f).vol.objs = d.vol.objs := rfl
@[simp] theorem Dev.modGate_vol_stopTimed (d : Dev) (n : Chan) (f : GateState → GateState) : (d.modGate n f).vol.stopTimed = d.vol.stopTimed := rfl
@[simp] theorem Dev.modGate_vol_th (d : Dev) (n : Chan) (f : GateState → GateState) : (d.modGate n f).vol.th = d.vol.th := rfl
@[simp] theorem Dev.modGate_vol_safe (d : Dev) (n : Chan) (f : GateState → GateState) : (d.modGate n f).vol.safe = d.vol.safe := rfl
@[simp] theorem Dev.modGate_vol_net (d : Dev) (n : Chan) (f : GateState → GateState) : (d.modGate n f).vol.net = d.vol.net := rfl
@[simp] theorem Dev.modGate_vol_flt (d : Dev) (n : Chan) (f : GateState → GateState) : (d.modGate n f).vol.flt = d.vol.flt := rfl
@[simp] theorem Dev.modGate_vol_ks (d : Dev) (n : Chan) (f : GateState → GateState) : (d.modGate n f).vol.ks = d.vol.ks := rfl
@[simp] theorem Dev.modGate_vol_dict (d : Dev) (n : Chan) (f : GateState → GateState) : (d.modGate n f).vol.dict = d.vol.dict := rfl
@[simp] theorem Dev.modGate_vol_lg (d : Dev) (n : Chan) (f : GateState → GateState) : (d.modGate n f).vol.lg = d.vol.lg := rfl
@[simp] theorem Dev.modGate_vol_cap (d : Dev) (n : Chan) (f : GateState → GateState) : (d.modGate n f).vol.cap = d.vol.cap := rfl
@[simp] theorem Dev.modGate_get (d : Dev) (n : Chan) (f : GateState → GateState) (g : Fld) : (d.modGate n f).get g = d.get g := rfl
@[simp] theorem Dev.modGate_bit (d : Dev) (n : Chan) (f : GateState → GateState) (g : Fld) : (d.modGate n f).bit g = d.bit g := rfl

@[simp] theorem Dev.modTh_regs (d : Dev) (f : ThermState → ThermState) : (d.modTh f).regs = d.regs := rfl
@[simp] theorem Dev.modTh_now (d : Dev) (f : ThermState → ThermState) : (d.modTh f).now = d.now := rfl
@[simp] theorem Dev.modTh_free (d : Dev) (f : ThermState → ThermState) : (d.modTh f).free = d.free := rfl
@[simp] theorem Dev.modTh_bus (d : Dev) (f : ThermState → ThermState) : (d.modTh f).bus = d.bus := rfl
@[simp] theorem Dev.modTh_access (d : Dev) (f : ThermState → ThermState) : (d.modTh f).access = d.access := rfl
@[simp] theorem Dev.modTh_raised (d : Dev) (f : ThermState → ThermState) : (d.modTh f).raised = d.raised := rfl
@[simp] theorem Dev.modTh_edges (d : Dev) (f : ThermState → ThermState) : (d.modTh f).edges = d.edges := rfl
@[simp] theorem Dev.modTh_lands (d : Dev) (f : ThermState → ThermState) : (d.modTh f).lands = d.lands := rfl
@[simp] theorem Dev.modTh_pier (d : Dev) (f : ThermState → ThermState) : (d.modTh f).pier = d.pier := rfl
@[simp] theorem Dev.modTh_resp (d : Dev) (f : ThermState → ThermState) : (d.modTh f).resp = d.resp := rfl
@[simp] theorem Dev.modTh_capTrig (d : Dev) (f : ThermState → ThermState) : (d.modTh f).capTrig = d.capTrig := rfl
@[simp] theorem Dev.modTh_dma (d : Dev) (f : ThermState → ThermState) : (d.modTh f).dma = d.dma := rfl
@[simp] theorem Dev.modTh_nv (d : Dev) (f : ThermState → ThermState) : (d.modTh f).nv = d.nv := rfl
@[simp] theorem Dev.modTh_vol_start (d : Dev) (f : ThermState → ThermState) : (d.modTh f).vol.start = d.vol.start := rfl
@[simp] theorem Dev.modTh_vol_ana (d : Dev) (f : ThermState → ThermState) : (d.modTh f).vol.ana = d.vol.ana := rfl
@[simp] theorem Dev.modTh_vol_pos (d : Dev) (f : ThermState → ThermState) : (d.modTh f).vol.pos = d.vol.pos := rfl
@[simp] theorem Dev.modTh_vol_eng (d : Dev) (f : ThermState → ThermState) : (d.modTh f).vol.eng = d.vol.eng := rfl
@[simp] theorem Dev.modTh_vol_ce (d : Dev) (f : ThermState → ThermState) : (d.modTh f).vol.ce = d.vol.ce := rfl
@[simp] theorem Dev.modTh_vol_mod (d : Dev) (f : ThermState → ThermState) : (d.modTh f).vol.mod = d.vol.mod := rfl
@[simp] theorem Dev.modTh_vol_gl (d : Dev) (f : ThermState → ThermState) : (d.modTh f).vol.gl = d.vol.gl := rfl
@[simp] theorem Dev.modTh_vol_objs (d : Dev) (f : ThermState → ThermState) : (d.modTh f).vol.objs = d.vol.objs := rfl
@[simp] theorem Dev.modTh_vol_stopTimed (d : Dev) (f : ThermState → ThermState) : (d.modTh f).vol.stopTimed = d.vol.stopTimed := rfl
@[simp] theorem Dev.modTh_vol_safe (d : Dev) (f : ThermState → ThermState) : (d.modTh f).vol.safe = d.vol.safe := rfl
@[simp] theorem Dev.modTh_vol_net (d : Dev) (f : ThermState → ThermState) : (d.modTh f).vol.net = d.vol.net := rfl
@[simp] theorem Dev.modTh_vol_flt (d : Dev) (f : ThermState → ThermState) : (d.modTh f).vol.flt = d.vol.flt := rfl
@[simp] theorem Dev.modTh_vol_ks (d : Dev) (f : ThermState → ThermState) : (d.modTh f).vol.ks = d.vol.ks := rfl
@[simp] theorem Dev.modTh_vol_dict (d : Dev) (f : ThermState → ThermState) : (d.modTh f).vol.dict = d.vol.dict := rfl
@[simp] theorem Dev.modTh_vol_lg (d : Dev) (f : ThermState → ThermState) : (d.modTh f).vol.lg = d.vol.lg := rfl
@[simp] theorem Dev.modTh_vol_cap (d : Dev) (f : ThermState → ThermState) : (d.modTh f).vol.cap = d.vol.cap := rfl
@[simp] theorem Dev.modTh_vol_th (d : Dev) (f : ThermState → ThermState) : (d.modTh f).vol.th = f d.vol.th := rfl
@[simp] theorem Dev.modTh_get (d : Dev) (f : ThermState → ThermState) (g : Fld) : (d.modTh f).get g = d.get g := rfl
@[simp] theorem Dev.modTh_bit (d : Dev) (f : ThermState → ThermState) (g : Fld) : (d.modTh f).bit g = d.bit g := rfl

@[simp] theorem Dev.modSafe_regs (d : Dev) (f : SafeState → SafeState) : (d.modSafe f).regs = d.regs := rfl
@[simp] theorem Dev.modSafe_now (d : Dev) (f : SafeState → SafeState) : (d.modSafe f).now = d.now := rfl
@[simp] theorem Dev.modSafe_free (d : Dev) (f : SafeState → SafeState) : (d.modSafe f).free = d.free := rfl
@[simp] theorem Dev.modSafe_bus (d : Dev) (f : SafeState → SafeState) : (d.modSafe f).bus = d.bus := rfl
@[simp] theorem Dev.modSafe_access (d : Dev) (f : SafeState → SafeState) : (d.modSafe f).access = d.access := rfl
@[simp] theorem Dev.modSafe_raised (d : Dev) (f : SafeState → SafeState) : (d.modSafe f).raised = d.raised := rfl
@[simp] theorem Dev.modSafe_edges (d : Dev) (f : SafeState → SafeState) : (d.modSafe f).edges = d.edges := rfl
@[simp] theorem Dev.modSafe_lands (d : Dev) (f : SafeState → SafeState) : (d.modSafe f).lands = d.lands := rfl
@[simp] theorem Dev.modSafe_pier (d : Dev) (f : SafeState → SafeState) : (d.modSafe f).pier = d.pier := rfl
@[simp] theorem Dev.modSafe_resp (d : Dev) (f : SafeState → SafeState) : (d.modSafe f).resp = d.resp := rfl
@[simp] theorem Dev.modSafe_capTrig (d : Dev) (f : SafeState → SafeState) : (d.modSafe f).capTrig = d.capTrig := rfl
@[simp] theorem Dev.modSafe_dma (d : Dev) (f : SafeState → SafeState) : (d.modSafe f).dma = d.dma := rfl
@[simp] theorem Dev.modSafe_nv (d : Dev) (f : SafeState → SafeState) : (d.modSafe f).nv = d.nv := rfl
@[simp] theorem Dev.modSafe_vol_start (d : Dev) (f : SafeState → SafeState) : (d.modSafe f).vol.start = d.vol.start := rfl
@[simp] theorem Dev.modSafe_vol_ana (d : Dev) (f : SafeState → SafeState) : (d.modSafe f).vol.ana = d.vol.ana := rfl
@[simp] theorem Dev.modSafe_vol_pos (d : Dev) (f : SafeState → SafeState) : (d.modSafe f).vol.pos = d.vol.pos := rfl
@[simp] theorem Dev.modSafe_vol_eng (d : Dev) (f : SafeState → SafeState) : (d.modSafe f).vol.eng = d.vol.eng := rfl
@[simp] theorem Dev.modSafe_vol_ce (d : Dev) (f : SafeState → SafeState) : (d.modSafe f).vol.ce = d.vol.ce := rfl
@[simp] theorem Dev.modSafe_vol_mod (d : Dev) (f : SafeState → SafeState) : (d.modSafe f).vol.mod = d.vol.mod := rfl
@[simp] theorem Dev.modSafe_vol_gl (d : Dev) (f : SafeState → SafeState) : (d.modSafe f).vol.gl = d.vol.gl := rfl
@[simp] theorem Dev.modSafe_vol_objs (d : Dev) (f : SafeState → SafeState) : (d.modSafe f).vol.objs = d.vol.objs := rfl
@[simp] theorem Dev.modSafe_vol_stopTimed (d : Dev) (f : SafeState → SafeState) : (d.modSafe f).vol.stopTimed = d.vol.stopTimed := rfl
@[simp] theorem Dev.modSafe_vol_th (d : Dev) (f : SafeState → SafeState) : (d.modSafe f).vol.th = d.vol.th := rfl
@[simp] theorem Dev.modSafe_vol_net (d : Dev) (f : SafeState → SafeState) : (d.modSafe f).vol.net = d.vol.net := rfl
@[simp] theorem Dev.modSafe_vol_flt (d : Dev) (f : SafeState → SafeState) : (d.modSafe f).vol.flt = d.vol.flt := rfl
@[simp] theorem Dev.modSafe_vol_ks (d : Dev) (f : SafeState → SafeState) : (d.modSafe f).vol.ks = d.vol.ks := rfl
@[simp] theorem Dev.modSafe_vol_dict (d : Dev) (f : SafeState → SafeState) : (d.modSafe f).vol.dict = d.vol.dict := rfl
@[simp] theorem Dev.modSafe_vol_lg (d : Dev) (f : SafeState → SafeState) : (d.modSafe f).vol.lg = d.vol.lg := rfl
@[simp] theorem Dev.modSafe_vol_cap (d : Dev) (f : SafeState → SafeState) : (d.modSafe f).vol.cap = d.vol.cap := rfl
@[simp] theorem Dev.modSafe_vol_safe (d : Dev) (f : SafeState → SafeState) : (d.modSafe f).vol.safe = f d.vol.safe := rfl
@[simp] theorem Dev.modSafe_get (d : Dev) (f : SafeState → SafeState) (g : Fld) : (d.modSafe f).get g = d.get g := rfl
@[simp] theorem Dev.modSafe_bit (d : Dev) (f : SafeState → SafeState) (g : Fld) : (d.modSafe f).bit g = d.bit g := rfl

@[simp] theorem Dev.modNet_regs (d : Dev) (f : NetState → NetState) : (d.modNet f).regs = d.regs := rfl
@[simp] theorem Dev.modNet_now (d : Dev) (f : NetState → NetState) : (d.modNet f).now = d.now := rfl
@[simp] theorem Dev.modNet_free (d : Dev) (f : NetState → NetState) : (d.modNet f).free = d.free := rfl
@[simp] theorem Dev.modNet_bus (d : Dev) (f : NetState → NetState) : (d.modNet f).bus = d.bus := rfl
@[simp] theorem Dev.modNet_access (d : Dev) (f : NetState → NetState) : (d.modNet f).access = d.access := rfl
@[simp] theorem Dev.modNet_raised (d : Dev) (f : NetState → NetState) : (d.modNet f).raised = d.raised := rfl
@[simp] theorem Dev.modNet_edges (d : Dev) (f : NetState → NetState) : (d.modNet f).edges = d.edges := rfl
@[simp] theorem Dev.modNet_lands (d : Dev) (f : NetState → NetState) : (d.modNet f).lands = d.lands := rfl
@[simp] theorem Dev.modNet_pier (d : Dev) (f : NetState → NetState) : (d.modNet f).pier = d.pier := rfl
@[simp] theorem Dev.modNet_resp (d : Dev) (f : NetState → NetState) : (d.modNet f).resp = d.resp := rfl
@[simp] theorem Dev.modNet_capTrig (d : Dev) (f : NetState → NetState) : (d.modNet f).capTrig = d.capTrig := rfl
@[simp] theorem Dev.modNet_dma (d : Dev) (f : NetState → NetState) : (d.modNet f).dma = d.dma := rfl
@[simp] theorem Dev.modNet_nv (d : Dev) (f : NetState → NetState) : (d.modNet f).nv = d.nv := rfl
@[simp] theorem Dev.modNet_vol_start (d : Dev) (f : NetState → NetState) : (d.modNet f).vol.start = d.vol.start := rfl
@[simp] theorem Dev.modNet_vol_ana (d : Dev) (f : NetState → NetState) : (d.modNet f).vol.ana = d.vol.ana := rfl
@[simp] theorem Dev.modNet_vol_pos (d : Dev) (f : NetState → NetState) : (d.modNet f).vol.pos = d.vol.pos := rfl
@[simp] theorem Dev.modNet_vol_eng (d : Dev) (f : NetState → NetState) : (d.modNet f).vol.eng = d.vol.eng := rfl
@[simp] theorem Dev.modNet_vol_ce (d : Dev) (f : NetState → NetState) : (d.modNet f).vol.ce = d.vol.ce := rfl
@[simp] theorem Dev.modNet_vol_mod (d : Dev) (f : NetState → NetState) : (d.modNet f).vol.mod = d.vol.mod := rfl
@[simp] theorem Dev.modNet_vol_gl (d : Dev) (f : NetState → NetState) : (d.modNet f).vol.gl = d.vol.gl := rfl
@[simp] theorem Dev.modNet_vol_objs (d : Dev) (f : NetState → NetState) : (d.modNet f).vol.objs = d.vol.objs := rfl
@[simp] theorem Dev.modNet_vol_stopTimed (d : Dev) (f : NetState → NetState) : (d.modNet f).vol.stopTimed = d.vol.stopTimed := rfl
@[simp] theorem Dev.modNet_vol_th (d : Dev) (f : NetState → NetState) : (d.modNet f).vol.th = d.vol.th := rfl
@[simp] theorem Dev.modNet_vol_safe (d : Dev) (f : NetState → NetState) : (d.modNet f).vol.safe = d.vol.safe := rfl
@[simp] theorem Dev.modNet_vol_flt (d : Dev) (f : NetState → NetState) : (d.modNet f).vol.flt = d.vol.flt := rfl
@[simp] theorem Dev.modNet_vol_ks (d : Dev) (f : NetState → NetState) : (d.modNet f).vol.ks = d.vol.ks := rfl
@[simp] theorem Dev.modNet_vol_dict (d : Dev) (f : NetState → NetState) : (d.modNet f).vol.dict = d.vol.dict := rfl
@[simp] theorem Dev.modNet_vol_lg (d : Dev) (f : NetState → NetState) : (d.modNet f).vol.lg = d.vol.lg := rfl
@[simp] theorem Dev.modNet_vol_cap (d : Dev) (f : NetState → NetState) : (d.modNet f).vol.cap = d.vol.cap := rfl
@[simp] theorem Dev.modNet_vol_net (d : Dev) (f : NetState → NetState) : (d.modNet f).vol.net = f d.vol.net := rfl
@[simp] theorem Dev.modNet_get (d : Dev) (f : NetState → NetState) (g : Fld) : (d.modNet f).get g = d.get g := rfl
@[simp] theorem Dev.modNet_bit (d : Dev) (f : NetState → NetState) (g : Fld) : (d.modNet f).bit g = d.bit g := rfl

@[simp] theorem Dev.modPort_regs (d : Dev) (p : Fin 4) (f : CanPort → CanPort) : (d.modPort p f).regs = d.regs := rfl
@[simp] theorem Dev.modPort_now (d : Dev) (p : Fin 4) (f : CanPort → CanPort) : (d.modPort p f).now = d.now := rfl
@[simp] theorem Dev.modPort_free (d : Dev) (p : Fin 4) (f : CanPort → CanPort) : (d.modPort p f).free = d.free := rfl
@[simp] theorem Dev.modPort_bus (d : Dev) (p : Fin 4) (f : CanPort → CanPort) : (d.modPort p f).bus = d.bus := rfl
@[simp] theorem Dev.modPort_access (d : Dev) (p : Fin 4) (f : CanPort → CanPort) : (d.modPort p f).access = d.access := rfl
@[simp] theorem Dev.modPort_raised (d : Dev) (p : Fin 4) (f : CanPort → CanPort) : (d.modPort p f).raised = d.raised := rfl
@[simp] theorem Dev.modPort_edges (d : Dev) (p : Fin 4) (f : CanPort → CanPort) : (d.modPort p f).edges = d.edges := rfl
@[simp] theorem Dev.modPort_lands (d : Dev) (p : Fin 4) (f : CanPort → CanPort) : (d.modPort p f).lands = d.lands := rfl
@[simp] theorem Dev.modPort_pier (d : Dev) (p : Fin 4) (f : CanPort → CanPort) : (d.modPort p f).pier = d.pier := rfl
@[simp] theorem Dev.modPort_resp (d : Dev) (p : Fin 4) (f : CanPort → CanPort) : (d.modPort p f).resp = d.resp := rfl
@[simp] theorem Dev.modPort_capTrig (d : Dev) (p : Fin 4) (f : CanPort → CanPort) : (d.modPort p f).capTrig = d.capTrig := rfl
@[simp] theorem Dev.modPort_dma (d : Dev) (p : Fin 4) (f : CanPort → CanPort) : (d.modPort p f).dma = d.dma := rfl
@[simp] theorem Dev.modPort_nv (d : Dev) (p : Fin 4) (f : CanPort → CanPort) : (d.modPort p f).nv = d.nv := rfl
@[simp] theorem Dev.modPort_vol_start (d : Dev) (p : Fin 4) (f : CanPort → CanPort) : (d.modPort p f).vol.start = d.vol.start := rfl
@[simp] theorem Dev.modPort_vol_ana (d : Dev) (p : Fin 4) (f : CanPort → CanPort) : (d.modPort p f).vol.ana = d.vol.ana := rfl
@[simp] theorem Dev.modPort_vol_pos (d : Dev) (p : Fin 4) (f : CanPort → CanPort) : (d.modPort p f).vol.pos = d.vol.pos := rfl
@[simp] theorem Dev.modPort_vol_eng (d : Dev) (p : Fin 4) (f : CanPort → CanPort) : (d.modPort p f).vol.eng = d.vol.eng := rfl
@[simp] theorem Dev.modPort_vol_ce (d : Dev) (p : Fin 4) (f : CanPort → CanPort) : (d.modPort p f).vol.ce = d.vol.ce := rfl
@[simp] theorem Dev.modPort_vol_mod (d : Dev) (p : Fin 4) (f : CanPort → CanPort) : (d.modPort p f).vol.mod = d.vol.mod := rfl
@[simp] theorem Dev.modPort_vol_gl (d : Dev) (p : Fin 4) (f : CanPort → CanPort) : (d.modPort p f).vol.gl = d.vol.gl := rfl
@[simp] theorem Dev.modPort_vol_objs (d : Dev) (p : Fin 4) (f : CanPort → CanPort) : (d.modPort p f).vol.objs = d.vol.objs := rfl
@[simp] theorem Dev.modPort_vol_stopTimed (d : Dev) (p : Fin 4) (f : CanPort → CanPort) : (d.modPort p f).vol.stopTimed = d.vol.stopTimed := rfl
@[simp] theorem Dev.modPort_vol_th (d : Dev) (p : Fin 4) (f : CanPort → CanPort) : (d.modPort p f).vol.th = d.vol.th := rfl
@[simp] theorem Dev.modPort_vol_safe (d : Dev) (p : Fin 4) (f : CanPort → CanPort) : (d.modPort p f).vol.safe = d.vol.safe := rfl
@[simp] theorem Dev.modPort_vol_flt (d : Dev) (p : Fin 4) (f : CanPort → CanPort) : (d.modPort p f).vol.flt = d.vol.flt := rfl
@[simp] theorem Dev.modPort_vol_ks (d : Dev) (p : Fin 4) (f : CanPort → CanPort) : (d.modPort p f).vol.ks = d.vol.ks := rfl
@[simp] theorem Dev.modPort_vol_dict (d : Dev) (p : Fin 4) (f : CanPort → CanPort) : (d.modPort p f).vol.dict = d.vol.dict := rfl
@[simp] theorem Dev.modPort_vol_lg (d : Dev) (p : Fin 4) (f : CanPort → CanPort) : (d.modPort p f).vol.lg = d.vol.lg := rfl
@[simp] theorem Dev.modPort_vol_cap (d : Dev) (p : Fin 4) (f : CanPort → CanPort) : (d.modPort p f).vol.cap = d.vol.cap := rfl
@[simp] theorem Dev.modPort_get (d : Dev) (p : Fin 4) (f : CanPort → CanPort) (g : Fld) : (d.modPort p f).get g = d.get g := rfl
@[simp] theorem Dev.modPort_bit (d : Dev) (p : Fin 4) (f : CanPort → CanPort) (g : Fld) : (d.modPort p f).bit g = d.bit g := rfl

@[simp] theorem Dev.modFlt_regs (d : Dev) (f : FltState → FltState) : (d.modFlt f).regs = d.regs := rfl
@[simp] theorem Dev.modFlt_now (d : Dev) (f : FltState → FltState) : (d.modFlt f).now = d.now := rfl
@[simp] theorem Dev.modFlt_free (d : Dev) (f : FltState → FltState) : (d.modFlt f).free = d.free := rfl
@[simp] theorem Dev.modFlt_bus (d : Dev) (f : FltState → FltState) : (d.modFlt f).bus = d.bus := rfl
@[simp] theorem Dev.modFlt_access (d : Dev) (f : FltState → FltState) : (d.modFlt f).access = d.access := rfl
@[simp] theorem Dev.modFlt_raised (d : Dev) (f : FltState → FltState) : (d.modFlt f).raised = d.raised := rfl
@[simp] theorem Dev.modFlt_edges (d : Dev) (f : FltState → FltState) : (d.modFlt f).edges = d.edges := rfl
@[simp] theorem Dev.modFlt_lands (d : Dev) (f : FltState → FltState) : (d.modFlt f).lands = d.lands := rfl
@[simp] theorem Dev.modFlt_pier (d : Dev) (f : FltState → FltState) : (d.modFlt f).pier = d.pier := rfl
@[simp] theorem Dev.modFlt_resp (d : Dev) (f : FltState → FltState) : (d.modFlt f).resp = d.resp := rfl
@[simp] theorem Dev.modFlt_capTrig (d : Dev) (f : FltState → FltState) : (d.modFlt f).capTrig = d.capTrig := rfl
@[simp] theorem Dev.modFlt_dma (d : Dev) (f : FltState → FltState) : (d.modFlt f).dma = d.dma := rfl
@[simp] theorem Dev.modFlt_nv (d : Dev) (f : FltState → FltState) : (d.modFlt f).nv = d.nv := rfl
@[simp] theorem Dev.modFlt_vol_start (d : Dev) (f : FltState → FltState) : (d.modFlt f).vol.start = d.vol.start := rfl
@[simp] theorem Dev.modFlt_vol_ana (d : Dev) (f : FltState → FltState) : (d.modFlt f).vol.ana = d.vol.ana := rfl
@[simp] theorem Dev.modFlt_vol_pos (d : Dev) (f : FltState → FltState) : (d.modFlt f).vol.pos = d.vol.pos := rfl
@[simp] theorem Dev.modFlt_vol_eng (d : Dev) (f : FltState → FltState) : (d.modFlt f).vol.eng = d.vol.eng := rfl
@[simp] theorem Dev.modFlt_vol_ce (d : Dev) (f : FltState → FltState) : (d.modFlt f).vol.ce = d.vol.ce := rfl
@[simp] theorem Dev.modFlt_vol_mod (d : Dev) (f : FltState → FltState) : (d.modFlt f).vol.mod = d.vol.mod := rfl
@[simp] theorem Dev.modFlt_vol_gl (d : Dev) (f : FltState → FltState) : (d.modFlt f).vol.gl = d.vol.gl := rfl
@[simp] theorem Dev.modFlt_vol_objs (d : Dev) (f : FltState → FltState) : (d.modFlt f).vol.objs = d.vol.objs := rfl
@[simp] theorem Dev.modFlt_vol_stopTimed (d : Dev) (f : FltState → FltState) : (d.modFlt f).vol.stopTimed = d.vol.stopTimed := rfl
@[simp] theorem Dev.modFlt_vol_th (d : Dev) (f : FltState → FltState) : (d.modFlt f).vol.th = d.vol.th := rfl
@[simp] theorem Dev.modFlt_vol_safe (d : Dev) (f : FltState → FltState) : (d.modFlt f).vol.safe = d.vol.safe := rfl
@[simp] theorem Dev.modFlt_vol_net (d : Dev) (f : FltState → FltState) : (d.modFlt f).vol.net = d.vol.net := rfl
@[simp] theorem Dev.modFlt_vol_ks (d : Dev) (f : FltState → FltState) : (d.modFlt f).vol.ks = d.vol.ks := rfl
@[simp] theorem Dev.modFlt_vol_dict (d : Dev) (f : FltState → FltState) : (d.modFlt f).vol.dict = d.vol.dict := rfl
@[simp] theorem Dev.modFlt_vol_lg (d : Dev) (f : FltState → FltState) : (d.modFlt f).vol.lg = d.vol.lg := rfl
@[simp] theorem Dev.modFlt_vol_cap (d : Dev) (f : FltState → FltState) : (d.modFlt f).vol.cap = d.vol.cap := rfl
@[simp] theorem Dev.modFlt_vol_flt (d : Dev) (f : FltState → FltState) : (d.modFlt f).vol.flt = f d.vol.flt := rfl
@[simp] theorem Dev.modFlt_get (d : Dev) (f : FltState → FltState) (g : Fld) : (d.modFlt f).get g = d.get g := rfl
@[simp] theorem Dev.modFlt_bit (d : Dev) (f : FltState → FltState) (g : Fld) : (d.modFlt f).bit g = d.bit g := rfl

@[simp] theorem Dev.modKs_regs (d : Dev) (f : KsState → KsState) : (d.modKs f).regs = d.regs := rfl
@[simp] theorem Dev.modKs_now (d : Dev) (f : KsState → KsState) : (d.modKs f).now = d.now := rfl
@[simp] theorem Dev.modKs_free (d : Dev) (f : KsState → KsState) : (d.modKs f).free = d.free := rfl
@[simp] theorem Dev.modKs_bus (d : Dev) (f : KsState → KsState) : (d.modKs f).bus = d.bus := rfl
@[simp] theorem Dev.modKs_access (d : Dev) (f : KsState → KsState) : (d.modKs f).access = d.access := rfl
@[simp] theorem Dev.modKs_raised (d : Dev) (f : KsState → KsState) : (d.modKs f).raised = d.raised := rfl
@[simp] theorem Dev.modKs_edges (d : Dev) (f : KsState → KsState) : (d.modKs f).edges = d.edges := rfl
@[simp] theorem Dev.modKs_lands (d : Dev) (f : KsState → KsState) : (d.modKs f).lands = d.lands := rfl
@[simp] theorem Dev.modKs_pier (d : Dev) (f : KsState → KsState) : (d.modKs f).pier = d.pier := rfl
@[simp] theorem Dev.modKs_resp (d : Dev) (f : KsState → KsState) : (d.modKs f).resp = d.resp := rfl
@[simp] theorem Dev.modKs_capTrig (d : Dev) (f : KsState → KsState) : (d.modKs f).capTrig = d.capTrig := rfl
@[simp] theorem Dev.modKs_dma (d : Dev) (f : KsState → KsState) : (d.modKs f).dma = d.dma := rfl
@[simp] theorem Dev.modKs_nv (d : Dev) (f : KsState → KsState) : (d.modKs f).nv = d.nv := rfl
@[simp] theorem Dev.modKs_vol_start (d : Dev) (f : KsState → KsState) : (d.modKs f).vol.start = d.vol.start := rfl
@[simp] theorem Dev.modKs_vol_ana (d : Dev) (f : KsState → KsState) : (d.modKs f).vol.ana = d.vol.ana := rfl
@[simp] theorem Dev.modKs_vol_pos (d : Dev) (f : KsState → KsState) : (d.modKs f).vol.pos = d.vol.pos := rfl
@[simp] theorem Dev.modKs_vol_eng (d : Dev) (f : KsState → KsState) : (d.modKs f).vol.eng = d.vol.eng := rfl
@[simp] theorem Dev.modKs_vol_ce (d : Dev) (f : KsState → KsState) : (d.modKs f).vol.ce = d.vol.ce := rfl
@[simp] theorem Dev.modKs_vol_mod (d : Dev) (f : KsState → KsState) : (d.modKs f).vol.mod = d.vol.mod := rfl
@[simp] theorem Dev.modKs_vol_gl (d : Dev) (f : KsState → KsState) : (d.modKs f).vol.gl = d.vol.gl := rfl
@[simp] theorem Dev.modKs_vol_objs (d : Dev) (f : KsState → KsState) : (d.modKs f).vol.objs = d.vol.objs := rfl
@[simp] theorem Dev.modKs_vol_stopTimed (d : Dev) (f : KsState → KsState) : (d.modKs f).vol.stopTimed = d.vol.stopTimed := rfl
@[simp] theorem Dev.modKs_vol_th (d : Dev) (f : KsState → KsState) : (d.modKs f).vol.th = d.vol.th := rfl
@[simp] theorem Dev.modKs_vol_safe (d : Dev) (f : KsState → KsState) : (d.modKs f).vol.safe = d.vol.safe := rfl
@[simp] theorem Dev.modKs_vol_net (d : Dev) (f : KsState → KsState) : (d.modKs f).vol.net = d.vol.net := rfl
@[simp] theorem Dev.modKs_vol_flt (d : Dev) (f : KsState → KsState) : (d.modKs f).vol.flt = d.vol.flt := rfl
@[simp] theorem Dev.modKs_vol_dict (d : Dev) (f : KsState → KsState) : (d.modKs f).vol.dict = d.vol.dict := rfl
@[simp] theorem Dev.modKs_vol_lg (d : Dev) (f : KsState → KsState) : (d.modKs f).vol.lg = d.vol.lg := rfl
@[simp] theorem Dev.modKs_vol_cap (d : Dev) (f : KsState → KsState) : (d.modKs f).vol.cap = d.vol.cap := rfl
@[simp] theorem Dev.modKs_vol_ks (d : Dev) (f : KsState → KsState) : (d.modKs f).vol.ks = f d.vol.ks := rfl
@[simp] theorem Dev.modKs_get (d : Dev) (f : KsState → KsState) (g : Fld) : (d.modKs f).get g = d.get g := rfl
@[simp] theorem Dev.modKs_bit (d : Dev) (f : KsState → KsState) (g : Fld) : (d.modKs f).bit g = d.bit g := rfl

@[simp] theorem Dev.modDict_regs (d : Dev) (f : DictState → DictState) : (d.modDict f).regs = d.regs := rfl
@[simp] theorem Dev.modDict_now (d : Dev) (f : DictState → DictState) : (d.modDict f).now = d.now := rfl
@[simp] theorem Dev.modDict_free (d : Dev) (f : DictState → DictState) : (d.modDict f).free = d.free := rfl
@[simp] theorem Dev.modDict_bus (d : Dev) (f : DictState → DictState) : (d.modDict f).bus = d.bus := rfl
@[simp] theorem Dev.modDict_access (d : Dev) (f : DictState → DictState) : (d.modDict f).access = d.access := rfl
@[simp] theorem Dev.modDict_raised (d : Dev) (f : DictState → DictState) : (d.modDict f).raised = d.raised := rfl
@[simp] theorem Dev.modDict_edges (d : Dev) (f : DictState → DictState) : (d.modDict f).edges = d.edges := rfl
@[simp] theorem Dev.modDict_lands (d : Dev) (f : DictState → DictState) : (d.modDict f).lands = d.lands := rfl
@[simp] theorem Dev.modDict_pier (d : Dev) (f : DictState → DictState) : (d.modDict f).pier = d.pier := rfl
@[simp] theorem Dev.modDict_resp (d : Dev) (f : DictState → DictState) : (d.modDict f).resp = d.resp := rfl
@[simp] theorem Dev.modDict_capTrig (d : Dev) (f : DictState → DictState) : (d.modDict f).capTrig = d.capTrig := rfl
@[simp] theorem Dev.modDict_dma (d : Dev) (f : DictState → DictState) : (d.modDict f).dma = d.dma := rfl
@[simp] theorem Dev.modDict_nv (d : Dev) (f : DictState → DictState) : (d.modDict f).nv = d.nv := rfl
@[simp] theorem Dev.modDict_vol_start (d : Dev) (f : DictState → DictState) : (d.modDict f).vol.start = d.vol.start := rfl
@[simp] theorem Dev.modDict_vol_ana (d : Dev) (f : DictState → DictState) : (d.modDict f).vol.ana = d.vol.ana := rfl
@[simp] theorem Dev.modDict_vol_pos (d : Dev) (f : DictState → DictState) : (d.modDict f).vol.pos = d.vol.pos := rfl
@[simp] theorem Dev.modDict_vol_eng (d : Dev) (f : DictState → DictState) : (d.modDict f).vol.eng = d.vol.eng := rfl
@[simp] theorem Dev.modDict_vol_ce (d : Dev) (f : DictState → DictState) : (d.modDict f).vol.ce = d.vol.ce := rfl
@[simp] theorem Dev.modDict_vol_mod (d : Dev) (f : DictState → DictState) : (d.modDict f).vol.mod = d.vol.mod := rfl
@[simp] theorem Dev.modDict_vol_gl (d : Dev) (f : DictState → DictState) : (d.modDict f).vol.gl = d.vol.gl := rfl
@[simp] theorem Dev.modDict_vol_objs (d : Dev) (f : DictState → DictState) : (d.modDict f).vol.objs = d.vol.objs := rfl
@[simp] theorem Dev.modDict_vol_stopTimed (d : Dev) (f : DictState → DictState) : (d.modDict f).vol.stopTimed = d.vol.stopTimed := rfl
@[simp] theorem Dev.modDict_vol_th (d : Dev) (f : DictState → DictState) : (d.modDict f).vol.th = d.vol.th := rfl
@[simp] theorem Dev.modDict_vol_safe (d : Dev) (f : DictState → DictState) : (d.modDict f).vol.safe = d.vol.safe := rfl
@[simp] theorem Dev.modDict_vol_net (d : Dev) (f : DictState → DictState) : (d.modDict f).vol.net = d.vol.net := rfl
@[simp] theorem Dev.modDict_vol_flt (d : Dev) (f : DictState → DictState) : (d.modDict f).vol.flt = d.vol.flt := rfl
@[simp] theorem Dev.modDict_vol_ks (d : Dev) (f : DictState → DictState) : (d.modDict f).vol.ks = d.vol.ks := rfl
@[simp] theorem Dev.modDict_vol_lg (d : Dev) (f : DictState → DictState) : (d.modDict f).vol.lg = d.vol.lg := rfl
@[simp] theorem Dev.modDict_vol_cap (d : Dev) (f : DictState → DictState) : (d.modDict f).vol.cap = d.vol.cap := rfl
@[simp] theorem Dev.modDict_vol_dict (d : Dev) (f : DictState → DictState) : (d.modDict f).vol.dict = f d.vol.dict := rfl
@[simp] theorem Dev.modDict_get (d : Dev) (f : DictState → DictState) (g : Fld) : (d.modDict f).get g = d.get g := rfl
@[simp] theorem Dev.modDict_bit (d : Dev) (f : DictState → DictState) (g : Fld) : (d.modDict f).bit g = d.bit g := rfl

@[simp] theorem Dev.modLg_regs (d : Dev) (f : LedgerState → LedgerState) : (d.modLg f).regs = d.regs := rfl
@[simp] theorem Dev.modLg_now (d : Dev) (f : LedgerState → LedgerState) : (d.modLg f).now = d.now := rfl
@[simp] theorem Dev.modLg_free (d : Dev) (f : LedgerState → LedgerState) : (d.modLg f).free = d.free := rfl
@[simp] theorem Dev.modLg_bus (d : Dev) (f : LedgerState → LedgerState) : (d.modLg f).bus = d.bus := rfl
@[simp] theorem Dev.modLg_access (d : Dev) (f : LedgerState → LedgerState) : (d.modLg f).access = d.access := rfl
@[simp] theorem Dev.modLg_raised (d : Dev) (f : LedgerState → LedgerState) : (d.modLg f).raised = d.raised := rfl
@[simp] theorem Dev.modLg_edges (d : Dev) (f : LedgerState → LedgerState) : (d.modLg f).edges = d.edges := rfl
@[simp] theorem Dev.modLg_lands (d : Dev) (f : LedgerState → LedgerState) : (d.modLg f).lands = d.lands := rfl
@[simp] theorem Dev.modLg_pier (d : Dev) (f : LedgerState → LedgerState) : (d.modLg f).pier = d.pier := rfl
@[simp] theorem Dev.modLg_resp (d : Dev) (f : LedgerState → LedgerState) : (d.modLg f).resp = d.resp := rfl
@[simp] theorem Dev.modLg_capTrig (d : Dev) (f : LedgerState → LedgerState) : (d.modLg f).capTrig = d.capTrig := rfl
@[simp] theorem Dev.modLg_dma (d : Dev) (f : LedgerState → LedgerState) : (d.modLg f).dma = d.dma := rfl
@[simp] theorem Dev.modLg_nv (d : Dev) (f : LedgerState → LedgerState) : (d.modLg f).nv = d.nv := rfl
@[simp] theorem Dev.modLg_vol_start (d : Dev) (f : LedgerState → LedgerState) : (d.modLg f).vol.start = d.vol.start := rfl
@[simp] theorem Dev.modLg_vol_ana (d : Dev) (f : LedgerState → LedgerState) : (d.modLg f).vol.ana = d.vol.ana := rfl
@[simp] theorem Dev.modLg_vol_pos (d : Dev) (f : LedgerState → LedgerState) : (d.modLg f).vol.pos = d.vol.pos := rfl
@[simp] theorem Dev.modLg_vol_eng (d : Dev) (f : LedgerState → LedgerState) : (d.modLg f).vol.eng = d.vol.eng := rfl
@[simp] theorem Dev.modLg_vol_ce (d : Dev) (f : LedgerState → LedgerState) : (d.modLg f).vol.ce = d.vol.ce := rfl
@[simp] theorem Dev.modLg_vol_mod (d : Dev) (f : LedgerState → LedgerState) : (d.modLg f).vol.mod = d.vol.mod := rfl
@[simp] theorem Dev.modLg_vol_gl (d : Dev) (f : LedgerState → LedgerState) : (d.modLg f).vol.gl = d.vol.gl := rfl
@[simp] theorem Dev.modLg_vol_objs (d : Dev) (f : LedgerState → LedgerState) : (d.modLg f).vol.objs = d.vol.objs := rfl
@[simp] theorem Dev.modLg_vol_stopTimed (d : Dev) (f : LedgerState → LedgerState) : (d.modLg f).vol.stopTimed = d.vol.stopTimed := rfl
@[simp] theorem Dev.modLg_vol_th (d : Dev) (f : LedgerState → LedgerState) : (d.modLg f).vol.th = d.vol.th := rfl
@[simp] theorem Dev.modLg_vol_safe (d : Dev) (f : LedgerState → LedgerState) : (d.modLg f).vol.safe = d.vol.safe := rfl
@[simp] theorem Dev.modLg_vol_net (d : Dev) (f : LedgerState → LedgerState) : (d.modLg f).vol.net = d.vol.net := rfl
@[simp] theorem Dev.modLg_vol_flt (d : Dev) (f : LedgerState → LedgerState) : (d.modLg f).vol.flt = d.vol.flt := rfl
@[simp] theorem Dev.modLg_vol_ks (d : Dev) (f : LedgerState → LedgerState) : (d.modLg f).vol.ks = d.vol.ks := rfl
@[simp] theorem Dev.modLg_vol_dict (d : Dev) (f : LedgerState → LedgerState) : (d.modLg f).vol.dict = d.vol.dict := rfl
@[simp] theorem Dev.modLg_vol_cap (d : Dev) (f : LedgerState → LedgerState) : (d.modLg f).vol.cap = d.vol.cap := rfl
@[simp] theorem Dev.modLg_vol_lg (d : Dev) (f : LedgerState → LedgerState) : (d.modLg f).vol.lg = f d.vol.lg := rfl
@[simp] theorem Dev.modLg_get (d : Dev) (f : LedgerState → LedgerState) (g : Fld) : (d.modLg f).get g = d.get g := rfl
@[simp] theorem Dev.modLg_bit (d : Dev) (f : LedgerState → LedgerState) (g : Fld) : (d.modLg f).bit g = d.bit g := rfl

@[simp] theorem Dev.modCap_regs (d : Dev) (c : Fin 8) (f : CapChan → CapChan) : (d.modCap c f).regs = d.regs := rfl
@[simp] theorem Dev.modCap_now (d : Dev) (c : Fin 8) (f : CapChan → CapChan) : (d.modCap c f).now = d.now := rfl
@[simp] theorem Dev.modCap_free (d : Dev) (c : Fin 8) (f : CapChan → CapChan) : (d.modCap c f).free = d.free := rfl
@[simp] theorem Dev.modCap_bus (d : Dev) (c : Fin 8) (f : CapChan → CapChan) : (d.modCap c f).bus = d.bus := rfl
@[simp] theorem Dev.modCap_access (d : Dev) (c : Fin 8) (f : CapChan → CapChan) : (d.modCap c f).access = d.access := rfl
@[simp] theorem Dev.modCap_raised (d : Dev) (c : Fin 8) (f : CapChan → CapChan) : (d.modCap c f).raised = d.raised := rfl
@[simp] theorem Dev.modCap_edges (d : Dev) (c : Fin 8) (f : CapChan → CapChan) : (d.modCap c f).edges = d.edges := rfl
@[simp] theorem Dev.modCap_lands (d : Dev) (c : Fin 8) (f : CapChan → CapChan) : (d.modCap c f).lands = d.lands := rfl
@[simp] theorem Dev.modCap_pier (d : Dev) (c : Fin 8) (f : CapChan → CapChan) : (d.modCap c f).pier = d.pier := rfl
@[simp] theorem Dev.modCap_resp (d : Dev) (c : Fin 8) (f : CapChan → CapChan) : (d.modCap c f).resp = d.resp := rfl
@[simp] theorem Dev.modCap_capTrig (d : Dev) (c : Fin 8) (f : CapChan → CapChan) : (d.modCap c f).capTrig = d.capTrig := rfl
@[simp] theorem Dev.modCap_dma (d : Dev) (c : Fin 8) (f : CapChan → CapChan) : (d.modCap c f).dma = d.dma := rfl
@[simp] theorem Dev.modCap_nv (d : Dev) (c : Fin 8) (f : CapChan → CapChan) : (d.modCap c f).nv = d.nv := rfl
@[simp] theorem Dev.modCap_vol_start (d : Dev) (c : Fin 8) (f : CapChan → CapChan) : (d.modCap c f).vol.start = d.vol.start := rfl
@[simp] theorem Dev.modCap_vol_ana (d : Dev) (c : Fin 8) (f : CapChan → CapChan) : (d.modCap c f).vol.ana = d.vol.ana := rfl
@[simp] theorem Dev.modCap_vol_pos (d : Dev) (c : Fin 8) (f : CapChan → CapChan) : (d.modCap c f).vol.pos = d.vol.pos := rfl
@[simp] theorem Dev.modCap_vol_eng (d : Dev) (c : Fin 8) (f : CapChan → CapChan) : (d.modCap c f).vol.eng = d.vol.eng := rfl
@[simp] theorem Dev.modCap_vol_ce (d : Dev) (c : Fin 8) (f : CapChan → CapChan) : (d.modCap c f).vol.ce = d.vol.ce := rfl
@[simp] theorem Dev.modCap_vol_mod (d : Dev) (c : Fin 8) (f : CapChan → CapChan) : (d.modCap c f).vol.mod = d.vol.mod := rfl
@[simp] theorem Dev.modCap_vol_gl (d : Dev) (c : Fin 8) (f : CapChan → CapChan) : (d.modCap c f).vol.gl = d.vol.gl := rfl
@[simp] theorem Dev.modCap_vol_objs (d : Dev) (c : Fin 8) (f : CapChan → CapChan) : (d.modCap c f).vol.objs = d.vol.objs := rfl
@[simp] theorem Dev.modCap_vol_stopTimed (d : Dev) (c : Fin 8) (f : CapChan → CapChan) : (d.modCap c f).vol.stopTimed = d.vol.stopTimed := rfl
@[simp] theorem Dev.modCap_vol_th (d : Dev) (c : Fin 8) (f : CapChan → CapChan) : (d.modCap c f).vol.th = d.vol.th := rfl
@[simp] theorem Dev.modCap_vol_safe (d : Dev) (c : Fin 8) (f : CapChan → CapChan) : (d.modCap c f).vol.safe = d.vol.safe := rfl
@[simp] theorem Dev.modCap_vol_net (d : Dev) (c : Fin 8) (f : CapChan → CapChan) : (d.modCap c f).vol.net = d.vol.net := rfl
@[simp] theorem Dev.modCap_vol_flt (d : Dev) (c : Fin 8) (f : CapChan → CapChan) : (d.modCap c f).vol.flt = d.vol.flt := rfl
@[simp] theorem Dev.modCap_vol_ks (d : Dev) (c : Fin 8) (f : CapChan → CapChan) : (d.modCap c f).vol.ks = d.vol.ks := rfl
@[simp] theorem Dev.modCap_vol_dict (d : Dev) (c : Fin 8) (f : CapChan → CapChan) : (d.modCap c f).vol.dict = d.vol.dict := rfl
@[simp] theorem Dev.modCap_vol_lg (d : Dev) (c : Fin 8) (f : CapChan → CapChan) : (d.modCap c f).vol.lg = d.vol.lg := rfl
@[simp] theorem Dev.modCap_get (d : Dev) (c : Fin 8) (f : CapChan → CapChan) (g : Fld) : (d.modCap c f).get g = d.get g := rfl
@[simp] theorem Dev.modCap_bit (d : Dev) (c : Fin 8) (f : CapChan → CapChan) (g : Fld) : (d.modCap c f).bit g = d.bit g := rfl

@[simp] theorem Dev.modStart_regs (d : Dev) (f : StartState → StartState) : (d.modStart f).regs = d.regs := rfl
@[simp] theorem Dev.modStart_now (d : Dev) (f : StartState → StartState) : (d.modStart f).now = d.now := rfl
@[simp] theorem Dev.modStart_free (d : Dev) (f : StartState → StartState) : (d.modStart f).free = d.free := rfl
@[simp] theorem Dev.modStart_bus (d : Dev) (f : StartState → StartState) : (d.modStart f).bus = d.bus := rfl
@[simp] theorem Dev.modStart_access (d : Dev) (f : StartState → StartState) : (d.modStart f).access = d.access := rfl
@[simp] theorem Dev.modStart_raised (d : Dev) (f : StartState → StartState) : (d.modStart f).raised = d.raised := rfl
@[simp] theorem Dev.modStart_edges (d : Dev) (f : StartState → StartState) : (d.modStart f).edges = d.edges := rfl
@[simp] theorem Dev.modStart_lands (d : Dev) (f : StartState → StartState) : (d.modStart f).lands = d.lands := rfl
@[simp] theorem Dev.modStart_pier (d : Dev) (f : StartState → StartState) : (d.modStart f).pier = d.pier := rfl
@[simp] theorem Dev.modStart_resp (d : Dev) (f : StartState → StartState) : (d.modStart f).resp = d.resp := rfl
@[simp] theorem Dev.modStart_capTrig (d : Dev) (f : StartState → StartState) : (d.modStart f).capTrig = d.capTrig := rfl
@[simp] theorem Dev.modStart_dma (d : Dev) (f : StartState → StartState) : (d.modStart f).dma = d.dma := rfl
@[simp] theorem Dev.modStart_nv (d : Dev) (f : StartState → StartState) : (d.modStart f).nv = d.nv := rfl
@[simp] theorem Dev.modStart_vol_ana (d : Dev) (f : StartState → StartState) : (d.modStart f).vol.ana = d.vol.ana := rfl
@[simp] theorem Dev.modStart_vol_pos (d : Dev) (f : StartState → StartState) : (d.modStart f).vol.pos = d.vol.pos := rfl
@[simp] theorem Dev.modStart_vol_eng (d : Dev) (f : StartState → StartState) : (d.modStart f).vol.eng = d.vol.eng := rfl
@[simp] theorem Dev.modStart_vol_ce (d : Dev) (f : StartState → StartState) : (d.modStart f).vol.ce = d.vol.ce := rfl
@[simp] theorem Dev.modStart_vol_mod (d : Dev) (f : StartState → StartState) : (d.modStart f).vol.mod = d.vol.mod := rfl
@[simp] theorem Dev.modStart_vol_gl (d : Dev) (f : StartState → StartState) : (d.modStart f).vol.gl = d.vol.gl := rfl
@[simp] theorem Dev.modStart_vol_objs (d : Dev) (f : StartState → StartState) : (d.modStart f).vol.objs = d.vol.objs := rfl
@[simp] theorem Dev.modStart_vol_stopTimed (d : Dev) (f : StartState → StartState) : (d.modStart f).vol.stopTimed = d.vol.stopTimed := rfl
@[simp] theorem Dev.modStart_vol_th (d : Dev) (f : StartState → StartState) : (d.modStart f).vol.th = d.vol.th := rfl
@[simp] theorem Dev.modStart_vol_safe (d : Dev) (f : StartState → StartState) : (d.modStart f).vol.safe = d.vol.safe := rfl
@[simp] theorem Dev.modStart_vol_net (d : Dev) (f : StartState → StartState) : (d.modStart f).vol.net = d.vol.net := rfl
@[simp] theorem Dev.modStart_vol_flt (d : Dev) (f : StartState → StartState) : (d.modStart f).vol.flt = d.vol.flt := rfl
@[simp] theorem Dev.modStart_vol_ks (d : Dev) (f : StartState → StartState) : (d.modStart f).vol.ks = d.vol.ks := rfl
@[simp] theorem Dev.modStart_vol_dict (d : Dev) (f : StartState → StartState) : (d.modStart f).vol.dict = d.vol.dict := rfl
@[simp] theorem Dev.modStart_vol_lg (d : Dev) (f : StartState → StartState) : (d.modStart f).vol.lg = d.vol.lg := rfl
@[simp] theorem Dev.modStart_vol_cap (d : Dev) (f : StartState → StartState) : (d.modStart f).vol.cap = d.vol.cap := rfl
@[simp] theorem Dev.modStart_vol_start (d : Dev) (f : StartState → StartState) : (d.modStart f).vol.start = f d.vol.start := rfl
@[simp] theorem Dev.modStart_get (d : Dev) (f : StartState → StartState) (g : Fld) : (d.modStart f).get g = d.get g := rfl
@[simp] theorem Dev.modStart_bit (d : Dev) (f : StartState → StartState) (g : Fld) : (d.modStart f).bit g = d.bit g := rfl

end Sys2Proof.Machine
end

