-- ==== Sys2Proof/WellFormed.lean ====
section
/-! DEFINITION. Which commands the block's surroundings can send: the operands of a command that is well formed are such as the spec's
world produces. The meanings of the commands are total and none of the statements leans on these checks. -/

namespace Sys2Proof

/-- A list without repeats, of the object entries a dictionary restore finds (index × 256 + subindex, below 2^24). -/
def entriesOk (l : List Nat) : Bool := decide (l.Nodup ∧ ∀ e ∈ l, e < 2 ^ 24)

/-- The number of data bytes that a frame of a format carries (14): 0 to 8 in a classical frame, the lengths of the FD length codes in an
FD frame, 1 to 2,048 in an XL frame. -/
def dataLengthOk (fmt : Fin 5) (n : Nat) : Bool :=
  match fmt with
  | 0 | 1 => decide (n ≤ 8)
  | 2 | 3 => decide (n ≤ 8 ∨ n ∈ [12, 16, 20, 24, 32, 48, 64])
  | 4 => decide (1 ≤ n ∧ n ≤ 2048)

/-- The identifier of a frame: 11 bits in a base format, 29 bits in an extended one, and the 32-bit acceptance field of XL. -/
def identifierOk (fmt : Fin 5) (id : BitVec 32) : Bool :=
  match fmt with
  | 0 | 2 => decide (id.toNat < 2 ^ 11)
  | 1 | 3 => decide (id.toNat < 2 ^ 29)
  | 4 => true

/-- The bits that belong to one kind of format only: RTR to the classical frames; SEC, VCID, SDT and the priority identifier to XL. -/
def formatBitsOk (f : CanFrame) : Bool :=
  (!f.rtr || decide (f.fmt.val < 2)) &&
    (decide (f.fmt = 4) || (!f.sec && decide (f.vcid = 0) && decide (f.sdt = 0) && decide (f.pid = 0)))

/-- A frame that a bus can carry. -/
def CanFrame.wf (f : CanFrame) : Bool := dataLengthOk f.fmt f.data.length && identifierOk f.fmt f.id && formatBitsOk f

/-- A result of an excitation period has signed 16-bit codes (R105, R148). -/
def ResSample.wf (r : ResSample) : Bool := decide (-32768 ≤ r.xs ∧ r.xs ≤ 32767 ∧ -32768 ≤ r.xc ∧ r.xc ≤ 32767)

/-- Well-formedness of a command. -/
def Instr.wf : Instr → Bool
  | .rootPllLocked badOne badBoth _ calFailed =>
    entriesOk badOne && entriesOk badBoth && decide (∀ e ∈ badOne, e ∉ badBoth) && decide calFailed.Nodup
  | .resultPresented _ _ _ vref _ => decide (0 < vref)
  | .groupTrigger _ atSlot => decide atSlot.Nodup
  | .resolverPeriodEnd _ rs _ => rs.all ResSample.wf
  | .housekeepingRound _ caps => decide (caps.map Prod.fst).Nodup
  | .causewayCopy _ f _ => f.wf
  | .canFrameReceived _ f _ => f.wf
  | .wakePowerGood _ _ calFailed => decide calFailed.Nodup
  | _ => true

end Sys2Proof
end

