-- ==== Sys2Proof/Tests/Slice0.lean ====
section
/-! SUPPORT. Tests: the spec's worked examples on small states, ill-formed commands, and for every statement with hypotheses states and
operands that meet them together. -/

open Sys2Proof Sys2Proof.Machine

namespace Sys2Proof.Tests

set_option maxRecDepth 100000
set_option Elab.async false

/-- The block with its start complete. -/
def up : Dev := { Dev.reset with vol := { Vol.reset with start := { StartState.reset with phase := .complete } } }

/-- A state of a started block, with some of its device changed. -/
def mk (l : List (Dev → Dev)) : State := { dev := l.foldl (fun d f => f d) up, mem := [], pending := [] }

def mkMem (m : Mem) (l : List (Dev → Dev)) : State := { mk l with mem := m }

def brActive (b : Nat) (d : Dev) : Dev := d.set (CE.BCFG_ROLE b) 1

/-- A device on which the checks of a bridge start (R169) hold. -/
def startable (b : Bridge) (d : Dev) : Dev :=
  let d1 := d.setAll [(CE.BCFG_ROLE b, 1), (MOD.CTL_MODE b, 2), (CE.BSTAT_ST b, 1), (DE.STAT_OPSTATE, 3), (POS.ANGLE_ACTSRC (d.posSel b), 0), (SIO.STO_ACT b, 0)]
  let d2 := d1.each (List.range 12) fun d n => d.set (CE.INSLOT_EN b n) 0
  d2.each (bridgeChans b) fun d n => d.set (GL.CHSTAT_ST n) 2

def aRead : Req := { src := .local 2, op := 1, idx := 0x1000, sub := 0, n := 4, off := 0, data := [] }

def aFrame : CanFrame :=
  { fmt := 2, rtr := false, brs := true, esi := false, sec := false, vcid := 0, sdt := 0, pid := 0, id := 0x155#32, data := [1, 2, 3, 4] }

/-- The bytes of a signed image that are not 0, with their offsets. -/
def imgPart0 : List (Nat × Nat) :=
  [(0, 32), (1, 134), (2, 12), (3, 94), (4, 1), (21, 2), (23, 32), (25, 3), (27, 32), (32, 227), (33, 176), (34, 196), (35, 66), (36, 152),
   (37, 252), (38, 28), (39, 20), (40, 154), (41, 251), (42, 244), (43, 200), (44, 153), (45, 111), (46, 185), (47, 36), (48, 39), (49,
   174), (50, 65), (51, 228), (52, 100), (53, 155), (54, 147), (55, 76), (56, 164), (57, 149), (58, 153), (59, 27), (60, 120), (61, 82),
   (62, 184), (63, 85), (64, 107), (65, 23), (66, 209), (67, 242), (68, 225), (69, 44), (70, 66), (71, 71), (72, 248)]
def imgPart1 : List (Nat × Nat) :=
  [(73, 188), (74, 230), (75, 229), (76, 99), (77, 164), (78, 64), (79, 242), (80, 119), (81, 3), (82, 125), (83, 129), (84, 45), (85, 235),
   (86, 51), (87, 160), (88, 244), (89, 161), (90, 57), (91, 69), (92, 216), (93, 152), (94, 194), (95, 150), (96, 79), (97, 227), (98, 66),
   (99, 226), (100, 254), (101, 26), (102, 127), (103, 155), (104, 142), (105, 231), (106, 235), (107, 74), (108, 124), (109, 15), (110,
   158), (111, 22), (112, 43), (113, 206), (114, 51), (115, 87), (116, 107), (117, 49), (118, 94), (119, 206), (120, 203), (121, 182), (122,
   64)]
def imgPart2 : List (Nat × Nat) :=
  [(123, 104), (124, 55), (125, 191), (126, 81), (127, 245), (128, 107), (129, 23), (130, 209), (131, 242), (132, 225), (133, 44), (134,
   66), (135, 71), (136, 248), (137, 188), (138, 230), (139, 229), (140, 99), (141, 164), (142, 64), (143, 242), (144, 119), (145, 3), (146,
   125), (147, 129), (148, 45), (149, 235), (150, 51), (151, 160), (152, 244), (153, 161), (154, 57), (155, 69), (156, 216), (157, 152),
   (158, 194), (159, 150), (160, 215), (161, 13), (162, 123), (163, 99), (164, 42), (165, 245), (166, 154), (167, 131), (168, 70), (169,
   100), (170, 252), (171, 78), (172, 160)]
def imgPart3 : List (Nat × Nat) :=
  [(173, 190), (174, 76), (175, 24), (176, 114), (177, 228), (178, 216), (179, 136), (180, 12), (181, 190), (182, 233), (183, 46), (184,
   204), (185, 169), (186, 127), (187, 164), (188, 107), (189, 72), (190, 210), (191, 4)]
/-- A whole image without a body in network SRAM (Table 3-7), its signature made with the private key 1 and the ephemeral number 1, so that its public key is
the base point of the curve; and the hash of that key. -/
def imgMem : Mem :=
  (imgPart0 ++ imgPart1 ++ imgPart2 ++ imgPart3).map fun x => (0x20000000 + x.1, BitVec.ofNat 8 x.2)

def imgHash : Nat := 71941966651439181731255131253748476600071339345811457704479305079427371333080

/-- A maker signature over the authentication in RETURN with nonce 5, and the hash of its key. -/
def lctSig : List (BitVec 8) := beList 64 0x41d12f76fa7fa20bb348d3622ab0a8140dd05607e6d17203d00675d573fbc117e2469b8d4cf26390c96802d29b19d6bf623f03695683d75d516b3419b7e9ba47
def lctHash : Nat := 1800307426873577645962048516946236277862201928325578310237561665221462482663

/-! ### Worked examples and tables of the spec, one command each -/

/-- What a command leaves of the device. -/
def run (i : Instr) (s : State) : Dev := match exec i s with | .next t => t.dev | .fault _ => s.dev | .refused _ => s.dev

/-- 17, hill climbing: the first epoch adds 56 mWh and keeps the remainder. -/
theorem test_ledger_first_epoch :
    let d := run .ledgerConversionEpoch (mk [fun d => d.set LG.CTL_RUN 1, fun d => d.modLg fun l => { l with acc := vset l.acc 0 52567694400000 }])
    d.get LG.IMP_W = 56 ∧ vget d.vol.lg.rem 0 = 12244044632860309504 ∧ d.get LG.PWR_PWR = 203989 := by decide +kernel

/-- 17, hill climbing: the second epoch adds 57 mWh. -/
theorem test_ledger_second_epoch :
    let d := run .ledgerConversionEpoch (mk [fun d => d.set LG.CTL_RUN 1, fun d => d.modLg fun l => { l with acc := vset l.acc 0 52567694400000, rem := vset l.rem 0 12244044632860309504 }])
    d.get LG.IMP_W = 57 ∧ vget d.vol.lg.rem 0 = 6041345192011067392 := by decide +kernel

/-- 04, SP1 replaces slice 3: 656.25 mV of slice number 3, served by SP0 with `SEQ` 0x2A, is the entry 0x18AA_219A. -/
theorem test_result_entry :
    (run (.resultPresented 3 0 656250000 2500000000 0)
      (mk [fun d => d.setAll [(AS.CTL_EN, 1), (AS.SLST_SERVER 3, 2), (AS.SLST_SUBST 3, 1)], fun d => d.modAna fun a => { a with seq := vset a.seq 0 0x2A }])).vol.ana.waiting.map
        QItem.entry = [0x18AA219A] := by decide +kernel

/-- 12, over-current: 28,700 codes against `OCLIM` 28,672 raise line 26 for bridge A. -/
theorem test_over_current :
    let d := run (.resultPresented 0 0 2189636230 2500000000 0) (mk [fun d => d.setAll [(AS.CTL_EN, 1), (CE.CTL_EN, 1), (CE.BCFG_ROLE 0, 1), (CE.BSTAT_ST 0, 3)]])
    d.lastCode 0 = 28700 ∧ d.raised = [(26, 1)] ∧ d.get (CE.BANDEVT_OC 0) = 1 := by decide +kernel

/-- 12, over-current: line 26 latches for bridge A alone, and its engine is HELD. -/
theorem test_over_current_latched :
    let d := run .faultLineLatch (mk [fun d => d.setAll [(CE.CTL_EN, 1), (CE.BCFG_ROLE 0, 1), (CE.BSTAT_ST 0, 3)], fun d => { d with raised := [(26, 1)] }])
    d.get (FCOL.STATUS_L 26) = 1 ∧ d.get (FCOL.BRA_L 26) = 1 ∧ d.get (FCOL.BRB_L 26) = 0 ∧ d.get (CE.BSTAT_ST 0) = 4 ∧
      d.get (GL.BSTAT_FCOL 0) = 1 ∧ d.get (GL.BSTAT_PAT 0) = 0 := by decide +kernel

/-- 04, SP1 replaces slice 3: a gain trim of +1.3% fails slice 3, SP1 serves it, and `0x4101:02` reads 0x0043_0000_0000_0008. -/
theorem test_failover_record :
    let d := run (.calSlotStart ⟨false, false, true, 0, 13000, 0, true, 0, 0, false, true⟩) (mk [fun d => d.set AS.CTL_EN 1, fun d => d.modAna fun a => { a with calNext := 3 }])
    d.nv.convRecord = 0x0043000000000008 ∧ d.get AS.SPARE_CHAIN = 1 ∧ d.get AS.SPARE_SP1_FOR = 3 := by decide +kernel

/-- POS1 of motor 2 in the example of 05. -/
def motor2 (count : Nat) : State :=
  mk [fun d => d.setAll [(CE.CTL_EN, 1), (POS.CTL_EN 1, 1), (POS.CTL_SENS 1, 1), (POS.ENCCFG_LINESM1 1, 2047), (POS.ENCCFG_IDXTOL 1, 4), (POS.ENCCFG_IDXQ 1, 1), (POS.CTL_IDXPOL 1, 1),
        (POS.STAT_POSST 1, 2), (POS.COUNT_COUNT 1, count)], fun d => d.modPos 1 fun s => { s with a := true, b := true, ref := some 0 }]

/-- 05: an index event at 8,190 is corrected. -/
theorem test_index_corrected :
    let d := run (.indexEvent 1 true) (motor2 8190)
    d.get (POS.COUNT_COUNT 1) = 0 ∧ d.get (POS.STAT_INDEX_MISMATCH 1) = 1 ∧ d.get (POS.IDXCAP_IDXCAP 1) = 8190 ∧ d.get (POS.STAT_IDXERR 1) = 0xFE := by
  decide +kernel

/-- 05: an index event at 9 is outside the tolerance. -/
theorem test_index_fault :
    let d := run (.indexEvent 1 true) (motor2 9)
    d.get (POS.COUNT_COUNT 1) = 9 ∧ d.get (POS.STAT_IDXFLT 1) = 1 ∧ d.get (POS.STAT_POSST 1) = 3 := by decide +kernel

/-- 05: a compare value behind the count sets `BEHIND` when the unit is armed. -/
theorem test_compare_behind :
    let d := run (.compareArm .dict 1 0 (.control 5#32)) { motor2 700 with dev := (motor2 700).dev.setAll [(OWN.R_OWNER 3 0, 0x09), (POS.CMPVAL_CMPVAL 1 0, 512), (POS.CMPSTEP_CMPSTEP 1 0, 1024)] }
    d.get (POS.CMPCTL_BEHIND 1 0) = 1 ∧ d.get (POS.CMPCTL_ARM 1 0) = 1 := by decide +kernel

/-- 06, sizing the band: a ratio of 2,000 / 24,000 with `AGAIN` 1/64 takes 580 to 580.755. -/
theorem test_band_adapts :
    let d := (mk [fun d => d.setAll [(CE.BSTAT_ST 0, 3), (CE.BANDCTL_FTGT 0, 2400), (CE.BANDCTL_FSH 0, 1), (CE.BANDGAIN_AGAIN 0, 512), (CE.BANDLIM_HMAX 0, 32767), (CE.BANDLIM_HMIN 0, 1)],
      fun d => d.modEng 0 fun e => { e with h := vset e.h 0 (580 * 65536), fest := vset e.fest 0 (2000 * 65536), ncount := vset e.ncount 0 1 }]).dev.adaptBand 0 0 12500
    vget (d.engS 0).h 0 * 1000 / 65536 = 580755 := by decide +kernel

/-- Bridge A of the example of 07. -/
def carrier07 : Dev :=
  (mk [fun d => d.setAll [(MOD.CTL_EN 0, 1), (MOD.CTL_MODE 0, 1), (MOD.PRD_PRD 0, 150000), (MOD.VA_VA 0, 0x400000), (MOD.VB_VB 0, 0x19999A), (MOD.CTL_DITH 0, 1),
    (MOD.DEAD_DT 0, 50), (MOD.WIN_WEN 0, 1), (MOD.WIN_WLEN 0, 200)]]).dev

/-- 07: the compares of the three phases in sixteenths of a cycle. -/
theorem test_compares :
    [0, 1, 2].map (fun i => carrier07.compare16 0 (carrier07.shadow 0) i 75000) = [72120 * 16 + 3, 28860 * 16 + 9, 2879 * 16 + 13] := by decide +kernel

/-- 07: phase U dithers to 72,121 in frame indices 0, 4 and 8. -/
theorem test_dither :
    (List.range 16).map (fun j => (carrier07.set (MOD.CNT_FRAME 0) j).compareK 0 ((carrier07.set (MOD.CNT_FRAME 0) j).shadow 0) 0 75000) =
      [72121, 72120, 72120, 72120, 72121, 72120, 72120, 72120, 72121, 72120, 72120, 72120, 72120, 72120, 72120, 72120] := by decide +kernel

/-- 07: phase W's pulse of 5,760 cycles moves after T. -/
theorem test_window_moves : carrier07.windowMove 0 2880 75000 = some (75000 + 2400, 75000 + 8160) := by decide +kernel

/-- 09: a turn-on of 46 ns against 40 + 2 ns raises the strength, one of 42 ns does not. -/
theorem test_strength_step :
    let s := mk [fun d => d.set (GL.CHSTAT_LINK 0) 1, fun d => d.modGate 0 fun g => { g with regs := #v[1, 63 * 256, 0, 32, 40, 0, 0, 0, 0, 0, 0, 2] }]
    (run (.islandEdgeMeasured 0 false false 46#16) s).get (GL.CHSTR_STON 0) = 33 ∧ (run (.islandEdgeMeasured 0 false false 42#16) s).get (GL.CHSTR_STON 0) = 32 := by
  decide +kernel

/-- 01, ownership in the storage plant: slice 28 is held by 0x06, so slice 29 is not granted either. -/
theorem test_commit_fails :
    let d := run (.ownershipCommit .span0 1) (mk [fun d => d.setAll [(OWN.R_OWNER 1 28, 6), (OWN.R_REQ 1 28, 0x41), (OWN.R_REQBY 1 28, 3), (OWN.R_REQ 1 29, 0x41), (OWN.R_REQBY 1 29, 3)]])
    d.get (OWN.R_OWNER 1 28) = 6 ∧ d.get (OWN.R_OWNER 1 29) = 0 ∧ d.get (OWN.R_CONFLICT 1 28) = 1 ∧ d.get (OWN.R_CONFL_BY 1 28) = 0x41 ∧ d.get (OWN.CMT_NCONF 1) = 1 := by
  decide +kernel

/-- 11, a latent upset: hart 2 differs, and the pair goes on. -/
theorem test_truss_dissent :
    let d := run (.trussOutput (.store 0x20000000 15 5) (.store 0x20000000 15 5) (.store 0x20000000 15 6)) (mk [])
    d.get KS.TSTAT_MODE = 1 ∧ d.get KS.TSTAT_DHART = 2 ∧ d.get KS.TSTAT_DISS = 1 ∧ d.get KS.TCNT_DISSENTS = 1 ∧ vget d.vol.ks.out 0 = .store 0x20000000 15 5 := by decide +kernel

/-- 16, parked overnight: the timebase advances by 5,760,000,014,648 ticks and `TFRAC` reads 7. -/
theorem test_time_correction :
    let d := (mk [fun d => d.set PIER.KACNT_W 1179648003]).dev.loadTime (latchTime (up.set PIER.KACNT_W 0) [])
    d.get TB.CNT_W = 5760000014648 ∧ d.get PIER.TSTAT_TFRAC = 7 ∧ d.get PIER.GAP_W = 0x46500003 := by decide +kernel

/-- 14: the identifier of a Causeway command copy of node 0x0040 at priority 2, and that of the module's status copy. -/
theorem test_kinak_identifiers :
    (up.kinakFrame 1 2 0x40 0x1C0 []).id = 0x020101C0#32 ∧ (up.kinakFrame 1 2 0x101 0x1C1 []).id = 0x020405C1#32 := by decide +kernel

/-- The module of the example of 15 with its request in the queue. -/
def plant (op : Nat) : State :=
  mk [fun d => d.setAll [(CAN.CTL_EN 0, 1), (CAN.CTL_ROLE 0, 1), (CAN.CTL_KFMT 0, 1), (CAN.CTL_FDEN 0, 1), (KN.CTL_NODE, 0x201), (DE.STAT_OPSTATE, op), (LC.LCSTATE_STATE, 4)],
    fun d => d.modDict fun x => { x with queue := [{ src := .kinak 0 16 8 3, op := 2, idx := 0x8001, sub := 5, n := 4, off := 0, data := [0x44, 0x16, 0x9C, 0x18] }] }]

/-- 15: in RUN the write of `0x8001:05` is refused with 0x0622 and detail 3, and answered as the example prints it. -/
theorem test_write_refused_in_run :
    let d := run (.objectWrite false ⟨0, 0, 0, 0⟩) (plant 3)
    d.get (CAN.MBID_ID 0 0) = 0x08080411 ∧ d.get DE.CNT_STREJ = 1 ∧ d.get (CE.PLLLIM_FMAX 0) = 6500 ∧
      (d.canPort 0).mbData = [(0, [0x10, 0x00, 0x30, 0x82, 0x01, 0x80, 0x05, 0x22, 0x06, 0x03, 0, 0, 0, 0, 0, 0])] := by decide +kernel

/-- 15: in READY the same write is accepted with detail 0. -/
theorem test_write_accepted_in_ready :
    let d := run (.objectWrite false ⟨0, 0, 0, 0⟩) (plant 2)
    d.get (CE.PLLLIM_FMAX 0) = 6300 ∧ d.get (CE.PLLLIM_FMIN 0) = 5700 ∧
      (d.canPort 0).mbData = [(0, [0x10, 0x00, 0x30, 0x82, 0x01, 0x80, 0x05, 0, 0, 0, 0, 0, 0, 0, 0, 0])] := by decide +kernel

/-- R30: a count of 235,199 lies outside ±2% of 240,000, and 235,200 does not. -/
theorem test_root_clock : (run (.rootClockCheck 235199) (mk [])).raised = [(0, 0)] ∧ (run (.rootClockCheck 235200) (mk [])).raised = [] := by decide +kernel

/-- R117: a pop of an empty queue answers 0xFFFF_FFFF. -/
theorem test_pop_empty : (run (.queuePop .truss 0) (mk [])).bus.data = 0xFFFFFFFF := by decide +kernel

/-- FIPS 197, C.3: AES-256 of 00112233445566778899aabbccddeeff under the key 00 01 … 1f. -/
theorem test_aes256 :
    aesBlock (aesKeys ((List.range 32).map fun i => BitVec.ofNat 8 i)) [0x00#8, 0x11#8, 0x22#8, 0x33#8, 0x44#8, 0x55#8, 0x66#8, 0x77#8, 0x88#8, 0x99#8, 0xaa#8, 0xbb#8, 0xcc#8, 0xdd#8, 0xee#8, 0xff#8] =
      [0x8e#8, 0xa2#8, 0xb7#8, 0xca#8, 0x51#8, 0x67#8, 0x45#8, 0xbf#8, 0xea#8, 0xfc#8, 0x49#8, 0x90#8, 0x4b#8, 0x49#8, 0x60#8, 0x89#8] := by decide +kernel

/-- FIPS 180-4: SHA-256 of "abc". -/
theorem test_sha256 : ofBeList (sha256 [0x61#8, 0x62#8, 0x63#8]) = 0xba7816bf8f01cfea414140de5dae2223b00361a396177a9cb410ff61f20015ad := by
  decide +kernel

/-- The check value of CRC-32C over "123456789". -/
theorem test_crc32c : crc32c [0x31, 0x32, 0x33, 0x34, 0x35, 0x36, 0x37, 0x38, 0x39] = 0xE3069283 := by decide +kernel

/-! ### Ill-formed commands, one for each check -/

theorem test_wf_repeated_entry : (Instr.rootPllLocked [5, 5] [] 0 []).wf = false := by decide +kernel
theorem test_wf_entry_too_large : (Instr.rootPllLocked [] [0x1000000] 0 []).wf = false := by decide +kernel
theorem test_wf_entry_in_both : (Instr.rootPllLocked [5] [5] 0 []).wf = false := by decide +kernel
theorem test_wf_calibration_repeated : (Instr.rootPllLocked [] [] 0 [3, 3]).wf = false := by decide +kernel
theorem test_wf_no_reference : (Instr.resultPresented 0 0 0 0 0).wf = false := by decide +kernel
theorem test_wf_slot_repeated : (Instr.groupTrigger .tick [4, 4]).wf = false := by decide +kernel
theorem test_wf_code_too_large : (Instr.resolverPeriodEnd 0 [⟨0, 32768, 0, false⟩] 0).wf = false := by decide +kernel
theorem test_wf_island_repeated : (Instr.housekeepingRound (.replicate 12 0) [(1, 5), (1, 6)]).wf = false := by decide +kernel
theorem test_wf_data_too_long : (Instr.canFrameReceived 0 { aFrame with data := List.replicate 9 0 } 0).wf = false := by decide +kernel
theorem test_wf_identifier_too_large : (Instr.causewayCopy 0 { aFrame with id := 0x20000000#32 } 0).wf = false := by decide +kernel
theorem test_wf_format_bits : (Instr.canFrameReceived 0 { aFrame with rtr := true } 0).wf = false := by decide +kernel
theorem test_wf_wake_repeated : (Instr.wakePowerGood 4 true [3, 3]).wf = false := by decide +kernel
theorem test_wf_frame : (Instr.canFrameReceived 0 aFrame 0).wf = true := by decide +kernel

/-! ### Every hypothesis of a statement is met somewhere -/

theorem test_meets_StepRunsFrontCommand :
    (∃ s : State, s.pending = []) :=
  ⟨State.reset, rfl⟩

theorem test_meets_StepKeepsMemoryCanonical :
    (∃ s t : State, s.mem.wf = true ∧ step s = .next t) ∧
    (∃ m n : Mem, m.wf = true ∧ n.wf = true ∧ ∀ a : Nat, m.read a = n.read a) :=
  ⟨⟨State.reset, _, by decide +kernel, rfl⟩,
   ⟨[(0x20000000, 7#8)], [(0x20000000, 7#8)], by decide +kernel, by decide +kernel, fun _ => rfl⟩⟩

theorem test_meets_ResetState :
    (∃ (f : Fld), f.key ≠ LC.RSTCAUSE_POR.key) :=
  ⟨LG.CTL_TCH, by decide +kernel⟩

theorem test_meets_RegisterWriteByAccessCode :
    (∃ (s : State) (m : Master) (a : Word), s.dev.mayWrite m a.toNat = true ∧ regFields a.toNat = none) ∧
    (∃ (s : State) (m : Master) (a : Word) (d : Word) (fs : List Fld), s.dev.mayWrite m a.toNat = true ∧ regFields a.toNat = some fs ∧ w1cBarred m a.toNat d.toNat = false ∧ (fs.map Fld.key).Nodup ∧ a.toNat / 0x10000 ∉ [0x4002, 0x4020, 0x4021, 0x4030, 0x4040, 0x4041, 0x4050, 0x4070, 0x4080, 0x4081, 0x4082, 0x4083] ∧ (a.toNat / 0x10000 = 0x4010 → a.toNat % 0x10000 ≠ 0) ∧ (a.toNat / 0x10000 = 0x4060 → a.toNat % 0x10000 < 0x400 ∨ 0xA00 ≤ a.toNat % 0x10000)) ∧
    (∃ (s : State) (m : Master) (a : Word) (fs : List Fld), s.dev.mayWrite m a.toNat = true ∧ regFields a.toNat = some fs ∧ a.toNat / 0x10000 = 0x4002 ∧ (fs.map Fld.key).Nodup) ∧
    (∃ (m : Master) (a : Word) (d : Word), w1cBarred m a.toNat d.toNat = true) :=
  ⟨⟨mk [], Master.truss, 0x40a00f0c#32, by decide +kernel⟩,
   ⟨mk [], Master.truss, 0x40600a00#32, 0xf6285e8a#32, [{ addr := 1080035840, lo := 16, width := 16, acc := Acc.rwl, rst := 16000, beh := false }, { addr := 1080035840, lo := 0, width := 16, acc := Acc.rwl, rst := 14000, beh := false }], by decide +kernel⟩,
   ⟨let d : Word := 0xf6285e8a#32; mk [fun d => d.each [3,4,5,40,64] fun d i => (d.set (INTC.SRCCFG_PEND i) 1).set (INTC.SRCCFG_PRIO i) 3], Master.truss, 0x40023050#32, [{ addr := 1073885264, lo := 8, width := 1, acc := Acc.rw, rst := 0, beh := false }, { addr := 1073885264, lo := 0, width := 4, acc := Acc.rw, rst := 0, beh := false }], by decide +kernel⟩,
   ⟨Master.span1h1, 0x40000800#32, 0x441031dd#32, by decide +kernel⟩⟩

theorem test_meets_ForbiddenAccess :
    (∃ (s : State) (m : Master) (a : Word) (w : Bool), s.dev.accessAllowed m a.toNat w = false) ∧
    (∃ (s : State) (m : Master) (a : Word) (w : Bool), s.dev.accessAllowed m a.toNat w = true) ∧
    (∃ (s : State) (m : Master) (a : Word), s.dev.mayWrite m a.toNat = false) ∧
    (∃ (s : State) (m : Master) (k : LockBlock), s.dev.mayWrite m (lockFld k).addr = false) ∧
    (∃ (s : State) (m : Master) (pg : Page), s.dev.pageWritable m pg = false) ∧
    (∃ (d : Dev) (m : Master), d.masterExists m = false) ∧
    (∃ (d : Dev) (m : Master), d.masterExists m = true) :=
  ⟨⟨mk [], Master.truss, 0xffffffff#32, false, by decide +kernel⟩,
   ⟨mk [], Master.truss, 0x00000011#32, false, by decide +kernel⟩,
   ⟨mk [], Master.truss, 0xffffffff#32, by decide +kernel⟩,
   ⟨mk [], Master.span1h1, LockBlock.engine, by decide +kernel⟩,
   ⟨mk [], Master.span1h1, 5, by decide +kernel⟩,
   ⟨(mk []).dev, Master.span1h1, by decide +kernel⟩,
   ⟨(mk []).dev, Master.truss, by decide +kernel⟩⟩

theorem test_meets_LockSetFreezes :
    (∃ (s : State) (m : Master) (k : LockBlock) (d : Word), s.dev.mayWrite m (lockFld k).addr = true ∧ natBit d.toNat (lockFld k).lo = true) ∧
    (∃ (s : State) (m : Master) (d : Word), s.dev.mayWrite m LG.CTL_LOCK.addr = true ∧ natBit d.toNat LG.CTL_LOCK.lo = true) ∧
    (∃ (d : Dev) (f : Fld), f.acc = .rwl ∧ d.lockedAt f.addr = true) :=
  ⟨⟨mk [], Master.truss, LockBlock.analog, 0x5571a32d#32, by decide +kernel⟩,
   ⟨mk [], Master.truss, 0xffffffff#32, by decide +kernel⟩,
   ⟨(mk [fun d => d.setAll [(LG.CTL_LOCK, 1), (CE.CTL_LOCK, 1), (SIO.CTL_LOCK, 1), (FCOL.CTL_LOCK, 1), (KN.CTL_LOCK, 1)]]).dev, LG.CTL_TCH, by decide +kernel⟩⟩

theorem test_meets_OwnershipClaims :
    (∃ (s : State) (m : Master) (pg : Page) (i : Fin 32) (id : BitVec 8), s.dev.pageWritable m pg = true ∧ ownerExists pg i = true ∧ (id = 0 ∨ s.dev.mayClaimId m id.toNat = true)) ∧
    (∃ (s : State) (m : Master) (pg : Page) (i : Fin 32) (id : BitVec 8), s.dev.pageWritable m pg = true ∧ ownerExists pg i = true ∧ id ≠ 0 ∧ s.dev.mayClaimId m id.toNat = false) ∧
    (∃ (s : State) (m : Master) (pg : Page), s.dev.pageWritable m pg = true) :=
  ⟨⟨mk [], Master.truss, 0, 24, 0x01#8, by decide +kernel⟩,
   ⟨mk [], Master.truss, 3, 0, 0x1a#8, by decide +kernel⟩,
   ⟨mk [], Master.truss, 5, by decide +kernel⟩⟩

theorem test_meets_ClockControl :
    (∃ (s : State) (m : Master) (n : Fin 9), s.dev.accessAllowed m (0x40000100 + 4 * n) true = false) ∧
    (∃ (s : State) (m : Master) (n : Fin 9), s.dev.accessAllowed m (0x40000100 + 4 * n) true = true ∧ n ∈ ([2, 4] : List (Fin 9))) ∧
    (∃ (s : State) (m : Master) (n : Fin 9), s.dev.accessAllowed m (0x40000100 + 4 * n) true = true ∧ n ∈ ([0, 3, 5, 6] : List (Fin 9)) ∧ s.dev.anyBridgeActive = true) ∧
    (∃ (s : State) (m : Master) (n : Fin 9) (v : Bool), s.dev.accessAllowed m (0x40000100 + 4 * n) true = true ∧ n ∉ ([2, 4, 7] : List (Fin 9)) ∧ (v = false ∨ n ∈ ([1, 8] : List (Fin 9)) ∨ s.dev.anyBridgeActive = false)) ∧
    (∃ (s : State) (m : Master), s.dev.accessAllowed m 0x4000011C true = true ∧ s.dev.netclkRuns = true) ∧
    (∃ (s : State) (m : Master), s.dev.accessAllowed m 0x4000011C true = true ∧ s.dev.netclkRuns = false ∧ s.dev.domainUp 7 = true) ∧
    (∃ (s : State) (n : Fin 9), n ∈ ([1, 7] : List (Fin 9)) ∧ s.dev.get (CPM.DOMCTL_EFF_THROT n) ≠ max (s.dev.get (CPM.DOMCTL_THROT n)) (s.dev.get TH.DIE_THROT)) ∧
    (∃ (s : State) (n : Fin 9), n ∈ ([1, 7] : List (Fin 9)) ∧ s.dev.get (CPM.DOMCTL_EFF_THROT n) = max (s.dev.get (CPM.DOMCTL_THROT n)) (s.dev.get TH.DIE_THROT)) ∧
    (∃ (n : Fin 9), n ∉ ([1, 7] : List (Fin 9))) ∧
    (∃ (c : Nat), 235200 ≤ c ∧ c ≤ 244800) ∧
    (∃ (s : State), s.dev.monitorArmed = false) ∧
    (∃ (s : State) (c : Nat), s.dev.monitorArmed = true ∧ (c < 235200 ∨ 244800 < c)) :=
  ⟨⟨mk [], Master.span1h1, 2, by decide +kernel⟩,
   ⟨mk [], Master.span0, 2, by decide +kernel⟩,
   ⟨mk [fun d => brActive (1) d], Master.truss, 0, by decide +kernel⟩,
   ⟨mk [], Master.truss, 8, false, by decide +kernel⟩,
   ⟨mk [], Master.truss, by decide +kernel⟩,
   ⟨mk [fun d => d.set (CPM.DOMCTL_ACTIVE 7) 0], Master.truss, by decide +kernel⟩,
   ⟨let n : Fin 9 := 7; mk [fun d => d.set (CPM.DOMCTL_EFF_THROT n) (5)], 7, by decide +kernel⟩,
   ⟨let n : Fin 9 := 7; mk [fun d => d.set (CPM.DOMCTL_EFF_THROT n) (max (d.get (CPM.DOMCTL_THROT n)) (d.get TH.DIE_THROT))], 7, by decide +kernel⟩,
   ⟨8, by decide +kernel⟩,
   ⟨240000, by decide +kernel⟩,
   ⟨mk [fun d => d.modStart fun z => { z with phase := if 0 = 0 then .held else .rc }], by decide +kernel⟩,
   ⟨mk [], 2, by decide +kernel⟩⟩

theorem test_meets_Resets :
    (∃ (s : State), s.dev.inShelf = false ∧ s.dev.vol.start.burn = none ∧ s.dev.vol.start.flash = none ∧ s.dev.accessAllowed .truss 0x40010010 true = true) ∧
    (∃ (s : State), s.dev.inShelf = true) ∧
    (∃ (s : State) (m : Master) (v : Word), s.dev.accessAllowed m 0x40010010 true = true ∧ v ≠ 0x5EC00D1E#32) ∧
    (∃ (s : State) (m : Master), s.dev.accessAllowed m 0x40010010 true = false) ∧
    (∃ (s : State) (b : Burn), s.dev.inShelf = false ∧ s.dev.vol.start.burn = some b) ∧
    (∃ (f : Fld), f.lo < 32 ∧ keptAddr f.addr = false) ∧
    (∃ (f : Fld), f.lo < 32 ∧ keptAddr f.addr = true ∧ f.key ≠ PIER.WSTAT_WSTATE.key) ∧
    (∃ (d : Dev), d.running = false) ∧
    (∃ (d : Dev), d.running = false) ∧
    (∃ (d : Dev), d.running = false) ∧
    (∃ (d : Dev), d.running = false) ∧
    (∃ (d : Dev), d.running = false ∧ d.inShelf = false) :=
  ⟨⟨mk [fun d => d.modStart fun z => { z with burn := none }, fun d => d.modStart fun z => { z with flash := none }], by decide +kernel⟩,
   ⟨mk [fun d => d.setSt 1 2], by decide +kernel⟩,
   ⟨mk [], Master.truss, 0xffffffff#32, by decide +kernel⟩,
   ⟨mk [], Master.dict, by decide +kernel⟩,
   ⟨let b : Burn := { target := 2, word := 1 }; mk [fun d => d.modStart fun z => { z with burn := some b }], { target := 2, word := 1 }, by decide +kernel⟩,
   ⟨{ addr := 1076887552, lo := 0, width := 1, acc := Acc.rw, rst := 0, beh := false }, by decide +kernel⟩,
   ⟨{ addr := 1073807364, lo := 0, width := 1, acc := Acc.w1c, rst := 0, beh := false }, by decide +kernel⟩,
   ⟨(mk [fun d => d.modStart fun z => { z with phase := .held }]).dev, by decide +kernel⟩,
   ⟨(mk [fun d => d.modStart fun z => { z with phase := .held }]).dev, by decide +kernel⟩,
   ⟨(mk [fun d => d.modStart fun z => { z with phase := .held }]).dev, by decide +kernel⟩,
   ⟨(mk [fun d => d.modStart fun z => { z with phase := .held }]).dev, by decide +kernel⟩,
   ⟨(mk [fun d => d.modStart fun z => { z with phase := .held }]).dev, by decide +kernel⟩⟩

theorem test_meets_SuppliesAndBoot :
    (∃ (s : State) (v : Supply), s.dev.running = true ∧ v ≠ .vref) ∧
    (∃ (s : State) (v : Supply), (s.dev.running = false ∨ v = .vref)) ∧
    (∃ (d : Dev) (v : Supply), d.supplyUp v = false) ∧
    (∃ (s : State), s.dev.running = false ∧ s.dev.inShelf = false ∧ s.dev.lands.rise = [.vio, .vana, .vref, .vcore]) ∧
    (∃ (s : State), s.dev.lands.rise ≠ [.vio, .vana, .vref, .vcore]) ∧
    (∃ (d : Dev), d.nv.retired = 0 ∧ d.nv.dbgls = false ∧ natBit d.nv.fuses.opt 0 = false ∧ natBit d.nv.fuses.opt 1 = false) ∧
    (∃ (s : State), s.dev.inShelf = true ∧ s.dev.pier.shelfWake = true ∧ s.dev.get PIER.WSTAT_WSTATE ≠ 5 ∧ s.dev.wakeSupplies = true ∧ s.dev.pier.episode = []) ∧
    (∃ (s : State), s.dev.vol.start.phase = .rc ∧ s.dev.pier.shelfWake = false) :=
  ⟨⟨mk [], Supply.vcore, by decide +kernel⟩,
   ⟨mk [fun d => d.modStart fun z => { z with phase := .held }], Supply.vref, by decide +kernel⟩,
   ⟨(let v : Supply := Supply.vref; mk [fun d => d.setSupply v false]).dev, Supply.vref, by decide +kernel⟩,
   ⟨mk [fun d => d.modStart fun z => { z with phase := .held }], by decide +kernel⟩,
   ⟨mk [fun d => d.setSupply .vio false], by decide +kernel⟩,
   ⟨(mk []).dev, by decide +kernel⟩,
   ⟨mk [fun d => d.setSt 1 2, fun d => d.modPier fun z => { z with shelfWake := true }, fun d => d.set PIER.WSTAT_WSTATE (1), fun d => d.modPier fun z => { z with episode := [] }], by decide +kernel⟩,
   ⟨mk [fun d => d.modStart fun z => { z with phase := .rc }, fun d => d.modPier fun z => { z with shelfWake := false }], by decide +kernel⟩⟩

theorem test_meets_StartSequence :
    (∃ (s : State), s.dev.vol.start.phase = .rc ∧ s.dev.pier.shelfWake = false ∧ s.dev.pier.bist = none ∧ s.mem.wf = true ∧ s.mem.readLE 0x101EFF00 4 ≠ 0xB1578620) ∧
    (∃ (s : State), s.dev.vol.start.phase = .rc ∧ s.dev.pier.shelfWake = false ∧ (s.dev.pier.bist.isSome = true ∨ (s.mem.readLE 0x101EFF00 4 = 0xB1578620 ∧ s.mem.readLE 0x101EFF1C 4 = recordCrc (s.mem.readBytes 0x101EFF00 0x1C) ∧ s.mem.readLE 0x101EFF04 4 = (s.dev.startCount + 1) % 2 ^ 32 ∧ natBit (s.mem.readLE 0x101EFF08 4) 31 = true))) ∧
    (∃ (s : State), s.dev.vol.start.phase ≠ .rc) ∧
    (∃ (s : State) (pass : Bool) (part : BitVec 8), s.dev.vol.start.phase = .bist ∧ (pass = true ∨ part.toNat / 16 - 1 < 8)) ∧
    (∃ (s : State), s.dev.vol.start.phase ≠ .bist) ∧
    (∃ (s : State), s.dev.vol.start.phase = .restored) ∧
    (∃ (s : State), s.dev.vol.start.phase ≠ .restored) ∧
    (∃ (s : State), s.dev.vol.start.phase = .ports ∧ s.dev.get DE.STAT_OPSTATE = 1) ∧
    (∃ (s : State), s.dev.vol.start.phase = .ports ∧ s.dev.get DE.STAT_OPSTATE ≠ 1) ∧
    (∃ (s : State), s.dev.vol.start.phase ≠ .ports) :=
  ⟨⟨mk [fun d => d.modStart fun z => { z with phase := .rc }, fun d => d.modPier fun z => { z with shelfWake := false }, fun d => d.modPier fun z => { z with bist := none }], by decide +kernel⟩,
   ⟨mk [fun d => d.modStart fun z => { z with phase := .rc }, fun d => d.modPier fun z => { z with shelfWake := false }, fun d => d.modPier fun z => { z with bist := some true }], by decide +kernel⟩,
   ⟨mk [], by decide +kernel⟩,
   ⟨mk [fun d => d.modStart fun z => { z with phase := .bist }], true, 0xb0#8, by decide +kernel⟩,
   ⟨mk [], by decide +kernel⟩,
   ⟨mk [fun d => d.modStart fun z => { z with phase := .restored }], by decide +kernel⟩,
   ⟨mk [], by decide +kernel⟩,
   ⟨mk [fun d => d.modStart fun z => { z with phase := .ports }, fun d => d.set DE.STAT_OPSTATE (1)], by decide +kernel⟩,
   ⟨mk [fun d => d.modStart fun z => { z with phase := .ports }, fun d => d.set DE.STAT_OPSTATE (5)], by decide +kernel⟩,
   ⟨mk [], by decide +kernel⟩⟩

theorem test_meets_FlashController :
    (∃ (s : State) (m : Master) (e : Nat × Instr), e ∈ [(1, Instr.flashProgram m), (2, Instr.flashEraseSector m), (3, Instr.flashEraseBank m)] ∧ s.dev.accessAllowed m 0x40010400 true = false) ∧
    (∃ (s : State) (m : Master) (e : Nat × Instr), e ∈ [(1, Instr.flashProgram m), (2, Instr.flashEraseSector m), (3, Instr.flashEraseBank m)] ∧ s.dev.accessAllowed m 0x40010400 true = true ∧ s.dev.get LC.FLCTL_BUSY = 1) ∧
    (∃ (s : State) (m : Master) (e : Nat × Instr), e ∈ [(1, Instr.flashProgram m), (2, Instr.flashEraseSector m), (3, Instr.flashEraseBank m)] ∧ s.dev.accessAllowed m 0x40010400 true = true ∧ s.dev.get LC.FLCTL_BUSY ≠ 1 ∧ (s.dev.get LC.FLADDR_V < 0x08000000 ∨ 0x09000000 ≤ s.dev.get LC.FLADDR_V ∨ (e.1 = 1 ∧ s.dev.get LC.FLADDR_V % 16 ≠ 0) ∨ s.dev.bankRuns (s.dev.get LC.FLADDR_V) = true)) ∧
    (∃ (s : State) (m : Master) (e : Nat × Instr), e ∈ [(1, Instr.flashProgram m), (2, Instr.flashEraseSector m), (3, Instr.flashEraseBank m)] ∧ s.dev.accessAllowed m 0x40010400 true = true ∧ s.dev.get LC.FLCTL_BUSY ≠ 1 ∧ 0x08000000 ≤ s.dev.get LC.FLADDR_V ∧ s.dev.get LC.FLADDR_V < 0x09000000 ∧ (e.1 = 1 → s.dev.get LC.FLADDR_V % 16 = 0) ∧ s.dev.bankRuns (s.dev.get LC.FLADDR_V) = false) ∧
    (∃ (s : State), s.dev.vol.start.flash = none) ∧
    (∃ (s : State) (c : FlashCmd), s.dev.vol.start.flash = some c ∧ s.mem.wf = true ∧ c.code = 1 ∧ lineErased s.mem c.addr = true) ∧
    (∃ (s : State) (c : FlashCmd), s.dev.vol.start.flash = some c ∧ s.mem.wf = true ∧ (c.code = 2 ∨ c.code = 3) ∧ 0x08000000 ≤ c.addr ∧ c.addr < 0x09000000) ∧
    (∃ (c : FlashCmd), c.code = 2) ∧
    (∃ (c : FlashCmd), c.code = 3) :=
  ⟨⟨mk [], Master.span1h1, (2, Instr.flashEraseSector (Master.span1h1)), by decide +kernel⟩,
   ⟨mk [fun d => d.set LC.FLCTL_BUSY (1)], Master.truss, (3, Instr.flashEraseBank (Master.truss)), by decide +kernel⟩,
   ⟨mk [fun d => d.set LC.FLCTL_BUSY (2)], Master.dict, (2, Instr.flashEraseSector (Master.dict)), by decide +kernel⟩,
   ⟨mk [fun d => d.set LC.FLCTL_BUSY (2), fun d => d.set LC.FLADDR_V ((0x08000000) + 0 + 1)], Master.dict, (2, Instr.flashEraseSector (Master.dict)), by decide +kernel⟩,
   ⟨mk [fun d => d.modStart fun z => { z with flash := none }], by decide +kernel⟩,
   ⟨let c : FlashCmd := { code := 1, addr := 150725984, line := 936 }; mk [fun d => d.modStart fun z => { z with flash := some c }], { code := 1, addr := 150725984, line := 936 }, by decide +kernel⟩,
   ⟨let c : FlashCmd := { code := 2, addr := 147537472, line := 604 }; mk [fun d => d.modStart fun z => { z with flash := some c }], { code := 2, addr := 147537472, line := 604 }, by decide +kernel⟩,
   ⟨{ code := 2, addr := 135754544, line := 815 }, by decide +kernel⟩,
   ⟨{ code := 3, addr := 142444560, line := 424 }, by decide +kernel⟩⟩

theorem test_meets_LifeCycleTransition :
    (∃ (s : State), s.dev.running = true) ∧
    (∃ (s : State), s.dev.running = false) ∧
    (∃ (s : State), s.dev.vol.start.burn = none ∧ 8 ≤ s.dev.pier.sigFails ∧ s.dev.opRunning 0x7010 = false) ∧
    (∃ (s : State) (target : BitVec 8) (v : Nonce) (n : Bool × Bool) (dst : Nat), s.dev.vol.start.burn = none ∧ s.dev.pier.sigFails < 8 ∧ (s.dev.opBegin 0x7010 5 [(2, target.toNat)] s.dev.transState true).2 = true ∧ ((s.dev.opBegin 0x7010 5 [(2, target.toNat)] s.dev.transState true).1).objVal 0x7010 2 0 = dst ∧ ((s.dev.opBegin 0x7010 5 [(2, target.toNat)] s.dev.transState true).1).vol.start.nonce = some v ∧ ((s.dev.opBegin 0x7010 5 [(2, target.toNat)] s.dev.transState true).1).transAuth dst = some n ∧ (n.1 = true → ((s.dev.opBegin 0x7010 5 [(2, target.toNat)] s.dev.transState true).1).customerSigned dst v.value = true) ∧ (n.2 = true → ((s.dev.opBegin 0x7010 5 [(2, target.toNat)] s.dev.transState true).1).makerSigned dst v.value = true) ∧ dst ≠ ((s.dev.opBegin 0x7010 5 [(2, target.toNat)] s.dev.transState true).1).get LC.LCSTATE_STATE) ∧
    (∃ (s : State) (target : BitVec 8) (v : Nonce) (n : Bool × Bool) (dst : Nat), s.dev.vol.start.burn = none ∧ s.dev.pier.sigFails < 8 ∧ (s.dev.opBegin 0x7010 5 [(2, target.toNat)] s.dev.transState true).2 = true ∧ ((s.dev.opBegin 0x7010 5 [(2, target.toNat)] s.dev.transState true).1).objVal 0x7010 2 0 = dst ∧ ((s.dev.opBegin 0x7010 5 [(2, target.toNat)] s.dev.transState true).1).vol.start.nonce = some v ∧ ((s.dev.opBegin 0x7010 5 [(2, target.toNat)] s.dev.transState true).1).transAuth dst = some n ∧ ((n.1 = true ∧ ((s.dev.opBegin 0x7010 5 [(2, target.toNat)] s.dev.transState true).1).customerSigned dst v.value = false) ∨ (n.2 = true ∧ ((s.dev.opBegin 0x7010 5 [(2, target.toNat)] s.dev.transState true).1).makerSigned dst v.value = false))) ∧
    (∃ (s : State) (k : Fin 7), s.dev.vol.start.burn = some { target := k, word := 0 } ∧ s.dev.lands.resetPending = []) ∧
    (∃ (s : State) (k : Fin 7), s.dev.vol.start.burn = some { target := k, word := 1 } ∧ s.dev.lands.resetPending = [] ∧ s.dev.vol.start.flash = none) ∧
    (∃ (s : State) (target : BitVec 8), s.dev.vol.start.burn = none ∧ s.dev.pier.sigFails < 8 ∧ (s.dev.opBegin 0x7010 5 [(2, target.toNat)] s.dev.transState true).2 = true ∧ ((s.dev.opBegin 0x7010 5 [(2, target.toNat)] s.dev.transState true).1).transAuth (((s.dev.opBegin 0x7010 5 [(2, target.toNat)] s.dev.transState true).1).objVal 0x7010 2 0) = none) ∧
    (∃ (s : State) (target : BitVec 8), s.dev.vol.start.burn = none ∧ s.dev.pier.sigFails < 8 ∧ (s.dev.opBegin 0x7010 5 [(2, target.toNat)] s.dev.transState true).2 = false) ∧
    (∃ (s : State) (target : BitVec 8) (v : Nonce) (n : Bool × Bool), s.dev.vol.start.burn = none ∧ s.dev.pier.sigFails < 8 ∧ (s.dev.opBegin 0x7010 5 [(2, target.toNat)] s.dev.transState true).2 = true ∧ ((s.dev.opBegin 0x7010 5 [(2, target.toNat)] s.dev.transState true).1).objVal 0x7010 2 0 = ((s.dev.opBegin 0x7010 5 [(2, target.toNat)] s.dev.transState true).1).get LC.LCSTATE_STATE ∧ ((s.dev.opBegin 0x7010 5 [(2, target.toNat)] s.dev.transState true).1).vol.start.nonce = some v ∧ ((s.dev.opBegin 0x7010 5 [(2, target.toNat)] s.dev.transState true).1).transAuth (((s.dev.opBegin 0x7010 5 [(2, target.toNat)] s.dev.transState true).1).get LC.LCSTATE_STATE) = some n ∧ (n.1 = true → ((s.dev.opBegin 0x7010 5 [(2, target.toNat)] s.dev.transState true).1).customerSigned (((s.dev.opBegin 0x7010 5 [(2, target.toNat)] s.dev.transState true).1).get LC.LCSTATE_STATE) v.value = true) ∧ (n.2 = true → ((s.dev.opBegin 0x7010 5 [(2, target.toNat)] s.dev.transState true).1).makerSigned (((s.dev.opBegin 0x7010 5 [(2, target.toNat)] s.dev.transState true).1).get LC.LCSTATE_STATE) v.value = true)) ∧
    (∃ (s : State) (b : Burn), s.dev.vol.start.burn = some b) :=
  ⟨⟨mk [], by decide +kernel⟩,
   ⟨mk [fun d => d.modStart fun z => { z with phase := .held }], by decide +kernel⟩,
   ⟨mk [fun d => d.modStart fun z => { z with burn := none }, fun d => d.modPier fun z => { z with sigFails := 8 }], by decide +kernel⟩,
   ⟨mk [fun d => d.modStart fun z => { z with burn := none }, fun d => (d.set DE.STAT_OPSTATE 1).modStart fun z => { z with bootMode := 3, nonce := some ⟨5, 0⟩ }, fun d => d.set LC.LCSTATE_STATE 0], 0x01#8, { value := 5, readAt := 0 }, (false, false), 1, by decide +kernel⟩,
   ⟨mk [fun d => d.modStart fun z => { z with burn := none }, fun d => (d.set DE.STAT_OPSTATE 1).modStart fun z => { z with bootMode := 3, nonce := some ⟨5, 0⟩ }, fun d => d.set LC.LCSTATE_STATE 3], 0x04#8, { value := 5, readAt := 0 }, (true, false), 4, by decide +kernel⟩,
   ⟨let k : Fin 7 := 6; mk [fun d => d.modStart fun z => { z with burn := some { target := k, word := 0 } }], 6, by decide +kernel⟩,
   ⟨let k : Fin 7 := 6; mk [fun d => d.modStart fun z => { z with burn := some { target := k, word := 1 } }, fun d => d.modStart fun z => { z with flash := none }], 6, by decide +kernel⟩,
   ⟨mk [fun d => d.modStart fun z => { z with burn := none }, fun d => (d.set DE.STAT_OPSTATE 1).modStart fun z => { z with bootMode := 3, nonce := some ⟨5, 0⟩ }], 0x02#8, by decide +kernel⟩,
   ⟨mk [fun d => d.modStart fun z => { z with burn := none }], 0x02#8, by decide +kernel⟩,
   ⟨mk [fun d => d.modStart fun z => { z with burn := none }, fun d => (d.set DE.STAT_OPSTATE 1).modStart fun z => { z with bootMode := 3, nonce := some ⟨5, 0⟩ }, fun d => (d.set LC.LCSTATE_STATE 5).setDomain 0x7010 4 lctSig, fun d => { d with nv := { d.nv with objs := [(objKey 0x1018 5, 0)], fuses := { d.nv.fuses with maker := lctHash } } }], 0x05#8, { value := 5, readAt := 0 }, (false, true), by decide +kernel⟩,
   ⟨let b : Burn := { target := 5, word := 0 }; mk [fun d => d.modStart fun z => { z with burn := some b }], { target := 5, word := 0 }, by decide +kernel⟩⟩

theorem test_meets_BootOptionFuses :
    (∃ (s : State) (sub : BitVec 8) (v : BitVec 512), 1 ≤ sub.toNat ∧ sub.toNat ≤ 5 ∧ s.dev.get LC.LCSTATE_STATE = 2 ∧ v.toNat < 2 ^ (optPlace sub.toNat).2 ∧ natField s.dev.nv.fuses.opt (optPlace sub.toNat).1 (optPlace sub.toNat).2 &&& v.toNat = natField s.dev.nv.fuses.opt (optPlace sub.toNat).1 (optPlace sub.toNat).2) ∧
    (∃ (s : State) (sub : BitVec 8) (v : BitVec 512), 1 ≤ sub.toNat ∧ sub.toNat ≤ 5 ∧ s.dev.get LC.LCSTATE_STATE = 2 ∧ v.toNat < 2 ^ (optPlace sub.toNat).2 ∧ natField s.dev.nv.fuses.opt (optPlace sub.toNat).1 (optPlace sub.toNat).2 &&& v.toNat ≠ natField s.dev.nv.fuses.opt (optPlace sub.toNat).1 (optPlace sub.toNat).2) ∧
    (∃ (s : State) (sub : BitVec 8), sub.toNat ≤ 6 ∧ s.dev.get LC.LCSTATE_STATE ≠ 2) ∧
    (∃ (s : State) (v : BitVec 512), s.dev.get LC.LCSTATE_STATE = 2 ∧ (s.dev.nv.fuses.slot0 + s.dev.nv.fuses.slot1 * 2 ^ 256) &&& v.toNat = (s.dev.nv.fuses.slot0 + s.dev.nv.fuses.slot1 * 2 ^ 256)) ∧
    (∃ (s : State) (v : BitVec 512), s.dev.get LC.LCSTATE_STATE = 2 ∧ (s.dev.nv.fuses.slot0 + s.dev.nv.fuses.slot1 * 2 ^ 256) &&& v.toNat ≠ (s.dev.nv.fuses.slot0 + s.dev.nv.fuses.slot1 * 2 ^ 256)) ∧
    (∃ (s : State) (arb : Fin 64) (r0 : Bool) (r1 : Bool) (v : Nat), (s.dev.opRunning 0x7012 = true ∨ s.dev.get LC.LCSTATE_STATE = 3 ∨ s.dev.get LC.LCSTATE_STATE = 4) ∧ (s.dev.opBegin 0x7012 3 [(1, arb.val + b2n r0 * 64 + b2n r1 * 128)] (decide (s.dev.get DE.STAT_OPSTATE ≠ 6)) true).2 = true ∧ ((s.dev.opBegin 0x7012 3 [(1, arb.val + b2n r0 * 64 + b2n r1 * 128)] (decide (s.dev.get DE.STAT_OPSTATE ≠ 6)) true).1).objVal 0x7012 1 0 = v ∧ s.dev.nv.fuses.arb ≤ v % 64) ∧
    (∃ (s : State) (arb : Fin 64) (r0 : Bool) (r1 : Bool) (v : Nat), (s.dev.opRunning 0x7012 = true ∨ s.dev.get LC.LCSTATE_STATE = 3 ∨ s.dev.get LC.LCSTATE_STATE = 4) ∧ (s.dev.opBegin 0x7012 3 [(1, arb.val + b2n r0 * 64 + b2n r1 * 128)] (decide (s.dev.get DE.STAT_OPSTATE ≠ 6)) true).2 = true ∧ ((s.dev.opBegin 0x7012 3 [(1, arb.val + b2n r0 * 64 + b2n r1 * 128)] (decide (s.dev.get DE.STAT_OPSTATE ≠ 6)) true).1).objVal 0x7012 1 0 = v ∧ v % 64 < s.dev.nv.fuses.arb) ∧
    (∃ (s : State), s.dev.opRunning 0x7012 = false ∧ s.dev.get LC.LCSTATE_STATE ≠ 3 ∧ s.dev.get LC.LCSTATE_STATE ≠ 4) ∧
    (∃ (s : State) (arb : Fin 64) (r0 : Bool) (r1 : Bool), (s.dev.opRunning 0x7012 = true ∨ s.dev.get LC.LCSTATE_STATE = 3 ∨ s.dev.get LC.LCSTATE_STATE = 4) ∧ (s.dev.opBegin 0x7012 3 [(1, arb.val + b2n r0 * 64 + b2n r1 * 128)] (decide (s.dev.get DE.STAT_OPSTATE ≠ 6)) true).2 = false) :=
  ⟨⟨mk [fun d => d.set LC.LCSTATE_STATE (2)], 0x04#8, 0#512, by decide +kernel⟩,
   ⟨mk [fun d => d.set LC.LCSTATE_STATE (2), fun d => { d with nv := { d.nv with fuses := { d.nv.fuses with opt := 382 } } }], 0x03#8, 0#512, by decide +kernel⟩,
   ⟨mk [fun d => d.set LC.LCSTATE_STATE (5)], 0x04#8, by decide +kernel⟩,
   ⟨mk [fun d => d.set LC.LCSTATE_STATE (2)], 0#512, by decide +kernel⟩,
   ⟨mk [fun d => d.set LC.LCSTATE_STATE (2), fun d => { d with nv := { d.nv with fuses := { d.nv.fuses with slot0 := 936 - 1 - 644 } } }], 0#512, by decide +kernel⟩,
   ⟨mk [fun d => (d.set LC.LCSTATE_STATE 3).set DE.STAT_OPSTATE 2], 63, false, false, 63, by decide +kernel⟩,
   ⟨let arb : Fin 64 := 63; mk [fun d => { d with nv := { d.nv with fuses := { d.nv.fuses with arb := 65 } } }, fun d => (d.set LC.LCSTATE_STATE 3).set DE.STAT_OPSTATE 2], 63, false, false, 63, by decide +kernel⟩,
   ⟨mk [fun d => d.set LC.LCSTATE_STATE (5), fun d => d.set LC.LCSTATE_STATE (1)], by decide +kernel⟩,
   ⟨mk [fun d => ((d.set LC.LCSTATE_STATE 3).set DE.STAT_OPSTATE 2).modDict fun z => { z with ops := [(1, false)] }], 63, false, false, by decide +kernel⟩⟩

theorem test_meets_FusesOnlyBurn :
    (∃ (s t : State) (i : Instr) (k : Fin 7), (i = .powerOnReset ∨ (∃ w, i = .fuseBurnComplete w) ∨ (∃ sub v, i = .bootOptionWrite sub v) ∨ (∃ a r0 r1 c, i = .arbRaise a r0 r1 c) ∨ (∃ g, i = .lcTransitionStart g)) ∧ vget s.dev.nv.fuses.word1 k = true ∧ exec i s = .next t) ∧
    (∃ (s t : State) (i : Instr) (k : Fin 7), (i = .powerOnReset ∨ (∃ w, i = .fuseBurnComplete w) ∨ (∃ sub v, i = .bootOptionWrite sub v) ∨ (∃ a r0 r1 c, i = .arbRaise a r0 r1 c) ∨ (∃ g, i = .lcTransitionStart g)) ∧ exec i s = .next t ∧ vget s.dev.nv.fuses.word2 k = true) ∧
    (∃ (s t : State) (i : Instr) (j : Nat), (i = .powerOnReset ∨ (∃ w, i = .fuseBurnComplete w) ∨ (∃ sub v, i = .bootOptionWrite sub v) ∨ (∃ a r0 r1 c, i = .arbRaise a r0 r1 c) ∨ (∃ g, i = .lcTransitionStart g)) ∧ natBit s.dev.nv.fuses.opt j = true ∧ exec i s = .next t) ∧
    (∃ (s t : State) (i : Instr) (j : Nat), (i = .powerOnReset ∨ (∃ w, i = .fuseBurnComplete w) ∨ (∃ sub v, i = .bootOptionWrite sub v) ∨ (∃ a r0 r1 c, i = .arbRaise a r0 r1 c) ∨ (∃ g, i = .lcTransitionStart g)) ∧ exec i s = .next t ∧ j < 256 ∧ s.dev.nv.fuses.slot0 < 2 ^ 256 ∧ natBit s.dev.nv.fuses.slot0 j = true) ∧
    (∃ (s t : State) (i : Instr) (j : Nat), (i = .powerOnReset ∨ (∃ w, i = .fuseBurnComplete w) ∨ (∃ sub v, i = .bootOptionWrite sub v) ∨ (∃ a r0 r1 c, i = .arbRaise a r0 r1 c) ∨ (∃ g, i = .lcTransitionStart g)) ∧ exec i s = .next t ∧ j < 256 ∧ s.dev.nv.fuses.slot0 < 2 ^ 256 ∧ natBit s.dev.nv.fuses.slot1 j = true) ∧
    (∃ (s t : State) (i : Instr), (i = .powerOnReset ∨ (∃ w, i = .fuseBurnComplete w) ∨ (∃ sub v, i = .bootOptionWrite sub v) ∨ (∃ a r0 r1 c, i = .arbRaise a r0 r1 c) ∨ (∃ g, i = .lcTransitionStart g)) ∧ exec i s = .next t ∧ s.dev.nv.fuses.hukGone = true) :=
  ⟨⟨mk [fun d => { d with nv := { d.nv with fuses := { d.nv.fuses with word1 := vset d.nv.fuses.word1 6 true } } }], _, .powerOnReset, 6, .inl rfl, by decide +kernel, rfl⟩,
   ⟨mk [fun d => { d with nv := { d.nv with fuses := { d.nv.fuses with word2 := vset d.nv.fuses.word2 0 true } } }], _, .powerOnReset, 0, .inl rfl, rfl, by decide +kernel⟩,
   ⟨mk [fun d => { d with nv := { d.nv with fuses := { d.nv.fuses with opt := 8 } } }], _, .fuseBurnComplete 1, 3, .inr (.inl ⟨1, rfl⟩), by decide +kernel, rfl⟩,
   ⟨mk [fun d => { d with nv := { d.nv with fuses := { d.nv.fuses with slot0 := 2 ^ 255 } } }], _, .powerOnReset, 255, .inl rfl, rfl, by decide +kernel⟩,
   ⟨mk [fun d => { d with nv := { d.nv with fuses := { d.nv.fuses with slot1 := 1 } } }], _, .powerOnReset, 0, .inl rfl, rfl, by decide +kernel⟩,
   ⟨mk [fun d => { d with nv := { d.nv with fuses := { d.nv.fuses with hukGone := true } } }], _, .powerOnReset, .inl rfl, rfl, by decide +kernel⟩⟩

theorem test_meets_ResultEntry :
    (∃ (s : State) (k : Fin 32) (i : Fin 4) (v : Int) (vref : Nat) (n : Nat) (q : Fin 8), s.dev.sliceLive k = true ∧ (vget s.dev.vol.ana.scan k).expects i = true ∧ 0 < vref ∧ q.val = s.dev.queueOf k i ∧ ((s.dev.vol.ana.waiting.all fun w => !w.follows q n (4 * k + i)) = true) ∧ i ≠ 2 ∧ 1000 * v.natAbs ≤ 1015 * vref) ∧
    (∃ (s : State) (k : Fin 32) (i : Fin 4) (v : Int) (vref : Nat) (n : Nat) (q : Fin 8), s.dev.sliceLive k = true ∧ (vget s.dev.vol.ana.scan k).expects i = true ∧ 0 < vref ∧ q.val = s.dev.queueOf k i ∧ ((s.dev.vol.ana.waiting.all fun w => !w.follows q n (4 * k + i)) = true) ∧ i ≠ 2 ∧ 1025 * vref < 1000 * v.natAbs) ∧
    (∃ (s : State) (k : Fin 32) (i : Fin 4) (vref : Nat) (n : Nat) (q : Fin 8), s.dev.sliceLive k = true ∧ (vget s.dev.vol.ana.scan k).expects i = true ∧ 0 < vref ∧ q.val = s.dev.queueOf k i ∧ ((s.dev.vol.ana.waiting.all fun w => !w.follows q n (4 * k + i)) = true) ∧ i = 2) ∧
    (∃ (s : State) (k : Fin 32) (i : Fin 4) (vref : Nat) (n : Nat) (q : Fin 8) (w : QItem), s.dev.sliceLive k = true ∧ (vget s.dev.vol.ana.scan k).expects i = true ∧ 0 < vref ∧ q.val = s.dev.queueOf k i ∧ s.dev.vol.ana.waiting = [w] ∧ w.q = q.val ∧ w.n = n ∧ k.val < w.tag / 4) ∧
    (∃ (s : State) (k : Fin 32) (i : Fin 4), (s.dev.sliceLive k = false ∨ (vget s.dev.vol.ana.scan k).expects i = false)) ∧
    (∃ (s : State) (k : Fin 32) (i : Fin 4) (v : Int) (vref : Nat) (b : Bridge) (p : Fin 3) (x : Int), s.dev.sliceLive k = true ∧ (vget s.dev.vol.ana.scan k).expects i = true ∧ 0 < vref ∧ i ≠ 2 ∧ 1000 * v.natAbs ≤ 1015 * vref ∧ x = clampInt (-32768) 32767 (roundDiv (v * 32768) vref) ∧ (b, p) ∈ s.dev.phasesOfTag (4 * k + i) ∧ s.dev.works 4 3 = true ∧ (s.dev.snapOf b).oclim < x.natAbs) ∧
    (∃ (s : State) (k : Fin 32) (i : Fin 4) (v : Int) (vref : Nat) (b : Bridge) (p : Fin 3) (x : Int), s.dev.sliceLive k = true ∧ (vget s.dev.vol.ana.scan k).expects i = true ∧ 0 < vref ∧ i ≠ 2 ∧ 1000 * v.natAbs ≤ 1015 * vref ∧ x = clampInt (-32768) 32767 (roundDiv (v * 32768) vref) ∧ (b, p) ∈ s.dev.phasesOfTag (4 * k + i) ∧ s.dev.works 4 3 = true ∧ x.natAbs ≤ (s.dev.snapOf b).oclim) ∧
    (∃ (s : State) (k : Fin 32) (i : Fin 4) (v : Int) (vref : Nat) (n : Nat) (b : Bridge) (p : Fin 3) (x : Int), s.dev.sliceLive k = true ∧ (vget s.dev.vol.ana.scan k).expects i = true ∧ 0 < vref ∧ i ≠ 2 ∧ 1000 * v.natAbs ≤ 1015 * vref ∧ x = clampInt (-32768) 32767 (roundDiv (v * 32768) vref) ∧ (b, p) ∈ s.dev.phasesOfTag (4 * k + i) ∧ s.dev.works 4 3 = true ∧ s.dev.active b = true ∧ (s.dev.snapOf b).ctrl = 0 ∧ ((if (vget (s.dev.engS b).h p * 2 ^ 48) < (x * 2 ^ 64 - (vget (s.dev.engS b).cen p * 2 ^ 48 + vget (s.dev.engS b).slp p * (((presentedAt n) : Int) - (s.dev.engS b).tload) * 2 ^ 16 + vget (s.dev.engS b).crv p * (((presentedAt n) : Int) - (s.dev.engS b).tload) * (((presentedAt n) : Int) - (s.dev.engS b).tload) / 2)) then 1 else if (x * 2 ^ 64 - (vget (s.dev.engS b).cen p * 2 ^ 48 + vget (s.dev.engS b).slp p * (((presentedAt n) : Int) - (s.dev.engS b).tload) * 2 ^ 16 + vget (s.dev.engS b).crv p * (((presentedAt n) : Int) - (s.dev.engS b).tload) * (((presentedAt n) : Int) - (s.dev.engS b).tload) / 2)) < -(vget (s.dev.engS b).h p * 2 ^ 48) then 2 else vget (s.dev.engS b).leg p) = vget (s.dev.engS b).leg p ∨ (presentedAt n) < vget (s.dev.engS b).tchg p + (2 * max 10 (min 400 (s.dev.get (MOD.DEAD_DT b))) + (s.dev.snapOf b).minPulse))) ∧
    (∃ (s : State) (k : Fin 32) (i : Fin 4) (v : Int) (vref : Nat) (n : Nat) (b : Bridge) (p : Fin 3) (x : Int), s.dev.sliceLive k = true ∧ (vget s.dev.vol.ana.scan k).expects i = true ∧ 0 < vref ∧ i ≠ 2 ∧ 1000 * v.natAbs ≤ 1015 * vref ∧ x = clampInt (-32768) 32767 (roundDiv (v * 32768) vref) ∧ (b, p) ∈ s.dev.phasesOfTag (4 * k + i) ∧ s.dev.works 4 3 = true ∧ s.dev.active b = true ∧ (s.dev.snapOf b).ctrl = 0 ∧ (if (vget (s.dev.engS b).h p * 2 ^ 48) < (x * 2 ^ 64 - (vget (s.dev.engS b).cen p * 2 ^ 48 + vget (s.dev.engS b).slp p * (((presentedAt n) : Int) - (s.dev.engS b).tload) * 2 ^ 16 + vget (s.dev.engS b).crv p * (((presentedAt n) : Int) - (s.dev.engS b).tload) * (((presentedAt n) : Int) - (s.dev.engS b).tload) / 2)) then 1 else if (x * 2 ^ 64 - (vget (s.dev.engS b).cen p * 2 ^ 48 + vget (s.dev.engS b).slp p * (((presentedAt n) : Int) - (s.dev.engS b).tload) * 2 ^ 16 + vget (s.dev.engS b).crv p * (((presentedAt n) : Int) - (s.dev.engS b).tload) * (((presentedAt n) : Int) - (s.dev.engS b).tload) / 2)) < -(vget (s.dev.engS b).h p * 2 ^ 48) then 2 else vget (s.dev.engS b).leg p) ≠ vget (s.dev.engS b).leg p ∧ vget (s.dev.engS b).tchg p + (2 * max 10 (min 400 (s.dev.get (MOD.DEAD_DT b))) + (s.dev.snapOf b).minPulse) ≤ (presentedAt n)) ∧
    (∃ (s : State) (k : Fin 32) (i : Fin 4) (v : Int) (vref : Nat) (b : Bridge) (p : Fin 3) (x : Int), s.dev.sliceLive k = true ∧ (vget s.dev.vol.ana.scan k).expects i = true ∧ 0 < vref ∧ i ≠ 2 ∧ 1000 * v.natAbs ≤ 1015 * vref ∧ x = clampInt (-32768) 32767 (roundDiv (v * 32768) vref) ∧ (b, p) ∈ s.dev.phasesOfTag (4 * k + i) ∧ s.dev.works 4 3 = true ∧ (s.dev.active b = false ∨ (s.dev.snapOf b).ctrl ≠ 0)) :=
  ⟨⟨let k : Fin 32 := 31; let i : Fin 4 := 3; let q : Fin 8 := 3; mk [fun d => d.set AS.CTL_EN 1, fun d => d.modAna fun a => { a with scan := vset a.scan k { (vget a.scan k) with late := some i.val } }, fun d => d.setAll [(AS.SLCFG_Q0 k, q), (AS.SLCFG_Q1 k, q), (AS.SLCFG_Q2 k, q), (AS.SLCFG_Q3 k, q)]], 31, 3, 4231, 2500291, 24, 3, by decide +kernel⟩,
   ⟨let k : Fin 32 := 31; let i : Fin 4 := 3; let q : Fin 8 := 3; mk [fun d => d.set AS.CTL_EN 1, fun d => d.modAna fun a => { a with scan := vset a.scan k { (vget a.scan k) with late := some i.val } }, fun d => d.setAll [(AS.SLCFG_Q0 k, q), (AS.SLCFG_Q1 k, q), (AS.SLCFG_Q2 k, q), (AS.SLCFG_Q3 k, q)]], 31, 3, (-30000000), 2500291, 24, 3, by decide +kernel⟩,
   ⟨let k : Fin 32 := 9; let i : Fin 4 := 2; let q : Fin 8 := 2; mk [fun d => d.set AS.CTL_EN 1, fun d => d.modAna fun a => { a with scan := vset a.scan k { (vget a.scan k) with late := some i.val } }, fun d => d.setAll [(AS.SLCFG_Q0 k, q), (AS.SLCFG_Q1 k, q), (AS.SLCFG_Q2 k, q), (AS.SLCFG_Q3 k, q)]], 9, 2, 2500302, 100000, 2, by decide +kernel⟩,
   ⟨let k : Fin 32 := 23; let i : Fin 4 := 3; let n : Nat := 24; let q : Fin 8 := 3; let w : QItem := { q := 3, n := 24, tag := 96, entry := 1978280323 }; mk [fun d => d.set AS.CTL_EN 1, fun d => d.modAna fun a => { a with scan := vset a.scan k { (vget a.scan k) with late := some i.val } }, fun d => d.setAll [(AS.SLCFG_Q0 k, q), (AS.SLCFG_Q1 k, q), (AS.SLCFG_Q2 k, q), (AS.SLCFG_Q3 k, q)], fun d => d.modAna fun a => { a with waiting := [⟨q.val, n, 4 * k + 4 + 0, 1^32⟩] }, fun d => d.modAna fun a => { a with waiting := [w] }], 23, 3, 2500291, 24, 3, { q := 3, n := 24, tag := 96, entry := 1978280323 }, by decide +kernel⟩,
   ⟨mk [], 31, 3, by decide +kernel⟩,
   ⟨let k : Fin 32 := 8; let i : Fin 4 := 0; let n : Nat := 1; let b : Bridge := 1; mk [fun d => d.set AS.CTL_EN 1, fun d => d.modAna fun a => { a with scan := vset a.scan k { (vget a.scan k) with late := some i.val } }, fun d => d.modEng b fun e => { e with cen := .replicate 3 ((24429 : Int) * 65536), h := .replicate 3 ((1427 : Int) * 65536), slp := .replicate 3 ((462 : Int)), leg := .replicate 3 (1 + 1), tload := n, tchg := .replicate 3 0 }], 8, 0, (-23602), 25000, 1, 1, (-30936), by decide +kernel⟩,
   ⟨let k : Fin 32 := 4; let i : Fin 4 := 0; let n : Nat := 24; let b : Bridge := 0; mk [fun d => d.set AS.CTL_EN 1, fun d => d.modAna fun a => { a with scan := vset a.scan k { (vget a.scan k) with late := some i.val } }, fun d => d.modEng b fun e => { e with cen := .replicate 3 ((26850 : Int) * 65536), h := .replicate 3 ((2515 : Int) * 65536), slp := .replicate 3 ((1218 : Int)), leg := .replicate 3 (1 + 0), tload := n, tchg := .replicate 3 0 }], 4, 0, (-20769), 25000, 0, 2, (-27222), by decide +kernel⟩,
   ⟨let k : Fin 32 := 4; let i : Fin 4 := 0; let n : Nat := 24; let b : Bridge := 0; mk [fun d => d.set AS.CTL_EN 1, fun d => d.modAna fun a => { a with scan := vset a.scan k { (vget a.scan k) with late := some i.val } }, fun d => (d.set (CE.BSTAT_ST b) 3), fun d => d.modEng b fun e => { e with cen := .replicate 3 ((26850 : Int) * 65536), h := .replicate 3 ((2515 : Int) * 65536), slp := .replicate 3 ((1218 : Int)), leg := .replicate 3 (1 + 0), tload := n, tchg := .replicate 3 0 }], 4, 0, (-20769), 25000, 24, 0, 2, (-27222), by decide +kernel⟩,
   ⟨let k : Fin 32 := 6; let i : Fin 4 := 0; let n : Nat := 623; let b : Bridge := 1; mk [fun d => d.set AS.CTL_EN 1, fun d => d.modAna fun a => { a with scan := vset a.scan k { (vget a.scan k) with late := some i.val } }, fun d => (d.set (CE.BSTAT_ST b) 3), fun d => d.modEng b fun e => { e with cen := .replicate 3 ((29985 : Int) * 65536), h := .replicate 3 ((636 : Int) * 65536), slp := .replicate 3 ((67 : Int)), leg := .replicate 3 (1 + 1), tload := n, tchg := .replicate 3 0 }], 6, 0, 24189, 25000, 623, 1, 0, 31705, by decide +kernel⟩,
   ⟨let k : Fin 32 := 4; let i : Fin 4 := 0; let n : Nat := 24; let b : Bridge := 0; mk [fun d => d.set AS.CTL_EN 1, fun d => d.modAna fun a => { a with scan := vset a.scan k { (vget a.scan k) with late := some i.val } }, fun d => d.modEng b fun e => { e with cen := .replicate 3 ((26850 : Int) * 65536), h := .replicate 3 ((2515 : Int) * 65536), slp := .replicate 3 ((1218 : Int)), leg := .replicate 3 (1 + 0), tload := n, tchg := .replicate 3 0 }], 4, 0, (-20769), 25000, 0, 2, (-27222), by decide +kernel⟩⟩

theorem test_meets_Queues :
    (∃ (s : State) (q : Fin 8) (e : Nat) (rest : List QItem), s.dev.anaWorks = true ∧ takeWaiting s.dev.vol.ana.waiting q = (some e, rest) ∧ s.dev.get (Q.QCTL_EN q) ≠ 1) ∧
    (∃ (s : State) (q : Fin 8) (e : Nat) (rest : List QItem), s.dev.anaWorks = true ∧ takeWaiting s.dev.vol.ana.waiting q = (some e, rest) ∧ s.dev.get (Q.QCTL_EN q) = 1 ∧ s.dev.get (Q.QSTAT_LEVEL q) ≠ 512 ∧ s.dev.get (Q.QSTAT_LEVEL q) + 1 ≠ s.dev.watermark q) ∧
    (∃ (s : State) (q : Fin 8) (e : Nat) (rest : List QItem), s.dev.anaWorks = true ∧ takeWaiting s.dev.vol.ana.waiting q = (some e, rest) ∧ s.dev.get (Q.QCTL_EN q) = 1 ∧ s.dev.get (Q.QSTAT_LEVEL q) ≠ 512 ∧ s.dev.get (Q.QSTAT_LEVEL q) + 1 = s.dev.watermark q) ∧
    (∃ (s : State) (q : Fin 8) (e : Nat) (rest : List QItem), s.dev.anaWorks = true ∧ takeWaiting s.dev.vol.ana.waiting q = (some e, rest) ∧ s.dev.get (Q.QCTL_EN q) = 1 ∧ s.dev.get (Q.QSTAT_LEVEL q) = 512 ∧ s.dev.get (Q.QCTL_POLICY q) = 1) ∧
    (∃ (s : State) (q : Fin 8) (e : Nat) (rest : List QItem), s.dev.anaWorks = true ∧ takeWaiting s.dev.vol.ana.waiting q = (some e, rest) ∧ s.dev.get (Q.QCTL_EN q) = 1 ∧ s.dev.get (Q.QSTAT_LEVEL q) = 512 ∧ s.dev.get (Q.QCTL_POLICY q) ≠ 1) ∧
    (∃ (s : State) (q : Fin 8), (s.dev.anaWorks = false ∨ (takeWaiting s.dev.vol.ana.waiting q).1 = none)) ∧
    (∃ (s : State) (q : Fin 8) (a : Nat), (a < queueAddr q (s.dev.get (Q.QPTR_WIDX q)) ∨ queueAddr q (s.dev.get (Q.QPTR_WIDX q)) + 4 ≤ a)) ∧
    (∃ (s : State) (m : Master) (q : Fin 8), s.dev.accessAllowed m (0x40110008 + 0x10 * q) true = true ∧ (takeWaiting s.dev.vol.ana.waiting q).1.isSome = true ∧ s.dev.get (Q.QCTL_EN q) = 1 ∧ s.dev.get (Q.QSTAT_LEVEL q) = 512) ∧
    (∃ (s : State) (m : Master) (q : Fin 8), s.dev.accessAllowed m (0x40110008 + 0x10 * q) true = false) ∧
    (∃ (s : State) (m : Master) (q : Fin 8), s.dev.accessAllowed m (0x4011000C + 0x10 * q) false = true ∧ s.dev.get (Q.QSTAT_LEVEL q) = 0) ∧
    (∃ (s : State) (m : Master) (q : Fin 8), s.dev.accessAllowed m (0x4011000C + 0x10 * q) false = true ∧ s.dev.get (Q.QSTAT_LEVEL q) ≠ 0) ∧
    (∃ (s : State) (m : Master) (q : Fin 8), s.dev.accessAllowed m (0x4011000C + 0x10 * q) false = false) ∧
    (∃ (s t : State) (m : Master) (q : Fin 8) (e : Nat) (rest : List QItem), s.dev.anaWorks = true ∧ s.mem.wf = true ∧ takeWaiting s.dev.vol.ana.waiting q = (some e, rest) ∧ s.dev.get (Q.QCTL_EN q) = 1 ∧ s.dev.get (Q.QSTAT_LEVEL q) = 0 ∧ s.dev.get (Q.QPTR_RIDX q) = s.dev.get (Q.QPTR_WIDX q) ∧ exec (.queueEntryWrite q) s = .next t ∧ t.dev.accessAllowed m (0x4011000C + 0x10 * q) false = true) ∧
    (∃ (s : State) (m : Master) (q : Fin 8) (v : BitVec 9), s.dev.accessAllowed m (0x40110004 + 0x10 * q) true = true ∧ ((v.toNat + 512 - s.dev.get (Q.QPTR_RIDX q)) % 512) = 0) ∧
    (∃ (s : State) (m : Master) (q : Fin 8) (v : BitVec 9), s.dev.accessAllowed m (0x40110004 + 0x10 * q) true = true ∧ 0 < ((v.toNat + 512 - s.dev.get (Q.QPTR_RIDX q)) % 512) ∧ ((v.toNat + 512 - s.dev.get (Q.QPTR_RIDX q)) % 512) ≤ s.dev.get (Q.QSTAT_LEVEL q)) ∧
    (∃ (s : State) (m : Master) (q : Fin 8) (v : BitVec 9), s.dev.accessAllowed m (0x40110004 + 0x10 * q) true = true ∧ s.dev.get (Q.QSTAT_LEVEL q) < ((v.toNat + 512 - s.dev.get (Q.QPTR_RIDX q)) % 512)) ∧
    (∃ (s : State) (m : Master) (q : Fin 8), s.dev.accessAllowed m (0x40110004 + 0x10 * q) true = false) :=
  ⟨⟨let q : Fin 8 := 6; mk [fun d => d.modAna fun a => { a with waiting := [⟨(q.val + 1) % 8, 0, 5, 5⟩, ⟨q.val, 0, 8, 520⟩, ⟨q.val, 0, 4, 6⟩] }, fun d => d.set (Q.QCTL_EN q) (2)], 6, 520, [{ q := 7, n := 0, tag := 5, entry := 5 }, { q := 6, n := 0, tag := 4, entry := 6 }], by decide +kernel⟩,
   ⟨let q : Fin 8 := 7; mk [fun d => d.modAna fun a => { a with waiting := [⟨(q.val + 1) % 8, 0, 5, 5⟩, ⟨q.val, 0, 8, 794⟩, ⟨q.val, 0, 4, 6⟩] }, fun d => d.set (Q.QCTL_EN q) (1), fun d => d.set (Q.QSTAT_LEVEL q) (3)], 7, 794, [{ q := 0, n := 0, tag := 5, entry := 5 }, { q := 7, n := 0, tag := 4, entry := 6 }], by decide +kernel⟩,
   ⟨let q : Fin 8 := 7; mk [fun d => d.modAna fun a => { a with waiting := [⟨(q.val + 1) % 8, 0, 5, 5⟩, ⟨q.val, 0, 8, 794⟩, ⟨q.val, 0, 4, 6⟩] }, fun d => d.set (Q.QCTL_EN q) (1), fun d => d.set (Q.QSTAT_LEVEL q) (3), fun d => d.set (Q.QSTAT_LEVEL q) (d.watermark q - 1)], 7, 794, [{ q := 0, n := 0, tag := 5, entry := 5 }, { q := 7, n := 0, tag := 4, entry := 6 }], by decide +kernel⟩,
   ⟨let q : Fin 8 := 7; mk [fun d => d.modAna fun a => { a with waiting := [⟨(q.val + 1) % 8, 0, 5, 5⟩, ⟨q.val, 0, 8, 794⟩, ⟨q.val, 0, 4, 6⟩] }, fun d => d.set (Q.QCTL_EN q) (1), fun d => d.set (Q.QSTAT_LEVEL q) (512), fun d => d.set (Q.QCTL_POLICY q) (1)], 7, 794, [{ q := 0, n := 0, tag := 5, entry := 5 }, { q := 7, n := 0, tag := 4, entry := 6 }], by decide +kernel⟩,
   ⟨let q : Fin 8 := 7; mk [fun d => d.modAna fun a => { a with waiting := [⟨(q.val + 1) % 8, 0, 5, 5⟩, ⟨q.val, 0, 8, 794⟩, ⟨q.val, 0, 4, 6⟩] }, fun d => d.set (Q.QCTL_EN q) (1), fun d => d.set (Q.QSTAT_LEVEL q) (512)], 7, 794, [{ q := 0, n := 0, tag := 5, entry := 5 }, { q := 7, n := 0, tag := 4, entry := 6 }], by decide +kernel⟩,
   ⟨mk [fun d => d.modStart fun z => { z with phase := .held }], 7, by decide +kernel⟩,
   ⟨mk [], 7, 330, by decide +kernel⟩,
   ⟨let q : Fin 8 := 7; mk [fun d => d.modAna fun a => { a with waiting := [⟨q.val, 0, 8, 5⟩] }, fun d => d.set (Q.QCTL_EN q) (1), fun d => d.set (Q.QSTAT_LEVEL q) (512)], Master.truss, 7, by decide +kernel⟩,
   ⟨mk [], Master.span1h1, 5, by decide +kernel⟩,
   ⟨let q : Fin 8 := 7; mk [fun d => d.set (Q.QSTAT_LEVEL q) (0)], Master.truss, 7, by decide +kernel⟩,
   ⟨let q : Fin 8 := 7; mk [fun d => d.set (Q.QSTAT_LEVEL q) (5)], Master.truss, 7, by decide +kernel⟩,
   ⟨mk [], Master.span1h1, 5, by decide +kernel⟩,
   ⟨mk [fun d => d.set (Q.QCTL_EN 7) 1, fun d => d.modAna fun a => { a with waiting := [⟨7, 0, 8, 5⟩, ⟨7, 0, 4, 6⟩] }], _, .truss, 7, 5, [⟨7, 0, 4, 6⟩], by decide +kernel, by decide +kernel, by decide +kernel, by decide +kernel, by decide +kernel, by decide +kernel, rfl, by decide +kernel⟩,
   ⟨mk [], Master.truss, 6, 0x000#9, by decide +kernel⟩,
   ⟨let q : Fin 8 := 7; mk [fun d => d.set (Q.QSTAT_LEVEL q) (290)], Master.truss, 7, 0x0a0#9, by decide +kernel⟩,
   ⟨mk [], Master.truss, 7, 0x0a0#9, by decide +kernel⟩,
   ⟨mk [], Master.span1h1, 5, by decide +kernel⟩⟩

theorem test_meets_SlicesAndTriggers :
    (∃ (s : State) (m : Master) (k : Fin 32), s.dev.accessAllowed m (0x40100100 + 4 * k) true = true ∧ s.dev.mayClaimId m (s.dev.get (OWN.R_OWNER 1 k)) = true) ∧
    (∃ (s : State) (m : Master) (k : Fin 32), (s.dev.accessAllowed m (0x40100100 + 4 * k) true = false ∨ s.dev.mayClaimId m (s.dev.get (OWN.R_OWNER 1 k)) = false)) ∧
    (∃ (s : State), s.dev.anaWorks = true) ∧
    (∃ (s : State), s.dev.anaWorks = false) ∧
    (∃ (c : SliceScan), c.mode = 0) ∧
    (∃ (s : State) (m : Master) (g : Fin 4), s.dev.accessAllowed m (0x40100010 + 4 * g) true = true ∧ isTrussOrDict m = true) ∧
    (∃ (s : State) (m : Master) (g : Fin 4), (s.dev.accessAllowed m (0x40100010 + 4 * g) true = false ∨ isTrussOrDict m = false)) ∧
    (∃ (s : State), s.dev.anaWorks = true ∧ s.dev.get AS.CTL_EN = 1) ∧
    (∃ (s : State), (s.dev.anaWorks = false ∨ s.dev.get AS.CTL_EN ≠ 1)) :=
  ⟨⟨mk [], Master.truss, 31, by decide +kernel⟩,
   ⟨mk [], Master.truss, 30, by decide +kernel⟩,
   ⟨mk [], by decide +kernel⟩,
   ⟨mk [fun d => d.modStart fun z => { z with phase := .held }], by decide +kernel⟩,
   ⟨{ mode := 0, smask := 1, tmask := 0, cur := 1, todo := [2], resume := none, late := some 2, gap := true }, by decide +kernel⟩,
   ⟨mk [], Master.truss, 3, by decide +kernel⟩,
   ⟨mk [], Master.span0, 3, by decide +kernel⟩,
   ⟨mk [fun d => d.set AS.CTL_EN (1)], by decide +kernel⟩,
   ⟨mk [fun d => d.modStart fun z => { z with phase := .held }, fun d => d.each [1,2] (fun d g => d.set (AS.GRP_TSRC g) (3 + 0)), fun d => d.modCe fun c => { c with tickTrig := 0 != 0 }, fun d => d.set (AS.GRP_TSRC 0) (2), fun d => d.modAna fun a => { a with trigPend := vset a.trigPend 0 true }], by decide +kernel⟩⟩

theorem test_meets_CalibrationAndFailover :
    (∃ (s : State) (m : Master), s.dev.accessAllowed m 0x40100020 true = true) ∧
    (∃ (s : State) (m : Master), s.dev.accessAllowed m 0x40100020 true = false) ∧
    (∃ (s : State), s.dev.accessAllowed .dict 0x40100020 true = true ∧ 2 ≤ s.dev.get AS.SPARE_CHAIN) ∧
    (∃ (s : State) (k : BitVec 8), s.dev.accessAllowed .dict 0x40100020 true = true ∧ s.dev.get AS.SPARE_CHAIN < 2 ∧ 31 < k.toNat) ∧
    (∃ (s : State) (k : BitVec 8), s.dev.accessAllowed .dict 0x40100020 true = true ∧ s.dev.get AS.SPARE_CHAIN < 2 ∧ k.toNat ≤ 31) ∧
    (∃ (s : State) (r : CalMeasure) (k : Fin 32), s.dev.anaWorks = true ∧ s.dev.get AS.CTL_EN = 1 ∧ s.dev.get AS.SPARE_CHAIN ≤ 1 ∧ s.dev.get AS.CALCTL_CALNOW = 1 ∧ s.dev.get AS.CALCTL_CALNOW_S = k ∧ s.dev.get (AS.SLST_SERVER k) = 0 ∧ calFails r = false ∧ calSpareFails r = false ∧ r.post16.natAbs ≤ 32) ∧
    (∃ (s : State), (2 ≤ s.dev.get AS.SPARE_CHAIN ∨ (s.dev.get AS.CALCTL_CALNOW ≠ 1 ∧ s.dev.get AS.CALCTL_CALEN ≠ 1))) ∧
    (∃ (s : State) (k : Fin 32), s.dev.sliceLive k = true ∧ s.dev.vol.ana.visit = none ∧ s.dev.vol.ana.lastFail = none ∧ s.dev.get (AS.SLST_SERVER k) = 0 ∧ s.dev.get AS.SPARE_CHAIN = 0 ∧ s.dev.get AS.SPARE_ROTSP = 0) ∧
    (∃ (s : State) (k : Fin 32), s.dev.sliceLive k = true ∧ s.dev.vol.ana.visit = none ∧ s.dev.vol.ana.lastFail = none ∧ s.dev.get (AS.SLST_SERVER k) = 0 ∧ s.dev.get AS.SPARE_CHAIN = 1 ∧ s.dev.get AS.SPARE_ROTSP = 0) ∧
    (∃ (s : State) (k : Fin 32), s.dev.sliceLive k = true ∧ s.dev.vol.ana.visit = none ∧ s.dev.vol.ana.lastFail = none ∧ s.dev.get (AS.SLST_SERVER k) = 0 ∧ 2 ≤ s.dev.get AS.SPARE_CHAIN) ∧
    (∃ (s : State) (k : Fin 32), s.dev.sliceLive k = false) :=
  ⟨⟨mk [], Master.truss, by decide +kernel⟩,
   ⟨mk [], Master.span1h1, by decide +kernel⟩,
   ⟨mk [fun d => d.set AS.SPARE_CHAIN ((2) + 0 + 1)], by decide +kernel⟩,
   ⟨mk [], 0xb0#8, by decide +kernel⟩,
   ⟨mk [], 0x07#8, by decide +kernel⟩,
   ⟨let k : Fin 32 := 27; mk [fun d => d.set AS.CTL_EN (1), fun d => d.set AS.CALCTL_CALNOW (1), fun d => d.set AS.CALCTL_CALNOW_S (k), fun d => d.set (AS.SLST_SERVER k) (0)], { pre1 := false, pre2 := false, spareOk := true, offset := 5, gainPpm := 100, dnl := 3, dnlOk := true, residual := 0, post16 := 20, hotBad := false, otherOk := true }, 27, by decide +kernel⟩,
   ⟨mk [fun d => d.set AS.SPARE_CHAIN ((2) + 0 + 1)], by decide +kernel⟩,
   ⟨let k : Fin 32 := 31; mk [fun d => d.set AS.CTL_EN 1, fun d => d.modAna fun z => { z with visit := none }, fun d => d.modAna fun z => { z with lastFail := none }, fun d => d.set (AS.SLST_SERVER k) (0), fun d => d.set AS.SPARE_CHAIN (0), fun d => d.set AS.SPARE_ROTSP (0)], 31, by decide +kernel⟩,
   ⟨let k : Fin 32 := 31; mk [fun d => d.set AS.CTL_EN 1, fun d => d.modAna fun z => { z with visit := none }, fun d => d.modAna fun z => { z with lastFail := none }, fun d => d.set (AS.SLST_SERVER k) (0), fun d => d.set AS.SPARE_CHAIN (1), fun d => d.set AS.SPARE_ROTSP (0)], 31, by decide +kernel⟩,
   ⟨let k : Fin 32 := 31; mk [fun d => d.set AS.CTL_EN 1, fun d => d.modAna fun z => { z with visit := none }, fun d => d.modAna fun z => { z with lastFail := none }, fun d => d.set (AS.SLST_SERVER k) (0), fun d => d.set AS.SPARE_CHAIN ((2) + 0 + 0)], 31, by decide +kernel⟩,
   ⟨mk [], 31, by decide +kernel⟩⟩

theorem test_meets_EncoderCounts :
    (∃ (d : Dev) (x : Bridge), d.get (MOD.CTL_MODE x) ≠ 3) ∧
    (∃ (d : Dev) (p : Fin 2) (a : Bool) (b : Bool), d.posOn p = true ∧ (d.get (POS.CTL_SENS p) = 1 ∨ d.get (POS.CTL_SENS p) = 4) ∧ (a ≠ (d.pos p).a ↔ b = (d.pos p).b) ∧ d.get (POS.CTL_LINEAR p) = 0 ∧ d.encPeriod p ≤ 2 ^ 32 ∧ (if d.get (POS.CTL_DIRINV p) = 1 then ¬ (if a ≠ (d.pos p).a then a ≠ (d.pos p).b else b = (d.pos p).a) else (if a ≠ (d.pos p).a then a ≠ (d.pos p).b else b = (d.pos p).a))) ∧
    (∃ (d : Dev) (p : Fin 2) (a : Bool) (b : Bool), d.posOn p = true ∧ (d.get (POS.CTL_SENS p) = 1 ∨ d.get (POS.CTL_SENS p) = 4) ∧ (a ≠ (d.pos p).a ↔ b = (d.pos p).b) ∧ d.get (POS.CTL_LINEAR p) = 0 ∧ d.encPeriod p ≤ 2 ^ 32 ∧ ¬ (if d.get (POS.CTL_DIRINV p) = 1 then ¬ (if a ≠ (d.pos p).a then a ≠ (d.pos p).b else b = (d.pos p).a) else (if a ≠ (d.pos p).a then a ≠ (d.pos p).b else b = (d.pos p).a))) ∧
    (∃ (d : Dev) (p : Fin 2) (a : Bool) (b : Bool), d.posOn p = true ∧ (d.get (POS.CTL_SENS p) = 1 ∨ d.get (POS.CTL_SENS p) = 4) ∧ (a ≠ (d.pos p).a ↔ b = (d.pos p).b) ∧ d.get (POS.CTL_LINEAR p) = 1 ∧ (if d.get (POS.CTL_DIRINV p) = 1 then ¬ (if a ≠ (d.pos p).a then a ≠ (d.pos p).b else b = (d.pos p).a) else (if a ≠ (d.pos p).a then a ≠ (d.pos p).b else b = (d.pos p).a))) ∧
    (∃ (d : Dev) (p : Fin 2) (a : Bool) (b : Bool), d.posOn p = true ∧ (d.get (POS.CTL_SENS p) = 1 ∨ d.get (POS.CTL_SENS p) = 4) ∧ (a ≠ (d.pos p).a ↔ b = (d.pos p).b) ∧ d.get (POS.CTL_LINEAR p) = 1 ∧ ¬ (if d.get (POS.CTL_DIRINV p) = 1 then ¬ (if a ≠ (d.pos p).a then a ≠ (d.pos p).b else b = (d.pos p).a) else (if a ≠ (d.pos p).a then a ≠ (d.pos p).b else b = (d.pos p).a))) ∧
    (∃ (d : Dev) (p : Fin 2) (a : Bool) (b : Bool), d.posOn p = true ∧ (d.get (POS.CTL_SENS p) = 1 ∨ d.get (POS.CTL_SENS p) = 4) ∧ (a ≠ (d.pos p).a ↔ b = (d.pos p).b) ∧ (∀ i ∈ [0, 1, 2, 3], d.get (POS.CMPCTL_ARM p i) = 0) ∧ d.get (POS.ANGLE_ACTSRC p) ≠ 0) ∧
    (∃ (d : Dev) (p : Fin 2) (a : Bool) (b : Bool), d.posOn p = true ∧ (d.get (POS.CTL_SENS p) = 1 ∨ d.get (POS.CTL_SENS p) = 4) ∧ (d.get (POS.STAT_POSST p) = 1 ∨ d.get (POS.STAT_POSST p) = 2) ∧ a ≠ (d.pos p).a ∧ b ≠ (d.pos p).b) ∧
    (∃ (d : Dev) (p : Fin 2), d.posOn p = false) :=
  ⟨⟨(let x : Bridge := 1; mk [fun d => d.set (MOD.CTL_MODE x) (2)]).dev, 1, by decide +kernel⟩,
   ⟨(let p : Fin 2 := 1; mk [fun d => (d.set CE.CTL_EN 1).set (POS.CTL_EN p) 1, fun d => d.set (POS.CTL_SENS p) (1), fun d => d.set (POS.CTL_LINEAR p) (0)]).dev, 1, true, false, by decide +kernel⟩,
   ⟨(let p : Fin 2 := 0; mk [fun d => (d.set CE.CTL_EN 1).set (POS.CTL_EN p) 1, fun d => d.set (POS.CTL_SENS p) (1), fun d => d.set (POS.CTL_LINEAR p) (0)]).dev, 0, false, true, by decide +kernel⟩,
   ⟨(let p : Fin 2 := 1; mk [fun d => (d.set CE.CTL_EN 1).set (POS.CTL_EN p) 1, fun d => d.set (POS.CTL_SENS p) (1), fun d => d.set (POS.CTL_LINEAR p) (1)]).dev, 1, true, false, by decide +kernel⟩,
   ⟨(let p : Fin 2 := 0; mk [fun d => (d.set CE.CTL_EN 1).set (POS.CTL_EN p) 1, fun d => d.set (POS.CTL_SENS p) (1), fun d => d.set (POS.CTL_LINEAR p) (1)]).dev, 0, false, true, by decide +kernel⟩,
   ⟨(let p : Fin 2 := 0; mk [fun d => (d.set CE.CTL_EN 1).set (POS.CTL_EN p) 1, fun d => d.set (POS.CTL_SENS p) (1)]).dev, 0, false, true, by decide +kernel⟩,
   ⟨(let p : Fin 2 := 1; mk [fun d => (d.set CE.CTL_EN 1).set (POS.CTL_EN p) 1, fun d => d.set (POS.CTL_SENS p) (1), fun d => d.set (POS.STAT_POSST p) (1)]).dev, 1, true, true, by decide +kernel⟩,
   ⟨(mk []).dev, 1, by decide +kernel⟩⟩

theorem test_meets_SensorInputs :
    (∃ (d : Dev) (p : Fin 2), d.posOn p = true ∧ (d.get (POS.CTL_SENS p) = 1 ∨ d.get (POS.CTL_SENS p) = 4) ∧ d.get (POS.CTL_LINEAR p) = 0 ∧ d.get (POS.ENCCFG_IDXQ p) = 0 ∧ (d.pos p).z = false ∧ (d.pos p).ref = none ∧ d.get (POS.STAT_POSST p) = 1 ∧ d.get (POS.IDXREF_IDXREF p) < d.encPeriod p ∧ d.encPeriod p ≤ 2 ^ 32) ∧
    (∃ (d : Dev) (p : Fin 2) (c : BitVec 3), d.posOn p = true ∧ d.get (POS.CTL_SENS p) = 2 ∧ (d.pos p).hallCode ≠ some c.toNat ∧ 6 ≤ (d.hallSectorOf p c.toNat) ∧ d.get (POS.STAT_POSST p) = 2) ∧
    (∃ (d : Dev) (p : Fin 2) (c : BitVec 3), d.posOn p = true ∧ d.get (POS.CTL_SENS p) = 2 ∧ (d.pos p).hallCode ≠ some c.toNat ∧ (d.hallSectorOf p c.toNat) < 6 ∧ (d.pos p).hallSector = none ∧ d.get (POS.STAT_POSST p) = 1) ∧
    (∃ (d : Dev) (p : Fin 2) (c : BitVec 3) (o : Nat), d.posOn p = true ∧ d.get (POS.CTL_SENS p) = 2 ∧ (d.pos p).hallCode ≠ some c.toNat ∧ (d.pos p).hallSector = some o ∧ (d.hallSectorOf p c.toNat) < 6 ∧ (d.hallSectorOf p c.toNat) = (o + 1) % 6 ∧ (d.hallSectorOf p c.toNat) ≠ o ∧ d.get (POS.CTL_LINEAR p) = 0 ∧ d.get (POS.CTL_DIRINV p) = 0 ∧ 6 * d.motPP p ≤ 2 ^ 32) ∧
    (∃ (d : Dev) (p : Fin 2) (k : Nat), (d.pos p).hallSector = some k ∧ d.posOn p = true ∧ (d.get (POS.CTL_SENS p) = 2 ∨ d.get (POS.CTL_SENS p) = 4)) ∧
    (∃ (d : Dev) (p : Fin 2) (rs : List ResSample), d.posOn p = true ∧ d.get (POS.CTL_SENS p) = 3 ∧ d.get (POS.RESCFG_EXCEN p) = 1 ∧ (rs.any (fun x => x.ovr) = false) ∧ 2 * 40 * rs.length < d.excPeriod p ∧ (d.pos p).dropped = 0) ∧
    (∃ (d : Dev) (p : Fin 2) (rs : List ResSample), d.posOn p = true ∧ d.get (POS.CTL_SENS p) = 3 ∧ d.get (POS.RESCFG_EXCEN p) = 1 ∧ (rs.any (fun x => x.ovr) = false) ∧ d.excPeriod p ≤ 2 * 40 * rs.length) :=
  ⟨⟨(let p : Fin 2 := 1; mk [fun d => (d.set CE.CTL_EN 1).set (POS.CTL_EN p) 1, fun d => d.set (POS.CTL_SENS p) (1), fun d => d.set (POS.CTL_LINEAR p) (0), fun d => d.set (POS.ENCCFG_IDXQ p) (0), fun d => d.modPos p fun z => { z with z := false }, fun d => d.modPos p fun z => { z with ref := none }, fun d => d.set (POS.STAT_POSST p) (1)]).dev, 1, by decide +kernel⟩,
   ⟨(let p : Fin 2 := 1; mk [fun d => (d.set CE.CTL_EN 1).set (POS.CTL_EN p) 1, fun d => d.set (POS.CTL_SENS p) (2), fun d => d.set (POS.STAT_POSST p) (2)]).dev, 1, 0x0#3, by decide +kernel⟩,
   ⟨(let p : Fin 2 := 0; mk [fun d => (d.set CE.CTL_EN 1).set (POS.CTL_EN p) 1, fun d => d.set (POS.CTL_SENS p) (2), fun d => d.modPos p fun z => { z with hallSector := none }, fun d => d.set (POS.STAT_POSST p) (1)]).dev, 0, 0x5#3, by decide +kernel⟩,
   ⟨(let p : Fin 2 := 1; let o : Nat := 443; mk [fun d => (d.set CE.CTL_EN 1).set (POS.CTL_EN p) 1, fun d => d.set (POS.CTL_SENS p) (2), fun d => d.modPos p fun z => { z with hallSector := some o }, fun d => d.set (POS.CTL_LINEAR p) (0), fun d => d.set (POS.CTL_DIRINV p) (0)]).dev, 1, 0x1#3, 443, by decide +kernel⟩,
   ⟨(let p : Fin 2 := 1; let k : Nat := 1; mk [fun d => d.modPos p fun z => { z with hallSector := some k }, fun d => (d.set CE.CTL_EN 1).set (POS.CTL_EN p) 1, fun d => d.set (POS.CTL_SENS p) (2)]).dev, 1, 1, by decide +kernel⟩,
   ⟨(let p : Fin 2 := 1; mk [fun d => (d.set CE.CTL_EN 1).set (POS.CTL_EN p) 1, fun d => d.set (POS.CTL_SENS p) (3), fun d => d.set (POS.RESCFG_EXCEN p) (1), fun d => d.modPos p fun z => { z with dropped := 0 }]).dev, 1, List.replicate 260 { phase := 0, xs := 0, xc := 0, ovr := false }, by decide +kernel⟩,
   ⟨(let p : Fin 2 := 1; mk [fun d => (d.set CE.CTL_EN 1).set (POS.CTL_EN p) 1, fun d => d.set (POS.CTL_SENS p) (3), fun d => d.set (POS.RESCFG_EXCEN p) (1), fun d => d.set (POS.RESCFG_EXCDIV p) 500]).dev, 1, List.replicate 260 { phase := 0, xs := 0, xc := 0, ovr := false }, by decide +kernel⟩⟩

theorem test_meets_PositionFunctions :
    (∃ (s : State) (m : Master) (p : Fin 2) (i : Fin 4), s.dev.cmpWritable m p i = true ∧ s.dev.get (POS.CMPCTL_ARM p i) ≠ 1) ∧
    (∃ (s : State) (m : Master) (p : Fin 2) (i : Fin 4), s.dev.cmpWritable m p i = true ∧ s.dev.get (POS.CMPCTL_ARM p i) = 1) ∧
    (∃ (s : State) (m : Master) (p : Fin 2) (i : Fin 4) (v : Word), s.dev.cmpWritable m p i = true ∧ natBit v.toNat 0 = false ∧ natBit v.toNat 3 = false ∧ natBit v.toNat 4 = false) ∧
    (∃ (s : State) (m : Master) (p : Fin 2) (i : Fin 4) (v : Word), s.dev.cmpWritable m p i = true ∧ natBit v.toNat 0 = true) ∧
    (∃ (s : State) (m : Master) (p : Fin 2) (i : Fin 4), s.dev.cmpWritable m p i = false) ∧
    (∃ (s : State) (p : Fin 2), s.dev.posOn p = false) ∧
    (∃ (s : State) (p : Fin 2), s.dev.get (POS.CTL_SENS p) = 1 ∧ (s.dev.pos p).winN < 2) ∧
    (∃ (s : State) (p : Fin 2), s.dev.get (POS.CTL_SENS p) = 1 ∧ 2 ≤ (s.dev.pos p).winN ∧ s.dev.get (POS.SPDCFG_SPDMODE p) ≠ 1) ∧
    (∃ (s : State) (p : Fin 2), s.dev.get (POS.CTL_SENS p) = 1 ∧ 2 ≤ (s.dev.pos p).winN ∧ s.dev.get (POS.SPDCFG_SPDMODE p) = 1) ∧
    (∃ (s : State) (p : Fin 2), s.dev.posOn p = true ∧ s.dev.get (POS.STAT_POSST p) = 3 ∧ ((posFaultFlags p).all (fun f => !s.dev.bit f) = true) ∧ s.dev.posFaultPersists p = false) ∧
    (∃ (s : State) (p : Fin 2), s.dev.posOn p = true ∧ s.dev.get (POS.STAT_POSST p) = 3 ∧ ((posFaultFlags p).all (fun f => !s.dev.bit f) = true) ∧ s.dev.posFaultPersists p = true) ∧
    (∃ (s : State) (p : Fin 2), s.dev.posOn p = true ∧ s.dev.emuDrives p = true ∧ (s.dev.pos p).emu = none ∧ s.dev.get (POS.STAT_POSST p) = 2) ∧
    (∃ (s : State) (p : Fin 2) (e : Nat), s.dev.posOn p = true ∧ s.dev.emuDrives p = true ∧ (s.dev.pos p).emu = some e ∧ e + 1 = s.dev.emuTarget p ∧ s.dev.emuTarget p < s.dev.emuPeriod p) ∧
    (∃ (s : State) (p : Fin 2), (s.dev.posOn p = false ∨ s.dev.emuDrives p = false)) :=
  ⟨⟨let p : Fin 2 := 1; let i : Fin 4 := 0; mk [fun d => d.set (OWN.R_OWNER (2 + p) i) (0x55)], Master.span0, 1, 0, by decide +kernel⟩,
   ⟨let p : Fin 2 := 1; let i : Fin 4 := 0; mk [fun d => d.set (OWN.R_OWNER (2 + p) i) (0x55), fun d => d.set (POS.CMPCTL_ARM p i) (1)], Master.span0, 1, 0, by decide +kernel⟩,
   ⟨let p : Fin 2 := 0; let i : Fin 4 := 0; mk [fun d => d.set (OWN.R_OWNER (2 + p) i) (0x55)], Master.span0, 0, 0, 0x00000002#32, by decide +kernel⟩,
   ⟨let p : Fin 2 := 1; let i : Fin 4 := 0; mk [fun d => d.set (OWN.R_OWNER (2 + p) i) (0x55)], Master.span0, 1, 0, 0x00000005#32, by decide +kernel⟩,
   ⟨mk [], Master.truss, 1, 3, by decide +kernel⟩,
   ⟨mk [], 1, by decide +kernel⟩,
   ⟨let p : Fin 2 := 1; mk [fun d => d.set (POS.CTL_SENS p) (1)], 1, by decide +kernel⟩,
   ⟨let p : Fin 2 := 0; mk [fun d => d.set (POS.CTL_SENS p) (1), fun d => d.modPos p fun z => { z with winN := 2 + 2, winSum := 5 }, fun d => d.set (POS.SPDCFG_SPDMODE p) (2)], 0, by decide +kernel⟩,
   ⟨let p : Fin 2 := 1; mk [fun d => d.set (POS.CTL_SENS p) (1), fun d => d.modPos p fun z => { z with winN := 2 + 0, winSum := 5 }, fun d => d.set (POS.SPDCFG_SPDMODE p) (1)], 1, by decide +kernel⟩,
   ⟨let p : Fin 2 := 1; mk [fun d => (d.set CE.CTL_EN 1).set (POS.CTL_EN p) 1, fun d => d.set (POS.STAT_POSST p) (3)], 1, by decide +kernel⟩,
   ⟨let p : Fin 2 := 1; mk [fun d => (d.set CE.CTL_EN 1).set (POS.CTL_EN p) 1, fun d => d.set (POS.STAT_POSST p) (3), fun d => (d.set (POS.CTL_SENS p) 3).modPos p fun z => { z with badAmp := 2 }], 1, by decide +kernel⟩,
   ⟨let p : Fin 2 := 1; mk [fun d => (d.set CE.CTL_EN 1).set (POS.CTL_EN p) 1, fun d => (d.set (POS.EMUCTL_EN p) 1).setAll [(OWN.R_OWNER 0 0, 8 + p), (OWN.R_OWNER 0 1, 8 + p), (OWN.R_OWNER 0 2, 8 + p), (POS.ANGM_ANG_M p, 0x12345)], fun d => d.modPos p fun z => { z with emu := none }, fun d => d.set (POS.STAT_POSST p) (2)], 1, by decide +kernel⟩,
   ⟨let p : Fin 2 := 1; mk [fun d => (d.set CE.CTL_EN 1).set (POS.CTL_EN p) 1, fun d => (d.set (POS.EMUCTL_EN p) 1).setAll [(OWN.R_OWNER 0 0, 8 + p), (OWN.R_OWNER 0 1, 8 + p), (OWN.R_OWNER 0 2, 8 + p), (POS.ANGM_ANG_M p, 0x12345)], fun d => d.modPos p fun z => { z with emu := some (d.emuTarget p - 1) }], 1, 71, by decide +kernel⟩,
   ⟨mk [], 1, by decide +kernel⟩⟩

theorem test_meets_ObserverStates :
    (∃ (s : State) (p : Fin 2), s.dev.get (POS.STAT_OBSST p) = 1 ∧ s.dev.get (POS.OBSCFG_CONVN p) ≤ (s.dev.pos p).lockN) ∧
    (∃ (s : State) (p : Fin 2), (s.dev.get (POS.STAT_OBSST p) ≠ 1 ∨ (s.dev.pos p).lockN < s.dev.get (POS.OBSCFG_CONVN p))) ∧
    (∃ (s : State) (p : Fin 2), s.dev.get (POS.STAT_OBSST p) = 2 ∧ s.dev.get (POS.OBSCFG_LOSTN p) ≤ (s.dev.pos p).lostN) ∧
    (∃ (s : State) (p : Fin 2), (s.dev.get (POS.STAT_OBSST p) ≠ 2 ∨ (s.dev.pos p).lostN < s.dev.get (POS.OBSCFG_LOSTN p))) ∧
    (∃ (s : State) (p : Fin 2), s.dev.get (POS.STAT_OBSST p) = 2 ∧ s.dev.get (POS.STAT_POSST p) = 2 ∧ s.dev.get (POS.OBSCFG_XN p) ≤ (s.dev.pos p).xN ∧ 0 < (s.dev.pos p).xN) ∧
    (∃ (s : State) (p : Fin 2), (s.dev.get (POS.STAT_OBSST p) ≠ 2 ∨ s.dev.get (POS.STAT_POSST p) ≠ 2 ∨ (s.dev.pos p).xN < s.dev.get (POS.OBSCFG_XN p))) :=
  ⟨⟨let p : Fin 2 := 1; mk [fun d => d.set (POS.STAT_OBSST p) (1), fun d => d.modPos p fun z => { z with lockN := (d.get (POS.OBSCFG_CONVN p) + 0) }], 1, by decide +kernel⟩,
   ⟨let p : Fin 2 := 1; mk [fun d => d.set (POS.STAT_OBSST p) (2)], 1, by decide +kernel⟩,
   ⟨let p : Fin 2 := 1; mk [fun d => d.set (POS.STAT_OBSST p) (2), fun d => d.modPos p fun z => { z with lostN := (d.get (POS.OBSCFG_LOSTN p) + 0) }], 1, by decide +kernel⟩,
   ⟨let p : Fin 2 := 1; mk [fun d => d.set (POS.STAT_OBSST p) (2)], 1, by decide +kernel⟩,
   ⟨let p : Fin 2 := 1; mk [fun d => d.set (POS.STAT_OBSST p) (2), fun d => d.set (POS.STAT_POSST p) (2), fun d => d.modPos p fun z => { z with xN := (d.get (POS.OBSCFG_XN p) + 0) }, fun d => d.modPos p fun z => { z with xN := z.xN + 1 }], 1, by decide +kernel⟩,
   ⟨let p : Fin 2 := 1; mk [fun d => d.set (POS.STAT_OBSST p) (2)], 1, by decide +kernel⟩⟩

theorem test_meets_Ticks :
    (∃ (s : State), s.dev.works 4 3 = true ∧ s.dev.get CE.CTL_EN = 1 ∧ 4 ≤ s.dev.get CE.CTL_TSRC ∧ s.dev.vol.ce.lastTick = none) ∧
    (∃ (s : State), s.dev.get CE.CTL_TSRC < 4) ∧
    (∃ (s : State) (i : Fin 512), (s.dev.get (INTC.THR_TICKEN 5) ≠ 1 ∨ s.dev.delivered 5 i = false)) ∧
    (∃ (s : State) (i : Fin 512), s.dev.get (INTC.THR_TICKEN 5) = 1 ∧ s.dev.delivered 5 i = true ∧ s.dev.works 4 3 = true ∧ s.dev.get CE.CTL_EN = 1 ∧ s.dev.vol.ce.lastTick = none) ∧
    (∃ (s : State), s.dev.works 4 3 = true ∧ s.dev.get CE.CTL_EN = 1 ∧ s.dev.vol.ce.tickPend = true) ∧
    (∃ (d : Dev) (t : Nat), d.vol.ce.nominal = false ∧ d.vol.ce.lastTick = some t) ∧
    (∃ (s : State), (s.dev.works 4 3 = false ∨ s.dev.get CE.CTL_EN ≠ 1 ∨ s.dev.vol.ce.tickPend = false)) ∧
    (∃ (s : State), s.dev.domainUp 4 = true ∧ s.dev.anyBridgeActive = true) ∧
    (∃ (s : State), (s.dev.domainUp 4 = false ∨ s.dev.anyBridgeActive = false)) ∧
    (∃ (s : State), s.dev.running = true) ∧
    (∃ (s : State), s.dev.running = false) ∧
    (∃ (d : Dev) (b : Bridge) (n : Fin 12), d.slotValid b n = true) ∧
    (∃ (d : Dev) (b : Bridge) (n : Fin 12), d.slotValid b n = false ∧ d.get (CE.INSLOT_EN b n) = 1 ∧ d.active b = true) ∧
    (∃ (d : Dev) (b : Bridge), d.role b ≠ 3) ∧
    (∃ (k : Nat), k < 7) ∧
    (∃ (d : Dev) (b : Bridge) (z : Nat → Int), (d.engS b).win < 7 ∧ (∀ k : Nat, k < 7 → (fun k : Nat => (d.allowance b (d.loopIn b) k (z (8 + k))).v) (d.engS b).win ≤ (fun k : Nat => (d.allowance b (d.loopIn b) k (z (8 + k))).v) k)) ∧
    (∃ (d : Dev) (b : Bridge), d.engIs b 2 = true) ∧
    (∃ (d : Dev) (b : Bridge), d.engIs b 2 = false ∧ (d.engS b).stop = none ∧ (d.engS b).ss1 = none) ∧
    (∃ (d : Dev) (b : Bridge) (c : Clamp), d.active b = true ∧ (d.engS b).stop = some c ∧ 0 ≤ c.c ∧ (d.engS b).ss1 = none) ∧
    (∃ (d : Dev) (b : Bridge) (z : Nat → Int), ((d.stage4 b z).get (CE.WIN_WIN b)) ≠ d.get (CE.WIN_WIN b)) ∧
    (∃ (d : Dev) (b : Bridge) (k : Fin 5), (d.engIs b 2 = true ∨ d.active b = true) ∧ loopIntegrates (decide (d.role b = 1)) (d.cmdMode b) k = true ∧ 0 ≤ d.sget (CE.LILIM_ILIM b k)) ∧
    (∃ (d : Dev) (b : Bridge), d.engIs b 2 = false ∧ d.active b = false) ∧
    (∃ (d : Dev) (b : Bridge) (z : Nat → Int) (j : Fin 2), d.active b = true ∧ 0 ≤ d.sget (CE.RUP_RUP b j) ∧ 0 ≤ d.sget (CE.RDN_RDN b j) ∧ (((d.stage5 b z).sget (CE.RTGT_RTGT b j)) - (d.sget (CE.ROUT_ROUT b j))).natAbs ≤ (if (d.sget (CE.ROUT_ROUT b j)).natAbs < ((d.stage5 b z).sget (CE.RTGT_RTGT b j)).natAbs then d.sget (CE.RUP_RUP b j) else d.sget (CE.RDN_RDN b j)).natAbs) ∧
    (∃ (d : Dev) (b : Bridge), 0 ≤ d.sget (CE.IMAX_IMAX b) ∧ (d.windingOn = false ∨ d.active b = false) ∧ d.role b = 1 ∧ d.ctrl b ≠ 2 ∧ d.get (CE.FWCFG_FWEN b) ≠ 1) ∧
    (∃ (d : Dev) (b : Bridge), 0 ≤ d.sget (CE.IMAX_IMAX b) ∧ d.windingOn = true ∧ d.active b = true ∧ d.role b = 1) ∧
    (∃ (d : Dev) (b : Bridge), 0 ≤ d.sget (CE.IMAX_IMAX b) ∧ (d.windingOn = false ∨ d.active b = false) ∧ d.role b = 1 ∧ d.ctrl b = 2) ∧
    (∃ (d : Dev) (b : Bridge), 0 ≤ d.sget (CE.IMAX_IMAX b) ∧ d.role b = 2) ∧
    (∃ (d : Dev) (b : Bridge), 0 ≤ d.sget (CE.IMAX_IMAX b) ∧ d.role b = 3) ∧
    (∃ (d : Dev) (b : Bridge), 0 ≤ d.sget (CE.IMAX_IMAX b) ∧ d.role b = 0) ∧
    (∃ (x : Int) (y : Int) (lim : Int), (isqrtNear (x * x + y * y).toNat) ≤ max 0 lim) ∧
    (∃ (x : Int) (y : Int) (lim : Int), max 0 lim < (isqrtNear (x * x + y * y).toNat)) ∧
    (∃ (d : Dev) (b : Bridge), d.ctrl b = 0) ∧
    (∃ (d : Dev) (b : Bridge), d.ctrl b ≠ 0 ∧ d.active b = false ∧ d.engIs b 2 = false) ∧
    (∃ (load : Bool), load = false) ∧
    (∃ (load : Bool), load = true) ∧
    (∃ (d : Dev) (b : Bridge), d.ctrl b = 0 ∧ d.engIs b 2 = false ∧ d.get (CE.BANDLIM_HMIN b) ≤ d.get (CE.BANDLIM_HMAX b) ∧ d.get (CE.BANDLIM_HMAX b) ≤ 32767) ∧
    (∃ (d : Dev) (b : Bridge), d.active b = false ∧ d.engIs b 2 = false) ∧
    (∃ (d : Dev) (b : Bridge), (d.role b ≠ 1 ∨ d.get (CE.SAFECTL_ASCEN b) ≠ 1)) ∧
    (∃ (d : Dev) (b : Bridge), d.role b = 1 ∧ d.get (CE.SAFECTL_ASCEN b) = 1 ∧ d.get (CE.SAFECTL_SPDSRC b) ≠ 3 ∧ ((d.get (CE.SAFE_ASCSPD b) : Int) * 65536) ≤ (((d.sget (CE.SAFESPD_SSPD b)).natAbs : Int) * 60)) ∧
    (∃ (d : Dev) (b : Bridge), d.role b = 1 ∧ d.get (CE.SAFECTL_ASCEN b) = 1 ∧ d.get (CE.SAFECTL_SPDSRC b) ≠ 3 ∧ (((d.sget (CE.SAFESPD_SSPD b)).natAbs : Int) * 60) < ((d.get (CE.SAFE_ASCSPD b) : Int) * 65536) ∧ (((d.sget (CE.SAFESPD_SSPD b)).natAbs : Int) * 60) ≤ (((d.get (CE.SAFE_ASCSPD b) : Int) - d.get (CE.SAFE_ASCHYS b)) * 65536)) ∧
    (∃ (d : Dev) (b : Bridge), d.role b = 1 ∧ d.get (CE.SAFECTL_ASCEN b) = 1 ∧ d.get (CE.SAFECTL_SPDSRC b) ≠ 3 ∧ (((d.sget (CE.SAFESPD_SSPD b)).natAbs : Int) * 60) < ((d.get (CE.SAFE_ASCSPD b) : Int) * 65536) ∧ (((d.get (CE.SAFE_ASCSPD b) : Int) - d.get (CE.SAFE_ASCHYS b)) * 65536) < (((d.sget (CE.SAFESPD_SSPD b)).natAbs : Int) * 60)) ∧
    (∃ (d : Dev) (b : Bridge), d.role b = 1 ∧ d.get (CE.SAFECTL_ASCEN b) = 1 ∧ d.get (CE.SAFECTL_SPDSRC b) = 3) ∧
    (∃ (d : Dev) (b : Bridge), d.anyCause b = true) ∧
    (∃ (d : Dev) (b : Bridge), d.active b = true ∧ d.angleLost b = true) ∧
    (∃ (d : Dev) (b : Bridge), d.active b = false) ∧
    (∃ (d : Dev) (b : Bridge) (c : Clamp), d.active b = true ∧ (d.engS b).stop = some c ∧ c.begun = true ∧ c.c = 0 ∧ 2 ≤ c.low ∧ d.currentsLow b = true) ∧
    (∃ (d : Dev) (b : Bridge) (c : Clamp), d.active b = true ∧ (d.engS b).stop = some c ∧ (d.engS b).ss1 = none ∧ d.currentsLow b = false) :=
  ⟨⟨mk [fun d => d.set CE.CTL_EN (1), fun d => d.set CE.CTL_TSRC ((4) + 0 + 1), fun d => d.modCe fun z => { z with lastTick := none }], by decide +kernel⟩,
   ⟨mk [], by decide +kernel⟩,
   ⟨mk [fun d => d.set (INTC.THR_TICKEN 5) (2)], 511, by decide +kernel⟩,
   ⟨let i : Fin 512 := 511; mk [fun d => d.set (INTC.THR_TICKEN 5) (1), fun d => d.setAll [(INTC.SRCCFG_PEND i, 1), (INTC.EN_E 5 i, 1), (INTC.SRCCFG_PRIO i, 3)], fun d => d.set CE.CTL_EN (1), fun d => d.modCe fun z => { z with lastTick := none }], 511, by decide +kernel⟩,
   ⟨mk [fun d => d.set CE.CTL_EN (1), fun d => d.modCe fun z => { z with tickPend := true }], by decide +kernel⟩,
   ⟨(mk [fun d => d.modCe fun z => { z with nominal := false }, fun d => d.modCe fun c => { c with lastTick := some (794) }]).dev, 794, by decide +kernel⟩,
   ⟨mk [fun d => d.modStart fun z => { z with phase := .held }], by decide +kernel⟩,
   ⟨mk [fun d => brActive (0) d], by decide +kernel⟩,
   ⟨mk [], by decide +kernel⟩,
   ⟨mk [], by decide +kernel⟩,
   ⟨mk [fun d => d.modStart fun z => { z with phase := .held }], by decide +kernel⟩,
   ⟨(mk []).dev, 1, 11, by decide +kernel⟩,
   ⟨(let b : Bridge := 1; let n : Fin 12 := 11; mk [fun d => d.set (AS.SLST_SERVER (d.get (CE.INSLOT_TAG b n) / 4)) 3, fun d => d.set (CE.INSLOT_EN b n) (1), fun d => d.set (CE.BSTAT_ST b) 3]).dev, 1, 11, by decide +kernel⟩,
   ⟨(mk []).dev, 1, by decide +kernel⟩,
   ⟨0, by decide +kernel⟩,
   ⟨(mk []).dev, 1, fun _ => 0, by decide +kernel⟩,
   ⟨(let b : Bridge := 1; mk [fun d => d.set (CE.BSTAT_ST b) 2]).dev, 1, by decide +kernel⟩,
   ⟨(let b : Bridge := 1; let z : Nat → Int := fun _ => 0; mk [fun d => d.modEng b fun z => { z with stop := none }, fun d => d.modEng b fun z => { z with ss1 := none }]).dev, 1, by decide +kernel⟩,
   ⟨(let b : Bridge := 1; let z : Nat → Int := fun _ => 0; let c : Clamp := { c := 75714338, rate := 5, begun := false, low := 1 }; mk [fun d => d.set (CE.BSTAT_ST b) 3, fun d => d.modEng b fun z => { z with stop := some c }, fun d => d.modEng b fun z => { z with ss1 := none }]).dev, 1, { c := 75714338, rate := 5, begun := false, low := 1 }, by decide +kernel⟩,
   ⟨(let b : Bridge := 1; mk [fun d => d.set (CE.WIN_WIN b) 9]).dev, 1, fun _ => 0, by decide +kernel⟩,
   ⟨(let b : Bridge := 1; mk [fun d => (d.set (CE.BSTAT_ST b) 3).set (CE.BCFG_ROLE b) 1]).dev, 1, 2, by decide +kernel⟩,
   ⟨(mk []).dev, 1, by decide +kernel⟩,
   ⟨(let b : Bridge := 1; mk [fun d => d.set (CE.BSTAT_ST b) 3]).dev, 1, fun _ => 0, 1, by decide +kernel⟩,
   ⟨(let b : Bridge := 1; mk [fun d => d.set (CE.BCFG_ROLE b) 1]).dev, 1, by decide +kernel⟩,
   ⟨(let b : Bridge := 1; mk [fun d => (d.set GL.DSCCTL_REQ 1).set GL.DSCSTAT_ST 1, fun d => d.set (CE.BSTAT_ST b) 3, fun d => d.set (CE.BCFG_ROLE b) 1]).dev, 1, by decide +kernel⟩,
   ⟨(let b : Bridge := 1; mk [fun d => d.set (CE.BCFG_ROLE b) 1, fun d => (d.set (CE.BCFG_CTRL b) 2).set (CE.BCFG_ROLE b) (1 + 0), fun d => (d.set (CE.BCFG_CTRL b) 2).set (CE.BCFG_ROLE b) 1]).dev, 1, by decide +kernel⟩,
   ⟨(let b : Bridge := 1; mk [fun d => d.set (CE.BCFG_ROLE b) 2]).dev, 1, by decide +kernel⟩,
   ⟨(let b : Bridge := 1; mk [fun d => d.set (CE.BCFG_ROLE b) 3]).dev, 1, by decide +kernel⟩,
   ⟨(let b : Bridge := 1; mk [fun d => d.set (CE.BCFG_ROLE b) 0]).dev, 1, by decide +kernel⟩,
   ⟨3, (-2), 330, by decide +kernel⟩,
   ⟨(-326), (-525), 0, by decide +kernel⟩,
   ⟨(let b : Bridge := 1; mk [fun d => (d.set (CE.BCFG_CTRL b) 0).set (CE.BCFG_ROLE b) (1 + 0)]).dev, 1, by decide +kernel⟩,
   ⟨(let b : Bridge := 1; mk [fun d => (d.set (CE.BCFG_CTRL b) (1 + 0)).set (CE.BCFG_ROLE b) (1 + 0)]).dev, 1, by decide +kernel⟩,
   ⟨false, by decide +kernel⟩,
   ⟨true, by decide +kernel⟩,
   ⟨(let b : Bridge := 1; mk [fun d => (d.set (CE.BCFG_CTRL b) 0).set (CE.BCFG_ROLE b) (1 + 0), fun d => d.set (CE.BANDLIM_HMAX b) ((d.get (CE.BANDLIM_HMIN b)) + 0 + 1)]).dev, 1, by decide +kernel⟩,
   ⟨(mk []).dev, 1, by decide +kernel⟩,
   ⟨(mk []).dev, 1, by decide +kernel⟩,
   ⟨(let b : Bridge := 1; mk [fun d => d.set (CE.BCFG_ROLE b) 1, fun d => d.set (CE.SAFECTL_ASCEN b) (1), fun d => d.set (CE.SAFECTL_SPDSRC b) (1), fun d => (((d.set (CE.SAFE_ASCSPD b) 9000).set (CE.SAFE_ASCHYS b) 500).sset (CE.SAFESPD_SSPD b) (([100, 9000, 150, -150, 145, -147, 141, 142] : List Int).getD (3) 0 * 65536)).set (CE.SAFECTL_SPDSRC b) 1]).dev, 1, by decide +kernel⟩,
   ⟨(let b : Bridge := 0; mk [fun d => d.set (CE.BCFG_ROLE b) 1, fun d => d.set (CE.SAFECTL_ASCEN b) (1), fun d => d.set (CE.SAFECTL_SPDSRC b) (1), fun d => (((d.set (CE.SAFE_ASCSPD b) 9000).set (CE.SAFE_ASCHYS b) 500).sset (CE.SAFESPD_SSPD b) (([100, 9000, 150, -150, 145, -147, 141, 142] : List Int).getD (0) 0 * 65536)).set (CE.SAFECTL_SPDSRC b) 1]).dev, 0, by decide +kernel⟩,
   ⟨(let b : Bridge := 1; mk [fun d => d.set (CE.BCFG_ROLE b) 1, fun d => d.set (CE.SAFECTL_ASCEN b) (1), fun d => (((d.set (CE.SAFE_ASCSPD b) 9000).set (CE.SAFE_ASCHYS b) 500).sset (CE.SAFESPD_SSPD b) (([100, 9000, 150, -150, 145, -147, 141, 142] : List Int).getD (4) 0 * 65536)).set (CE.SAFECTL_SPDSRC b) 1]).dev, 1, by decide +kernel⟩,
   ⟨(let b : Bridge := 1; mk [fun d => d.set (CE.BCFG_ROLE b) 1, fun d => d.set (CE.SAFECTL_ASCEN b) (1), fun d => d.set (CE.SAFECTL_SPDSRC b) (3)]).dev, 1, by decide +kernel⟩,
   ⟨(let b : Bridge := 1; mk [fun d => d.set (GL.BSTAT_ENGINE b) 1]).dev, 1, by decide +kernel⟩,
   ⟨(let b : Bridge := 1; mk [fun d => d.set (CE.BSTAT_ST b) 3, fun d => (d.set (CE.BCFG_ROLE b) 1).set (POS.ANGLE_ACTSRC (d.posSel b)) 2]).dev, 1, by decide +kernel⟩,
   ⟨(mk []).dev, 1, by decide +kernel⟩,
   ⟨(let b : Bridge := 1; let c : Clamp := { c := 0, rate := 5, begun := true, low := 4 }; mk [fun d => d.set (CE.BSTAT_ST b) 3, fun d => d.modEng b fun z => { z with stop := some c }, fun d => d.modEng b fun e => { e with stop := some ⟨0, 5, true, 2 + 2⟩, id := 0, iq := 0, x := .replicate 12 0 }]).dev, 1, { c := 0, rate := 5, begun := true, low := 4 }, by decide +kernel⟩,
   ⟨(let b : Bridge := 1; let c : Clamp := { c := 75714338, rate := 5, begun := false, low := 1 }; mk [fun d => d.set (CE.BSTAT_ST b) 3, fun d => d.modEng b fun z => { z with stop := some c }, fun d => d.modEng b fun z => { z with ss1 := none }, fun d => d.modEng b fun z => { z with iq := 2^28, x := .replicate 12 (2^28) }]).dev, 1, { c := 75714338, rate := 5, begun := false, low := 1 }, by decide +kernel⟩⟩

theorem test_meets_RolesAndTests :
    (∃ (s : State) (m : Master) (b : Bridge), s.dev.accessAllowed m (0x40300100 + 0x800 * b) true = true ∧ s.dev.get (CE.BSTAT_ST b) ≠ 0 ∧ s.dev.get (CE.BSTAT_ST b) ≠ 1) ∧
    (∃ (s : State) (m : Master) (b : Bridge), s.dev.accessAllowed m (0x40300100 + 0x800 * b) true = true ∧ (s.dev.get (CE.BSTAT_ST b) = 0 ∨ s.dev.get (CE.BSTAT_ST b) = 1)) ∧
    (∃ (s : State) (m : Master) (b : Bridge), s.dev.accessAllowed m (0x40300100 + 0x800 * b) true = false) ∧
    (∃ (d : Dev) (b : Bridge), d.get (CE.BSTAT_ST b) = 0 ∧ d.role b ≠ 0) ∧
    (∃ (d : Dev) (b : Bridge), d.get (CE.BSTAT_ST b) = 1 ∧ d.role b = 0) ∧
    (∃ (s : State) (b : Bridge), s.dev.obj (0x3002 + 0x10 * b) 3 200000 = 0) ∧
    (∃ (s : State) (b : Bridge), s.dev.obj (0x3002 + 0x10 * b) 3 200000 ≠ 0) ∧
    (∃ (s : State) (m : Master) (b : Bridge), s.dev.accessAllowed m (0x40300500 + 0x800 * b) true = true ∧ s.dev.testRefusal b = 0) ∧
    (∃ (s : State) (m : Master) (b : Bridge), s.dev.accessAllowed m (0x40300500 + 0x800 * b) true = true ∧ s.dev.testRefusal b ≠ 0) ∧
    (∃ (s : State) (b : Bridge), s.dev.accessAllowed .dict (0x40300500 + 0x800 * b) true = true ∧ s.dev.testRefusal b = 0) ∧
    (∃ (s : State) (b : Bridge), s.dev.accessAllowed .dict (0x40300500 + 0x800 * b) true = true ∧ s.dev.testRefusal b ≠ 0) ∧
    (∃ (d : Dev) (b : Bridge), d.get (CE.TSTCFG_TSTATE b) = 1) ∧
    (∃ (d : Dev) (b : Bridge), d.get (CE.TSTCFG_TSTATE b) ≠ 1 ∧ (d.engS b).test.start = false ∧ d.get (CE.BSTAT_ST b) ≠ 3) ∧
    (∃ (d : Dev) (b : Bridge), d.get (CE.TSTCFG_TSTATE b) ≠ 1 ∧ (d.engS b).test.start = false ∧ d.get (CE.BSTAT_ST b) = 3 ∧ d.testPointOk b = true) ∧
    (∃ (d : Dev) (b : Bridge), d.get (CE.TSTCFG_TSTATE b) ≠ 1 ∧ (d.engS b).test.start = false ∧ d.get (CE.BSTAT_ST b) = 3 ∧ d.testPointOk b = false) ∧
    (∃ (s : State) (b : Bridge), s.dev.get (CE.TSTCFG_TSTATE b) = 1 ∧ (s.dev.snapOf b).tstLen ≤ (s.dev.engS b).test.tick) ∧
    (∃ (s : State) (b : Bridge), (s.dev.get (CE.TSTCFG_TSTATE b) ≠ 1 ∨ (s.dev.engS b).test.tick < (s.dev.snapOf b).tstLen)) ∧
    (∃ (s : State) (b : Bridge), (64 ≤ vget (s.dev.engS b).ilvN 1 ∨ 64 ≤ vget (s.dev.engS b).ilvN 2)) ∧
    (∃ (s : State) (b : Bridge), vget (s.dev.engS b).ilvN 1 < 64 ∧ vget (s.dev.engS b).ilvN 2 < 64) :=
  ⟨⟨let b : Bridge := 1; mk [fun d => d.set (CE.BSTAT_ST b) (3), fun d => d.set (CE.BSTAT_ST b) (2)], Master.dict, 1, by decide +kernel⟩,
   ⟨let b : Bridge := 1; mk [fun d => d.set (CE.BSTAT_ST b) (0)], Master.truss, 1, by decide +kernel⟩,
   ⟨mk [], Master.span1h1, 1, by decide +kernel⟩,
   ⟨(let b : Bridge := 1; mk [fun d => d.set (CE.BSTAT_ST b) 0, fun d => d.set (CE.BCFG_ROLE b) 1]).dev, 1, by decide +kernel⟩,
   ⟨(let b : Bridge := 1; mk [fun d => d.set (CE.BSTAT_ST b) (1), fun d => d.set (CE.BCFG_ROLE b) 0]).dev, 1, by decide +kernel⟩,
   ⟨let b : Bridge := 1; mk [fun d => d.setObj (0x3002 + 0x10 * b) 3 200000 0], 1, by decide +kernel⟩,
   ⟨mk [], 1, by decide +kernel⟩,
   ⟨let b : Bridge := 1; mk [fun d => (d.set (CE.BSTAT_ST b) 3).setAll [(CE.TSTCFG_POINT b, 0)]], Master.truss, 1, by decide +kernel⟩,
   ⟨mk [], Master.truss, 1, by decide +kernel⟩,
   ⟨let b : Bridge := 1; mk [fun d => (d.set (CE.BSTAT_ST b) 3).setAll [(CE.TSTCFG_POINT b, 0)]], 1, by decide +kernel⟩,
   ⟨mk [], 1, by decide +kernel⟩,
   ⟨(let b : Bridge := 1; mk [fun d => d.set (CE.TSTCFG_TSTATE b) (1)]).dev, 1, by decide +kernel⟩,
   ⟨(let b : Bridge := 1; mk [fun d => d.set (CE.TSTCFG_TSTATE b) (2), fun d => d.set (CE.BSTAT_ST b) (1)]).dev, 1, by decide +kernel⟩,
   ⟨(let b : Bridge := 1; mk [fun d => d.set (CE.TSTCFG_TSTATE b) (2), fun d => d.set (CE.BSTAT_ST b) (3)]).dev, 1, by decide +kernel⟩,
   ⟨(let b : Bridge := 1; mk [fun d => d.set (CE.TSTCFG_TSTATE b) (2), fun d => d.set (CE.BSTAT_ST b) (3), fun d => (d.set (CE.BCFG_ROLE b) 3).set (CE.TSTCFG_POINT b) 3]).dev, 1, by decide +kernel⟩,
   ⟨let b : Bridge := 1; mk [fun d => d.set (CE.TSTCFG_TSTATE b) (1)], 1, by decide +kernel⟩,
   ⟨let b : Bridge := 1; mk [fun d => d.set (CE.TSTCFG_TSTATE b) (2)], 1, by decide +kernel⟩,
   ⟨let b : Bridge := 1; mk [fun d => d.modEng b fun z => { z with ilvN := vset z.ilvN 1 (64 + 0) }], 1, by decide +kernel⟩,
   ⟨mk [], 1, by decide +kernel⟩⟩

theorem test_meets_AscAndPll :
    (∃ (d : Dev) (b : Bridge) (x : Int), d.ascApplied b = true ∧ d.works 4 3 = true ∧ x < -256) ∧
    (∃ (d : Dev) (b : Bridge) (x : Int), d.ascApplied b = true ∧ d.works 4 3 = true ∧ 256 < x ∧ (d.engS b).ascX = 1) ∧
    (∃ (d : Dev) (b : Bridge) (x : Int), d.ascApplied b = true ∧ d.works 4 3 = true ∧ -256 ≤ x ∧ x ≤ 256) ∧
    (∃ (s : State) (b : Bridge), s.dev.ascApplied b = false) ∧
    (∃ (s : State) (b : Bridge), (s.dev.engS b).ascX ≠ 2) ∧
    (∃ (s : State) (b : Bridge), s.dev.ascApplied b = true ∧ (s.dev.engS b).ascX = 2 ∧ (s.dev.engS b).ascLast = none) ∧
    (∃ (s : State) (b : Bridge) (t0 : Nat), s.dev.ascApplied b = true ∧ (s.dev.engS b).ascX = 2 ∧ (s.dev.engS b).ascLast = some t0) ∧
    (∃ (s : State) (b : Bridge), (s.dev.get (CE.PLLST_PLLST b) = 1 ∨ s.dev.get (CE.PLLST_PLLST b) = 3) ∧ s.dev.pllLockN b ≤ (s.dev.engS b).pllGood) ∧
    (∃ (s : State) (b : Bridge), (s.dev.engS b).pllGood < s.dev.pllLockN b) ∧
    (∃ (s : State) (b : Bridge), ((s.dev.engS b).pllBad < s.dev.pllLockN b ∨ s.dev.get (CE.PLLST_PLLST b) ≠ 2)) ∧
    (∃ (s : State) (b : Bridge), s.dev.get (CE.PLLST_PLLST b) = 2 ∧ s.dev.pllLockN b ≤ (s.dev.engS b).pllBad ∧ (s.dev.active b = false ∨ s.dev.role b ≠ 2)) ∧
    (∃ (s : State) (b : Bridge), s.dev.get (CE.PLLST_PLLST b) = 2 ∧ s.dev.pllLockN b ≤ (s.dev.engS b).pllBad ∧ s.dev.active b = true ∧ s.dev.role b = 2) :=
  ⟨⟨(let b : Bridge := 1; mk [fun d => ((d.set (GL.BSTAT_APPLIED b) 1).set (GL.BSTAT_PAT b) 1).set (SIO.STO_ACT b) 0]).dev, 1, (-1051), by decide +kernel⟩,
   ⟨(let b : Bridge := 1; mk [fun d => ((d.set (GL.BSTAT_APPLIED b) 1).set (GL.BSTAT_PAT b) 1).set (SIO.STO_ACT b) 0, fun d => d.modEng b fun z => { z with ascX := 1 }]).dev, 1, 1051, by decide +kernel⟩,
   ⟨(let b : Bridge := 1; mk [fun d => ((d.set (GL.BSTAT_APPLIED b) 1).set (GL.BSTAT_PAT b) 1).set (SIO.STO_ACT b) 0]).dev, 1, 160, by decide +kernel⟩,
   ⟨mk [], 1, by decide +kernel⟩,
   ⟨mk [], 1, by decide +kernel⟩,
   ⟨let b : Bridge := 1; mk [fun d => ((d.set (GL.BSTAT_APPLIED b) 1).set (GL.BSTAT_PAT b) 1).set (SIO.STO_ACT b) 0, fun d => d.modEng b fun z => { z with ascX := 2 }, fun d => d.modEng b fun z => { z with ascLast := none }], 1, by decide +kernel⟩,
   ⟨let b : Bridge := 1; mk [fun d => ((d.set (GL.BSTAT_APPLIED b) 1).set (GL.BSTAT_PAT b) 1).set (SIO.STO_ACT b) 0, fun d => d.modEng b fun z => { z with ascX := 2 }, fun d => d.modEng b fun e => { e with ascLast := some 5 }], 1, 5, by decide +kernel⟩,
   ⟨let b : Bridge := 1; mk [fun d => d.set (CE.PLLST_PLLST b) (1), fun d => d.modEng b fun z => { z with pllGood := (d.pllLockN b + 0) }], 1, by decide +kernel⟩,
   ⟨mk [], 1, by decide +kernel⟩,
   ⟨mk [], 1, by decide +kernel⟩,
   ⟨let b : Bridge := 1; mk [fun d => d.set (CE.PLLST_PLLST b) (2), fun d => d.modEng b fun z => { z with pllBad := (d.pllLockN b + 0) }], 1, by decide +kernel⟩,
   ⟨let b : Bridge := 1; mk [fun d => d.set (CE.PLLST_PLLST b) (2), fun d => d.modEng b fun z => { z with pllBad := (d.pllLockN b + 0) }, fun d => (d.set (CE.BSTAT_ST b) 3), fun d => (d.set (CE.BCFG_ROLE b) 2)], 1, by decide +kernel⟩⟩

theorem test_meets_LimpCommand :
    (∃ (d : Dev), d.limpDriven 0 = true) ∧
    (∃ (d : Dev), d.limpDriven 1 = true) ∧
    (∃ (s : State) (v : BitVec 16), s.dev.works 4 3 = true ∧ s.dev.limpOwned = true ∧ s.dev.limpInside v.toNat = true) ∧
    (∃ (s : State) (v : BitVec 16), s.dev.works 4 3 = true ∧ s.dev.limpOwned = true ∧ s.dev.limpInside v.toNat = false) ∧
    (∃ (s : State), s.dev.works 4 3 = true ∧ s.dev.limpOwned = false) ∧
    (∃ (s : State), s.dev.works 4 3 = false) ∧
    (∃ (s : State), (s.dev.works 4 3 = false ∨ s.dev.limpOwned = false ∨ s.dev.limpMode = 0)) ∧
    (∃ (s : State), s.dev.works 4 3 = true ∧ s.dev.limpOwned = true ∧ s.dev.limpMode ≠ 0) ∧
    (∃ (s : State) (t : Nat), s.dev.works 4 3 = true ∧ s.dev.limpOwned = true ∧ s.dev.vol.ce.limpFrom = some t ∧ t + 4000 * max 1 (s.dev.get CE.LIMPCFG_LFILT) ≤ s.dev.now) ∧
    (∃ (s : State) (t : Nat), s.dev.works 4 3 = true ∧ s.dev.limpOwned = true ∧ s.dev.vol.ce.limpFrom = some t ∧ s.dev.now < t + 4000 * max 1 (s.dev.get CE.LIMPCFG_LFILT)) ∧
    (∃ (s : State), s.dev.vol.ce.limpFrom = none) ∧
    (∃ (s : State), s.dev.works 4 3 = true ∧ s.dev.limpOwned = true ∧ s.dev.get CE.LIMPST_VALID = 1 ∧ ((s.dev.vol.ce.limp.filter fun x => decide (s.dev.now ≤ x.1 + 4000 * max 1 (s.dev.get CE.LIMPCFG_LFILT))) ≠ [])) ∧
    (∃ (s : State), s.dev.works 4 3 = true ∧ s.dev.limpOwned = true ∧ s.dev.get CE.LIMPST_VALID ≠ 1) ∧
    (∃ (s : State), s.dev.works 4 3 = true ∧ s.dev.limpOwned = false) ∧
    (∃ (s : State) (b : Bridge), s.dev.get CE.LIMPCFG_AUTO = 1 ∧ s.dev.secondLife = false ∧ s.dev.get (CE.BCFG_CMDSRC b) % 3 = 0 ∧ s.dev.active b = true ∧ s.dev.get CE.LIMPTMO_CMDTMO ≠ 0) ∧
    (∃ (s : State) (b : Bridge), (s.dev.get CE.LIMPCFG_AUTO ≠ 1 ∨ s.dev.secondLife = true ∨ s.dev.get (CE.BCFG_CMDSRC b) % 3 ≠ 0 ∨ s.dev.active b = false ∨ s.dev.get CE.LIMPTMO_CMDTMO = 0)) :=
  ⟨⟨(mk [fun d => d.set (CE.BCFG_CMDSRC 0) 1]).dev, by decide +kernel⟩,
   ⟨(mk [fun d => d.set (CE.BCFG_CMDSRC 1) 1]).dev, by decide +kernel⟩,
   ⟨mk [fun d => d.set (OWN.R_OWNER 0 3) 7], 0x03ac#16, by decide +kernel⟩,
   ⟨mk [fun d => d.set (OWN.R_OWNER 0 3) 7], 0x0026#16, by decide +kernel⟩,
   ⟨mk [fun d => d.set (OWN.R_OWNER 0 3) 5], by decide +kernel⟩,
   ⟨mk [fun d => d.modStart fun z => { z with phase := .held }], by decide +kernel⟩,
   ⟨mk [fun d => d.modStart fun z => { z with phase := .held }], by decide +kernel⟩,
   ⟨mk [fun d => d.set (OWN.R_OWNER 0 3) 7, fun d => d.set CE.LIMPCFG_LMODE 1], by decide +kernel⟩,
   ⟨mk [fun d => d.set (OWN.R_OWNER 0 3) 7, fun d => d.modCe fun c => { c with limpFrom := some 5 }, fun d => { d with now := 10000000 }], 5, by decide +kernel⟩,
   ⟨mk [fun d => d.set (OWN.R_OWNER 0 3) 7, fun d => d.modCe fun c => { c with limpFrom := some 5 }], 5, by decide +kernel⟩,
   ⟨mk [fun d => d.modCe fun z => { z with limpFrom := none }], by decide +kernel⟩,
   ⟨mk [fun d => d.set (OWN.R_OWNER 0 3) 7, fun d => d.set CE.LIMPST_VALID (1), fun d => d.modCe fun c => { c with limp := [(d.now, 7), (0, 9)] }], by decide +kernel⟩,
   ⟨mk [fun d => d.set (OWN.R_OWNER 0 3) 7, fun d => d.set CE.LIMPST_VALID (2)], by decide +kernel⟩,
   ⟨mk [fun d => d.set (OWN.R_OWNER 0 3) 5], by decide +kernel⟩,
   ⟨let b : Bridge := 1; mk [fun d => d.set CE.LIMPCFG_AUTO (1), fun d => (d.set (CE.BSTAT_ST b) 3), fun d => d.set CE.LIMPTMO_CMDTMO 5], 1, by decide +kernel⟩,
   ⟨mk [fun d => d.set CE.LIMPCFG_AUTO (2)], 1, by decide +kernel⟩⟩

theorem test_meets_CarrierPoints :
    (∃ (s : State) (x : Bridge), s.dev.works 4 0 = true ∧ s.dev.get (MOD.CTL_EN x) = 1 ∧ (s.dev.modS x).running = false) ∧
    (∃ (s : State) (x : Bridge), (s.dev.works 4 0 = false ∨ s.dev.get (MOD.CTL_EN x) ≠ 1 ∨ (s.dev.modS x).running = true)) ∧
    (∃ (s : State) (x : Bridge), s.dev.carrierRuns x = true) ∧
    (∃ (s : State) (x : Bridge) (i : Fin 5), s.dev.carrierRuns x = true ∧ 1 ≤ vget (s.dev.modS x).k i ∧ vget (s.dev.modS x).k i + 1 ≤ (s.dev.modS x).half) ∧
    (∃ (s : State) (x : Bridge) (i : Fin 5), (s.dev.carrierRuns x = false ∨ vget (s.dev.modS x).k i = 0 ∨ (s.dev.modS x).half ≤ vget (s.dev.modS x).k i)) ∧
    (∃ (s : State) (x : Bridge), s.dev.carrierRuns x = false) :=
  ⟨⟨let x : Bridge := 1; mk [fun d => d.set (MOD.CTL_EN x) (1), fun d => d.modMod x fun z => { z with running := false }], 1, by decide +kernel⟩,
   ⟨mk [fun d => d.modStart fun z => { z with phase := .held }], 1, by decide +kernel⟩,
   ⟨let x : Bridge := 1; mk [fun d => (d.set (MOD.CTL_EN x) 1).modMod x fun q => { q with running := true }], 1, by decide +kernel⟩,
   ⟨let x : Bridge := 1; let i : Fin 5 := 4; mk [fun d => (d.set (MOD.CTL_EN x) 1).modMod x fun q => { q with running := true }, fun d => d.modMod x fun z => { z with k := vset z.k i (1 + 0) }, fun d => d.modMod x fun z => { z with half := (vget (d.modS x).k i + 1 + 0) }], 1, 4, by decide +kernel⟩,
   ⟨mk [], 1, 4, by decide +kernel⟩,
   ⟨mk [], 1, by decide +kernel⟩⟩

theorem test_meets_UpdateGroups :
    (∃ (s : State) (m : Master) (x : Bridge), (s.dev.modWritable m x 0x0C = false ∨ s.dev.get (MOD.CTL_SRC x) ≠ 1)) ∧
    (∃ (s : State) (m : Master) (x : Bridge), s.dev.modWritable m x 0x0C = true ∧ s.dev.get (MOD.CTL_SRC x) = 1 ∧ s.dev.get (MOD.CTL_GRP x) ≠ 1) ∧
    (∃ (s : State) (m : Master) (x : Bridge), s.dev.modWritable m x 0x0C = true ∧ s.dev.get (MOD.CTL_SRC x) = 1 ∧ s.dev.get (MOD.CTL_GRP x) = 1) ∧
    (∃ (s : State) (m : Master) (x : Bridge), s.dev.modWritable m x 8 = true ∧ s.dev.get (MOD.CTL_SRC x) = 1 ∧ s.dev.get (MOD.CTL_GRP x) = 1) ∧
    (∃ (s : State) (m : Master) (x : Bridge), s.dev.modWritable m x 8 = true ∧ s.dev.get (MOD.CTL_SRC x) = 1 ∧ s.dev.get (MOD.CTL_GRP x) ≠ 1) ∧
    (∃ (s : State) (m : Master) (x : Bridge), (s.dev.modWritable m x 8 = false ∨ s.dev.get (MOD.CTL_SRC x) ≠ 1)) :=
  ⟨⟨mk [], Master.truss, 1, by decide +kernel⟩,
   ⟨let x : Bridge := 1; mk [fun d => d.set (MOD.CTL_SRC x) (1), fun d => d.set (MOD.CTL_GRP x) (2)], Master.dict, 1, by decide +kernel⟩,
   ⟨let x : Bridge := 1; mk [fun d => d.set (MOD.CTL_SRC x) (1), fun d => d.set (MOD.CTL_GRP x) (1)], Master.truss, 1, by decide +kernel⟩,
   ⟨let x : Bridge := 1; mk [fun d => d.set (MOD.CTL_SRC x) (1), fun d => d.set (MOD.CTL_GRP x) (1)], Master.truss, 1, by decide +kernel⟩,
   ⟨let x : Bridge := 1; mk [fun d => d.set (MOD.CTL_SRC x) (1), fun d => d.set (MOD.CTL_GRP x) (2)], Master.dict, 1, by decide +kernel⟩,
   ⟨mk [], Master.truss, 1, by decide +kernel⟩⟩

theorem test_meets_ModulatorModes :
    (∃ (s : State) (m : Master) (x : Bridge), s.dev.modWritable m x 4 = true ∧ s.dev.get (MOD.CTL_RUN x) = 1 ∧ s.dev.get (MOD.CTL_LOCK x) ≠ 1) ∧
    (∃ (s : State) (m : Master) (x : Bridge), s.dev.modWritable m x 4 = true ∧ s.dev.get (MOD.CTL_RUN x) ≠ 1 ∧ s.dev.get (MOD.CTL_LOCK x) ≠ 1) ∧
    (∃ (s : State) (m : Master) (x : Bridge), s.dev.modWritable m x 4 = true ∧ s.dev.get (MOD.CTL_LOCK x) = 1) ∧
    (∃ (s : State) (m : Master) (x : Bridge), s.dev.modWritable m x 4 = false) ∧
    (∃ (s : State) (m : Master) (x : Bridge), s.dev.modWritable m x 0 = false) ∧
    (∃ (s : State) (m : Master) (x : Bridge), s.dev.modWritable m x 0 = true ∧ s.dev.get (MOD.CTL_LOCK x) ≠ 1 ∧ s.dev.get (MOD.CTL_RUN x) = 1) ∧
    (∃ (s : State) (m : Master) (x : Bridge), s.dev.modWritable m x 0 = true ∧ s.dev.get (MOD.CTL_LOCK x) ≠ 1 ∧ s.dev.get (MOD.CTL_RUN x) ≠ 1) ∧
    (∃ (s : State) (x : Bridge) (p : Fin 3), s.dev.get (MOD.CTL_RUN x) = 1 ∧ s.dev.refreshLeg x p = true ∧ vget (s.dev.modS x).leg p = 2 ∧ vget (s.dev.modS x).refresh p = false ∧ natField (s.dev.get (MOD.OMASK_OMASK x)) (4 * p) 2 ≠ 2) ∧
    (∃ (s : State) (x : Bridge) (p : Fin 3), (s.dev.get (MOD.CTL_RUN x) ≠ 1 ∨ s.dev.refreshLeg x p = false ∨ vget (s.dev.modS x).leg p ≠ 2)) ∧
    (∃ (s : State), s.dev.domainUp 5 = true) ∧
    (∃ (s : State), s.dev.domainUp 5 = false) :=
  ⟨⟨let x : Bridge := 1; mk [fun d => d.set (MOD.CTL_RUN x) (1), fun d => d.set (MOD.CTL_LOCK x) (2)], Master.dict, 1, by decide +kernel⟩,
   ⟨mk [], Master.truss, 0, by decide +kernel⟩,
   ⟨let x : Bridge := 1; mk [fun d => d.set (MOD.CTL_LOCK x) (1)], Master.truss, 1, by decide +kernel⟩,
   ⟨mk [], Master.span0, 1, by decide +kernel⟩,
   ⟨mk [], Master.span0, 1, by decide +kernel⟩,
   ⟨let x : Bridge := 0; mk [fun d => d.set (MOD.CTL_RUN x) (1)], Master.truss, 0, by decide +kernel⟩,
   ⟨mk [], Master.truss, 0, by decide +kernel⟩,
   ⟨let x : Bridge := 1; let p : Fin 3 := 2; mk [fun d => d.set (MOD.CTL_RUN x) (1), fun d => d.modMod x fun z => { z with leg := vset z.leg p (2) }, fun d => d.modMod x fun z => { z with refresh := vset z.refresh p (false) }], 1, 2, by decide +kernel⟩,
   ⟨let x : Bridge := 1; mk [fun d => d.set (MOD.CTL_RUN x) (2)], 1, 2, by decide +kernel⟩,
   ⟨mk [], by decide +kernel⟩,
   ⟨mk [fun d => d.setSt 5 2], by decide +kernel⟩⟩

theorem test_meets_IslandSwitch :
    (∃ (s : State) (n : Chan), ((s.dev.gate n).launched = true ∧ (s.dev.gate n).linked = true ∧ (s.dev.gate n).supplied = true ∧ (s.dev.gate n).islLatch = 0 ∧ (s.dev.gate n).dieLatch = false ∧ (s.dev.gate n).sw = 0)) ∧
    (∃ (s : State) (n : Chan), ¬ ((s.dev.gate n).launched = true ∧ (s.dev.gate n).linked = true ∧ (s.dev.gate n).supplied = true ∧ (s.dev.gate n).islLatch = 0 ∧ (s.dev.gate n).dieLatch = false ∧ (s.dev.gate n).sw = 0)) ∧
    (∃ (s : State) (n : Chan), (s.dev.gate n).sw ≠ 2) ∧
    (∃ (s : State) (n : Chan), (s.dev.gate n).sw = 2) ∧
    (∃ (s : State) (n : Chan), (s.dev.gate n).sw ≠ 1) ∧
    (∃ (s : State) (n : Chan), (s.dev.gate n).sw = 1 ∧ natBit (vget (s.dev.gate n).regs 0) 2 = true) ∧
    (∃ (s : State) (n : Chan), ((s.dev.gate n).sw ≠ 1 ∨ natBit (vget (s.dev.gate n).regs 0) 2 = false)) :=
  ⟨⟨let n : Chan := 11; mk [fun d => d.modGate n fun g => { g with launched := true, linked := true, supplied := true }], 11, by decide +kernel⟩,
   ⟨mk [], 11, by decide +kernel⟩,
   ⟨mk [], 11, by decide +kernel⟩,
   ⟨let n : Chan := 11; mk [fun d => d.modGate n fun g => { g with sw := 2 }], 11, by decide +kernel⟩,
   ⟨mk [], 11, by decide +kernel⟩,
   ⟨let n : Chan := 11; mk [fun d => d.modGate n fun g => { g with sw := 1, regs := vset g.regs 0 4 }], 11, by decide +kernel⟩,
   ⟨mk [], 11, by decide +kernel⟩⟩

theorem test_meets_GateFrames :
    (∃ (s : State) (n : Chan) (rev : BitVec 8) (cap : Bool) (c : BitVec 8), s.dev.glWorks = true ∧ (s.dev.gate n).supplied = true ∧ (s.dev.gate n).hello = true ∧ c.toNat = frameCrc 0 rev.toNat (b2n cap)) ∧
    (∃ (s : State) (n : Chan), s.dev.glWorks = true ∧ ((s.dev.gate n).supplied = false ∨ (s.dev.gate n).hello = false)) ∧
    (∃ (s : State) (v : BitVec 16) (c : BitVec 8), s.dev.glWorks = true ∧ c.toNat = frameCrc 3 0 v.toNat) ∧
    (∃ (s : State) (v : BitVec 16) (c : BitVec 8), s.dev.glWorks = true ∧ c.toNat = frameCrc 3 1 v.toNat) ∧
    (∃ (s : State) (v : BitVec 16) (c : BitVec 8), s.dev.glWorks = true ∧ c.toNat = frameCrc 3 2 v.toNat) ∧
    (∃ (s : State) (n : Chan) (v : BitVec 16) (c : BitVec 8) (sub : BitVec 8), s.dev.glWorks = true ∧ c.toNat ≠ frameCrc 3 sub.toNat v.toNat ∧ (s.dev.gate n).badCrc < 2) ∧
    (∃ (s : State) (n : Chan) (v : BitVec 16) (c : BitVec 8) (sub : BitVec 8), s.dev.glWorks = true ∧ c.toNat ≠ frameCrc 3 sub.toNat v.toNat ∧ 2 ≤ (s.dev.gate n).badCrc) ∧
    (∃ (s : State) (n : Chan) (v : BitVec 16) (c : BitVec 8) (k : Nat) (l : List Nat), s.dev.glWorks = true ∧ (s.dev.gate n).faultQ = k :: l ∧ c.toNat = frameCrc 4 k v.toNat ∧ k = 1) ∧
    (∃ (s : State) (n : Chan) (v : BitVec 16) (c : BitVec 8) (k : Nat) (l : List Nat), s.dev.glWorks = true ∧ (s.dev.gate n).faultQ = k :: l ∧ c.toNat = frameCrc 4 k v.toNat ∧ k = 2) ∧
    (∃ (s : State) (n : Chan) (v : BitVec 16) (c : BitVec 8) (k : Nat) (l : List Nat), s.dev.glWorks = true ∧ (s.dev.gate n).faultQ = k :: l ∧ c.toNat = frameCrc 4 k v.toNat ∧ k = 3) ∧
    (∃ (s : State) (n : Chan) (v : BitVec 16) (c : BitVec 8) (k : Nat) (l : List Nat), s.dev.glWorks = true ∧ (s.dev.gate n).faultQ = k :: l ∧ c.toNat = frameCrc 4 k v.toNat ∧ k = 4) ∧
    (∃ (s : State) (n : Chan) (v : BitVec 16) (c : BitVec 8) (k : Nat) (l : List Nat), s.dev.glWorks = true ∧ (s.dev.gate n).faultQ = k :: l ∧ c.toNat = frameCrc 4 k v.toNat ∧ k = 5 ∧ ((s.dev.gate n).dieLatch = false ∨ s.dev.get (GL.CHSTAT_ST n) = 7)) ∧
    (∃ (s : State) (n : Chan) (v : BitVec 16) (c : BitVec 8) (k : Nat) (l : List Nat), s.dev.glWorks = true ∧ (s.dev.gate n).faultQ = k :: l ∧ c.toNat = frameCrc 4 k v.toNat ∧ k = 5 ∧ (s.dev.gate n).dieLatch = true ∧ s.dev.get (GL.CHSTAT_ST n) ≠ 7) ∧
    (∃ (s : State) (n : Chan), (s.dev.gate n).faultQ = []) ∧
    (∃ (s : State) (n : Chan), (s.dev.gate n).frameDue = true) ∧
    (∃ (s : State) (n : Chan), (s.dev.gate n).frameDue = false) ∧
    (∃ (c : BitVec 8), c.toNat = frameCrc 0 0 0) ∧
    (∃ (c : BitVec 8), c.toNat ≠ frameCrc 0 0 0) ∧
    (∃ (a : BitVec 8) (c : BitVec 8), c.toNat = frameCrc 2 a.toNat 0) ∧
    (∃ (a : BitVec 8) (c : BitVec 8), c.toNat ≠ frameCrc 2 a.toNat 0) ∧
    (∃ (c : BitVec 8) (v : BitVec 16), c.toNat = frameCrc 3 0 v.toNat) ∧
    (∃ (c : BitVec 8) (v : BitVec 16), c.toNat ≠ frameCrc 3 0 v.toNat) ∧
    (∃ (s : State) (n : Chan) (a : BitVec 8) (c : BitVec 8) (h : a.toNat < 12), c.toNat = frameCrc 1 a.toNat (s.dev.mirror n ⟨a.toNat, h⟩)) ∧
    (∃ (a : BitVec 8) (c : BitVec 8), 12 ≤ a.toNat ∧ c.toNat = frameCrc 1 a.toNat 0) ∧
    (∃ (s : State) (n : Chan) (a : Fin 12) (l : List Nat) (c : BitVec 8), s.dev.glWorks = true ∧ (s.dev.gate n).rd = a.val :: l ∧ c.toNat = frameCrc 1 a (vget (s.dev.gate n).regs a) ∧ a.val ∈ (s.dev.gate n).sync) ∧
    (∃ (s : State) (n : Chan) (a : Fin 12) (l : List Nat) (c : BitVec 8), s.dev.glWorks = true ∧ (s.dev.gate n).rd = a.val :: l ∧ c.toNat = frameCrc 1 a (vget (s.dev.gate n).regs a) ∧ a.val ∉ (s.dev.gate n).sync) ∧
    (∃ (s : State) (n : Chan), (s.dev.gate n).rd = []) :=
  ⟨⟨let n : Chan := 3; mk [fun d => d.modGate n fun z => { z with supplied := true }, fun d => d.modGate n fun z => { z with hello := true }], 3, 0x00#8, true, 0x07#8, by decide +kernel⟩,
   ⟨let n : Chan := 11; mk [fun d => d.modGate n fun z => { z with supplied := false }], 11, by decide +kernel⟩,
   ⟨mk [], 0x0006#16, 0x28#8, by decide +kernel⟩,
   ⟨mk [], 0x001d#16, 0x02#8, by decide +kernel⟩,
   ⟨mk [], 0x01d2#16, 0xc9#8, by decide +kernel⟩,
   ⟨mk [], 11, 0x85b0#16, 0xa0#8, 0x04#8, by decide +kernel⟩,
   ⟨let n : Chan := 11; mk [fun d => d.modGate n fun z => { z with badCrc := (2 + 0) }], 11, 0x85b0#16, 0xa0#8, 0x04#8, by decide +kernel⟩,
   ⟨let n : Chan := 3; let k : Nat := 1; let l : List Nat := [18, 3, 0]; mk [fun d => d.modGate n fun z => { z with faultQ := k :: l }], 3, 0x0b3a#16, 0x02#8, 1, [18, 3, 0], by decide +kernel⟩,
   ⟨let n : Chan := 0; let k : Nat := 2; let l : List Nat := []; mk [fun d => d.modGate n fun z => { z with faultQ := k :: l }], 0, 0x0000#16, 0x8e#8, 2, [], by decide +kernel⟩,
   ⟨let n : Chan := 10; let k : Nat := 3; let l : List Nat := [10, 134221824]; mk [fun d => d.modGate n fun z => { z with faultQ := k :: l }], 10, 0x0000#16, 0xe5#8, 3, [10, 134221824], by decide +kernel⟩,
   ⟨let n : Chan := 11; let k : Nat := 4; let l : List Nat := []; mk [fun d => d.modGate n fun z => { z with faultQ := k :: l }, fun d => d.modGate n fun g => { g with faultQ := [4] }], 11, 0x85b0#16, 0x1d#8, 4, [], by decide +kernel⟩,
   ⟨let n : Chan := 11; let k : Nat := 5; let l : List Nat := []; mk [fun d => d.modGate n fun z => { z with faultQ := k :: l }, fun d => d.modGate n fun z => { z with dieLatch := false }, fun d => d.modGate n fun g => { g with faultQ := [5], dieLatch := false }], 11, 0x85b0#16, 0x76#8, 5, [], by decide +kernel⟩,
   ⟨let n : Chan := 11; let k : Nat := 5; let l : List Nat := []; mk [fun d => d.modGate n fun z => { z with faultQ := k :: l }, fun d => d.modGate n fun z => { z with dieLatch := true }, fun d => d.set (GL.CHSTAT_ST n) (2), fun d => d.modGate n fun g => { g with faultQ := [5], dieLatch := true }], 11, 0x85b0#16, 0x76#8, 5, [], by decide +kernel⟩,
   ⟨let n : Chan := 11; mk [fun d => d.modGate n fun z => { z with faultQ := [] }], 11, by decide +kernel⟩,
   ⟨let n : Chan := 11; mk [fun d => d.modGate n fun z => { z with frameDue := true }], 11, by decide +kernel⟩,
   ⟨let n : Chan := 11; mk [fun d => d.modGate n fun z => { z with frameDue := false }], 11, by decide +kernel⟩,
   ⟨0x00#8, by decide +kernel⟩,
   ⟨0xa0#8, by decide +kernel⟩,
   ⟨0x44#8, 0x01#8, by decide +kernel⟩,
   ⟨0xb0#8, 0xa0#8, by decide +kernel⟩,
   ⟨0x05#8, 0x0009#16, by decide +kernel⟩,
   ⟨0xa0#8, 0x0004#16, by decide +kernel⟩,
   ⟨mk [], 9, 0x00#8, 0x03#8, by decide, by decide +kernel⟩,
   ⟨0x2a#8, 0xd2#8, by decide +kernel⟩,
   ⟨let n : Chan := 11; let a : Fin 12 := 7; let l : List Nat := []; mk [fun d => d.modGate n fun z => { z with rd := a.val :: l }], 11, 7, [], 0x00#8, by decide +kernel⟩,
   ⟨let n : Chan := 10; let a : Fin 12 := 4; let l : List Nat := []; mk [fun d => d.modGate n fun z => { z with rd := a.val :: l }, fun d => d.modGate n fun g => { g with rd := [a.val], sync := [] }], 10, 4, [], 0xbd#8, by decide +kernel⟩,
   ⟨let n : Chan := 11; mk [fun d => d.modGate n fun z => { z with rd := [] }], 11, by decide +kernel⟩⟩

theorem test_meets_ChannelStates :
    (∃ (d : Dev) (n : Chan) (st : Nat), st < 8 ∧ d.get (GL.CHSTAT_ST n) ≠ st) ∧
    (∃ (st : Nat), st < 8 ∧ st ≠ 2) ∧
    (∃ (s : State) (l : Fin 6), s.dev.glWorks = true ∧ s.dev.get (GL.CHSTAT_ST (2 * l)) = 2 ∧ s.dev.get (GL.CHSTAT_ST (2 * l + 1)) = 2) ∧
    (∃ (s : State) (l : Fin 6), s.dev.glWorks = true ∧ (s.dev.get (GL.CHSTAT_ST (2 * l)) ≠ 2 ∨ s.dev.get (GL.CHSTAT_ST (2 * l + 1)) ≠ 2)) ∧
    (∃ (s : State) (n : Chan), s.dev.glWorks = true ∧ (s.dev.gate n).greeted = true ∧ (s.dev.gate n).supplied = true ∧ (s.dev.gate n).sync = [] ∧ s.dev.get (GL.CHSTAT_LINK n) = 0 ∧ (s.dev.gate n).clrDue = false) ∧
    (∃ (s : State) (n : Chan), (s.dev.glWorks = false ∨ (s.dev.gate n).greeted = false ∨ (s.dev.gate n).supplied = false ∨ (s.dev.gate n).sync ≠ [] ∨ s.dev.get (GL.CHSTAT_LINK n) = 1)) ∧
    (∃ (s : State) (n : Chan), s.dev.glWorks = true ∧ s.dev.get (GL.CHSTAT_ST n) ≠ 0 ∧ (s.dev.gate n).spDown = false) ∧
    (∃ (s : State) (n : Chan), s.dev.glWorks = true ∧ s.dev.get (GL.CHSTAT_ST n) ≠ 0 ∧ (s.dev.gate n).spDown = true) ∧
    (∃ (s : State) (n : Chan), s.dev.glWorks = true ∧ (s.dev.gate n).epDown = false) ∧
    (∃ (s : State) (n : Chan), s.dev.glWorks = true ∧ (s.dev.gate n).epDown = true) ∧
    (∃ (s : State) (n : Chan), (s.dev.glWorks = false ∨ s.dev.get (GL.CHSTAT_ST n) = 0)) ∧
    (∃ (s : State) (n : Chan) (a : Fin 12), s.dev.glWorks = true ∧ (s.dev.gate n).greeted = true ∧ a.val ∈ (s.dev.gate n).sync) ∧
    (∃ (s : State) (n : Chan) (a : Fin 12), (a.val ∉ (s.dev.gate n).sync ∨ (s.dev.gate n).greeted = false)) ∧
    (∃ (s : State) (m : Master) (n : Chan), s.dev.accessAllowed m (chcfgAddr n) true = false) ∧
    (∃ (s : State) (n : Chan), s.dev.accessAllowed .dict (chcfgAddr n) true = true ∧ s.dev.enableAccepted n = true) ∧
    (∃ (s : State) (n : Chan), s.dev.accessAllowed .dict (chcfgAddr n) true = true ∧ s.dev.enableAccepted n = false) ∧
    (∃ (s : State) (n : Chan), s.dev.get (GL.CHCFG_EN n) = 0 ∧ s.dev.enableOk n = true) ∧
    (∃ (s : State) (n : Chan), s.dev.get (GL.CHCFG_EN n) = 0 ∧ s.dev.enableOk n = false) ∧
    (∃ (s : State) (m : Master) (n : Chan), s.dev.accessAllowed m (chcfgAddr n) true = true ∧ s.dev.get (GL.CHSTAT_ST n) ∈ [2, 4, 5]) ∧
    (∃ (s : State) (m : Master) (n : Chan), s.dev.accessAllowed m (chcfgAddr n) true = true ∧ s.dev.get (GL.CHSTAT_ST n) = 6) ∧
    (∃ (s : State) (m : Master) (n : Chan), s.dev.accessAllowed m (chcfgAddr n) true = true ∧ s.dev.get (GL.CHSTAT_ST n) ∈ [0, 1, 3, 7]) ∧
    (∃ (s : State) (n : Chan), (s.dev.gate n).waitOn = true) ∧
    (∃ (s : State) (n : Chan), (s.dev.gate n).waitOn = false) :=
  ⟨⟨(mk []).dev, 9, 1, by decide +kernel⟩,
   ⟨0, by decide +kernel⟩,
   ⟨let l : Fin 6 := 5; mk [fun d => d.set (GL.CHSTAT_ST (2 * l)) (2), fun d => d.set (GL.CHSTAT_ST (2 * l + 1)) (2)], 5, by decide +kernel⟩,
   ⟨let l : Fin 6 := 5; mk [fun d => d.set (GL.CHSTAT_ST (2 * l)) (5)], 5, by decide +kernel⟩,
   ⟨let n : Chan := 11; mk [fun d => d.modGate n fun z => { z with greeted := true }, fun d => d.modGate n fun z => { z with supplied := true }, fun d => d.modGate n fun z => { z with sync := [] }, fun d => d.set (GL.CHSTAT_LINK n) (0), fun d => d.modGate n fun z => { z with clrDue := false }], 11, by decide +kernel⟩,
   ⟨mk [fun d => d.modStart fun z => { z with phase := .held }], 11, by decide +kernel⟩,
   ⟨let n : Chan := 11; mk [fun d => d.set (GL.CHSTAT_ST n) (5), fun d => d.modGate n fun z => { z with spDown := false }], 11, by decide +kernel⟩,
   ⟨let n : Chan := 11; mk [fun d => d.set (GL.CHSTAT_ST n) (5), fun d => d.modGate n fun z => { z with spDown := true }], 11, by decide +kernel⟩,
   ⟨let n : Chan := 11; mk [fun d => d.modGate n fun z => { z with epDown := false }], 11, by decide +kernel⟩,
   ⟨let n : Chan := 11; mk [fun d => d.modGate n fun z => { z with epDown := true }], 11, by decide +kernel⟩,
   ⟨mk [fun d => d.modStart fun z => { z with phase := .held }], 11, by decide +kernel⟩,
   ⟨let n : Chan := 11; mk [fun d => d.modGate n fun z => { z with greeted := true }], 11, 11, by decide +kernel⟩,
   ⟨let n : Chan := 11; mk [fun d => d.modGate n fun g => { g with sync := [] }], 11, 11, by decide +kernel⟩,
   ⟨mk [], Master.span1h1, 5, by decide +kernel⟩,
   ⟨let n : Chan := 11; mk [fun d => (d.set (GL.CHSTAT_ST n) 1).set DE.STAT_OPSTATE 2], 11, by decide +kernel⟩,
   ⟨mk [], 11, by decide +kernel⟩,
   ⟨let n : Chan := 11; mk [fun d => d.set (GL.CHCFG_EN n) (0), fun d => (d.set (GL.CHSTAT_ST n) 1).set DE.STAT_OPSTATE 2], 11, by decide +kernel⟩,
   ⟨let n : Chan := 11; mk [fun d => d.set (GL.CHCFG_EN n) (0)], 11, by decide +kernel⟩,
   ⟨let n : Chan := 11; mk [fun d => d.set (GL.CHSTAT_ST n) 2], Master.truss, 11, by decide +kernel⟩,
   ⟨let n : Chan := 11; mk [fun d => d.set (GL.CHSTAT_ST n) (6)], Master.truss, 11, by decide +kernel⟩,
   ⟨let n : Chan := 11; mk [fun d => d.set (GL.CHSTAT_ST n) 1], Master.truss, 11, by decide +kernel⟩,
   ⟨let n : Chan := 11; mk [fun d => d.modGate n fun z => { z with waitOn := true }], 11, by decide +kernel⟩,
   ⟨let n : Chan := 11; mk [fun d => d.modGate n fun z => { z with waitOn := false }], 11, by decide +kernel⟩⟩

theorem test_meets_ChannelProtection :
    (∃ (s : State) (n : Chan), s.dev.glWorks = true ∧ s.dev.get (GL.CHSTAT_ST n) ∈ [1, 2, 4]) ∧
    (∃ (s : State) (n : Chan), s.dev.glWorks = true ∧ s.dev.get (GL.CHSTAT_ST n) = 3) ∧
    (∃ (s : State) (n : Chan), s.dev.glWorks = true ∧ s.dev.get (GL.CHSTAT_ST n) ∈ [0, 5, 7]) ∧
    (∃ (s : State) (n : Chan), s.dev.glWorks = true ∧ s.dev.get (GL.CHSTAT_ST n) = 6) ∧
    (∃ (s : State) (n : Chan), (s.dev.gate n).retry = true ∧ s.dev.get (GL.CHSTAT_LINK n) = 1 ∧ s.dev.get (GL.CHSTAT_ST n) = 4) ∧
    (∃ (s : State) (n : Chan), (s.dev.gate n).retry = true ∧ s.dev.get (GL.CHSTAT_LINK n) = 1 ∧ s.dev.get (GL.CHSTAT_ST n) ≠ 4) ∧
    (∃ (s : State) (n : Chan), (s.dev.gate n).retry = false) ∧
    (∃ (s : State) (n : Chan), s.dev.get (GL.CHSTAT_ST n) ∈ [1, 2, 4, 5]) ∧
    (∃ (s : State) (n : Chan), s.dev.get (GL.CHSTAT_ST n) = 3) ∧
    (∃ (s : State) (n : Chan), s.dev.get (GL.CHSTAT_ST n) ∈ [0, 6, 7]) ∧
    (∃ (s : State) (n : Chan), s.dev.get (GL.CHSTAT_ST n) = 6 ∧ (s.dev.gate n).before < 8) ∧
    (∃ (s : State) (n : Chan), s.dev.get (GL.CHSTAT_ST n) = 7) ∧
    (∃ (s : State) (n : Chan), s.dev.get (GL.CHSTAT_ST n) < 6) ∧
    (∃ (s : State) (n : Chan) (off : Bool) (soft : Bool) (v : BitVec 16), (soft = true ∨ v = 0xFFFF#16 ∨ natBit (vget (s.dev.gate n).regs 0) (if off then 1 else 0) = false)) ∧
    (∃ (s : State) (n : Chan) (off : Bool) (soft : Bool) (v : BitVec 16), (¬ (soft = true ∨ v = 0xFFFF#16 ∨ natBit (vget (s.dev.gate n).regs 0) (if off then 1 else 0) = false))) ∧
    (∃ (s : State) (m : Master) (n : BitVec 8) (h : n.toNat < 12), s.dev.accessAllowed m (chcfgAddr (⟨n.toNat, h⟩) + 0x2C) true = true ∧ s.dev.latchClearable (⟨n.toNat, h⟩) = true ∧ s.dev.get (GL.CHSTAT_ST n.toNat) = 5) ∧
    (∃ (s : State) (m : Master) (n : BitVec 8) (h : n.toNat < 12), s.dev.accessAllowed m (chcfgAddr (⟨n.toNat, h⟩) + 0x2C) true = true ∧ s.dev.latchClearable (⟨n.toNat, h⟩) = false) ∧
    (∃ (s : State) (m : Master) (n : BitVec 8) (h : n.toNat < 12), s.dev.accessAllowed m (chcfgAddr (⟨n.toNat, h⟩) + 0x2C) true = false) ∧
    (∃ (s : State) (n : BitVec 8) (h : n.toNat < 12), s.dev.accessAllowed .dict (chcfgAddr (⟨n.toNat, h⟩) + 0x2C) true = true ∧ s.dev.latchClearable (⟨n.toNat, h⟩) = false) ∧
    (∃ (n : BitVec 8), 11 < n.toNat) ∧
    (∃ (s : State) (n : Chan), (s.dev.gate n).retry = true ∧ s.dev.get (GL.CHSTAT_LINK n) = 0) ∧
    (∃ (s : State) (n : Chan), s.dev.glWorks = true ∧ (s.dev.gate n).greeted = true ∧ (s.dev.gate n).supplied = true ∧ (s.dev.gate n).sync = [] ∧ s.dev.get (GL.CHSTAT_LINK n) = 0 ∧ (s.dev.gate n).clrDue = true ∧ s.dev.get (GL.CHSTAT_ST n) = 4) :=
  ⟨⟨let n : Chan := 11; mk [fun d => d.set (GL.CHSTAT_ST n) 1], 11, by decide +kernel⟩,
   ⟨let n : Chan := 11; mk [fun d => d.set (GL.CHSTAT_ST n) (3)], 11, by decide +kernel⟩,
   ⟨let n : Chan := 11; mk [fun d => d.set (GL.CHSTAT_ST n) 0], 11, by decide +kernel⟩,
   ⟨let n : Chan := 11; mk [fun d => d.set (GL.CHSTAT_ST n) (6)], 11, by decide +kernel⟩,
   ⟨let n : Chan := 11; mk [fun d => d.modGate n fun z => { z with retry := true }, fun d => d.set (GL.CHSTAT_LINK n) (1), fun d => d.set (GL.CHSTAT_ST n) (4)], 11, by decide +kernel⟩,
   ⟨let n : Chan := 11; mk [fun d => d.modGate n fun z => { z with retry := true }, fun d => d.set (GL.CHSTAT_LINK n) (1), fun d => d.set (GL.CHSTAT_ST n) (1)], 11, by decide +kernel⟩,
   ⟨let n : Chan := 11; mk [fun d => d.modGate n fun z => { z with retry := false }], 11, by decide +kernel⟩,
   ⟨let n : Chan := 11; mk [fun d => d.set (GL.CHSTAT_ST n) 5], 11, by decide +kernel⟩,
   ⟨let n : Chan := 11; mk [fun d => d.set (GL.CHSTAT_ST n) (3)], 11, by decide +kernel⟩,
   ⟨let n : Chan := 11; mk [fun d => d.set (GL.CHSTAT_ST n) 7], 11, by decide +kernel⟩,
   ⟨let n : Chan := 11; mk [fun d => d.set (GL.CHSTAT_ST n) (6)], 11, by decide +kernel⟩,
   ⟨let n : Chan := 11; mk [fun d => d.set (GL.CHSTAT_ST n) (7)], 11, by decide +kernel⟩,
   ⟨mk [], 11, by decide +kernel⟩,
   ⟨mk [], 11, false, false, 0x0004#16, by decide +kernel⟩,
   ⟨let n : Chan := 11; mk [fun d => d.modGate n fun g => { g with regs := vset g.regs 0 3 }], 11, false, false, 0x0004#16, by decide +kernel⟩,
   ⟨let n : BitVec 8 := 0x07#8; mk [fun d => d.set (GL.CHSTAT_ST n.toNat) (5)], Master.truss, 0x07#8, by decide, by decide +kernel⟩,
   ⟨let n : BitVec 8 := 0x07#8; have h : n.toNat < 12 := (by decide); mk [fun d => d.set (CE.BSTAT_ST (chanBridge ⟨n.toNat, h⟩)) 3], Master.truss, 0x07#8, by decide, by decide +kernel⟩,
   ⟨mk [], Master.span1h1, 0x06#8, by decide, by decide +kernel⟩,
   ⟨let n : BitVec 8 := 0x07#8; have h : n.toNat < 12 := (by decide); mk [fun d => d.set (CE.BSTAT_ST (chanBridge ⟨n.toNat, h⟩)) 3], 0x07#8, by decide, by decide +kernel⟩,
   ⟨0xb0#8, by decide +kernel⟩,
   ⟨let n : Chan := 11; mk [fun d => d.modGate n fun z => { z with retry := true }, fun d => d.set (GL.CHSTAT_LINK n) (0)], 11, by decide +kernel⟩,
   ⟨let n : Chan := 11; mk [fun d => d.modGate n fun z => { z with greeted := true }, fun d => d.modGate n fun z => { z with supplied := true }, fun d => d.modGate n fun z => { z with sync := [] }, fun d => d.set (GL.CHSTAT_LINK n) (0), fun d => d.modGate n fun z => { z with clrDue := true }, fun d => d.set (GL.CHSTAT_ST n) (4)], 11, by decide +kernel⟩⟩

theorem test_meets_ActiveDischarge :
    (∃ (s : State) (m : Master), s.dev.dscWritable m = true ∧ s.dev.get GL.DSCCTL_REQ ≠ 1) ∧
    (∃ (s : State) (m : Master), s.dev.dscWritable m = true ∧ s.dev.get GL.DSCCTL_REQ = 1) ∧
    (∃ (s : State), s.dev.dscWritable .dict = true ∧ s.dev.get GL.DSCCTL_REQ = 1) ∧
    (∃ (s : State) (m : Master), s.dev.dscWritable m = false) ∧
    (∃ (s : State), s.dev.get GL.DSCCTL_REQ = 1 ∧ (s.dev.get GL.DSCSTAT_ST = 1 ∨ s.dev.get GL.DSCSTAT_ST = 2) ∧ s.dev.linkVolts < (max 20 (min 60 (s.dev.get GL.DSCCTL_VTHR)) : Nat) * 1048576) ∧
    (∃ (s : State), s.dev.get GL.DSCCTL_REQ = 1 ∧ (s.dev.get GL.DSCSTAT_ST = 1 ∨ s.dev.get GL.DSCSTAT_ST = 2) ∧ (max 20 (min 60 (s.dev.get GL.DSCCTL_VTHR)) : Nat) * 1048576 ≤ s.dev.linkVolts) ∧
    (∃ (s : State), s.dev.get GL.DSCCTL_REQ = 1 ∧ (s.dev.get GL.DSCSTAT_ST = 1 ∨ s.dev.get GL.DSCSTAT_ST = 2) ∧ s.dev.get GL.DSCSTAT_ST = 1 ∧ 2 ≤ s.dev.get GL.DSCCTL_MODE) ∧
    (∃ (s : State), s.dev.get GL.DSCCTL_REQ = 1 ∧ (s.dev.get GL.DSCSTAT_ST = 1 ∨ s.dev.get GL.DSCSTAT_ST = 2) ∧ (s.dev.get GL.DSCSTAT_ST = 2 ∨ s.dev.get GL.DSCCTL_MODE < 2)) ∧
    (∃ (s : State), s.dev.get GL.DSCCTL_REQ = 0) ∧
    (∃ (d : Dev) (st : Nat), st < 8 ∧ d.get GL.DSCSTAT_ST ≠ st) :=
  ⟨⟨mk [], Master.truss, by decide +kernel⟩,
   ⟨mk [fun d => d.set GL.DSCCTL_REQ (1)], Master.truss, by decide +kernel⟩,
   ⟨mk [fun d => d.set GL.DSCCTL_REQ (1)], by decide +kernel⟩,
   ⟨mk [], Master.span0, by decide +kernel⟩,
   ⟨mk [fun d => d.set GL.DSCCTL_REQ (1), fun d => d.set GL.DSCSTAT_ST (1)], by decide +kernel⟩,
   ⟨mk [fun d => d.set GL.DSCCTL_REQ (1), fun d => d.set GL.DSCSTAT_ST (1), fun d => d.set (Q.LAST_V (d.get (CE.INSLOT_TAG 0 3))) 0x7000], by decide +kernel⟩,
   ⟨mk [fun d => d.set GL.DSCCTL_REQ (1), fun d => d.set GL.DSCSTAT_ST (1), fun d => d.set GL.DSCCTL_MODE ((2) + 0 + 1)], by decide +kernel⟩,
   ⟨mk [fun d => d.set GL.DSCCTL_REQ (1), fun d => d.set GL.DSCSTAT_ST (1), fun d => d.set GL.DSCSTAT_ST (2)], by decide +kernel⟩,
   ⟨mk [fun d => d.set GL.DSCCTL_REQ (0)], by decide +kernel⟩,
   ⟨(mk [fun d => d.set GL.DSCSTAT_ST (5)]).dev, 2, by decide +kernel⟩⟩

theorem test_meets_ThermalConditions :
    (∃ (s : State) (c : Fin 24), s.dev.nfilt ≤ vget s.dev.vol.th.hiN c) ∧
    (∃ (s : State) (c : Fin 24), vget s.dev.vol.th.hiN c < s.dev.nfilt) ∧
    (∃ (s : State) (c : Fin 24), s.dev.nfilt ≤ vget s.dev.vol.th.loN c) ∧
    (∃ (s : State) (c : Fin 24), vget s.dev.vol.th.loN c < s.dev.nfilt) ∧
    (∃ (s : State) (n : Chan), s.dev.nfilt ≤ vget s.dev.vol.th.tjWarnN n) ∧
    (∃ (s : State) (n : Chan), s.dev.nfilt ≤ vget s.dev.vol.th.islWarnN n) ∧
    (∃ (s : State) (n : Chan), s.dev.nfilt ≤ vget s.dev.vol.th.tjStopN n) ∧
    (∃ (s : State) (n : Chan), s.dev.nfilt ≤ vget s.dev.vol.th.islStopN n) ∧
    (∃ (s : State) (n : Chan), vget s.dev.vol.th.tjWarnN n < s.dev.nfilt) ∧
    (∃ (s : State) (n : Chan), vget s.dev.vol.th.islWarnN n < s.dev.nfilt) ∧
    (∃ (s : State) (n : Chan), vget s.dev.vol.th.tjStopN n < s.dev.nfilt) ∧
    (∃ (s : State) (n : Chan), vget s.dev.vol.th.islStopN n < s.dev.nfilt) ∧
    (∃ (s : State), 10 ≤ s.dev.vol.th.dieN) ∧
    (∃ (s : State), s.dev.vol.th.dieN < 10) ∧
    (∃ (s : State), s.dev.works 4 3 = true ∧ s.dev.anyBridgeActive = true) ∧
    (∃ (s : State), (s.dev.works 4 3 = false ∨ s.dev.anyBridgeActive = false)) ∧
    (∃ (s : State) (n : Chan), s.dev.glWorks = true ∧ s.dev.get (GL.CHSTAT_ST n) ≠ 7) ∧
    (∃ (s : State) (n : Chan), (s.dev.glWorks = false ∨ s.dev.get (GL.CHSTAT_ST n) = 7)) :=
  ⟨⟨let c : Fin 24 := 23; mk [fun d => d.modTh fun z => { z with hiN := vset z.hiN c (d.nfilt + 0) }], 23, by decide +kernel⟩,
   ⟨mk [], 23, by decide +kernel⟩,
   ⟨let c : Fin 24 := 23; mk [fun d => d.modTh fun z => { z with loN := vset z.loN c (d.nfilt + 0) }], 23, by decide +kernel⟩,
   ⟨mk [], 23, by decide +kernel⟩,
   ⟨let n : Chan := 11; mk [fun d => d.modTh fun z => { z with tjWarnN := vset z.tjWarnN n (d.nfilt + 0) }], 11, by decide +kernel⟩,
   ⟨let n : Chan := 11; mk [fun d => d.modTh fun z => { z with islWarnN := vset z.islWarnN n (d.nfilt + 0) }], 11, by decide +kernel⟩,
   ⟨let n : Chan := 11; mk [fun d => d.modTh fun z => { z with tjStopN := vset z.tjStopN n (d.nfilt + 0) }], 11, by decide +kernel⟩,
   ⟨let n : Chan := 11; mk [fun d => d.modTh fun z => { z with islStopN := vset z.islStopN n (d.nfilt + 0) }], 11, by decide +kernel⟩,
   ⟨mk [], 11, by decide +kernel⟩,
   ⟨mk [], 11, by decide +kernel⟩,
   ⟨mk [], 11, by decide +kernel⟩,
   ⟨mk [], 11, by decide +kernel⟩,
   ⟨mk [fun d => d.modTh fun z => { z with dieN := (10 + 0) }], by decide +kernel⟩,
   ⟨mk [], by decide +kernel⟩,
   ⟨mk [fun d => brActive (0) d], by decide +kernel⟩,
   ⟨mk [fun d => d.modStart fun z => { z with phase := .held }], by decide +kernel⟩,
   ⟨let n : Chan := 11; mk [fun d => d.set (GL.CHSTAT_ST n) (5)], 11, by decide +kernel⟩,
   ⟨mk [fun d => d.modStart fun z => { z with phase := .held }], 11, by decide +kernel⟩⟩

theorem test_meets_HousekeepingAndModel :
    (∃ (s : State), s.dev.thWorks = true ∧ s.dev.get TH.CTL_EN = 1) ∧
    (∃ (s : State), (s.dev.thWorks = false ∨ s.dev.get TH.CTL_EN ≠ 1)) ∧
    (∃ (s : State), s.dev.thWorks = true ∧ s.dev.get TH.CTL_EN = 1) ∧
    (∃ (s : State) (n : Chan) (c : BitVec 8) (e : EdgeFrame) (l : List EdgeFrame), s.dev.glWorks = true ∧ s.dev.thWorks = true ∧ (s.dev.gate n).edges = e :: l ∧ c.toNat = frameCrc 2 (128 * b2n e.off + e.str) e.time ∧ e.time < 65536 ∧ e.time ≠ 0xFFFF) ∧
    (∃ (s : State) (n : Chan) (c : BitVec 8) (e : EdgeFrame) (l : List EdgeFrame), s.dev.glWorks = true ∧ s.dev.thWorks = true ∧ (s.dev.gate n).edges = e :: l ∧ c.toNat = frameCrc 2 (128 * b2n e.off + e.str) e.time ∧ e.time < 65536 ∧ e.time = 0xFFFF) ∧
    (∃ (s : State) (n : Chan), (s.dev.gate n).edges = []) ∧
    (∃ (d : Dev) (b : Bridge) (t : Int), d.sget (TH.DERT_TDSTART b) < d.sget (TH.DERT_TDEND b) ∧ t ≤ d.sget (TH.DERT_TDSTART b)) ∧
    (∃ (d : Dev) (b : Bridge) (t : Int), d.sget (TH.DERT_TDSTART b) < d.sget (TH.DERT_TDEND b) ∧ d.sget (TH.DERT_TDEND b) ≤ t) :=
  ⟨⟨mk [fun d => d.set TH.CTL_EN (1)], by decide +kernel⟩,
   ⟨mk [fun d => d.modStart fun z => { z with phase := .held }], by decide +kernel⟩,
   ⟨mk [fun d => d.set TH.CTL_EN (1)], by decide +kernel⟩,
   ⟨let n : Chan := 9; let e : EdgeFrame := { off := false, str := 115, time := 289, code := 23169 }; let l : List EdgeFrame := [{ off := true, str := 42, time := 796, code := 31965 }, { off := false, str := 65, time := 801, code := -22950 }, { off := true, str := 2, time := 809, code := 28850 }]; mk [fun d => d.modGate n fun z => { z with edges := e :: l }], 9, 0x04#8, { off := false, str := 115, time := 289, code := 23169 }, [{ off := true, str := 42, time := 796, code := 31965 }, { off := false, str := 65, time := 801, code := -22950 }, { off := true, str := 2, time := 809, code := 28850 }], by decide +kernel⟩,
   ⟨let n : Chan := 11; let e : EdgeFrame := { off := false, str := 5, time := 65535, code := 3 }; let l : List EdgeFrame := []; mk [fun d => d.modGate n fun z => { z with edges := e :: l }, fun d => d.modGate n fun g => { g with edges := [⟨false, 5, 0xFFFF, 3⟩] }], 11, 0xc8#8, { off := false, str := 5, time := 65535, code := 3 }, [], by decide +kernel⟩,
   ⟨let n : Chan := 11; mk [fun d => d.modGate n fun z => { z with edges := [] }], 11, by decide +kernel⟩,
   ⟨(mk []).dev, 1, 330, by decide +kernel⟩,
   ⟨(mk []).dev, 0, 65536, by decide +kernel⟩⟩

theorem test_meets_TrussVote :
    (∃ (s : State) (c0 : BusOut) (c1 : BusOut) (c2 : BusOut), s.dev.running = true ∧ s.dev.get KS.TSTAT_MODE ≠ 3 ∧ s.dev.trussHarts = [0, 1, 2] ∧ c0 = c1 ∧ c1 = c2) ∧
    (∃ (s : State) (c0 : BusOut) (c1 : BusOut) (c2 : BusOut), s.dev.running = true ∧ s.dev.get KS.TSTAT_MODE ≠ 3 ∧ s.dev.trussHarts = [0, 1, 2] ∧ c0 = c1 ∧ c1 ≠ c2) ∧
    (∃ (s : State) (c0 : BusOut) (c1 : BusOut) (c2 : BusOut), s.dev.running = true ∧ s.dev.get KS.TSTAT_MODE ≠ 3 ∧ s.dev.trussHarts = [0, 1, 2] ∧ c1 = c2 ∧ c0 ≠ c1) ∧
    (∃ (s : State) (c0 : BusOut) (c1 : BusOut) (c2 : BusOut), s.dev.running = true ∧ s.dev.get KS.TSTAT_MODE ≠ 3 ∧ s.dev.trussHarts = [0, 1, 2] ∧ c0 = c2 ∧ c0 ≠ c1) ∧
    (∃ (s : State) (c0 : BusOut) (c1 : BusOut) (c2 : BusOut), s.dev.running = true ∧ s.dev.get KS.TSTAT_MODE ≠ 3 ∧ s.dev.trussHarts = [0, 1, 2] ∧ c0 ≠ c1 ∧ c1 ≠ c2 ∧ c0 ≠ c2) ∧
    (∃ (s : State) (c0 : BusOut) (c1 : BusOut) (c2 : BusOut) (p : Fin 3) (q : Fin 3), s.dev.running = true ∧ s.dev.get KS.TSTAT_MODE ≠ 3 ∧ s.dev.trussHarts = [p, q] ∧ pick3 c0 c1 c2 p = pick3 c0 c1 c2 q ∧ s.dev.vol.ks.signed = none) ∧
    (∃ (s : State) (c0 : BusOut) (c1 : BusOut) (c2 : BusOut) (p : Fin 3) (q : Fin 3) (h : Fin 3), s.dev.running = true ∧ s.dev.get KS.TSTAT_MODE ≠ 3 ∧ s.dev.trussHarts = [p, q] ∧ pick3 c0 c1 c2 p = pick3 c0 c1 c2 q ∧ s.dev.get KS.TSTAT_HELDM = 2 ^ h.val ∧ s.dev.vol.ks.signed = some (s.dev.now, h) ∧ pick3 c0 c1 c2 h = pick3 c0 c1 c2 p) ∧
    (∃ (s : State) (c0 : BusOut) (c1 : BusOut) (c2 : BusOut) (p : Fin 3) (q : Fin 3) (h : Fin 3), s.dev.running = true ∧ s.dev.get KS.TSTAT_MODE ≠ 3 ∧ s.dev.trussHarts = [p, q] ∧ pick3 c0 c1 c2 p = pick3 c0 c1 c2 q ∧ s.dev.get KS.TSTAT_HELDM = 2 ^ h.val ∧ s.dev.vol.ks.signed = some (s.dev.now, h) ∧ pick3 c0 c1 c2 h ≠ pick3 c0 c1 c2 p) ∧
    (∃ (s : State) (c0 : BusOut) (c1 : BusOut) (c2 : BusOut) (p : Fin 3) (q : Fin 3), s.dev.running = true ∧ s.dev.get KS.TSTAT_MODE ≠ 3 ∧ s.dev.trussHarts = [p, q] ∧ pick3 c0 c1 c2 p ≠ pick3 c0 c1 c2 q) ∧
    (∃ (s : State) (p : Fin 3), s.dev.running = true ∧ s.dev.get KS.TSTAT_MODE ≠ 3 ∧ s.dev.trussHarts = [p]) ∧
    (∃ (s : State), (s.dev.running = false ∨ s.dev.get KS.TSTAT_MODE = 3)) ∧
    (∃ (d : Dev) (k : Nat) (a : Nat), k ≤ 3 ∧ a < 2 ^ 32 ∧ d.get KS.TSTAT_HELDM = 0) ∧
    (∃ (d : Dev) (k : Nat) (h : Fin 3) (a : Nat), k ≤ 3 ∧ a < 2 ^ 32 ∧ d.get KS.TSTAT_HELDM ≠ 0 ∧ natBit (d.get KS.TSTAT_HELDM) h = false) ∧
    (∃ (d : Dev) (k : Nat) (h : Fin 3) (a : Nat), k ≤ 3 ∧ a < 2 ^ 32 ∧ natBit (d.get KS.TSTAT_HELDM) h = true ∧ d.signedNow h = false) ∧
    (∃ (d : Dev) (k : Nat) (h : Fin 3) (a : Nat), k ≤ 3 ∧ a < 2 ^ 32 ∧ natBit (d.get KS.TSTAT_HELDM) h = true ∧ d.signedNow h = true) ∧
    (∃ (s : State), s.dev.trussWorks = true ∧ s.dev.dueHarts = []) ∧
    (∃ (s : State) (w0 : List Word) (w1 : List Word) (w2 : List Word) (g0 : BitVec 64) (g1 : BitVec 64) (g2 : BitVec 64) (h : Fin 3) (p : Fin 3) (q : Fin 3), s.dev.trussWorks = true ∧ s.dev.dueHarts = [h] ∧ s.dev.trussHarts = [p, q] ∧ pick3 w0 w1 w2 p = pick3 w0 w1 w2 q ∧ pick3 g0 g1 g2 p = pick3 g0 g1 g2 q ∧ pick3 g0 g1 g2 h = pick3 g0 g1 g2 p) ∧
    (∃ (s : State) (w0 : List Word) (w1 : List Word) (w2 : List Word) (g0 : BitVec 64) (g1 : BitVec 64) (g2 : BitVec 64) (h : Fin 3) (p : Fin 3) (q : Fin 3), s.dev.trussWorks = true ∧ s.dev.dueHarts = [h] ∧ s.dev.trussHarts = [p, q] ∧ pick3 w0 w1 w2 p = pick3 w0 w1 w2 q ∧ pick3 g0 g1 g2 p = pick3 g0 g1 g2 q ∧ pick3 g0 g1 g2 h ≠ pick3 g0 g1 g2 p) ∧
    (∃ (s : State) (w0 : List Word) (w1 : List Word) (w2 : List Word) (h : Fin 3) (p : Fin 3) (q : Fin 3), s.dev.trussWorks = true ∧ s.dev.dueHarts = [h] ∧ s.dev.trussHarts = [p, q] ∧ pick3 w0 w1 w2 p ≠ pick3 w0 w1 w2 q) ∧
    (∃ (s : State) (w0 : List Word) (w1 : List Word) (w2 : List Word) (g0 : BitVec 64) (g1 : BitVec 64) (g2 : BitVec 64) (h : Fin 3) (p : Fin 3) (q : Fin 3), s.dev.trussWorks = true ∧ s.dev.dueHarts = [h] ∧ s.dev.trussHarts = [p, q] ∧ pick3 w0 w1 w2 p = pick3 w0 w1 w2 q ∧ pick3 g0 g1 g2 p ≠ pick3 g0 g1 g2 q) ∧
    (∃ (s : State), s.dev.trussWorks = false ∧ s.dev.sioWorks = true) ∧
    (∃ (s : State), s.dev.trussWorks = false ∧ s.dev.sioWorks = false) ∧
    (∃ (s : State), s.dev.running = true ∧ s.dev.reintNow = false) ∧
    (∃ (s : State), s.dev.running = true ∧ s.dev.reintNow = true) ∧
    (∃ (s : State) (t : BitVec 64) (t' : BitVec 64), s.dev.running = true ∧ s.dev.reintNow = false ∧ s.dev.get KS.TSTAT_MODE < 2 ∧ s.dev.trussHarts = [0, 1, 2] ∧ t ≠ t') ∧
    (∃ (s : State) (sp : Fin 2) (x : BitVec 64) (x' : BitVec 64), s.dev.running = true ∧ s.dev.lockstep sp = true ∧ s.dev.reintNow = false ∧ x ≠ x') ∧
    (∃ (s : State) (a : BitVec 64) (x : BitVec 64), s.dev.running = true ∧ (vget s.dev.vol.ks.incls 0).2 = true ∧ s.dev.get KS.TSTAT_MODE < 2 ∧ s.dev.trussHarts = [0, 1, 2] ∧ 4 < max a.toNat x.toNat - min a.toNat x.toNat) ∧
    (∃ (s : State) (a : BitVec 64) (x : BitVec 64), s.dev.running = true ∧ (vget s.dev.vol.ks.incls 0).2 = true ∧ s.dev.get KS.TSTAT_MODE < 2 ∧ s.dev.trussHarts = [0, 1, 2] ∧ max a.toNat x.toNat - min a.toNat x.toNat ≤ 4) ∧
    (∃ (s : State) (a : BitVec 64) (x : BitVec 64), s.dev.running = true ∧ (vget s.dev.vol.ks.incls 0).2 = true ∧ s.dev.get KS.TSTAT_MODE < 2 ∧ s.dev.trussHarts = [0, 1] ∧ s.dev.get KS.TSTAT_HELDM = 4 ∧ 4 < max a.toNat x.toNat - min a.toNat x.toNat) ∧
    (∃ (s : State) (t : Fin 3), s.dev.running = true ∧ (vget s.dev.vol.ks.incls t).1 = false) :=
  ⟨⟨mk [], BusOut.wfi, BusOut.wfi, BusOut.wfi, by decide +kernel⟩,
   ⟨mk [], BusOut.none, BusOut.none, BusOut.load 0x20000000#32 0x1#4, by decide +kernel⟩,
   ⟨mk [], BusOut.claim, BusOut.none, BusOut.none, by decide +kernel⟩,
   ⟨mk [fun d => d.set KS.TSTAT_MODE (5)], BusOut.claim, BusOut.load 0x20000100#32 0x3#4, BusOut.claim, by decide +kernel⟩,
   ⟨mk [fun d => d.set KS.TSTAT_MODE (5)], BusOut.store 0x4010f000#32 0x3#4 0x1f8e8447#32, BusOut.load 0x20000000#32 0x3#4, BusOut.load 0x40000100#32 0x3#4, by decide +kernel⟩,
   ⟨mk [fun d => d.set KS.TSTAT_MODE (5), fun d => d.set KS.TSTAT_HELDM 2, fun d => d.modKs fun z => { z with signed := none }, fun d => (d.set KS.TSTAT_HELDM 4).modKs fun k => { k with signed := none }], BusOut.store 0x4010f000#32 0x3#4 0x1f8e8447#32, BusOut.store 0x4010f000#32 0x3#4 0x1f8e8447#32, BusOut.load 0x40000100#32 0x3#4, 0, 1, by decide +kernel⟩,
   ⟨let h : Fin 3 := 2; mk [fun d => d.set KS.TSTAT_MODE (5), fun d => d.set KS.TSTAT_HELDM 2, fun d => d.set KS.TSTAT_HELDM (2 ^ h.val), fun d => d.modKs fun z => { z with signed := some (d.now, h) }, fun d => (d.set KS.TSTAT_HELDM (2 ^ h.val)).modKs fun k => { k with signed := some (d.now, h) }], BusOut.store 0x4010f000#32 0x3#4 0x1f8e8447#32, BusOut.store 0x4010f000#32 0x3#4 0x1f8e8447#32, BusOut.store 0x4010f000#32 0x3#4 0x1f8e8447#32, 0, 1, 2, by decide +kernel⟩,
   ⟨let h : Fin 3 := 2; mk [fun d => d.set KS.TSTAT_MODE (5), fun d => d.set KS.TSTAT_HELDM 2, fun d => d.set KS.TSTAT_HELDM (2 ^ h.val), fun d => d.modKs fun z => { z with signed := some (d.now, h) }, fun d => (d.set KS.TSTAT_HELDM (2 ^ h.val)).modKs fun k => { k with signed := some (d.now, h) }], BusOut.store 0x4010f000#32 0x3#4 0x1f8e8447#32, BusOut.store 0x4010f000#32 0x3#4 0x1f8e8447#32, BusOut.load 0x40000100#32 0x3#4, 0, 1, 2, by decide +kernel⟩,
   ⟨mk [fun d => d.set KS.TSTAT_MODE (5), fun d => d.set KS.TSTAT_HELDM 2, fun d => (d.set KS.TSTAT_HELDM 4).modKs fun k => { k with signed := none }], BusOut.store 0x4010f000#32 0x3#4 0x1f8e8447#32, BusOut.load 0x20000000#32 0x3#4, BusOut.load 0x40000100#32 0x3#4, 0, 1, by decide +kernel⟩,
   ⟨mk [fun d => d.set KS.TSTAT_MODE (5), fun d => d.set KS.TSTAT_HELDM 5], 1, by decide +kernel⟩,
   ⟨mk [fun d => d.modStart fun z => { z with phase := .held }], by decide +kernel⟩,
   ⟨(mk [fun d => d.set KS.TSTAT_HELDM (0)]).dev, 2, 848891460, by decide +kernel⟩,
   ⟨(let h : Fin 3 := 2; mk [fun d => d.set KS.TSTAT_HELDM (1), fun d => d.set KS.TSTAT_HELDM (2 ^ ((h.val + 1) % 3))]).dev, 2, 2, 848891460, by decide +kernel⟩,
   ⟨(let h : Fin 3 := 2; mk [fun d => d.set KS.TSTAT_HELDM (2 ^ h.val)]).dev, 2, 2, 848891460, by decide +kernel⟩,
   ⟨(let k : Nat := 2; let h : Fin 3 := 2; mk [fun d => d.set KS.TSTAT_HELDM (2 ^ h.val), fun d => (d.set KS.TSTAT_HELDM (2 ^ h.val)).modKs fun k => { k with signed := some (d.now, h) }]).dev, 2, 2, 848891460, by decide +kernel⟩,
   ⟨mk [], by decide +kernel⟩,
   ⟨mk [fun d => d.set KS.TSTAT_HELDM 2, fun d => (d.set KS.TSTAT_HELDM 4).modKs fun k => { k with signed := none }], [], [], [], 0x0000000000000005#64, 0x0000000000000005#64, 0x0000000000000005#64, 2, 0, 1, by decide +kernel⟩,
   ⟨mk [fun d => d.set KS.TSTAT_HELDM 2, fun d => (d.set KS.TSTAT_HELDM 4).modKs fun k => { k with signed := none }], [], [], [], 0x0000000000000005#64, 0x0000000000000005#64, 0x0000000000000006#64, 2, 0, 1, by decide +kernel⟩,
   ⟨mk [fun d => d.set KS.TSTAT_HELDM 2, fun d => (d.set KS.TSTAT_HELDM 4).modKs fun k => { k with signed := none }], [], [0x00000007#32], [0x00000006#32, 0x00000001#32], 2, 0, 1, by decide +kernel⟩,
   ⟨mk [fun d => d.set KS.TSTAT_HELDM 2, fun d => (d.set KS.TSTAT_HELDM 4).modKs fun k => { k with signed := none }], [], [], [], 0x0000000000000005#64, 0x0000000000000004#64, 0x0000000000000005#64, 2, 0, 1, by decide +kernel⟩,
   ⟨mk [fun d => d.set KS.TSTAT_MODE 3], by decide +kernel⟩,
   ⟨mk [fun d => d.set KS.TSTAT_MODE 3, fun d => d.modStart fun z => { z with phase := .held }], by decide +kernel⟩,
   ⟨mk [], by decide +kernel⟩,
   ⟨mk [fun d => d.modKs fun k => { k with reint := some d.now }], by decide +kernel⟩,
   ⟨mk [], 0x0000000000000026#64, 0xfe8f3d40898285b0#64, by decide +kernel⟩,
   ⟨mk [], 1, 0x00000000000186a0#64, 0x0000000000000004#64, by decide +kernel⟩,
   ⟨mk [], 0x0000000000000026#64, 0xfe8f3d40898285b0#64, by decide +kernel⟩,
   ⟨mk [], 0x0000000000000007#64, 0x0000000000000005#64, by decide +kernel⟩,
   ⟨mk [fun d => d.set KS.TSTAT_HELDM (4), fun d => (d.set KS.TSTAT_HELDM 4).modKs fun k => { k with signed := none }], 0x0000000000000026#64, 0xfe8f3d40898285b0#64, by decide +kernel⟩,
   ⟨mk [], 2, by decide +kernel⟩⟩

theorem test_meets_SpansAndDebug :
    (∃ (s : State) (sp : Fin 2) (c0 : BusOut) (c1 : BusOut), s.dev.lockstep sp = true ∧ c0 = c1) ∧
    (∃ (s : State) (sp : Fin 2) (c0 : BusOut) (c1 : BusOut), s.dev.lockstep sp = true ∧ c0 ≠ c1) ∧
    (∃ (s : State) (sp : Fin 2), s.dev.lockstep sp = false ∧ s.dev.resetNow sp = false ∧ s.dev.get (KS.SPSTAT_MODE sp) ≠ 3) ∧
    (∃ (s : State) (sp : Fin 2), s.dev.lockstep sp = false ∧ s.dev.resetNow sp = false ∧ s.dev.get (KS.SPSTAT_MODE sp) = 3 ∧ s.dev.spanRuns sp (s.dev.spanIdx sp 0) = true) ∧
    (∃ (s : State) (sp : Fin 2) (c0 : BusOut) (c1 : BusOut), s.dev.lockstep sp = false ∧ s.dev.resetNow sp = true ∧ c0 ≠ c1) ∧
    (∃ (s : State) (sp : Fin 2) (h : Fin 2) (cause : Nat), s.dev.split sp = false ∧ vget s.dev.vol.ks.pending (s.dev.spanIdx sp h) = some cause ∧ cause ≤ 4) ∧
    (∃ (s : State) (sp : Fin 2) (h : Fin 2), vget s.dev.vol.ks.pending (s.dev.spanIdx sp h) = none) ∧
    (∃ (s : State) (m : Master) (sp : Fin 2), s.dev.accessAllowed m (0x40040100 + 0x20 * sp.val) true = true ∧ s.dev.works 2 1 = true) ∧
    (∃ (s : State) (m : Master) (sp : Fin 2), s.dev.accessAllowed m (0x40040100 + 0x20 * sp.val) true = false) ∧
    (∃ (d : Dev) (sp : Fin 2) (h : Fin 2), d.split sp = false ∧ vget d.vol.ks.pending (d.spanIdx sp h) = none) ∧
    (∃ (d : Dev) (sp : Fin 2) (h : Fin 2) (x : Nat), vget d.vol.ks.pending (d.spanIdx sp h) = some x) ∧
    (∃ (s : State), s.dev.running = true ∧ s.dev.debugOpen 0 = true ∧ s.dev.inDebug 0 = false ∧ s.dev.get KS.TSTAT_MODE ≠ 3 ∧ s.dev.get (MOD.CTL_RUN 0) ≠ 1 ∧ s.dev.get (MOD.CTL_RUN 1) ≠ 1) ∧
    (∃ (s : State) (sp : Fin 2), s.dev.lockstep sp = true ∧ s.dev.debugOpen (spanTarget sp) = true ∧ s.dev.inDebug (spanTarget sp) = false) ∧
    (∃ (s : State) (t : Fin 3), s.dev.debugOpen t = false) ∧
    (∃ (s : State) (sp : Fin 2) (h : Fin 2), s.dev.running = true ∧ s.dev.debugOpen (spanTarget sp) = true ∧ s.dev.inDebug (spanTarget sp) = false ∧ s.dev.split sp = true ∧ s.dev.spanRuns sp (s.dev.spanIdx sp h) = true ∧ s.dev.get (MOD.CTL_RUN 0) ≠ 1 ∧ s.dev.get (MOD.CTL_RUN 1) ≠ 1 ∧ s.dev.lockstep sp = false) ∧
    (∃ (s : State) (sp : Fin 2), s.dev.running = true ∧ s.dev.inDebug (spanTarget sp) = true) ∧
    (∃ (s : State), s.dev.dbglsClearable = true ∧ s.dev.get DE.STAT_OPSTATE ≠ 6 ∧ s.dev.lands.failN = true) ∧
    (∃ (s : State), s.dev.dbglsClearable = true ∧ s.dev.get DE.STAT_OPSTATE ≠ 6 ∧ s.dev.lands.failN = false) ∧
    (∃ (s : State), s.dev.dbglsClearable = false) ∧
    (∃ (s : State), s.dev.dbglsClearable = true ∧ s.dev.get DE.STAT_OPSTATE = 6) :=
  ⟨⟨mk [], 1, BusOut.none, BusOut.none, by decide +kernel⟩,
   ⟨mk [], 1, BusOut.load 0x20000000#32 0x3#4, BusOut.load 0x40000100#32 0x3#4, by decide +kernel⟩,
   ⟨let sp : Fin 2 := 1; mk [fun d => d.set (KS.SPSTAT_MODE sp) (1)], 1, by decide +kernel⟩,
   ⟨let sp : Fin 2 := 1; mk [fun d => d.set (KS.SPSTAT_MODE sp) (3), fun d => d.set (KS.SPSTAT_MODE sp) 3], 1, by decide +kernel⟩,
   ⟨let sp : Fin 2 := 1; mk [fun d => (d.set (KS.SPSTAT_MODE sp) 1).modKs fun k => { k with pending := vset k.pending (d.spanIdx sp 0) (some (3)), began := vset k.began (d.spanIdx sp 0) d.now }], 1, BusOut.load 0x20000000#32 0x3#4, BusOut.load 0x40000100#32 0x3#4, by decide +kernel⟩,
   ⟨let sp : Fin 2 := 1; let h : Fin 2 := 1; let cause : Nat := 3; mk [fun d => d.modKs fun z => { z with pending := vset z.pending (d.spanIdx sp h) (some cause) }], 1, 1, 3, by decide +kernel⟩,
   ⟨let sp : Fin 2 := 1; let h : Fin 2 := 1; mk [fun d => d.modKs fun z => { z with pending := vset z.pending (d.spanIdx sp h) (none) }], 1, 1, by decide +kernel⟩,
   ⟨mk [], Master.truss, 1, by decide +kernel⟩,
   ⟨mk [], Master.dict, 1, by decide +kernel⟩,
   ⟨(let sp : Fin 2 := 1; let h : Fin 2 := 1; mk [fun d => d.modKs fun z => { z with pending := vset z.pending (d.spanIdx sp h) (none) }]).dev, 1, 1, by decide +kernel⟩,
   ⟨(let sp : Fin 2 := 1; let h : Fin 2 := 1; let x : Nat := 1; mk [fun d => d.modKs fun z => { z with pending := vset z.pending (d.spanIdx sp h) (some x) }]).dev, 1, 1, 1, by decide +kernel⟩,
   ⟨mk [fun d => d.set KS.TSTAT_MODE (0)], by decide +kernel⟩,
   ⟨mk [], 1, by decide +kernel⟩,
   ⟨mk [fun d => d.set LC.LCSTATE_STATE 6], 2, by decide +kernel⟩,
   ⟨let sp : Fin 2 := 1; mk [fun d => (d.set LC.BOOTSTAT_SPLIT0 1).set LC.BOOTSTAT_SPLIT1 1, fun d => d.set (KS.SPSTAT_MODE sp) 3, fun d => d.set (MOD.CTL_RUN 0) (2), fun d => d.set (MOD.CTL_RUN 1) (2)], 1, 1, by decide +kernel⟩,
   ⟨let sp : Fin 2 := 1; mk [fun d => d.set KS.DBG_TGT (2 * 2 ^ sp.val)], 1, by decide +kernel⟩,
   ⟨mk [fun d => d.set LC.LCSTATE_STATE (1 + 0), fun d => d.set DE.STAT_OPSTATE (5)], by decide +kernel⟩,
   ⟨mk [fun d => d.set LC.LCSTATE_STATE (1 + 0), fun d => d.set DE.STAT_OPSTATE (5), fun d => { d with lands := { d.lands with failN := false } }], by decide +kernel⟩,
   ⟨mk [], by decide +kernel⟩,
   ⟨mk [fun d => d.set LC.LCSTATE_STATE (1 + 0), fun d => d.set DE.STAT_OPSTATE (6)], by decide +kernel⟩⟩

theorem test_meets_Interrupts :
    (∃ (s : State) (i : Fin 512), s.dev.running = true ∧ srcIsEdge i = true ∧ i.val ∈ s.dev.edges) ∧
    (∃ (s : State) (i : Fin 512), s.dev.running = true ∧ srcIsEdge i = true ∧ i.val ∉ s.dev.edges) ∧
    (∃ (s : State) (i : Fin 512), s.dev.running = true ∧ srcIsEdge i = false ∧ s.dev.srcLevel i = true ∧ s.dev.get (INTC.SRCCFG_ACTIVE i) ≠ 1) ∧
    (∃ (s : State) (i : Fin 512), s.dev.running = true ∧ srcIsEdge i = false ∧ (s.dev.srcLevel i = false ∨ s.dev.get (INTC.SRCCFG_ACTIVE i) = 1)) ∧
    (∃ (s : State), s.dev.running = false) ∧
    (∃ (d : Dev), d.get KS.TSTAT_MODE ≠ 3 ∧ d.trussHarts.length ≠ 0) ∧
    (∃ (s : State) (m : Master) (t : Fin 6) (late : Option (Fin 512)) (i : Fin 512), s.dev.accessAllowed m (0x40023004 + 0x10 * t.val) false = true ∧ s.dev.targetLive t = true ∧ s.dev.delivers t late i = true ∧ (∀ j : Fin 512, s.dev.delivers t late j = true → s.dev.get (INTC.SRCCFG_PRIO j) < s.dev.get (INTC.SRCCFG_PRIO i) ∨ (s.dev.get (INTC.SRCCFG_PRIO j) = s.dev.get (INTC.SRCCFG_PRIO i) ∧ i ≤ j))) ∧
    (∃ (s : State) (m : Master) (t : Fin 6) (late : Option (Fin 512)), s.dev.accessAllowed m (0x40023004 + 0x10 * t.val) false = true ∧ ((∀ i : Fin 512, s.dev.delivers t late i = false) ∨ s.dev.targetLive t = false)) ∧
    (∃ (s : State) (m : Master) (t : Fin 6), s.dev.accessAllowed m (0x40023004 + 0x10 * t.val) false = false) ∧
    (∃ (s : State) (m : Master) (t : Fin 6) (src : BitVec 9), s.dev.accessAllowed m (0x40023004 + 0x10 * t.val) true = true ∧ targetMaster t = some m ∧ (src.toNat, t.val) ∈ s.dev.vol.flt.claims ∧ s.dev.get (INTC.SRCCFG_ACTIVE src.toNat) = 1) ∧
    (∃ (s : State) (m : Master) (t : Fin 6) (src : BitVec 9), s.dev.accessAllowed m (0x40023004 + 0x10 * t.val) true = true ∧ targetMaster t = some m ∧ (src.toNat, t.val) ∉ s.dev.vol.flt.claims) ∧
    (∃ (s : State) (m : Master) (t : Fin 6), s.dev.accessAllowed m (0x40023004 + 0x10 * t.val) true = true ∧ targetMaster t ≠ some m) ∧
    (∃ (s : State) (m : Master), s.dev.accessAllowed m 0x40020008 true = true ∧ (m = .truss ∨ isSpan m = true)) ∧
    (∃ (s : State) (m : Master), s.dev.accessAllowed m 0x40020008 true = true ∧ m ≠ .truss ∧ isSpan m = false) ∧
    (∃ (s : State), s.dev.running = true) ∧
    (∃ (s : State), s.dev.running = false) :=
  ⟨⟨let i : Fin 512 := 192; mk [fun d => { d with edges := [3, i.val] }], 192, by decide +kernel⟩,
   ⟨mk [], 192, by decide +kernel⟩,
   ⟨let i : Fin 512 := 5; mk [fun d => (((((d.set (FCOL.STATUS_L i) 1).set (FCOL.CLS_C i) 2).set (Q.QSTAT_WM (i.val - 64)) 1).set (Q.QSTAT_OVF (i.val - 72)) 1).set (AS.GRP_LOSTF (i.val - 80)) 1), fun d => d.set (INTC.SRCCFG_ACTIVE i) (0)], 5, by decide +kernel⟩,
   ⟨mk [], 511, by decide +kernel⟩,
   ⟨mk [fun d => d.modStart fun z => { z with phase := .held }], by decide +kernel⟩,
   ⟨(mk [fun d => d.set KS.TSTAT_MODE (2)]).dev, by decide +kernel⟩,
   ⟨let t : Fin 6 := 0; let i : Fin 512 := 0; mk [fun d => d.setAll [(INTC.SRCCFG_PEND i, 1), (INTC.EN_E t i, 1), (INTC.SRCCFG_PRIO i, 3), (INTC.THR_THR t, 1)]], Master.truss, 0, some 487, 0, by decide +kernel⟩,
   ⟨mk [], Master.truss, 5, some 250, by decide +kernel⟩,
   ⟨mk [], Master.span1h1, 5, by decide +kernel⟩,
   ⟨let t : Fin 6 := 0; let src : BitVec 9 := 0x1b4#9; mk [fun d => d.modFlt fun f => { f with claims := [(src.toNat, t.val)] }, fun d => d.set (INTC.SRCCFG_ACTIVE src.toNat) (1)], Master.truss, 0, 0x1b4#9, by decide +kernel⟩,
   ⟨mk [], Master.truss, 0, 0x1b4#9, by decide +kernel⟩,
   ⟨mk [], Master.truss, 5, by decide +kernel⟩,
   ⟨mk [], Master.truss, by decide +kernel⟩,
   ⟨mk [], Master.dict, by decide +kernel⟩,
   ⟨mk [], by decide +kernel⟩,
   ⟨mk [fun d => d.modStart fun z => { z with phase := .held }], by decide +kernel⟩⟩

theorem test_meets_FaultLines :
    (∃ (s : State), (s.dev.raised = [] ∨ s.dev.running = false)) ∧
    (∃ (s : State), s.dev.running = true ∧ s.dev.raised ≠ []) ∧
    (∃ (s : State) (l : Fin 64), s.dev.running = true ∧ (∀ k : Fin 64, s.dev.get (FCOL.STATUS_L k) ≠ 1) ∧ (∃ r ∈ s.dev.raised, r.1 = l.val) ∧ (∀ r ∈ s.dev.raised, l.val ≤ r.1)) ∧
    (∃ (s : State), s.dev.running = true ∧ (∃ k : Fin 64, s.dev.get (FCOL.STATUS_L k) = 1)) ∧
    (∃ (s : State) (l : Fin 64) (br : Nat), s.dev.running = true ∧ s.dev.raised = [(l.val, br)] ∧ s.dev.get (FCOL.STATUS_L l) ≠ 1 ∧ 1 ≤ s.dev.classOf l) ∧
    (∃ (s : State) (l : Fin 64) (br : Nat), s.dev.running = true ∧ s.dev.raised = [(l.val, br)] ∧ (s.dev.get (FCOL.STATUS_L l) = 1 ∨ s.dev.classOf l = 0)) ∧
    (∃ (s : State) (l : Fin 64) (br : Nat), s.dev.running = true ∧ (l.val, br) ∈ s.dev.raised ∧ s.dev.classOf l = 4) ∧
    (∃ (s : State) (l : Fin 64) (br : Nat) (b : Bridge), s.dev.running = true ∧ (l.val, br) ∈ s.dev.raised ∧ ¬ (22 ≤ l.val ∧ l.val ≤ 25) ∧ (br = 0 ∨ natBit br b = true) ∧ s.dev.classOf l = 3 ∧ (br % 4 = 0 ∨ br % 4 = 3) ∧ (∀ k : Fin 64, s.dev.classOf k ≠ 4) ∧ 1 ≤ s.dev.get DE.STAT_OPSTATE ∧ s.dev.get DE.STAT_OPSTATE ≤ 4) ∧
    (∃ (s : State) (l : Fin 64) (br : Nat) (b : Bridge), s.dev.running = true ∧ (l.val, br) ∈ s.dev.raised ∧ ¬ (22 ≤ l.val ∧ l.val ≤ 25) ∧ (br = 0 ∨ natBit br b = true) ∧ s.dev.classOf l = 2 ∧ s.dev.get (MOD.CTL_SRC b) = 1) ∧
    (∃ (s : State) (l : Fin 64) (br : Nat) (b : Bridge), s.dev.running = true ∧ (l.val, br) ∈ s.dev.raised ∧ ¬ (22 ≤ l.val ∧ l.val ≤ 25) ∧ (br = 0 ∨ natBit br b = true) ∧ s.dev.classOf l = 2 ∧ s.dev.get (MOD.CTL_SRC b) = 0 ∧ s.dev.active b = true ∧ (∀ k : Fin 64, s.dev.classOf k ≤ 2) ∧ (∀ k : Bridge, vget s.dev.vol.stopTimed k = false)) ∧
    (∃ (s : State) (b : Bridge), (s.dev.engS b).stop ≠ none) ∧
    (∃ (s : State) (b : Bridge), (s.dev.engS b).stop = none) ∧
    (∃ (s : State) (l : Fin 64), s.dev.lineAsserted l = true) ∧
    (∃ (s : State) (l : Fin 64), s.dev.lineAsserted l = false ∧ l ≠ 46 ∧ l ≠ 47) ∧
    (∃ (s : State) (l : Fin 64), s.dev.lineAsserted l = false ∧ (l = 46 ∨ l = 47) ∧ s.dev.get (FCOL.STATUS_L l) = 1) ∧
    (∃ (s : State) (l : Fin 64), s.dev.lineAsserted l = false ∧ l.val < 46) ∧
    (∃ (v : BitVec 8), 64 ≤ v.toNat ∧ v.toNat ≠ 255) ∧
    (∃ (s : State) (m : Master) (high : Bool), s.dev.accessAllowed m (if high then 0x40030014 else 0x40030010) true = false) ∧
    (∃ (s : State) (m : Master) (high : Bool) (v : Word) (j : Fin 32), s.dev.accessAllowed m (if high then 0x40030014 else 0x40030010) true = true ∧ natBit v.toNat j = true ∧ (j.val = 14 ∨ j.val = 15 → high = false) ∧ s.dev.lineAsserted (if high then 32 + j.val else j.val) = false) ∧
    (∃ (s : State) (m : Master) (j : Fin 8), s.dev.accessAllowed m (0x40030040 + 4 * j.val) true = false) ∧
    (∃ (s : State) (m : Master) (j : Fin 8), s.dev.accessAllowed m (0x40030040 + 4 * j.val) true = true ∧ s.dev.get FCOL.CTL_LOCK = 1) ∧
    (∃ (s : State) (m : Master) (j : Fin 8) (v : Word) (k : Fin 8), s.dev.accessAllowed m (0x40030040 + 4 * j.val) true = true ∧ s.dev.get FCOL.CTL_LOCK ≠ 1 ∧ lineClassMin (8 * j.val + k) ≠ 4 ∧ lineClassMin (8 * j.val + k) ≤ min 4 (natField v.toNat (4 * k.val) 3)) ∧
    (∃ (s : State) (m : Master) (j : Fin 8) (v : Word) (k : Fin 8), s.dev.accessAllowed m (0x40030040 + 4 * j.val) true = true ∧ s.dev.get FCOL.CTL_LOCK ≠ 1 ∧ min 4 (natField v.toNat (4 * k.val) 3) < lineClassMin (8 * j.val + k)) ∧
    (∃ (l : Fin 64) (c : Nat), c < 8 ∧ min 4 c < lineClassMin l) ∧
    (∃ (l : Fin 64) (c : Nat), c < 8 ∧ lineClassMin l ≤ min 4 c ∧ lineClassMin l ≠ 4) ∧
    (∃ (s : State), s.dev.running = true) ∧
    (∃ (s : State), s.dev.running = false) ∧
    (∃ (s : State) (m : Master) (i : Fin 32), s.dev.accessAllowed m (0x40030100 + 4 * i.val) false = true ∧ s.dev.get (FCOL.SEM_TAKEN i) ≠ 1) ∧
    (∃ (s : State) (m : Master) (i : Fin 32), s.dev.accessAllowed m (0x40030100 + 4 * i.val) false = true ∧ s.dev.get (FCOL.SEM_TAKEN i) = 1) ∧
    (∃ (s : State) (m : Master) (i : Fin 32), s.dev.accessAllowed m (0x40030100 + 4 * i.val) true = true ∧ s.dev.get (FCOL.SEM_TAKEN i) = 1 ∧ s.dev.get (FCOL.SEM_OWNER i) = reqbyCode m) ∧
    (∃ (s : State) (m : Master) (i : Fin 32), s.dev.accessAllowed m (0x40030100 + 4 * i.val) true = true ∧ (s.dev.get (FCOL.SEM_TAKEN i) ≠ 1 ∨ s.dev.get (FCOL.SEM_OWNER i) ≠ reqbyCode m)) ∧
    (∃ (s : State) (m : Master) (i : Fin 32), s.dev.accessAllowed m (0x40030100 + 4 * i.val) false = false) ∧
    (∃ (s : State) (m : Master) (i : Fin 32), s.dev.accessAllowed m (0x40030100 + 4 * i.val) true = false) ∧
    (∃ (s : State) (m : Master), s.dev.accessAllowed m 0x40030078 true = false) ∧
    (∃ (s : State) (m : Master) (v : BitVec 3), s.dev.accessAllowed m 0x40030078 true = true ∧ m = .truss ∧ natBit v.toNat 0 = true) ∧
    (∃ (s : State) (m : Master) (v : BitVec 3), s.dev.accessAllowed m 0x40030078 true = true ∧ (m = .span0 ∨ m = .span0h1) ∧ natBit v.toNat 1 = true) ∧
    (∃ (s : State) (m : Master) (v : BitVec 3), s.dev.accessAllowed m 0x40030078 true = true ∧ (m = .span1 ∨ m = .span1h1) ∧ natBit v.toNat 2 = true) ∧
    (∃ (s : State) (m : Master) (v : BitVec 3), s.dev.accessAllowed m 0x40030078 true = true ∧ m = .span0 ∧ natBit v.toNat 1 = false) :=
  ⟨⟨mk [], by decide +kernel⟩,
   ⟨let l : Fin 64 := 63; mk [fun d => { d with raised := [(l.val, 1)] }], by decide +kernel⟩,
   ⟨let l : Fin 64 := 63; mk [fun d => { d with raised := [(l.val, 1)] }], 63, by decide +kernel⟩,
   ⟨mk [fun d => d.set (FCOL.STATUS_L 40) 1], by decide +kernel⟩,
   ⟨let l : Fin 64 := 30; let br : Nat := 2; mk [fun d => d.set (FCOL.STATUS_L l) (2), fun d => ({ d with raised := [(l.val, br)] } : Dev).set (FCOL.CLS_C l) (5)], 30, 2, by decide +kernel⟩,
   ⟨let l : Fin 64 := 63; let br : Nat := 3; mk [fun d => d.set (FCOL.STATUS_L l) (1), fun d => ({ d with raised := [(l.val, br)] } : Dev).set (FCOL.CLS_C l) (2)], 63, 3, by decide +kernel⟩,
   ⟨let l : Fin 64 := 63; let br : Nat := 3; mk [fun d => ({ d with raised := if 0 = 0 then [(l.val, br)] else [(27, 3), (l.val, br)] } : Dev).set (FCOL.CLS_C l) 4], 63, 3, by decide +kernel⟩,
   ⟨let l : Fin 64 := 0; let br : Nat := 7; mk [fun d => d.set DE.STAT_OPSTATE ((1) + 0 + 0), fun d => ({ d with raised := if 2 = 0 then [(l.val, br)] else [(63, 0), (l.val, br)] } : Dev).set (FCOL.CLS_C l) 3, fun d => (d.each (List.range 64) fun d k => d.set (FCOL.CLS_C k) (if k = l.val then 3 else 1)).set DE.STAT_OPSTATE (1 + 3)], 0, 7, 0, by decide +kernel⟩,
   ⟨let l : Fin 64 := 63; let br : Nat := 3; let b : Bridge := 1; mk [fun d => d.set (MOD.CTL_SRC b) (1), fun d => ({ d with raised := if 0 = 0 then [(l.val, br)] else [(27, 3), (l.val, br)] } : Dev).set (FCOL.CLS_C l) 2], 63, 3, 1, by decide +kernel⟩,
   ⟨let l : Fin 64 := 63; let br : Nat := 3; let b : Bridge := 1; mk [fun d => d.set (MOD.CTL_SRC b) (0), fun d => (d.set (CE.BSTAT_ST b) 3), fun d => ({ d with raised := if 0 = 0 then [(l.val, br)] else [(27, 3), (l.val, br)] } : Dev).set (FCOL.CLS_C l) 2, fun d => ({ (d.each (List.range 64) fun d k => d.set (FCOL.CLS_C k) (if k = l.val then 2 else 1)) with raised := [(l.val, br)], vol := { d.vol with stopTimed := .ofFn fun _ => false } } : Dev), fun d => (d.set (CE.BSTAT_ST b) 3).set (MOD.CTL_SRC b) 0], 63, 3, 1, by decide +kernel⟩,
   ⟨let b : Bridge := 1; mk [fun d => d.modEng b fun e => { e with stop := some ⟨0, 0, true, 0⟩ }], 1, by decide +kernel⟩,
   ⟨let b : Bridge := 1; mk [fun d => d.modEng b fun z => { z with stop := none }], 1, by decide +kernel⟩,
   ⟨let l : Fin 64 := 63; mk [fun d => { d with raised := [(l.val, 1)] }], 63, by decide +kernel⟩,
   ⟨mk [], 63, by decide +kernel⟩,
   ⟨let l : Fin 64 := 47; mk [fun d => d.set (FCOL.STATUS_L l) (1)], 47, by decide +kernel⟩,
   ⟨mk [], 0, by decide +kernel⟩,
   ⟨0xa5#8, by decide +kernel⟩,
   ⟨mk [], Master.span1h1, false, by decide +kernel⟩,
   ⟨mk [], Master.truss, false, 0xf6285e8a#32, 31, by decide +kernel⟩,
   ⟨mk [], Master.dict, 1, by decide +kernel⟩,
   ⟨mk [fun d => d.set FCOL.CTL_LOCK (1)], Master.truss, 7, by decide +kernel⟩,
   ⟨mk [], Master.truss, 0, 0x80000007#32, 0, by decide +kernel⟩,
   ⟨mk [], Master.truss, 6, 0x00000001#32, 5, by decide +kernel⟩,
   ⟨0, 0, by decide +kernel⟩,
   ⟨41, 1, by decide +kernel⟩,
   ⟨mk [], by decide +kernel⟩,
   ⟨mk [fun d => d.modStart fun z => { z with phase := .held }], by decide +kernel⟩,
   ⟨mk [], Master.truss, 0, by decide +kernel⟩,
   ⟨let i : Fin 32 := 31; mk [fun d => d.set (FCOL.SEM_TAKEN i) (1)], Master.truss, 31, by decide +kernel⟩,
   ⟨let m : Master := Master.truss; let i : Fin 32 := 31; mk [fun d => d.set (FCOL.SEM_TAKEN i) (1), fun d => d.set (FCOL.SEM_OWNER i) (reqbyCode m)], Master.truss, 31, by decide +kernel⟩,
   ⟨let i : Fin 32 := 31; mk [fun d => d.set (FCOL.SEM_TAKEN i) (5)], Master.truss, 31, by decide +kernel⟩,
   ⟨mk [], Master.span1h1, 29, by decide +kernel⟩,
   ⟨mk [], Master.span1h1, 29, by decide +kernel⟩,
   ⟨mk [], Master.span1h1, by decide +kernel⟩,
   ⟨mk [], Master.truss, 0x7#3, by decide +kernel⟩,
   ⟨mk [], Master.span0, 0x3#3, by decide +kernel⟩,
   ⟨mk [], Master.span1, 0x7#3, by decide +kernel⟩,
   ⟨mk [], Master.span0, 0x5#3, by decide +kernel⟩⟩

theorem test_meets_SafetyInputsAndSto :
    (∃ (s : State) (i : Fin 10) (low : Bool), s.dev.sioWorks = true ∧ natBit (s.dev.get SIO.INSTAT_DEM) i = !low) ∧
    (∃ (s : State) (i : Fin 10) (low : Bool), natBit (s.dev.get SIO.INSTAT_DEM) i = low) ∧
    (∃ (d : Dev) (x : Bridge), d.get (SIO.STO_SRC x) < 32 ∧ d.get (SIO.STO_ACT x) = 0 ∧ d.get (SIO.STO_ENTRIES x) + 1 < 2 ^ (SIO.STO_ENTRIES x).width) ∧
    (∃ (d : Dev) (x : Bridge), d.get (SIO.STO_SRC x) < 32 ∧ d.get (SIO.STO_ACT x) = 0 ∧ d.get (CE.BSTAT_ST x) = 3) ∧
    (∃ (d : Dev) (x : Bridge) (n : Fin 5), d.get (SIO.STO_SRC x) < 32 ∧ d.get (SIO.STO_SRC x) = 2 ^ n.val ∧ d.get (SIO.STO_ACT x) = 1) ∧
    (∃ (s : State) (k : Fin 4), s.dev.sioWorks = true ∧ s.dev.get (SIO.INCFG_PAIR (2 + 2 * k.val)) = 1 ∧ s.dev.get (SIO.INCFG_USE (2 + 2 * k.val)) = 1 ∧ (natBit (s.dev.get SIO.INSTAT_DEM) (2 + 2 * k.val) ≠ natBit (s.dev.get SIO.INSTAT_DEM) ((2 + 2 * k.val) + 1))) ∧
    (∃ (s : State) (k : Fin 4), (s.dev.get (SIO.INCFG_PAIR (2 + 2 * k.val)) ≠ 1 ∨ s.dev.get (SIO.INCFG_USE (2 + 2 * k.val)) ≠ 1 ∨ ¬ (natBit (s.dev.get SIO.INSTAT_DEM) (2 + 2 * k.val) ≠ natBit (s.dev.get SIO.INSTAT_DEM) ((2 + 2 * k.val) + 1)))) ∧
    (∃ (s : State) (j : Fin 4) (l : List Bool), s.dev.sioWorks = true ∧ j ≠ 0 ∧ natBit (s.dev.get SIO.CTL_TPEN) j = true ∧ readBackBad l = true) ∧
    (∃ (s : State) (j : Fin 4) (l : List Bool) (pre : BitVec 10) (mid : BitVec 10) (post : BitVec 10), s.dev.sioWorks = true ∧ j ≠ 0 ∧ natBit (s.dev.get SIO.CTL_TPEN) j = true ∧ readBackBad l = false ∧ (∀ i : Fin 10, natBit pre.toNat i = true → natBit post.toNat i = true → s.dev.get (SIO.INCFG_USE (s.dev.inGov i)) = 1 → s.dev.get (SIO.INCFG_TPSEL i) ≤ 3 → (natBit mid.toNat i = true ↔ s.dev.get (SIO.INCFG_TPSEL i) ≠ j.val))) ∧
    (∃ (s : State) (j : Fin 4), s.dev.sioWorks = true ∧ j ≠ 0 ∧ natBit (s.dev.get SIO.CTL_TPEN) j = false) ∧
    (∃ (s : State) (b : Bridge) (n : Chan), s.dev.sioWorks = true ∧ s.dev.get (SIO.STO_ACT b) = 1 ∧ chanBridge n = b ∧ s.dev.armed n = true ∧ (s.dev.gate n).rep ≠ some false) ∧
    (∃ (s : State) (b : Bridge), s.dev.get (SIO.STO_ACT b) ≠ 1) ∧
    (∃ (s : State) (v : BitVec 8), s.dev.get DE.STAT_OPSTATE ≠ 6 ∧ v.toNat ≤ 3) ∧
    (∃ (s : State) (v : BitVec 8), s.dev.get DE.STAT_OPSTATE ≠ 6 ∧ 3 < v.toNat) ∧
    (∃ (s : State), s.dev.get DE.STAT_OPSTATE = 6) ∧
    (∃ (d : Dev) (x : Bridge), d.ss1Requested x = true ∧ d.get (SIO.SS1_ST x) = 0 ∧ d.active x = true) ∧
    (∃ (s : State) (b : Bridge), s.dev.get (SIO.SS1_ST b) = 1) ∧
    (∃ (s : State) (b : Bridge), s.dev.get (SIO.SS1_ST b) ≠ 1) ∧
    (∃ (s : State) (j : Fin 4) (pre : BitVec 10) (mid : BitVec 10) (post : BitVec 10) (i : Fin 10), s.dev.sioWorks = true ∧ natBit (s.dev.get SIO.CTL_TPEN) j = true ∧ (s.dev.get (SIO.INCFG_USE (s.dev.inGov i)) = 1 ∧ s.dev.get (SIO.INCFG_TPSEL i) ≤ 3 ∧ natBit pre.toNat i = true ∧ natBit post.toNat i = true ∧ (natBit mid.toNat i = true ↔ s.dev.get (SIO.INCFG_TPSEL i) = j.val)) ∧ ¬ (j ≠ 0 ∧ vget s.dev.vol.safe.errThis i = true) ∧ (if j = 0 ∧ vget s.dev.vol.safe.errThis i = false then 0 else vget s.dev.vol.safe.errN i) < s.dev.get SIO.TPCFG_TPNERR) ∧
    (∃ (s : State) (j : Fin 4) (pre : BitVec 10) (mid : BitVec 10) (post : BitVec 10) (i : Fin 10), s.dev.sioWorks = true ∧ natBit (s.dev.get SIO.CTL_TPEN) j = true ∧ (s.dev.get (SIO.INCFG_USE (s.dev.inGov i)) = 1 ∧ s.dev.get (SIO.INCFG_TPSEL i) ≤ 3 ∧ natBit pre.toNat i = true ∧ natBit post.toNat i = true ∧ (natBit mid.toNat i = true ↔ s.dev.get (SIO.INCFG_TPSEL i) = j.val)) ∧ ¬ (j ≠ 0 ∧ vget s.dev.vol.safe.errThis i = true) ∧ s.dev.get SIO.TPCFG_TPNERR ≤ (if j = 0 ∧ vget s.dev.vol.safe.errThis i = false then 0 else vget s.dev.vol.safe.errN i)) ∧
    (∃ (s : State) (j : Fin 4) (pre : BitVec 10) (mid : BitVec 10) (post : BitVec 10) (i : Fin 10), s.dev.sioWorks = true ∧ natBit (s.dev.get SIO.CTL_TPEN) j = true ∧ (¬ (s.dev.get (SIO.INCFG_USE (s.dev.inGov i)) = 1 ∧ s.dev.get (SIO.INCFG_TPSEL i) ≤ 3 ∧ natBit pre.toNat i = true ∧ natBit post.toNat i = true ∧ (natBit mid.toNat i = true ↔ s.dev.get (SIO.INCFG_TPSEL i) = j.val)) ∨ (j ≠ 0 ∧ vget s.dev.vol.safe.errThis i = true))) ∧
    (∃ (s : State), s.dev.sioWorks = true ∧ natBit (s.dev.get SIO.CTL_TPEN) 0 = false) ∧
    (∃ (s : State), s.dev.sioWorks = false) :=
  ⟨⟨mk [], 9, false, by decide +kernel⟩,
   ⟨mk [], 9, true, by decide +kernel⟩,
   ⟨(let x : Bridge := 1; mk [fun d => d.set (SIO.STO_ACT x) (0)]).dev, 1, by decide +kernel⟩,
   ⟨(let x : Bridge := 1; mk [fun d => d.set (SIO.STO_ACT x) (0), fun d => d.set (CE.BSTAT_ST x) (3)]).dev, 1, by decide +kernel⟩,
   ⟨(let x : Bridge := 1; let n : Fin 5 := 4; mk [fun d => d.set (SIO.STO_SRC x) (2 ^ n.val), fun d => d.set (SIO.STO_ACT x) (1)]).dev, 1, 4, by decide +kernel⟩,
   ⟨let k : Fin 4 := 3; mk [fun d => d.setAll [((SIO.INCFG_PAIR (2 + 2 * k.val)), 1), ((SIO.INCFG_USE (2 + 2 * k.val)), 1), (SIO.INSTAT_DEM, 2 ^ (2 + 2 * k.val + 0))]], 3, by decide +kernel⟩,
   ⟨mk [], 3, by decide +kernel⟩,
   ⟨mk [], 1, [true, true, true], by decide +kernel⟩,
   ⟨mk [], 3, [false], 0x2a0#10, 0x004#10, 0x318#10, by decide +kernel⟩,
   ⟨mk [fun d => d.set SIO.CTL_TPEN 0], 3, by decide +kernel⟩,
   ⟨let b : Bridge := 1; let n : Chan := 11; mk [fun d => d.set (SIO.STO_ACT b) (1), fun d => d.set (GL.CHSTAT_ST n) 2], 1, 11, by decide +kernel⟩,
   ⟨let b : Bridge := 1; mk [fun d => d.set (SIO.STO_ACT b) (2)], 1, by decide +kernel⟩,
   ⟨mk [], 0x03#8, by decide +kernel⟩,
   ⟨mk [fun d => d.set DE.STAT_OPSTATE (2)], 0x26#8, by decide +kernel⟩,
   ⟨mk [fun d => d.set DE.STAT_OPSTATE (6)], by decide +kernel⟩,
   ⟨(let x : Bridge := 1; mk [fun d => d.set SIO.SWREQ_OBJSS1 (2 ^ x.val), fun d => d.set (SIO.SS1_ST x) (0), fun d => d.set (CE.BSTAT_ST x) 3]).dev, 1, by decide +kernel⟩,
   ⟨let b : Bridge := 1; mk [fun d => d.set (SIO.SS1_ST b) (1)], 1, by decide +kernel⟩,
   ⟨let b : Bridge := 1; mk [fun d => d.set (SIO.SS1_ST b) (2)], 1, by decide +kernel⟩,
   ⟨mk [], 0, 0x007#10, 0x007#10, 0x3d5#10, 0, by decide +kernel⟩,
   ⟨let j : Fin 4 := 3; let i : Fin 10 := 9; mk [fun d => (((d.set SIO.CTL_TPEN (2 ^ j.val)).set (SIO.INCFG_USE (d.inGov i)) 1).set (SIO.INCFG_TPSEL i) j.val).modSafe fun x => { x with errN := .replicate 10 3 }, fun d => d.set SIO.TPCFG_TPNERR 0], 3, 0x3ff#10, 0x3ff#10, 0x3ff#10, 9, by decide +kernel⟩,
   ⟨mk [], 3, 0x2a0#10, 0x004#10, 0x318#10, 9, by decide +kernel⟩,
   ⟨mk [fun d => d.set SIO.CTL_TPEN 0], by decide +kernel⟩,
   ⟨mk [fun d => d.modStart fun z => { z with phase := .held }], by decide +kernel⟩⟩

theorem test_meets_ContactorsTorqueCauseway :
    (∃ (s : State) (k : Fin 4), s.dev.get DE.STAT_OPSTATE ≠ 6 ∧ s.dev.openCause k = false) ∧
    (∃ (s : State) (k : Fin 4), (s.dev.get DE.STAT_OPSTATE = 6 ∨ s.dev.openCause k = true)) ∧
    (∃ (s : State) (k : Fin 4) (level : Bool), s.dev.sioWorks = true ∧ s.dev.get (SIO.CTRCFG_FBEN k) = 1 ∧ level ≠ xor (s.dev.bit (SIO.CTRCFG_DRV k)) (s.dev.bit (SIO.CTRCFG_FBINV k))) ∧
    (∃ (s : State) (k : Fin 4) (level : Bool), (s.dev.get (SIO.CTRCFG_FBEN k) ≠ 1 ∨ level = xor (s.dev.bit (SIO.CTRCFG_DRV k)) (s.dev.bit (SIO.CTRCFG_FBINV k)))) ∧
    (∃ (s : State), s.dev.trussWorks = false) ∧
    (∃ (s : State) (b : Bridge), s.dev.role b = 0) ∧
    (∃ (s : State) (b : Bridge), s.dev.trussWorks = true ∧ s.dev.get (SIO.TMSTAT_TQERR b) ≠ 1 ∧ (max 1 (min 64 (s.dev.setVal (0x5003 + b) 9))) ≤ (vget s.dev.vol.safe.tq b).bad) ∧
    (∃ (s : State) (b : Bridge), (s.dev.get (SIO.TMSTAT_TQERR b) = 1 ∨ (vget s.dev.vol.safe.tq b).bad < (max 1 (min 64 (s.dev.setVal (0x5003 + b) 9))))) ∧
    (∃ (s : State) (p : Fin 4) (f : CanFrame) (age : Word), s.dev.trussWorks = true ∧ s.dev.portUp p = true ∧ s.dev.get (CAN.CTL_LBK p) ≠ 2 ∧ ((p, false) ∈ s.dev.cwPorts ∨ (p, true) ∈ s.dev.cwPorts) ∧ s.dev.cwParse p f (s.dev.sofStamp age.toNat) = none) ∧
    (∃ (s : State) (p : Fin 4) (f : CanFrame) (age : Word) (c : CwCopy), s.dev.trussWorks = true ∧ s.dev.portUp p = true ∧ s.dev.get (CAN.CTL_LBK p) ≠ 2 ∧ ((p, false) ∈ s.dev.cwPorts ∨ (p, true) ∈ s.dev.cwPorts) ∧ s.dev.cwParse p f (s.dev.sofStamp age.toNat) = some c ∧ s.dev.vol.safe.held = none ∧ 1 ≤ (c.seq + 65536 - s.dev.get SIO.CWSTAT_LASTSEQ) % 65536 ∧ (c.seq + 65536 - s.dev.get SIO.CWSTAT_LASTSEQ) % 65536 ≤ 32767) ∧
    (∃ (s : State), s.dev.cwPorts = []) ∧
    (∃ (s : State) (h : CwCopy), s.dev.trussWorks = true ∧ s.dev.vol.safe.held = some h ∧ h.seq < 65536) ∧
    (∃ (s : State), s.dev.vol.safe.held = none) ∧
    (∃ (s : State), s.dev.get SIO.CWTMO_TMO ≠ 0 ∧ s.dev.get SIO.CWCFG_PORTA ≠ s.dev.get SIO.CWCFG_PORTB ∧ s.dev.trussWorks = true) ∧
    (∃ (s : State), (s.dev.get SIO.CWTMO_TMO = 0 ∨ s.dev.get SIO.CWCFG_PORTA = s.dev.get SIO.CWCFG_PORTB)) ∧
    (∃ (s : State), s.dev.trussWorks = true ∧ s.dev.netWorks = true) ∧
    (∃ (s : State) (p : Fin 4) (f : CanFrame) (age : Word) (c : CwCopy) (h : CwCopy), s.dev.trussWorks = true ∧ s.dev.portUp p = true ∧ s.dev.get (CAN.CTL_LBK p) ≠ 2 ∧ s.dev.cwParse p f (s.dev.sofStamp age.toNat) = some c ∧ 1 ≤ ((c.seq + 65536 - s.dev.get SIO.CWSTAT_LASTSEQ) % 65536) ∧ ((c.seq + 65536 - s.dev.get SIO.CWSTAT_LASTSEQ) % 65536) ≤ 32767 ∧ s.dev.vol.safe.held = some h ∧ h.copy ≠ c.copy ∧ h.seq = c.seq ∧ h.data = c.data ∧ ((fun y : CwCopy => (toSigned 32 (c.stamp + 2 ^ 32 - y.stamp)).natAbs ≤ 80000 * max 1 (min 40 (s.dev.get SIO.CWCFG_SKEW))) h)) ∧
    (∃ (s : State) (p : Fin 4) (f : CanFrame) (age : Word) (c : CwCopy) (h : CwCopy), s.dev.trussWorks = true ∧ s.dev.portUp p = true ∧ s.dev.get (CAN.CTL_LBK p) ≠ 2 ∧ s.dev.cwParse p f (s.dev.sofStamp age.toNat) = some c ∧ 1 ≤ ((c.seq + 65536 - s.dev.get SIO.CWSTAT_LASTSEQ) % 65536) ∧ ((c.seq + 65536 - s.dev.get SIO.CWSTAT_LASTSEQ) % 65536) ≤ 32767 ∧ s.dev.vol.safe.held = some h ∧ h.copy ≠ c.copy ∧ h.seq = c.seq ∧ (h.data ≠ c.data ∨ ¬ (fun y : CwCopy => (toSigned 32 (c.stamp + 2 ^ 32 - y.stamp)).natAbs ≤ 80000 * max 1 (min 40 (s.dev.get SIO.CWCFG_SKEW))) h)) ∧
    (∃ (s : State) (p : Fin 4) (f : CanFrame) (age : Word) (c : CwCopy) (h : CwCopy), s.dev.trussWorks = true ∧ s.dev.portUp p = true ∧ s.dev.get (CAN.CTL_LBK p) ≠ 2 ∧ s.dev.cwParse p f (s.dev.sofStamp age.toNat) = some c ∧ 1 ≤ ((c.seq + 65536 - s.dev.get SIO.CWSTAT_LASTSEQ) % 65536) ∧ ((c.seq + 65536 - s.dev.get SIO.CWSTAT_LASTSEQ) % 65536) ≤ 32767 ∧ s.dev.vol.safe.held = some h ∧ (h.copy = c.copy ∨ h.seq ≠ c.seq) ∧ h.seq < 65536) ∧
    (∃ (s : State) (p : Fin 4) (f : CanFrame) (age : Word) (c : CwCopy), s.dev.trussWorks = true ∧ s.dev.portUp p = true ∧ s.dev.get (CAN.CTL_LBK p) ≠ 2 ∧ s.dev.cwParse p f (s.dev.sofStamp age.toNat) = some c ∧ ((c.seq + 65536 - s.dev.get SIO.CWSTAT_LASTSEQ) % 65536) = 0 ∧ c.data ≠ s.dev.vol.safe.accData) ∧
    (∃ (s : State) (p : Fin 4) (f : CanFrame) (age : Word) (c : CwCopy), s.dev.trussWorks = true ∧ s.dev.portUp p = true ∧ s.dev.get (CAN.CTL_LBK p) ≠ 2 ∧ s.dev.cwParse p f (s.dev.sofStamp age.toNat) = some c ∧ ((c.seq + 65536 - s.dev.get SIO.CWSTAT_LASTSEQ) % 65536) = 0 ∧ c.data = s.dev.vol.safe.accData) ∧
    (∃ (s : State) (p : Fin 4) (f : CanFrame) (age : Word) (c : CwCopy), s.dev.trussWorks = true ∧ s.dev.portUp p = true ∧ s.dev.get (CAN.CTL_LBK p) ≠ 2 ∧ s.dev.cwParse p f (s.dev.sofStamp age.toNat) = some c ∧ 32767 < ((c.seq + 65536 - s.dev.get SIO.CWSTAT_LASTSEQ) % 65536)) ∧
    (∃ (s : State) (p : Fin 4), (s.dev.trussWorks = false ∨ s.dev.portUp p = false ∨ s.dev.get (CAN.CTL_LBK p) = 2)) :=
  ⟨⟨mk [fun d => d.set DE.STAT_OPSTATE (2)], 3, by decide +kernel⟩,
   ⟨mk [fun d => d.set DE.STAT_OPSTATE (6)], 3, by decide +kernel⟩,
   ⟨let k : Fin 4 := 3; mk [fun d => d.set (SIO.CTRCFG_FBEN k) (1)], 3, false, by decide +kernel⟩,
   ⟨let k : Fin 4 := 3; mk [fun d => d.set (SIO.CTRCFG_FBEN k) (2)], 3, false, by decide +kernel⟩,
   ⟨mk [fun d => d.set KS.TSTAT_MODE 3], by decide +kernel⟩,
   ⟨let b : Bridge := 1; mk [fun d => (d.set (CE.BCFG_ROLE b) 0)], 1, by decide +kernel⟩,
   ⟨let b : Bridge := 0; mk [fun d => d.modTq b fun q => { q with bad := 64 }], 0, by decide +kernel⟩,
   ⟨let b : Bridge := 1; mk [fun d => d.set (SIO.TMSTAT_TQERR b) (1)], 1, by decide +kernel⟩,
   ⟨let p : Fin 4 := 3; mk [fun d => d.set (CAN.CTL_EN p) 1, fun d => d.set (CAN.CTL_LBK p) (1), fun d => ((d.set SIO.CWCFG_PORTA p).set SIO.CWCFG_PORTB (p.val + 1)).setAll [(CAN.CTL_FDEN p, 1), (CAN.CTL_FDEN ((p.val+1)%4), 1)]], 3, { fmt := 3, rtr := false, brs := true, esi := false, sec := false, vcid := 0x00#8, sdt := 0x00#8, pid := 0x000#11, id := 0x00001dc0#32, data := [0x81#8, 0x06#8, 0x40#8, 0x00#8, 0x01#8, 0x02#8, 0x03#8, 0x04#8, 0x05#8, 0x06#8, 0x22#8, 0x7b#8, 0x92#8, 0x6e#8, 0x00#8, 0x00#8] }, 0xf6285e8a#32, by decide +kernel⟩,
   ⟨let p : Fin 4 := 0; mk [fun d => d.set (CAN.CTL_EN p) 1, fun d => d.set (CAN.CTL_LBK p) (1), fun d => ((d.set SIO.CWCFG_PORTA p).set SIO.CWCFG_PORTB (p.val + 1)).setAll [(CAN.CTL_FDEN p, 1), (CAN.CTL_FDEN ((p.val+1)%4), 1)], fun d => d.modSafe fun z => { z with held := none }, fun d => d.set SIO.CWTMO_SRCNODE 7], 0, { fmt := 3, rtr := false, brs := true, esi := false, sec := false, vcid := 0x00#8, sdt := 0x00#8, pid := 0x000#11, id := 0x00001dc0#32, data := [0x01#8, 0x06#8, 0x02#8, 0x00#8, 0x01#8, 0x02#8, 0x03#8, 0x04#8, 0x05#8, 0x06#8, 0x7a#8, 0x21#8, 0xf5#8, 0x9c#8, 0x00#8, 0x00#8] }, 0x80000007#32, { copy := false, seq := 2, data := 6618611909121, stamp := 2147483641 }, by decide +kernel⟩,
   ⟨mk [fun d => (d.set SIO.CWCFG_PORTA 2).set SIO.CWCFG_PORTB 2], by decide +kernel⟩,
   ⟨let h : CwCopy := { copy := false, seq := 3545, data := 3, stamp := 763 }; mk [fun d => d.modSafe fun z => { z with held := some h }], { copy := false, seq := 3545, data := 3, stamp := 763 }, by decide +kernel⟩,
   ⟨mk [fun d => d.modSafe fun z => { z with held := none }], by decide +kernel⟩,
   ⟨mk [fun d => d.set SIO.CWTMO_TMO (2), fun d => d.set SIO.CWCFG_PORTA (5)], by decide +kernel⟩,
   ⟨mk [fun d => d.set SIO.CWTMO_TMO (0)], by decide +kernel⟩,
   ⟨mk [], by decide +kernel⟩,
   ⟨let p : Fin 4 := 0; let f : CanFrame := { fmt := 3, rtr := false, brs := true, esi := false, sec := false, vcid := 0x00#8, sdt := 0x00#8, pid := 0x000#11, id := 0x00001dc0#32, data := [0x01#8, 0x06#8, 0x02#8, 0x00#8, 0x01#8, 0x02#8, 0x03#8, 0x04#8, 0x05#8, 0x06#8, 0x7a#8, 0x21#8, 0xf5#8, 0x9c#8, 0x00#8, 0x00#8] }; let age : Word := 0x80000007#32; let c : CwCopy := { copy := false, seq := 2, data := 6618611909121, stamp := 2147483641 }; let h : CwCopy := { copy := true, seq := 2, data := 6618611909121, stamp := 2147429365 }; mk [fun d => d.set (CAN.CTL_EN p) 1, fun d => d.set (CAN.CTL_LBK p) (1), fun d => d.modSafe fun z => { z with held := some h }, fun d => ((d.set SIO.CWCFG_PORTA p).set SIO.CWCFG_PORTB (p.val + 1)).setAll [(CAN.CTL_FDEN p, 1), (CAN.CTL_FDEN ((p.val+1)%4), 1), (CAN.CTL_LBK p, 0), (CAN.CTL_EN p, 1), (SIO.CWTMO_SRCNODE, 7), (SIO.CWSTAT_LASTSEQ, 1 - 1)], fun d => match d.cwParse p f (d.sofStamp age.toNat) with | some c => d.modSafe fun x => { x with accData := 5, held := some { c with copy := !c.copy, stamp := (c.stamp + 2^32 - 54276) % 2^32 } } | none => d], 0, { fmt := 3, rtr := false, brs := true, esi := false, sec := false, vcid := 0x00#8, sdt := 0x00#8, pid := 0x000#11, id := 0x00001dc0#32, data := [0x01#8, 0x06#8, 0x02#8, 0x00#8, 0x01#8, 0x02#8, 0x03#8, 0x04#8, 0x05#8, 0x06#8, 0x7a#8, 0x21#8, 0xf5#8, 0x9c#8, 0x00#8, 0x00#8] }, 0x80000007#32, { copy := false, seq := 2, data := 6618611909121, stamp := 2147483641 }, { copy := true, seq := 2, data := 6618611909121, stamp := 2147429365 }, by decide +kernel⟩,
   ⟨let p : Fin 4 := 0; let f : CanFrame := { fmt := 3, rtr := false, brs := true, esi := false, sec := false, vcid := 0x00#8, sdt := 0x00#8, pid := 0x000#11, id := 0x00001dc0#32, data := [0x01#8, 0x06#8, 0x02#8, 0x00#8, 0x01#8, 0x02#8, 0x03#8, 0x04#8, 0x05#8, 0x06#8, 0x7a#8, 0x21#8, 0xf5#8, 0x9c#8, 0x00#8, 0x00#8] }; let age : Word := 0x80000007#32; let c : CwCopy := { copy := false, seq := 2, data := 6618611909121, stamp := 2147483641 }; let h : CwCopy := { copy := true, seq := 2, data := 6618611909122, stamp := 2147483641 }; mk [fun d => d.set (CAN.CTL_EN p) 1, fun d => d.set (CAN.CTL_LBK p) (1), fun d => d.modSafe fun z => { z with held := some h }, fun d => ((d.set SIO.CWCFG_PORTA p).set SIO.CWCFG_PORTB (p.val + 1)).setAll [(CAN.CTL_FDEN p, 1), (CAN.CTL_FDEN ((p.val+1)%4), 1), (CAN.CTL_LBK p, 0), (CAN.CTL_EN p, 1), (SIO.CWTMO_SRCNODE, 7), (SIO.CWSTAT_LASTSEQ, 1)], fun d => match d.cwParse p f (d.sofStamp age.toNat) with | some c => d.modSafe fun x => { x with accData := 5, held := some { c with copy := !c.copy, stamp := (c.stamp + 0 * 90000000) % 2^32, data := c.data + (1 - 0) } } | none => d], 0, { fmt := 3, rtr := false, brs := true, esi := false, sec := false, vcid := 0x00#8, sdt := 0x00#8, pid := 0x000#11, id := 0x00001dc0#32, data := [0x01#8, 0x06#8, 0x02#8, 0x00#8, 0x01#8, 0x02#8, 0x03#8, 0x04#8, 0x05#8, 0x06#8, 0x7a#8, 0x21#8, 0xf5#8, 0x9c#8, 0x00#8, 0x00#8] }, 0x80000007#32, { copy := false, seq := 2, data := 6618611909121, stamp := 2147483641 }, { copy := true, seq := 2, data := 6618611909122, stamp := 2147483641 }, by decide +kernel⟩,
   ⟨let p : Fin 4 := 2; let f : CanFrame := { fmt := 3, rtr := false, brs := true, esi := false, sec := false, vcid := 0x00#8, sdt := 0x00#8, pid := 0x000#11, id := 0x00001dc0#32, data := [0x01#8, 0x06#8, 0x01#8, 0x00#8, 0x01#8, 0x02#8, 0x03#8, 0x04#8, 0x05#8, 0x06#8, 0x13#8, 0xa6#8, 0xb1#8, 0x47#8, 0x00#8, 0x00#8] }; let age : Word := 0x00000003#32; let c : CwCopy := { copy := false, seq := 1, data := 6618611909121, stamp := 4294967293 }; let h : CwCopy := { copy := true, seq := 65535, data := 6618611909121, stamp := 4294967293 }; mk [fun d => d.set (CAN.CTL_EN p) 1, fun d => d.set (CAN.CTL_LBK p) (0), fun d => d.modSafe fun z => { z with held := some h }, fun d => ((d.set SIO.CWCFG_PORTA p).set SIO.CWCFG_PORTB (p.val + 1)).setAll [(CAN.CTL_FDEN p, 1), (CAN.CTL_FDEN ((p.val+1)%4), 1), (CAN.CTL_LBK p, 0), (CAN.CTL_EN p, 1), (SIO.CWTMO_SRCNODE, 7), (SIO.CWSTAT_LASTSEQ, 0 - 1)], fun d => match d.cwParse p f (d.sofStamp age.toNat) with | some c => d.modSafe fun x => { x with accData := 5, held := some { c with copy := if 1 = 0 then c.copy else !c.copy, seq := c.seq + 65535 - 1 } } | none => d], 2, { fmt := 3, rtr := false, brs := true, esi := false, sec := false, vcid := 0x00#8, sdt := 0x00#8, pid := 0x000#11, id := 0x00001dc0#32, data := [0x01#8, 0x06#8, 0x01#8, 0x00#8, 0x01#8, 0x02#8, 0x03#8, 0x04#8, 0x05#8, 0x06#8, 0x13#8, 0xa6#8, 0xb1#8, 0x47#8, 0x00#8, 0x00#8] }, 0x00000003#32, { copy := false, seq := 1, data := 6618611909121, stamp := 4294967293 }, { copy := true, seq := 65535, data := 6618611909121, stamp := 4294967293 }, by decide +kernel⟩,
   ⟨let p : Fin 4 := 0; let f : CanFrame := { fmt := 3, rtr := false, brs := true, esi := false, sec := false, vcid := 0x00#8, sdt := 0x00#8, pid := 0x000#11, id := 0x00001dc0#32, data := [0x01#8, 0x06#8, 0x02#8, 0x00#8, 0x01#8, 0x02#8, 0x03#8, 0x04#8, 0x05#8, 0x06#8, 0x7a#8, 0x21#8, 0xf5#8, 0x9c#8, 0x00#8, 0x00#8] }; let age : Word := 0x80000007#32; let c : CwCopy := { copy := false, seq := 2, data := 6618611909121, stamp := 2147483641 }; mk [fun d => d.set (CAN.CTL_EN p) 1, fun d => d.set (CAN.CTL_LBK p) (1), fun d => ((d.set SIO.CWCFG_PORTA p).set SIO.CWCFG_PORTB (p.val + 1)).setAll [(CAN.CTL_FDEN p, 1), (CAN.CTL_FDEN ((p.val+1)%4), 1), (CAN.CTL_LBK p, 0), (CAN.CTL_EN p, 1), (SIO.CWTMO_SRCNODE, 7), (SIO.CWSTAT_LASTSEQ, 1 + 1)], fun d => match d.cwParse p f (d.sofStamp age.toNat) with | some c => d.modSafe fun x => { x with accData := 5, held := some { c with copy := c.copy } } | none => d], 0, { fmt := 3, rtr := false, brs := true, esi := false, sec := false, vcid := 0x00#8, sdt := 0x00#8, pid := 0x000#11, id := 0x00001dc0#32, data := [0x01#8, 0x06#8, 0x02#8, 0x00#8, 0x01#8, 0x02#8, 0x03#8, 0x04#8, 0x05#8, 0x06#8, 0x7a#8, 0x21#8, 0xf5#8, 0x9c#8, 0x00#8, 0x00#8] }, 0x80000007#32, { copy := false, seq := 2, data := 6618611909121, stamp := 2147483641 }, by decide +kernel⟩,
   ⟨let p : Fin 4 := 0; let f : CanFrame := { fmt := 3, rtr := false, brs := true, esi := false, sec := false, vcid := 0x00#8, sdt := 0x00#8, pid := 0x000#11, id := 0x00001dc0#32, data := [0x01#8, 0x06#8, 0x02#8, 0x00#8, 0x01#8, 0x02#8, 0x03#8, 0x04#8, 0x05#8, 0x06#8, 0x7a#8, 0x21#8, 0xf5#8, 0x9c#8, 0x00#8, 0x00#8] }; let age : Word := 0x80000007#32; let c : CwCopy := { copy := false, seq := 2, data := 6618611909121, stamp := 2147483641 }; mk [fun d => d.set (CAN.CTL_EN p) 1, fun d => d.set (CAN.CTL_LBK p) (1), fun d => ((d.set SIO.CWCFG_PORTA p).set SIO.CWCFG_PORTB (p.val + 1)).setAll [(CAN.CTL_FDEN p, 1), (CAN.CTL_FDEN ((p.val+1)%4), 1), (CAN.CTL_LBK p, 0), (CAN.CTL_EN p, 1), (SIO.CWTMO_SRCNODE, 7), (SIO.CWSTAT_LASTSEQ, 1 + 1)], fun d => match d.cwParse p f (d.sofStamp age.toNat) with | some c => d.modSafe fun x => { x with accData := c.data, held := some { c with copy := c.copy } } | none => d], 0, { fmt := 3, rtr := false, brs := true, esi := false, sec := false, vcid := 0x00#8, sdt := 0x00#8, pid := 0x000#11, id := 0x00001dc0#32, data := [0x01#8, 0x06#8, 0x02#8, 0x00#8, 0x01#8, 0x02#8, 0x03#8, 0x04#8, 0x05#8, 0x06#8, 0x7a#8, 0x21#8, 0xf5#8, 0x9c#8, 0x00#8, 0x00#8] }, 0x80000007#32, { copy := false, seq := 2, data := 6618611909121, stamp := 2147483641 }, by decide +kernel⟩,
   ⟨let p : Fin 4 := 0; let f : CanFrame := { fmt := 3, rtr := false, brs := true, esi := false, sec := false, vcid := 0x00#8, sdt := 0x00#8, pid := 0x000#11, id := 0x00001dc0#32, data := [0x01#8, 0x06#8, 0x02#8, 0x00#8, 0x01#8, 0x02#8, 0x03#8, 0x04#8, 0x05#8, 0x06#8, 0x7a#8, 0x21#8, 0xf5#8, 0x9c#8, 0x00#8, 0x00#8] }; let age : Word := 0x80000007#32; let c : CwCopy := { copy := false, seq := 2, data := 6618611909121, stamp := 2147483641 }; mk [fun d => d.set (CAN.CTL_EN p) 1, fun d => d.set (CAN.CTL_LBK p) (1), fun d => ((d.set SIO.CWCFG_PORTA p).set SIO.CWCFG_PORTB (p.val + 1)).setAll [(CAN.CTL_FDEN p, 1), (CAN.CTL_FDEN ((p.val+1)%4), 1), (CAN.CTL_LBK p, 0), (CAN.CTL_EN p, 1), (SIO.CWTMO_SRCNODE, 7), (SIO.CWSTAT_LASTSEQ, 1 + 1 + 1 + 2776)], fun d => match d.cwParse p f (d.sofStamp age.toNat) with | some c => d.modSafe fun x => { x with accData := c.data, held := some { c with copy := c.copy } } | none => d], 0, { fmt := 3, rtr := false, brs := true, esi := false, sec := false, vcid := 0x00#8, sdt := 0x00#8, pid := 0x000#11, id := 0x00001dc0#32, data := [0x01#8, 0x06#8, 0x02#8, 0x00#8, 0x01#8, 0x02#8, 0x03#8, 0x04#8, 0x05#8, 0x06#8, 0x7a#8, 0x21#8, 0xf5#8, 0x9c#8, 0x00#8, 0x00#8] }, 0x80000007#32, { copy := false, seq := 2, data := 6618611909121, stamp := 2147483641 }, by decide +kernel⟩,
   ⟨mk [fun d => d.set KS.TSTAT_MODE 3], 3, by decide +kernel⟩⟩

theorem test_meets_BridgeStartAndSafetySet :
    (∃ (s : State) (b : Bridge), ((s.dev.startChecks b).all (fun c => c.1) = true)) ∧
    (∃ (s : State) (b : Bridge), (s.dev.get DE.STAT_OPSTATE ≠ 3 ∨ s.dev.get (SIO.STO_ACT b) = 1 ∨ s.dev.get (CE.BSTAT_ST b) ≠ 1)) ∧
    (∃ (s : State) (b : Bridge), (s.dev.engS b).pathTest = true) ∧
    (∃ (s : State) (b : Bridge), (s.dev.engS b).pathTest = false) ∧
    (∃ (s : State) (b : Bridge), s.dev.get DE.STAT_OPSTATE ≠ 6 ∧ s.dev.get (CE.BSTAT_ST b) = 3) ∧
    (∃ (s : State) (b : Bridge), s.dev.get DE.STAT_OPSTATE ≠ 6 ∧ s.dev.get (CE.BSTAT_ST b) ≠ 3) ∧
    (∃ (s : State) (m : Master) (x : Bridge), s.dev.accessAllowed m (0x40500800 + 0x20 * x.val) true = true) ∧
    (∃ (s : State) (m : Master) (x : Bridge), s.dev.accessAllowed m (0x40500800 + 0x20 * x.val) true = true ∧ s.dev.get KS.DBG_TGT = 0) ∧
    (∃ (s : State) (m : Master) (x : Bridge), s.dev.accessAllowed m (0x40500800 + 0x20 * x.val) true = true ∧ s.dev.get KS.DBG_TGT ≠ 0) ∧
    (∃ (s : State) (m : Master) (x : Bridge), s.dev.accessAllowed m (0x40500800 + 0x20 * x.val) true = false) ∧
    (∃ (s : State) (copy : List (BitVec 8)), s.dev.trussWorks = true ∧ s.dev.vol.safe.noSet = false ∧ (crc32c copy ≠ crc32c (setBytes s.dev.setVal) ∨ s.dev.safetyEqual = false)) ∧
    (∃ (s : State) (copy : List (BitVec 8)), (s.dev.trussWorks = false ∨ s.dev.vol.safe.noSet = true ∨ (crc32c copy = crc32c (setBytes s.dev.setVal) ∧ s.dev.safetyEqual = true))) ∧
    (∃ (s : State) (i : BitVec 16) (sub : BitVec 8) (v : Word), 0x5000 ≤ i.toNat ∧ i.toNat ≤ 0x5005 ∧ (objOf i.toNat sub.toNat).isSome = true ∧ sub ≠ 0 ∧ s.dev.stagingBar = 0 ∧ safetyRange i.toNat sub.toNat (v.toNat % 256 ^ safetySize i.toNat sub.toNat) = true) ∧
    (∃ (s : State) (i : BitVec 16) (sub : BitVec 8) (v : Word), 0x5000 ≤ i.toNat ∧ i.toNat ≤ 0x5005 ∧ (objOf i.toNat sub.toNat).isSome = true ∧ sub ≠ 0 ∧ s.dev.stagingBar = 0 ∧ safetyRange i.toNat sub.toNat (v.toNat % 256 ^ safetySize i.toNat sub.toNat) = false) ∧
    (∃ (s : State) (i : BitVec 16) (sub : BitVec 8), 0x5000 ≤ i.toNat ∧ i.toNat ≤ 0x5005 ∧ (objOf i.toNat sub.toNat).isSome = true ∧ sub ≠ 0 ∧ s.dev.stagingBar ≠ 0) ∧
    (∃ (s : State) (crc : Word), (s.dev.opBegin 0x7020 1 [(1, crc.toNat)] (decide (s.dev.get DE.STAT_OPSTATE = 4)) true).2 = true ∧ ((s.dev.opBegin 0x7020 1 [(1, crc.toNat)] (decide (s.dev.get DE.STAT_OPSTATE = 4)) true).1).objVal 0x7020 1 0 ≠ crc32c (setBytes s.dev.stagingVal)) ∧
    (∃ (s : State) (crc : Word), (s.dev.opBegin 0x7020 1 [(1, crc.toNat)] (decide (s.dev.get DE.STAT_OPSTATE = 4)) true).2 = true ∧ ((s.dev.opBegin 0x7020 1 [(1, crc.toNat)] (decide (s.dev.get DE.STAT_OPSTATE = 4)) true).1).objVal 0x7020 1 0 = crc32c (setBytes s.dev.stagingVal) ∧ (∀ k ∈ safetyKeys, safetyRange k.1 k.2 (s.dev.stagingVal k.1 k.2) = true)) ∧
    (∃ (s : State) (crc : Word), (s.dev.opBegin 0x7020 1 [(1, crc.toNat)] (decide (s.dev.get DE.STAT_OPSTATE = 4)) true).2 = false) ∧
    (∃ (s : State), s.dev.opRunning 0x7020 = false ∧ s.dev.get DE.STAT_OPSTATE ≠ 4) ∧
    (∃ (s : State) (crc : Word), s.dev.opRunning 0x7020 = false ∧ s.dev.get DE.STAT_OPSTATE = 4 ∧ s.dev.vol.dict.ops = [] ∧ s.dev.nextReq = none ∧ crc.toNat ≠ crc32c (setBytes s.dev.stagingVal)) ∧
    (∃ (s : State) (crc : Word), s.dev.opRunning 0x7020 = false ∧ s.dev.get DE.STAT_OPSTATE = 4 ∧ s.dev.vol.dict.ops = [] ∧ s.dev.nextReq = none ∧ crc.toNat = crc32c (setBytes s.dev.stagingVal) ∧ (∀ k ∈ safetyKeys, safetyRange k.1 k.2 (s.dev.stagingVal k.1 k.2) = true)) ∧
    (∃ (s : State) (b : Bridge), ((s.dev.startChecks b).all (fun c => c.1) = false)) ∧
    (∃ (s : State) (b : Bridge), s.dev.role b = 3 ∧ s.dev.batteryOk b = false) ∧
    (∃ (s : State) (b : Bridge), s.dev.role b = 2 ∧ s.dev.get (CE.PLLST_PLLST b) ≠ 2) ∧
    (∃ (s : State) (b : Bridge), s.dev.role b = 1 ∧ ((s.dev.ctrl b = 2 ∧ s.dev.get (POS.STAT_POSST (s.dev.posSel b)) ≠ 2) ∨ (s.dev.ctrl b ≠ 2 ∧ 1 < s.dev.get (POS.ANGLE_ACTSRC (s.dev.posSel b))))) ∧
    (∃ (s : State) (b : Bridge), 2 ≤ s.dev.reaction b) ∧
    (∃ (s : State), s.dev.get DE.STAT_OPSTATE = 6) :=
  ⟨⟨let b : Bridge := 1; mk [fun d => startable b d], 1, by decide +kernel⟩,
   ⟨mk [fun d => d.set DE.STAT_OPSTATE (2)], 1, by decide +kernel⟩,
   ⟨let b : Bridge := 1; mk [fun d => d.modEng b fun e => { e with pathTest := true }], 1, by decide +kernel⟩,
   ⟨let b : Bridge := 1; mk [fun d => d.modEng b fun z => { z with pathTest := false }], 1, by decide +kernel⟩,
   ⟨let b : Bridge := 1; mk [fun d => d.set DE.STAT_OPSTATE (2), fun d => d.set (CE.BSTAT_ST b) (3)], 1, by decide +kernel⟩,
   ⟨let b : Bridge := 1; mk [fun d => d.set DE.STAT_OPSTATE (2), fun d => d.set (CE.BSTAT_ST b) (5)], 1, by decide +kernel⟩,
   ⟨mk [], Master.truss, 1, by decide +kernel⟩,
   ⟨mk [fun d => d.set KS.DBG_TGT (0)], Master.truss, 1, by decide +kernel⟩,
   ⟨mk [fun d => d.set KS.DBG_TGT (5)], Master.truss, 1, by decide +kernel⟩,
   ⟨mk [], Master.span1h1, 1, by decide +kernel⟩,
   ⟨mk [fun d => d.modSafe fun z => { z with noSet := false }], [], by decide +kernel⟩,
   ⟨mk [fun d => d.set KS.TSTAT_MODE 3], [], by decide +kernel⟩,
   ⟨mk [fun d => d.set DE.STAT_OPSTATE 4], 0x5002#16, 0x03#8, 0x80000007#32, by decide +kernel⟩,
   ⟨mk [fun d => d.set DE.STAT_OPSTATE 4], 0x5004#16, 0x06#8, 0xf6285e8a#32, by decide +kernel⟩,
   ⟨mk [], 0x5004#16, 0x06#8, by decide +kernel⟩,
   ⟨mk [fun d => d.set DE.STAT_OPSTATE 4], 0x80000008#32, by decide +kernel⟩,
   ⟨mk [fun d => d.set DE.STAT_OPSTATE 4], 0x156c97c9#32, by decide +kernel⟩,
   ⟨mk [], 0x80000008#32, by decide +kernel⟩,
   ⟨mk [fun d => d.set DE.STAT_OPSTATE (5)], by decide +kernel⟩,
   ⟨mk [fun d => d.set DE.STAT_OPSTATE (4), fun d => d.modDict fun z => { z with ops := [] }], 0x80000008#32, by decide +kernel⟩,
   ⟨mk [fun d => d.set DE.STAT_OPSTATE (4), fun d => d.modDict fun z => { z with ops := [] }, fun d => d.set DE.STAT_OPSTATE 4], 0x156c97c9#32, by decide +kernel⟩,
   ⟨mk [], 1, by decide +kernel⟩,
   ⟨let b : Bridge := 1; mk [fun d => (d.set (CE.BCFG_ROLE b) 3).set (CE.DCDC_VBMIN b) 100], 1, by decide +kernel⟩,
   ⟨let b : Bridge := 1; mk [fun d => (d.set (CE.BCFG_ROLE b) 2), fun d => d.set (CE.PLLST_PLLST b) (5)], 1, by decide +kernel⟩,
   ⟨let b : Bridge := 1; mk [fun d => (d.set (CE.BCFG_ROLE b) 1).set (POS.ANGLE_ACTSRC (d.posSel b)) 2], 1, by decide +kernel⟩,
   ⟨mk [fun d => { d with vol := { d.vol with stopTimed := .ofFn fun _ => true } }], 1, by decide +kernel⟩,
   ⟨mk [fun d => d.set DE.STAT_OPSTATE (6)], by decide +kernel⟩⟩

theorem test_meets_BridgeStartRefusals :
    (∃ (s : State) (b : Bridge) (ctrl : Nat) (mode : Nat), (ctrl, mode) ∈ [(0, 2), (1, 1), (2, 3)] ∧ s.dev.get (CE.BCFG_CTRL b) = ctrl ∧ (s.dev.get (MOD.CTL_SRC b) = 1 ∨ s.dev.get (MOD.CTL_MODE b) ≠ mode)) ∧
    (∃ (s : State) (b : Bridge) (n : Chan), chanBridge n = b ∧ s.dev.get (GL.CHSTAT_ST n) ≠ 2) :=
  ⟨⟨let b : Bridge := 0; let ctrl : Nat := 0; mk [fun d => d.set (CE.BCFG_CTRL b) (ctrl), fun d => d.set (MOD.CTL_SRC b) (1)], 0, 0, 2, by decide +kernel⟩,
   ⟨let n : Chan := 11; mk [fun d => d.set (GL.CHSTAT_ST n) (5)], 1, 11, by decide +kernel⟩⟩

theorem test_meets_SpuriousCompletion :
    (∃ (s : State) (m : Master) (t : Fin 6) (src : BitVec 9), s.dev.accessAllowed m (0x40023004 + 0x10 * t.val) true = true ∧ targetMaster t = some m ∧ (s.dev.get (INTC.SRCCFG_ACTIVE src.toNat) ≠ 1 ∨ (src.toNat, t.val) ∉ s.dev.vol.flt.claims)) :=
  ⟨let src : BitVec 9 := 0x1b4#9; mk [fun d => d.set (INTC.SRCCFG_ACTIVE src.toNat) (1)], Master.truss, 0, 0x1b4#9, by decide +kernel⟩

theorem test_meets_RefusedRequest :
    (∃ (s : State) (r : Req) (t : List Req), s.dev.nextReq = some (r, t) ∧ isCustomer r.idx = false ∧ objOf r.idx r.sub = none ∧ r.op = 1) ∧
    (∃ (s : State) (r : Req) (t : List Req), s.dev.nextReq = some (r, t) ∧ isCustomer r.idx = false ∧ objOf r.idx r.sub = none ∧ r.op = 3) ∧
    (∃ (s : State) (r : Req) (t : List Req), s.dev.nextReq = some (r, t) ∧ isCustomer r.idx = false ∧ objOf r.idx r.sub = none ∧ r.op = 4) ∧
    (∃ (s : State) (r : Req) (t : List Req), s.dev.nextReq = some (r, t) ∧ isCustomer r.idx = false ∧ objOf r.idx r.sub = none ∧ r.op = 2) ∧
    (∃ (s : State) (r : Req) (t : List Req) (o : Obj), s.dev.nextReq = some (r, t) ∧ isCustomer r.idx = false ∧ objOf r.idx r.sub = some o ∧ r.op = 1 ∧ ((((s.dev.modDict fun x => { x with queue := t }).showQueue).readBar r o).1 ≠ 0)) ∧
    (∃ (s : State) (r : Req) (t : List Req) (o : Obj), s.dev.nextReq = some (r, t) ∧ isCustomer r.idx = false ∧ objOf r.idx r.sub = some o ∧ r.op = 3 ∧ ((((s.dev.modDict fun x => { x with queue := t }).showQueue).readBar r o).1 ≠ 0)) ∧
    (∃ (s : State) (r : Req) (t : List Req) (o : Obj), s.dev.nextReq = some (r, t) ∧ isCustomer r.idx = false ∧ objOf r.idx r.sub = some o ∧ r.op = 2 ∧ ((((s.dev.modDict fun x => { x with queue := t }).showQueue).writeBar r o).1 ≠ 0)) ∧
    (∃ (d : Dev) (i : Nat) (sub : Nat) (code : Nat), i < 2 ^ 16 ∧ sub < 2 ^ 8 ∧ code < 2 ^ 16 ∧ code = 0x0622 ∧ d.get DE.CNT_STREJ + 1 < 2 ^ DE.CNT_STREJ.width) ∧
    (∃ (i : Nat) (sub : Nat) (code : Nat), i < 2 ^ 16 ∧ sub < 2 ^ 8 ∧ code < 2 ^ 16 ∧ code ≠ 0x0622) ∧
    (∃ (s : State), s.dev.get DE.STAT_OPSTATE ∈ [1, 4, 5, 6] ∧ 1 ≤ s.dev.get LC.LCSTATE_STATE ∧ s.dev.get LC.LCSTATE_STATE ≤ 5) ∧
    (∃ (s : State) (k : KMsg) (t : List KMsg), s.dev.vol.net.inbox = k :: t ∧ k.svc = 0x012 ∧ leNat (k.body.take 1) = 3 ∧ s.dev.get DE.STAT_OPSTATE = 6 ∧ 1 ≤ s.dev.get LC.LCSTATE_STATE ∧ s.dev.get LC.LCSTATE_STATE ≤ 5) ∧
    (∃ (s : State), s.dev.opRunning 0x7001 = false ∧ s.dev.opStateOk 0x7001 = false) ∧
    (∃ (s : State), s.dev.opRunning 0x7001 = false ∧ s.dev.opStateOk 0x7001 = true ∧ 4 ≤ s.dev.vol.dict.ops.length) ∧
    (∃ (s : State), s.dev.opRunning 0x7002 = false ∧ s.dev.opStateOk 0x7002 = false) ∧
    (∃ (s : State), s.dev.opRunning 0x7002 = false ∧ s.dev.opStateOk 0x7002 = true ∧ 4 ≤ s.dev.vol.dict.ops.length) ∧
    (∃ (s : State), s.dev.opRunning 0x7004 = false ∧ s.dev.opStateOk 0x7004 = false) ∧
    (∃ (s : State), s.dev.opRunning 0x7020 = false ∧ s.dev.get DE.STAT_OPSTATE ≠ 4) ∧
    (∃ (s : State), s.dev.opRunning 0x7020 = false ∧ s.dev.get DE.STAT_OPSTATE = 4 ∧ 4 ≤ s.dev.vol.dict.ops.length) :=
  ⟨⟨let r : Req := { src := ReqSrc.kinak 1 5 3 2, op := 1, idx := 8191, sub := 200, n := 4, off := 0, data := [0x01#8, 0x02#8, 0x03#8, 0x04#8] }; mk [fun d => (d.set DE.STAT_OPSTATE 2).modDict fun z => { z with queue := [r] }, fun d => (d.set DE.STAT_OPSTATE 2).modDict fun z => { z with start := none, queue := [{ src := [.local 2, .kinak 1 5 3 2, .gone].getD (1) .gone, op := 1, idx := [0x1FFF,0x1000].getD (0) 0, sub := 200, n := 4, off := 0, data := [1,2,3,4] }] }], { src := ReqSrc.kinak 1 5 3 2, op := 1, idx := 8191, sub := 200, n := 4, off := 0, data := [0x01#8, 0x02#8, 0x03#8, 0x04#8] }, [], by decide +kernel⟩,
   ⟨let r : Req := { src := ReqSrc.kinak 1 5 3 2, op := 3, idx := 8191, sub := 200, n := 4, off := 0, data := [0x01#8, 0x02#8, 0x03#8, 0x04#8] }; mk [fun d => (d.set DE.STAT_OPSTATE 2).modDict fun z => { z with queue := [r] }, fun d => (d.set DE.STAT_OPSTATE 2).modDict fun z => { z with start := none, queue := [{ src := [.local 2, .kinak 1 5 3 2, .gone].getD (1) .gone, op := 3, idx := [0x1FFF,0x1000].getD (0) 0, sub := 200, n := 4, off := 0, data := [1,2,3,4] }] }], { src := ReqSrc.kinak 1 5 3 2, op := 3, idx := 8191, sub := 200, n := 4, off := 0, data := [0x01#8, 0x02#8, 0x03#8, 0x04#8] }, [], by decide +kernel⟩,
   ⟨let r : Req := { src := ReqSrc.kinak 1 5 3 2, op := 4, idx := 8191, sub := 200, n := 4, off := 0, data := [0x01#8, 0x02#8, 0x03#8, 0x04#8] }; mk [fun d => (d.set DE.STAT_OPSTATE 2).modDict fun z => { z with queue := [r] }, fun d => (d.set DE.STAT_OPSTATE 2).modDict fun z => { z with start := none, queue := [{ src := [.local 2, .kinak 1 5 3 2, .gone].getD (1) .gone, op := 4, idx := [0x1FFF,0x1000].getD (0) 0, sub := 200, n := 4, off := 0, data := [1,2,3,4] }] }], { src := ReqSrc.kinak 1 5 3 2, op := 4, idx := 8191, sub := 200, n := 4, off := 0, data := [0x01#8, 0x02#8, 0x03#8, 0x04#8] }, [], by decide +kernel⟩,
   ⟨let r : Req := { src := ReqSrc.kinak 1 5 3 2, op := 2, idx := 8191, sub := 200, n := 4, off := 0, data := [0x01#8, 0x02#8, 0x03#8, 0x04#8] }; mk [fun d => (d.set DE.STAT_OPSTATE 2).modDict fun z => { z with queue := [r] }, fun d => (d.set DE.STAT_OPSTATE 2).modDict fun z => { z with start := none, queue := [{ src := [.local 2, .kinak 1 5 3 2, .gone].getD (1) .gone, op := 2, idx := [0x1FFF,0x1000].getD (0) 0, sub := 200, n := 4, off := 0, data := [1,2,3,4] }] }], { src := ReqSrc.kinak 1 5 3 2, op := 2, idx := 8191, sub := 200, n := 4, off := 0, data := [0x01#8, 0x02#8, 0x03#8, 0x04#8] }, [], by decide +kernel⟩,
   ⟨let r : Req := { src := ReqSrc.kinak 1 5 3 2, op := 1, idx := 28688, sub := 4, n := 4, off := 0, data := [0x01#8, 0x02#8, 0x03#8, 0x04#8] }; mk [fun d => (d.set DE.STAT_OPSTATE 2).modDict fun z => { z with queue := [r] }, fun d => (d.set DE.STAT_OPSTATE 2).modDict fun z => { z with start := none, queue := [{ src := [.local 2, .kinak 1 5 3 2, .gone].getD (1) .gone, op := 1, idx := [0x2205,0x2103,0x7010].getD (2) 0, sub := [1,3,4].getD (2) 1, n := 4, off := 0, data := [1,2,3,4] }] }], { src := ReqSrc.kinak 1 5 3 2, op := 1, idx := 28688, sub := 4, n := 4, off := 0, data := [0x01#8, 0x02#8, 0x03#8, 0x04#8] }, [], { ty := 14, acc := 2, gates := 0, pers := 0, dflt := 0, lo := 0, hi := 64, mir := Mirror.held }, by decide +kernel⟩,
   ⟨let r : Req := { src := ReqSrc.kinak 1 5 3 2, op := 3, idx := 28688, sub := 4, n := 4, off := 0, data := [0x01#8, 0x02#8, 0x03#8, 0x04#8] }; mk [fun d => (d.set DE.STAT_OPSTATE 2).modDict fun z => { z with queue := [r] }, fun d => (d.set DE.STAT_OPSTATE 2).modDict fun z => { z with start := none, queue := [{ src := [.local 2, .kinak 1 5 3 2, .gone].getD (1) .gone, op := 3, idx := [0x2205,0x2103,0x7010].getD (2) 0, sub := [1,3,4].getD (2) 1, n := 4, off := 0, data := [1,2,3,4] }] }], { src := ReqSrc.kinak 1 5 3 2, op := 3, idx := 28688, sub := 4, n := 4, off := 0, data := [0x01#8, 0x02#8, 0x03#8, 0x04#8] }, [], { ty := 14, acc := 2, gates := 0, pers := 0, dflt := 0, lo := 0, hi := 64, mir := Mirror.held }, by decide +kernel⟩,
   ⟨let r : Req := { src := ReqSrc.kinak 1 5 3 2, op := 2, idx := 28688, sub := 1, n := 3, off := 0, data := [0x01#8, 0x02#8, 0x03#8, 0x04#8] }; mk [fun d => (d.set DE.STAT_OPSTATE 2).modDict fun z => { z with queue := [r] }, fun d => (d.set DE.STAT_OPSTATE 2).modDict fun z => { z with start := none, queue := [{ src := [.local 2, .kinak 1 5 3 2, .gone].getD (1) .gone, op := 2, idx := [0x2600,0x1000,0x7010].getD (2) 0, sub := 1, n := 3, off := 0, data := [1,2,3,4] }] }], { src := ReqSrc.kinak 1 5 3 2, op := 2, idx := 28688, sub := 1, n := 3, off := 0, data := [0x01#8, 0x02#8, 0x03#8, 0x04#8] }, [], { ty := 14, acc := 0, gates := 0, pers := 0, dflt := 16, lo := 0, hi := 16, mir := Mirror.held }, by decide +kernel⟩,
   ⟨(mk []).dev, 10556, 178, 1570, by decide +kernel⟩,
   ⟨59748, 8, 1553, by decide +kernel⟩,
   ⟨mk [fun d => d.set DE.STAT_OPSTATE 6, fun d => d.set LC.LCSTATE_STATE ((1) + 0 + 1)], by decide +kernel⟩,
   ⟨let k : KMsg := { port := 1, node := 5, svc := 18, prio := 3, tag := 2, body := [0x03#8] }; mk [fun d => (d.set DE.STAT_OPSTATE 2).modNet fun z => { z with inbox := [k] }, fun d => d.set DE.STAT_OPSTATE (6), fun d => d.set LC.LCSTATE_STATE ((1) + 0 + 0), fun d => ((d.set DE.STAT_OPSTATE 6).set LC.LCSTATE_STATE 3).modNet fun z => { z with inbox := [{ port := 1, node := 5, svc := 0x12, prio := 3, tag := 2, body := [3] }] }], { port := 1, node := 5, svc := 18, prio := 3, tag := 2, body := [0x03#8] }, [], by decide +kernel⟩,
   ⟨mk [], by decide +kernel⟩,
   ⟨mk [fun d => d.modDict fun z => { z with ops := [(1,false),(2,true),(3,false),(4,false)] }, fun d => (d.set DE.STAT_OPSTATE 2).modDict fun z => { z with ops := [(1,false),(2,true),(3,false),(4,false)] }], by decide +kernel⟩,
   ⟨mk [], by decide +kernel⟩,
   ⟨mk [fun d => d.modDict fun z => { z with ops := [(1,false),(2,true),(3,false),(4,false)] }, fun d => (d.set DE.STAT_OPSTATE 2).modDict fun z => { z with ops := [(1,false),(2,true),(3,false),(4,false)] }], by decide +kernel⟩,
   ⟨mk [], by decide +kernel⟩,
   ⟨mk [fun d => d.set DE.STAT_OPSTATE (5)], by decide +kernel⟩,
   ⟨mk [fun d => d.set DE.STAT_OPSTATE (4), fun d => d.modDict fun z => { z with ops := [(1,false),(2,true),(3,false),(4,false)] }], by decide +kernel⟩⟩

theorem test_meets_CanTransmit :
    (∃ (s : State) (m : Master) (p : Fin 4) (mb : Fin 32), s.dev.accessAllowed m (0x40800400 + 0x10000 * p.val + 0x20 * mb.val) true = true ∧ mbWritable m mb = true ∧ s.dev.mbFree p mb = true) ∧
    (∃ (s : State) (m : Master) (p : Fin 4) (mb : Fin 32), s.dev.accessAllowed m (0x40800400 + 0x10000 * p.val + 0x20 * mb.val) true = true ∧ mbWritable m mb = true ∧ s.dev.mbFree p mb = false) ∧
    (∃ (s : State) (m : Master) (p : Fin 4) (mb : Fin 32), s.dev.accessAllowed m (0x40800400 + 0x10000 * p.val + 0x20 * mb.val) true = true ∧ mbWritable m mb = true ∧ s.dev.get (CAN.MBCTL_STATE p mb) = 1 ∧ (s.dev.canPort p).kq = []) ∧
    (∃ (s : State) (m : Master) (p : Fin 4) (mb : Fin 32), s.dev.accessAllowed m (0x40800400 + 0x10000 * p.val + 0x20 * mb.val) true = true ∧ mbWritable m mb = true ∧ s.dev.get (CAN.MBCTL_STATE p mb) = 2) ∧
    (∃ (s : State) (m : Master) (p : Fin 4) (mb : Fin 32), (mbWritable m mb = false ∨ s.dev.accessAllowed m (0x40800400 + 0x10000 * p.val + 0x20 * mb.val) true = false)) ∧
    (∃ (s : State) (p : Fin 4), s.dev.portUp p = true ∧ s.dev.get (CAN.CTL_LBK p) ≠ 1 ∧ (s.dev.canPort p).cur = none ∧ vget s.dev.pier.entering 7 = none ∧ (∀ y ∈ s.dev.candidates s.mem p, s.dev.sendable p y.2 = false)) ∧
    (∃ (s : State) (p : Fin 4), (s.dev.portUp p = false ∨ s.dev.get (CAN.CTL_LBK p) = 1 ∨ (s.dev.canPort p).cur ≠ none)) ∧
    (∃ (s : State) (p : Fin 4) (mb : Fin 32) (f : CanFrame), (s.dev.canPort p).cur = some (mb.val, f) ∧ (s.dev.canPort p).kq = [] ∧ (s.dev.get (CAN.CTL_LBK p) < 2 ∨ (s.dev.get (CAN.CTL_ROLE p) = 0 ∧ ∀ i < 16, s.dev.filterHit p f i = false)) ∧ (8 ≤ mb.val ∨ kSvc f ≠ 0x101)) ∧
    (∃ (s : State) (p : Fin 4) (mb : Fin 32) (f : CanFrame), (s.dev.canPort p).cur = some (mb.val, f) ∧ (s.dev.canPort p).kq = [] ∧ (s.dev.canPort p).curAbort = false) ∧
    (∃ (s : State) (p : Fin 4) (mb : Fin 32) (f : CanFrame), (s.dev.canPort p).cur = some (mb.val, f) ∧ (s.dev.canPort p).kq = [] ∧ (s.dev.canPort p).curAbort = true) ∧
    (∃ (s : State) (p : Fin 4), (s.dev.canPort p).cur = none) ∧
    (∃ (s : State) (p : Fin 4) (k : Fin 16) (f : CanFrame), (s.dev.canPort p).cur = some (32 + k.val, f) ∧ (s.dev.get (CAN.CTL_LBK p) < 2 ∨ (s.dev.get (CAN.CTL_ROLE p) = 0 ∧ ∀ i < 16, s.dev.filterHit p f i = false))) :=
  ⟨⟨mk [], Master.truss, 3, 31, by decide +kernel⟩,
   ⟨let p : Fin 4 := 3; let mb : Fin 32 := 31; mk [fun d => d.set (CAN.MBCTL_STATE p mb) (1 + 1)], Master.truss, 3, 31, by decide +kernel⟩,
   ⟨let p : Fin 4 := 3; let mb : Fin 32 := 31; mk [fun d => d.set (CAN.MBCTL_STATE p mb) (1), fun d => d.modPort p fun z => { z with kq := [] }], Master.truss, 3, 31, by decide +kernel⟩,
   ⟨let p : Fin 4 := 3; let mb : Fin 32 := 31; mk [fun d => d.set (CAN.MBCTL_STATE p mb) (2)], Master.truss, 3, 31, by decide +kernel⟩,
   ⟨mk [], Master.truss, 0, 0, by decide +kernel⟩,
   ⟨let p : Fin 4 := 1; mk [fun d => d.set (CAN.CTL_EN p) 1, fun d => d.modPort p fun z => { z with cur := none }, fun d => d.modPier fun z => { z with entering := vset z.entering 7 (none) }, fun d => ((((d.set (CAN.MBCTL_STATE p 3) 1).set (CAN.MBCTL_FMT p 3) (4)).set (CAN.MBCTL_STATE p 9) 1).set (CAN.MBCTL_FMT p 9) (4)).modPort p fun c => { c with cur := none, fwdq := if 0 = 0 then [] else [aFrame, aFrame] }], 1, by decide +kernel⟩,
   ⟨mk [], 3, by decide +kernel⟩,
   ⟨let p : Fin 4 := 3; let mb : Fin 32 := 31; let f : CanFrame := aFrame; mk [fun d => d.modPort p fun z => { z with cur := some (mb.val, f) }, fun d => d.modPort p fun z => { z with kq := [] }], 3, 31, aFrame, by decide +kernel⟩,
   ⟨let p : Fin 4 := 3; let mb : Fin 32 := 31; let f : CanFrame := aFrame; mk [fun d => d.modPort p fun z => { z with cur := some (mb.val, f) }, fun d => d.modPort p fun z => { z with kq := [] }, fun d => d.modPort p fun z => { z with curAbort := false }], 3, 31, aFrame, by decide +kernel⟩,
   ⟨let p : Fin 4 := 3; let mb : Fin 32 := 31; let f : CanFrame := aFrame; mk [fun d => d.modPort p fun z => { z with cur := some (mb.val, f) }, fun d => d.modPort p fun z => { z with kq := [] }, fun d => d.modPort p fun z => { z with curAbort := true }], 3, 31, aFrame, by decide +kernel⟩,
   ⟨let p : Fin 4 := 3; mk [fun d => d.modPort p fun z => { z with cur := none }], 3, by decide +kernel⟩,
   ⟨let p : Fin 4 := 3; let k : Fin 16 := 15; let f : CanFrame := aFrame; mk [fun d => d.modPort p fun z => { z with cur := some (32 + k.val, f) }, fun d => d.modPort p fun c => { c with cur := some (32 + k.val, f), fwdq := (List.range (k.val + 2)).map fun i => aFrame }], 3, 15, aFrame, by decide +kernel⟩⟩

theorem test_meets_CanReceive :
    (∃ (s : State) (p : Fin 4), (s.dev.portUp p = false ∨ s.dev.get (CAN.CTL_LBK p) = 2)) ∧
    (∃ (s : State) (p : Fin 4) (f : CanFrame), s.dev.portUp p = true ∧ s.dev.get (CAN.CTL_LBK p) ≠ 2 ∧ s.dev.speaks p f = false) ∧
    (∃ (s : State) (p : Fin 4) (f : CanFrame), s.dev.portUp p = true ∧ s.dev.get (CAN.CTL_LBK p) ≠ 2 ∧ s.dev.speaks p f = true ∧ s.dev.get (CAN.CTL_ROLE p) = 0 ∧ s.dev.get (CAN.ERR_REC p) < 128 ∧ (∀ i < 16, s.dev.filterHit p f i = false)) ∧
    (∃ (s : State) (p : Fin 4) (f : CanFrame), s.dev.portUp p = true ∧ s.dev.get (CAN.CTL_LBK p) ≠ 2 ∧ s.dev.speaks p f = true ∧ s.dev.get (CAN.CTL_ROLE p) = 0 ∧ 128 ≤ s.dev.get (CAN.ERR_REC p) ∧ (∀ i < 16, s.dev.filterHit p f i = false)) ∧
    (∃ (d : Dev) (p : Fin 4) (f : CanFrame) (n : Nat), n = 1 + (f.data.length + 15) / 16 ∧ d.get (CAN.RXPTR_WR p) < d.ringSize p ∧ d.ringSize p < 2 ^ 16 ∧ d.get (CAN.RXPTR_WR p) + n ≤ d.ringSize p ∧ d.get (CAN.RXSTAT_LEVEL p) + n ≤ d.ringSize p) ∧
    (∃ (d : Dev) (p : Fin 4) (f : CanFrame) (n : Nat), n = 1 + (f.data.length + 15) / 16 ∧ d.get (CAN.RXPTR_WR p) < d.ringSize p ∧ d.ringSize p < 2 ^ 16 ∧ d.ringSize p < d.get (CAN.RXPTR_WR p) + n ∧ d.get (CAN.RXSTAT_LEVEL p) + (d.ringSize p - d.get (CAN.RXPTR_WR p)) + n ≤ d.ringSize p) ∧
    (∃ (d : Dev) (p : Fin 4) (f : CanFrame) (n : Nat), n = 1 + (f.data.length + 15) / 16 ∧ d.get (CAN.RXPTR_WR p) < d.ringSize p ∧ d.ringSize p < 2 ^ 16 ∧ (d.ringSize p < d.get (CAN.RXSTAT_LEVEL p) + n ∨ (d.ringSize p < d.get (CAN.RXPTR_WR p) + n ∧ d.ringSize p < d.get (CAN.RXSTAT_LEVEL p) + (d.ringSize p - d.get (CAN.RXPTR_WR p)) + n))) ∧
    (∃ (s : State) (m : Master) (p : Fin 4) (v : BitVec 16), s.dev.accessAllowed m (0x40800028 + 0x10000 * p.val) true = true ∧ v.toNat < s.dev.ringSize p ∧ s.dev.get (CAN.RXPTR_WR p) < s.dev.ringSize p ∧ s.dev.ringSize p < 2 ^ 16) ∧
    (∃ (s : State) (p : Fin 4) (node : BitVec 14) (svc : BitVec 10) (tag : BitVec 4), ((s.dev.canPort p).transfers.any (fun t => keyIs t node.toNat svc.toNat tag.toNat) = true)) ∧
    (∃ (s : State) (p : Fin 4), (s.dev.canPort p).transfers = []) ∧
    (∃ (s : State) (p : Fin 4), s.dev.portUp p = true ∧ s.dev.get (CAN.ERR_TEC p) + 8 ≤ 255) ∧
    (∃ (s : State) (p : Fin 4), s.dev.portUp p = true ∧ 255 < s.dev.get (CAN.ERR_TEC p) + 8) ∧
    (∃ (s : State) (p : Fin 4), s.dev.portUp p = true ∧ s.dev.get (CAN.ERR_REC p) + 8 ≤ 255) ∧
    (∃ (s : State) (p : Fin 4), s.dev.portUp p = false) ∧
    (∃ (s : State) (m : Master) (p : Fin 4), s.dev.accessAllowed m (0x4080001C + 0x10000 * p.val) true = true ∧ s.dev.get (CAN.ERR_EST p) = 2) ∧
    (∃ (s : State) (m : Master) (p : Fin 4), s.dev.accessAllowed m (0x4080001C + 0x10000 * p.val) true = true ∧ s.dev.get (CAN.ERR_EST p) ≠ 2) ∧
    (∃ (s : State) (m : Master) (p : Fin 4), s.dev.accessAllowed m (0x4080001C + 0x10000 * p.val) true = false) ∧
    (∃ (s : State) (m : Master) (p : Fin 4), s.dev.accessAllowed m (0x40800028 + 0x10000 * p.val) true = false) ∧
    (∃ (s : State) (p : Fin 4), s.dev.netWorks = true ∧ s.dev.get (CAN.ERR_EST p) = 2 ∧ (s.dev.canPort p).recovering = true) ∧
    (∃ (s : State) (p : Fin 4), (s.dev.get (CAN.ERR_EST p) ≠ 2 ∨ (s.dev.canPort p).recovering = false)) ∧
    (∃ (s : State) (m : Master) (p : Fin 4) (k : Fin 3) (v : Word), s.dev.accessAllowed m (0x40800004 + 0x10000 * p.val + 4 * k.val) true = true ∧ s.dev.get (CAN.CTL_EN p) = 1 ∧ (∃ f ∈ (if k = 0 then [CAN.NBT_SJW p, CAN.NBT_TSEG1 p, CAN.NBT_TSEG2 p, CAN.NBT_BRP p] else if k = 1 then [CAN.DBT_SJW p, CAN.DBT_TSEG1 p, CAN.DBT_TSEG2 p, CAN.DBT_BRP p] else [CAN.XBT_SJW p, CAN.XBT_TSEG1 p, CAN.XBT_TSEG2 p, CAN.XBT_BRP p]), s.dev.get f ≠ natField v.toNat f.lo f.width)) ∧
    (∃ (s : State) (m : Master) (p : Fin 4) (k : Fin 3) (v : Word), s.dev.accessAllowed m (0x40800004 + 0x10000 * p.val + 4 * k.val) true = true ∧ s.dev.get (CAN.CTL_EN p) = 1 ∧ (∀ f ∈ (if k = 0 then [CAN.NBT_SJW p, CAN.NBT_TSEG1 p, CAN.NBT_TSEG2 p, CAN.NBT_BRP p] else if k = 1 then [CAN.DBT_SJW p, CAN.DBT_TSEG1 p, CAN.DBT_TSEG2 p, CAN.DBT_BRP p] else [CAN.XBT_SJW p, CAN.XBT_TSEG1 p, CAN.XBT_TSEG2 p, CAN.XBT_BRP p]), s.dev.get f = natField v.toNat f.lo f.width)) ∧
    (∃ (s : State) (m : Master) (p : Fin 4) (k : Fin 3), s.dev.accessAllowed m (0x40800004 + 0x10000 * p.val + 4 * k.val) true = true ∧ s.dev.get (CAN.CTL_EN p) ≠ 1) ∧
    (∃ (s : State) (m : Master) (p : Fin 4) (k : Fin 3), s.dev.accessAllowed m (0x40800004 + 0x10000 * p.val + 4 * k.val) true = false) ∧
    (∃ (s : State) (m : Master) (p : Fin 4), s.dev.accessAllowed m (0x40800000 + 0x10000 * p.val) true = false) ∧
    (∃ (s : State) (m : Master) (p : Fin 4), s.dev.accessAllowed m (0x40800000 + 0x10000 * p.val) true = true ∧ s.dev.get (CAN.CTL_EN p) = 1) ∧
    (∃ (s : State) (m : Master) (p : Fin 4), s.dev.accessAllowed m (0x40800000 + 0x10000 * p.val) true = true ∧ s.dev.get (CAN.CTL_EN p) ≠ 1) :=
  ⟨⟨mk [], 3, by decide +kernel⟩,
   ⟨let p : Fin 4 := 3; mk [fun d => d.set (CAN.CTL_EN p) 1, fun d => d.set (CAN.CTL_LBK p) (5)], 3, { fmt := 4, rtr := false, brs := false, esi := false, sec := true, vcid := 0x06#8, sdt := 0x01#8, pid := 0x018#11, id := 0x0a85c707#32, data := [0x1a#8, 0x05#8, 0x00#8, 0x5c#8, 0x7a#8] }, by decide +kernel⟩,
   ⟨let p : Fin 4 := 0; mk [fun d => d.set (CAN.CTL_EN p) 1, fun d => d.set (CAN.CTL_ROLE p) (0)], 0, { fmt := 0, rtr := false, brs := false, esi := false, sec := false, vcid := 0x00#8, sdt := 0x01#8, pid := 0x004#11, id := 0x1ca79b13#32, data := [0x80#8, 0xa4#8, 0x02#8, 0xff#8, 0x35#8, 0x06#8, 0x01#8, 0xc2#8] }, by decide +kernel⟩,
   ⟨let p : Fin 4 := 0; mk [fun d => d.set (CAN.CTL_EN p) 1, fun d => d.set (CAN.CTL_ROLE p) (0), fun d => d.set (CAN.ERR_REC p) ((128) + 0 + 0)], 0, { fmt := 0, rtr := false, brs := false, esi := false, sec := false, vcid := 0x00#8, sdt := 0x01#8, pid := 0x004#11, id := 0x1ca79b13#32, data := [0x80#8, 0xa4#8, 0x02#8, 0xff#8, 0x35#8, 0x06#8, 0x01#8, 0xc2#8] }, by decide +kernel⟩,
   ⟨(let p : Fin 4 := 3; let n : Nat := 2; mk [fun d => (((d.set (CAN.RXCFG_SIZE p) 64).set (CAN.RXPTR_WR p) (31 - n)).set (CAN.RXSTAT_LEVEL p) (37)).set (CAN.RXBASE_BASE p) 0x24000100]).dev, 3, { fmt := 4, rtr := false, brs := true, esi := false, sec := true, vcid := 0x03#8, sdt := 0x00#8, pid := 0x001#11, id := 0x0b3c1273#32, data := [0x19#8, 0xf0#8] }, 2, by decide +kernel⟩,
   ⟨(let p : Fin 4 := 3; let n : Nat := 2; mk [fun d => (((d.set (CAN.RXCFG_SIZE p) 64).set (CAN.RXPTR_WR p) (64 - 567 % n)).set (CAN.RXSTAT_LEVEL p) (37)).set (CAN.RXBASE_BASE p) 0x24000100]).dev, 3, { fmt := 4, rtr := false, brs := true, esi := false, sec := true, vcid := 0x03#8, sdt := 0x00#8, pid := 0x001#11, id := 0x0b3c1273#32, data := [0x19#8, 0xf0#8] }, 2, by decide +kernel⟩,
   ⟨(let p : Fin 4 := 3; mk [fun d => (((d.set (CAN.RXCFG_SIZE p) 64).set (CAN.RXPTR_WR p) 3).set (CAN.RXSTAT_LEVEL p) 64).set (CAN.RXBASE_BASE p) 0x24000100]).dev, 3, { fmt := 4, rtr := false, brs := true, esi := false, sec := true, vcid := 0x03#8, sdt := 0x00#8, pid := 0x001#11, id := 0x0b3c1273#32, data := [0x19#8, 0xf0#8] }, 2, by decide +kernel⟩,
   ⟨mk [], Master.truss, 0, 0x01b4#16, by decide +kernel⟩,
   ⟨let p : Fin 4 := 3; let node : BitVec 14 := 0x05b0#14; let svc : BitVec 10 := 0x2a0#10; let tag : BitVec 4 := 0x4#4; mk [fun d => d.modPort p fun c => { c with transfers := [⟨node.toNat, svc.toNat, tag.toNat, 0, 10, 1, []⟩] }], 3, 0x05b0#14, 0x2a0#10, 0x4#4, by decide +kernel⟩,
   ⟨let p : Fin 4 := 3; mk [fun d => d.modPort p fun z => { z with transfers := [] }], 3, by decide +kernel⟩,
   ⟨let p : Fin 4 := 3; mk [fun d => d.set (CAN.CTL_EN p) 1, fun d => d.set (CAN.ERR_TEC p) (124)], 3, by decide +kernel⟩,
   ⟨let p : Fin 4 := 3; mk [fun d => d.set (CAN.CTL_EN p) 1, fun d => d.set (CAN.ERR_TEC p) (248 + 4)], 3, by decide +kernel⟩,
   ⟨let p : Fin 4 := 3; mk [fun d => d.set (CAN.CTL_EN p) 1, fun d => d.set (CAN.ERR_REC p) (124)], 3, by decide +kernel⟩,
   ⟨mk [], 3, by decide +kernel⟩,
   ⟨let p : Fin 4 := 3; mk [fun d => d.set (CAN.ERR_EST p) (2)], Master.truss, 3, by decide +kernel⟩,
   ⟨let p : Fin 4 := 3; mk [fun d => d.set (CAN.ERR_EST p) (5)], Master.truss, 3, by decide +kernel⟩,
   ⟨mk [], Master.span1h1, 1, by decide +kernel⟩,
   ⟨mk [], Master.span1h1, 1, by decide +kernel⟩,
   ⟨let p : Fin 4 := 3; mk [fun d => d.set (CAN.ERR_EST p) (2), fun d => d.modPort p fun z => { z with recovering := true }], 3, by decide +kernel⟩,
   ⟨let p : Fin 4 := 3; mk [fun d => d.set (CAN.ERR_EST p) (2)], 3, by decide +kernel⟩,
   ⟨let p : Fin 4 := 3; mk [fun d => d.set (CAN.CTL_EN p) (1)], Master.truss, 3, 2, 0xcfbeb9cc#32, by decide +kernel⟩,
   ⟨let p : Fin 4 := 3; mk [fun d => d.set (CAN.CTL_EN p) (1), fun d => d.set (CAN.CTL_EN p) 1], Master.truss, 3, 2, 0x040b0401#32, by decide +kernel⟩,
   ⟨mk [], Master.truss, 0, 0, by decide +kernel⟩,
   ⟨mk [], Master.span1h1, 1, 0, by decide +kernel⟩,
   ⟨mk [], Master.span1h1, 1, by decide +kernel⟩,
   ⟨let p : Fin 4 := 3; mk [fun d => d.set (CAN.CTL_EN p) (1)], Master.truss, 3, by decide +kernel⟩,
   ⟨mk [], Master.truss, 0, by decide +kernel⟩⟩

theorem test_meets_NetworkTime :
    (∃ (s : State) (m : Master), s.dev.accessAllowed m 0x40C00000 false = true) ∧
    (∃ (s : State) (m : Master), s.dev.accessAllowed m 0x40C00000 false = false) ∧
    (∃ (s : State) (m : Master), s.dev.accessAllowed m 0x40C00008 false = true) ∧
    (∃ (s : State) (m : Master), s.dev.accessAllowed m 0x40C00008 false = false) ∧
    (∃ (s : State) (m : Master), s.dev.masterExists m = true ∧ s.dev.domainUp 7 = true) ∧
    (∃ (s : State) (m : Master), s.dev.masterExists m = true ∧ s.dev.domainUp 7 = false) ∧
    (∃ (s : State) (m : Master), s.dev.masterExists m = false) ∧
    (∃ (s : State) (m : Master), s.dev.accessAllowed m 0x40000880 false = true) ∧
    (∃ (s : State) (m : Master), s.dev.accessAllowed m 0x40000880 false = false) ∧
    (∃ (s : State) (m : Master) (i : Fin 5), s.dev.accessAllowed m (([0x40A00030, 0x40A00038, 0x40A00040, 0x40A00048, 0x40A00058][i.val]?).getD 0) false = true) ∧
    (∃ (s : State) (m : Master) (i : Fin 5), s.dev.accessAllowed m (([0x40A00030, 0x40A00038, 0x40A00040, 0x40A00048, 0x40A00058][i.val]?).getD 0) false = false) ∧
    (∃ (d : Dev), d.get KS.TSTAT_MODE < 2 ∧ d.trussHarts = [0, 1, 2]) ∧
    (∃ (s : State) (i : Fin 8), s.dev.netWorks = true ∧ s.dev.get (TB.TIMCTL_EN i) = 1 ∧ s.dev.get (TB.TIMPER_PER i) = 0) ∧
    (∃ (s : State) (i : Fin 8), s.dev.netWorks = true ∧ s.dev.get (TB.TIMCTL_EN i) = 1 ∧ s.dev.get (TB.TIMPER_PER i) ≠ 0) ∧
    (∃ (s : State) (i : Fin 8), (s.dev.netWorks = false ∨ s.dev.get (TB.TIMCTL_EN i) ≠ 1)) ∧
    (∃ (s : State), s.dev.netWorks = true ∧ s.dev.get KN.CFG_HBPER ≠ 0) ∧
    (∃ (s : State), (s.dev.netWorks = false ∨ s.dev.get KN.CFG_HBPER = 0)) ∧
    (∃ (s : State), s.dev.netWorks = true ∧ s.dev.get KN.CFG_TSYNC = 2) ∧
    (∃ (s : State), (s.dev.netWorks = false ∨ s.dev.get KN.CFG_TSYNC ≠ 2)) ∧
    (∃ (s : State) (p : Fin 4) (node : BitVec 14) (n : BitVec 8) (sof : Nat), s.dev.vol.net.lastSync = some (n.toNat, sof) ∧ s.dev.kinakPort p = true ∧ s.dev.get (CAN.CTL_LBK p) ≠ 2 ∧ s.dev.portUp p = true ∧ s.dev.get KN.CFG_TSYNC = 1 ∧ s.dev.get KN.CFG_TSPORT = p.val ∧ s.dev.get KN.TSNODE_TSNODE = node.toNat) ∧
    (∃ (s : State) (p : Fin 4), (s.dev.vol.net.lastSync = none ∨ s.dev.get KN.CFG_TSYNC ≠ 1 ∨ s.dev.kinakPort p = false ∨ s.dev.get (CAN.CTL_LBK p) = 2)) ∧
    (∃ (s : State), s.dev.netWorks = false) :=
  ⟨⟨mk [], Master.truss, by decide +kernel⟩,
   ⟨mk [], Master.span1h1, by decide +kernel⟩,
   ⟨mk [], Master.truss, by decide +kernel⟩,
   ⟨mk [], Master.span1h1, by decide +kernel⟩,
   ⟨mk [], Master.truss, by decide +kernel⟩,
   ⟨mk [fun d => (d.set (PIER.PDCTL_ST 7) 1)], Master.truss, by decide +kernel⟩,
   ⟨mk [], Master.span1h1, by decide +kernel⟩,
   ⟨mk [], Master.truss, by decide +kernel⟩,
   ⟨mk [], Master.span1h1, by decide +kernel⟩,
   ⟨mk [], Master.truss, 4, by decide +kernel⟩,
   ⟨mk [], Master.span1h1, 1, by decide +kernel⟩,
   ⟨(mk []).dev, by decide +kernel⟩,
   ⟨let i : Fin 8 := 7; mk [fun d => d.set (TB.TIMCTL_EN i) (1), fun d => d.set (TB.TIMPER_PER i) (0)], 7, by decide +kernel⟩,
   ⟨let i : Fin 8 := 7; mk [fun d => d.set (TB.TIMCTL_EN i) (1), fun d => d.set (TB.TIMPER_PER i) (1)], 7, by decide +kernel⟩,
   ⟨mk [fun d => d.modStart fun z => { z with phase := .held }], 7, by decide +kernel⟩,
   ⟨mk [fun d => d.set KN.CFG_HBPER (5)], by decide +kernel⟩,
   ⟨mk [fun d => d.modStart fun z => { z with phase := .held }], by decide +kernel⟩,
   ⟨mk [fun d => d.set KN.CFG_TSYNC (2)], by decide +kernel⟩,
   ⟨mk [fun d => d.modStart fun z => { z with phase := .held }], by decide +kernel⟩,
   ⟨let p : Fin 4 := 3; let node : BitVec 14 := 0x05b0#14; let n : BitVec 8 := 0xa0#8; let sof : Nat := 24; mk [fun d => d.modNet fun z => { z with lastSync := some (n.toNat, sof) }, fun d => d.set (CAN.CTL_LBK p) (1), fun d => d.set (CAN.CTL_EN p) 1, fun d => d.set KN.CFG_TSYNC (1), fun d => d.set KN.CFG_TSPORT (p.val), fun d => d.set KN.TSNODE_TSNODE (node.toNat)], 3, 0x05b0#14, 0xa0#8, 24, by decide +kernel⟩,
   ⟨mk [fun d => d.modNet fun z => { z with lastSync := none }], 3, by decide +kernel⟩,
   ⟨mk [fun d => d.modStart fun z => { z with phase := .held }], by decide +kernel⟩⟩

theorem test_meets_RequestsServed :
    (∃ (s : State) (k : KMsg) (t : List KMsg), s.dev.vol.net.inbox = k :: t ∧ s.dev.get DE.STAT_OPSTATE ≠ 0 ∧ k.svc = 0x010 ∧ s.dev.vol.dict.queue.length < 16) ∧
    (∃ (s : State) (k : KMsg) (t : List KMsg), s.dev.vol.net.inbox = k :: t ∧ s.dev.get DE.STAT_OPSTATE ≠ 0 ∧ k.svc = 0x010 ∧ 16 ≤ s.dev.vol.dict.queue.length) ∧
    (∃ (s : State), s.dev.vol.net.inbox = []) ∧
    (∃ (s : State), s.dev.nextReq = none) ∧
    (∃ (s : State) (r : Req) (t : List Req), s.dev.nextReq = some (r, t) ∧ isCustomer r.idx = false ∧ r.op = 1 ∧ objOf r.idx r.sub = none) ∧
    (∃ (s : State) (nonce : BitVec 128) (r : Req) (t : List Req) (o : Obj), s.dev.nextReq = some (r, t) ∧ isCustomer r.idx = false ∧ objOf r.idx r.sub = some o ∧ r.op = 1 ∧ ((((s.dev.modDict fun x => { x with queue := t }).showQueue).readBar r o).1 = 0) ∧ ((((s.dev.modDict fun x => { x with queue := t }).showQueue).readValue s.mem r.idx r.sub o nonce.toNat).1.length ≤ 4086)) ∧
    (∃ (s : State) (nonce : BitVec 128) (r : Req) (t : List Req) (o : Obj), s.dev.nextReq = some (r, t) ∧ isCustomer r.idx = false ∧ objOf r.idx r.sub = some o ∧ r.op = 1 ∧ ((((s.dev.modDict fun x => { x with queue := t }).showQueue).readBar r o).1 = 0) ∧ (4086 < (((s.dev.modDict fun x => { x with queue := t }).showQueue).readValue s.mem r.idx r.sub o nonce.toNat).1.length)) ∧
    (∃ (s : State) (r : Req) (t : List Req) (o : Obj), s.dev.nextReq = some (r, t) ∧ isCustomer r.idx = false ∧ objOf r.idx r.sub = some o ∧ r.op = 1 ∧ ((((s.dev.modDict fun x => { x with queue := t }).showQueue).readBar r o).1 ≠ 0)) ∧
    (∃ (s : State) (r : Req) (t : List Req) (o : Obj), s.dev.nextReq = some (r, t) ∧ isCustomer r.idx = false ∧ objOf r.idx r.sub = some o ∧ r.op = 3 ∧ ((((s.dev.modDict fun x => { x with queue := t }).showQueue).readBar r o).1 = 0) ∧ 1 ≤ r.n ∧ r.n ≤ 4086) ∧
    (∃ (s : State) (r : Req) (t : List Req) (o : Obj), s.dev.nextReq = some (r, t) ∧ isCustomer r.idx = false ∧ objOf r.idx r.sub = some o ∧ r.op = 3 ∧ ((((s.dev.modDict fun x => { x with queue := t }).showQueue).readBar r o).1 ≠ 0)) ∧
    (∃ (s : State) (r : Req) (t : List Req) (o : Obj), s.dev.nextReq = some (r, t) ∧ isCustomer r.idx = false ∧ objOf r.idx r.sub = some o ∧ r.op = 3 ∧ ((((s.dev.modDict fun x => { x with queue := t }).showQueue).readBar r o).1 = 0) ∧ 4086 < r.n) ∧
    (∃ (s : State) (r : Req) (t : List Req) (o : Obj), s.dev.nextReq = some (r, t) ∧ isCustomer r.idx = false ∧ objOf r.idx r.sub = some o ∧ r.op = 4) ∧
    (∃ (s : State) (m : Master) (t : Fin 5) (v : Word), s.dev.mayWrite m (0x40900100 + 0x10 * t.val) = true ∧ (natBit v.toNat 31 = false ∨ s.dev.get (DE.LCTL_BUSY t) = 1)) ∧
    (∃ (s : State) (m : Master) (t : Fin 5) (v : Word), s.dev.mayWrite m (0x40900100 + 0x10 * t.val) = true ∧ natBit v.toNat 31 = true ∧ s.dev.get (DE.LCTL_BUSY t) ≠ 1 ∧ (s.dev.regFieldsWrite m (0x40900100 + 0x10 * t.val) v.toNat).vol.dict.queue.length < 16) ∧
    (∃ (s : State) (m : Master) (t : Fin 5), s.dev.mayWrite m (0x40900100 + 0x10 * t.val) = false) ∧
    (∃ (s : State) (m : Master) (c : Fin 4), s.dev.mayWrite m (0x40900308 + 0x10 * (c.val + 1)) = false) ∧
    (∃ (s : State) (r : Req) (t : List Req), s.dev.nextReq = some (r, t) ∧ isCustomer r.idx = true ∧ (((s.dev.modDict fun x => { x with queue := t }).showQueue).custRange r.idx = none)) ∧
    (∃ (s : State) (r : Req) (t : List Req) (k : Nat) (c : Fin 4), s.dev.nextReq = some (r, t) ∧ isCustomer r.idx = true ∧ (((s.dev.modDict fun x => { x with queue := t }).showQueue).custRange r.idx = some k) ∧ (((s.dev.modDict fun x => { x with queue := t }).showQueue).get (DE.CUSTA_SERVER k) = c.val + 1) ∧ (((s.dev.modDict fun x => { x with queue := t }).showQueue).serverPresent c = true)) ∧
    (∃ (s : State) (r : Req) (t : List Req) (k : Nat) (c : Fin 4), s.dev.nextReq = some (r, t) ∧ isCustomer r.idx = true ∧ (((s.dev.modDict fun x => { x with queue := t }).showQueue).custRange r.idx = some k) ∧ (((s.dev.modDict fun x => { x with queue := t }).showQueue).get (DE.CUSTA_SERVER k) = c.val + 1) ∧ (((s.dev.modDict fun x => { x with queue := t }).showQueue).serverPresent c = false)) ∧
    (∃ (s : State) (m : Master) (c : Fin 4) (v : Word), s.dev.mayWrite m (0x40900308 + 0x10 * (c.val + 1)) = true ∧ natBit v.toNat 31 = false) ∧
    (∃ (s : State) (m : Master) (c : Fin 4) (v : Word), s.dev.mayWrite m (0x40900308 + 0x10 * (c.val + 1)) = true ∧ natBit v.toNat 31 = true ∧ vget ((s.dev.regFieldsWrite m (0x40900308 + 0x10 * (c.val + 1)) v.toNat).busOk 0).vol.dict.cust c = none) ∧
    (∃ (s : State) (m : Master) (c : Fin 4) (v : Word) (r : Req), s.dev.mayWrite m (0x40900308 + 0x10 * (c.val + 1)) = true ∧ natBit v.toNat 31 = true ∧ vget ((s.dev.regFieldsWrite m (0x40900308 + 0x10 * (c.val + 1)) v.toNat).busOk 0).vol.dict.cust c = some r ∧ ((s.dev.regFieldsWrite m (0x40900308 + 0x10 * (c.val + 1)) v.toNat).busOk 0).get (DE.CRSP_CODE (c.val + 1)) ≠ 0) ∧
    (∃ (s : State) (m : Master) (c : Fin 4) (v : Word) (r : Req), s.dev.mayWrite m (0x40900308 + 0x10 * (c.val + 1)) = true ∧ natBit v.toNat 31 = true ∧ vget ((s.dev.regFieldsWrite m (0x40900308 + 0x10 * (c.val + 1)) v.toNat).busOk 0).vol.dict.cust c = some r ∧ ((s.dev.regFieldsWrite m (0x40900308 + 0x10 * (c.val + 1)) v.toNat).busOk 0).get (DE.CRSP_CODE (c.val + 1)) = 0 ∧ r.op = 2) ∧
    (∃ (s : State) (c : Fin 4), vget s.dev.vol.dict.cust c = none) ∧
    (∃ (s : State) (c : Fin 4) (r : Req), vget s.dev.vol.dict.cust c = some r) :=
  ⟨⟨let k : KMsg := { port := 3, node := 14613, svc := 16, prio := 3, tag := 7, body := [0x01#8, 0x01#8, 0x30#8, 0x01#8, 0x04#8, 0x00#8, 0x00#8, 0x00#8] }; mk [fun d => (d.set DE.STAT_OPSTATE 2).modNet fun z => { z with inbox := [k] }], { port := 3, node := 14613, svc := 16, prio := 3, tag := 7, body := [0x01#8, 0x01#8, 0x30#8, 0x01#8, 0x04#8, 0x00#8, 0x00#8, 0x00#8] }, [], by decide +kernel⟩,
   ⟨let k : KMsg := { port := 3, node := 14613, svc := 16, prio := 3, tag := 7, body := [0x01#8, 0x01#8, 0x30#8, 0x01#8, 0x04#8, 0x00#8, 0x00#8, 0x00#8] }; mk [fun d => (d.set DE.STAT_OPSTATE 2).modNet fun z => { z with inbox := [k] }, fun d => d.modDict fun z => { z with queue := List.replicate 16 aRead }], { port := 3, node := 14613, svc := 16, prio := 3, tag := 7, body := [0x01#8, 0x01#8, 0x30#8, 0x01#8, 0x04#8, 0x00#8, 0x00#8, 0x00#8] }, [], by decide +kernel⟩,
   ⟨mk [fun d => d.modNet fun z => { z with inbox := [] }], by decide +kernel⟩,
   ⟨mk [], by decide +kernel⟩,
   ⟨let r : Req := { src := ReqSrc.local 2, op := 1, idx := 24592, sub := 2, n := 1, off := 4, data := [0x00#8] }; mk [fun d => (d.set DE.STAT_OPSTATE 2).modDict fun z => { z with queue := [r] }], { src := ReqSrc.local 2, op := 1, idx := 24592, sub := 2, n := 1, off := 4, data := [0x00#8] }, [], by decide +kernel⟩,
   ⟨let r : Req := { src := ReqSrc.local 2, op := 1, idx := 18433, sub := 4, n := 8, off := 1, data := [0x02#8, 0x40#8] }; mk [fun d => (d.set DE.STAT_OPSTATE 2).modDict fun z => { z with queue := [r] }], 0x00000000000000000000000000000026#128, { src := ReqSrc.local 2, op := 1, idx := 18433, sub := 4, n := 8, off := 1, data := [0x02#8, 0x40#8] }, [], { ty := 5, acc := 0, gates := 0, pers := 1, dflt := 0, lo := 0, hi := 18446744073709551615, mir := Mirror.held }, by decide +kernel⟩,
   ⟨let r : Req := { src := ReqSrc.local 2, op := 1, idx := 28752, sub := 3, n := 0, off := 0, data := [] }; mk [fun d => (d.set DE.STAT_OPSTATE 2).modDict fun z => { z with queue := [r] }, fun d => d.modDict fun z => { z with queue := [{ src := .local 2, op := 1, idx := 0x7050, sub := 3, n := 0, off := 0, data := [] }], dom := [(0x7050 * 256 + 3, List.replicate 4090 5#8)] }], 0x00000000000000000000000000000026#128, { src := ReqSrc.local 2, op := 1, idx := 28752, sub := 3, n := 0, off := 0, data := [] }, [], { ty := 14, acc := 0, gates := 0, pers := 0, dflt := 0, lo := 0, hi := 786432, mir := Mirror.held }, by decide +kernel⟩,
   ⟨let r : Req := { src := ReqSrc.local 2, op := 1, idx := 12384, sub := 2, n := 8, off := 4, data := [0x01#8, 0xff#8, 0x01#8, 0x03#8, 0x05#8, 0x06#8, 0x0c#8, 0x02#8] }; mk [fun d => (d.set DE.STAT_OPSTATE 2).modDict fun z => { z with queue := [r] }], { src := ReqSrc.local 2, op := 1, idx := 12384, sub := 2, n := 8, off := 4, data := [0x01#8, 0xff#8, 0x01#8, 0x03#8, 0x05#8, 0x06#8, 0x0c#8, 0x02#8] }, [], { ty := 2, acc := 2, gates := 0, pers := 0, dflt := 0, lo := 0, hi := 255, mir := Mirror.held }, by decide +kernel⟩,
   ⟨let r : Req := { src := ReqSrc.local 2, op := 3, idx := 18433, sub := 4, n := 8, off := 1, data := [0x02#8, 0x40#8] }; mk [fun d => (d.set DE.STAT_OPSTATE 2).modDict fun z => { z with queue := [r] }], { src := ReqSrc.local 2, op := 3, idx := 18433, sub := 4, n := 8, off := 1, data := [0x02#8, 0x40#8] }, [], { ty := 5, acc := 0, gates := 0, pers := 1, dflt := 0, lo := 0, hi := 18446744073709551615, mir := Mirror.held }, by decide +kernel⟩,
   ⟨let r : Req := { src := ReqSrc.local 2, op := 3, idx := 12384, sub := 2, n := 8, off := 4, data := [0x01#8, 0xff#8, 0x01#8, 0x03#8, 0x05#8, 0x06#8, 0x0c#8, 0x02#8] }; mk [fun d => (d.set DE.STAT_OPSTATE 2).modDict fun z => { z with queue := [r] }], { src := ReqSrc.local 2, op := 3, idx := 12384, sub := 2, n := 8, off := 4, data := [0x01#8, 0xff#8, 0x01#8, 0x03#8, 0x05#8, 0x06#8, 0x0c#8, 0x02#8] }, [], { ty := 2, acc := 2, gates := 0, pers := 0, dflt := 0, lo := 0, hi := 255, mir := Mirror.held }, by decide +kernel⟩,
   ⟨let r : Req := { src := ReqSrc.local 2, op := 3, idx := 18433, sub := 4, n := 4087, off := 1, data := [0x02#8, 0x40#8] }; mk [fun d => (d.set DE.STAT_OPSTATE 2).modDict fun z => { z with queue := [r] }], { src := ReqSrc.local 2, op := 3, idx := 18433, sub := 4, n := 4087, off := 1, data := [0x02#8, 0x40#8] }, [], { ty := 5, acc := 0, gates := 0, pers := 1, dflt := 0, lo := 0, hi := 18446744073709551615, mir := Mirror.held }, by decide +kernel⟩,
   ⟨let r : Req := { src := ReqSrc.local 2, op := 4, idx := 18433, sub := 4, n := 8, off := 1, data := [0x02#8, 0x40#8] }; mk [fun d => (d.set DE.STAT_OPSTATE 2).modDict fun z => { z with queue := [r] }], { src := ReqSrc.local 2, op := 4, idx := 18433, sub := 4, n := 8, off := 1, data := [0x02#8, 0x40#8] }, [], { ty := 5, acc := 0, gates := 0, pers := 1, dflt := 0, lo := 0, hi := 18446744073709551615, mir := Mirror.held }, by decide +kernel⟩,
   ⟨mk [], Master.truss, 0, 0x5571a32d#32, by decide +kernel⟩,
   ⟨mk [], Master.truss, 0, 0x8677ab4f#32, by decide +kernel⟩,
   ⟨mk [], Master.truss, 4, by decide +kernel⟩,
   ⟨mk [], Master.truss, 3, by decide +kernel⟩,
   ⟨let r : Req := { src := ReqSrc.local 2, op := 3, idx := 36866, sub := 4, n := 8, off := 1, data := [0x02#8, 0x40#8] }; mk [fun d => (d.set DE.STAT_OPSTATE 2).modDict fun z => { z with queue := [r] }], { src := ReqSrc.local 2, op := 3, idx := 36866, sub := 4, n := 8, off := 1, data := [0x02#8, 0x40#8] }, [], by decide +kernel⟩,
   ⟨let r : Req := { src := ReqSrc.local 2, op := 0, idx := 36866, sub := 2, n := 1, off := 4, data := [0x00#8] }; let c : Fin 4 := 0; mk [fun d => (d.set DE.STAT_OPSTATE 2).modDict fun z => { z with queue := [r] }, fun d => d.setAll [(DE.CUSTA_EN 1, 1), (DE.CUSTA_LO 1, 0x9000), (DE.CUSTB_HI 1, 0x9fff)], fun d => d.set (DE.CUSTA_SERVER 1) (c.val + 1)], { src := ReqSrc.local 2, op := 0, idx := 36866, sub := 2, n := 1, off := 4, data := [0x00#8] }, [], 1, 0, by decide +kernel⟩,
   ⟨let r : Req := { src := ReqSrc.local 2, op := 3, idx := 36866, sub := 4, n := 8, off := 1, data := [0x02#8, 0x40#8] }; let c : Fin 4 := 3; mk [fun d => (d.set DE.STAT_OPSTATE 2).modDict fun z => { z with queue := [r] }, fun d => d.setAll [(DE.CUSTA_EN 1, 1), (DE.CUSTA_LO 1, 0x9000), (DE.CUSTB_HI 1, 0x9fff)], fun d => d.set (DE.CUSTA_SERVER 1) (c.val + 1)], { src := ReqSrc.local 2, op := 3, idx := 36866, sub := 4, n := 8, off := 1, data := [0x02#8, 0x40#8] }, [], 1, 3, by decide +kernel⟩,
   ⟨mk [], Master.span0, 0, 0x00000007#32, by decide +kernel⟩,
   ⟨mk [], Master.span1, 2, 0x9504275d#32, by decide +kernel⟩,
   ⟨let c : Fin 4 := 0; mk [fun d => (d.set (DE.CRSP_CODE (c.val + 1)) 0x622).modDict fun z => { z with cust := vset z.cust c (some { src := .local 2, op := 2, idx := 0x9000, sub := 1, n := 4, off := 0, data := [1, 2, 3, 4] }) }], Master.span0, 0, 0x80000622#32, { src := ReqSrc.local 2, op := 2, idx := 36864, sub := 1, n := 4, off := 0, data := [0x01#8, 0x02#8, 0x03#8, 0x04#8] }, by decide +kernel⟩,
   ⟨let c : Fin 4 := 0; mk [fun d => d.modDict fun z => { z with cust := vset z.cust c (some { src := .local 2, op := 2, idx := 0x9000, sub := 1, n := 4, off := 0, data := [1, 2, 3, 4] }) }], Master.span0, 0, 0x80000000#32, { src := ReqSrc.local 2, op := 2, idx := 36864, sub := 1, n := 4, off := 0, data := [0x01#8, 0x02#8, 0x03#8, 0x04#8] }, by decide +kernel⟩,
   ⟨let c : Fin 4 := 3; mk [fun d => d.modDict fun z => { z with cust := vset z.cust c (none) }], 3, by decide +kernel⟩,
   ⟨let c : Fin 4 := 3; let r : Req := { src := ReqSrc.local 2, op := 0, idx := 16641, sub := 3, n := 8, off := 4, data := [0x00#8, 0x00#8] }; mk [fun d => d.modDict fun z => { z with cust := vset z.cust c (some r) }], 3, { src := ReqSrc.local 2, op := 0, idx := 16641, sub := 3, n := 8, off := 4, data := [0x00#8, 0x00#8] }, by decide +kernel⟩⟩

theorem test_meets_WritesAndOperatingStates :
    (∃ (s : State) (r : Req) (t : List Req), s.dev.nextReq = some (r, t) ∧ isCustomer r.idx = false ∧ r.op = 2 ∧ objOf r.idx r.sub = none) ∧
    (∃ (s : State) (r : Req) (t : List Req) (o : Obj), s.dev.nextReq = some (r, t) ∧ isCustomer r.idx = false ∧ r.op = 2 ∧ objOf r.idx r.sub = some o ∧ ((((s.dev.modDict fun x => { x with queue := t }).showQueue).writeBar r o).1 ≠ 0)) ∧
    (∃ (s : State) (g : Bool) (sig : SpanSigs) (r : Req) (t : List Req) (o : Obj), s.dev.nextReq = some (r, t) ∧ isCustomer r.idx = false ∧ r.op = 2 ∧ objOf r.idx r.sub = some o ∧ ((((s.dev.modDict fun x => { x with queue := t }).showQueue).writeBar r o).1 = 0) ∧ ((((s.dev.modDict fun x => { x with queue := t }).showQueue).objectWrite s.mem r o g sig).1.vol.dict.start = none)) ∧
    (∃ (s : State) (k : Nat) (v : Nat) (t : List (Nat × Nat)), s.dev.vol.dict.truss = (k, v) :: t ∧ s.dev.trussWorks = true) ∧
    (∃ (s : State) (k : Nat) (v : Nat) (t : List (Nat × Nat)), s.dev.vol.dict.truss = (k, v) :: t ∧ s.dev.trussWorks = false) ∧
    (∃ (s : State) (k : Nat) (v : Nat) (t : List (Nat × Nat)), s.dev.vol.dict.stores = (k, v) :: t) ∧
    (∃ (s : State), s.dev.vol.dict.stores = []) ∧
    (∃ (s : State), s.dev.vol.dict.truss = []) ∧
    (∃ (s : State), s.dev.vol.net.inbox = []) ∧
    (∃ (s : State) (k : KMsg) (t : List KMsg), s.dev.vol.net.inbox = k :: t ∧ k.svc = 0x012 ∧ leNat (k.body.take 1) = 1 ∧ s.dev.get DE.STAT_OPSTATE = 1) ∧
    (∃ (s : State), s.dev.get DE.STAT_OPSTATE = 0) ∧
    (∃ (s : State), s.dev.get DE.STAT_OPSTATE = 2 ∧ s.dev.get LC.LCSTATE_STATE = 3 ∧ s.dev.lineLatched 2 bridges = false) ∧
    (∃ (s : State), s.dev.get DE.STAT_OPSTATE = 2 ∧ s.dev.get LC.LCSTATE_STATE = 3 ∧ s.dev.lineLatched 2 bridges = true) ∧
    (∃ (s : State), s.dev.get DE.STAT_OPSTATE = 2 ∧ s.dev.get LC.LCSTATE_STATE = 6) ∧
    (∃ (s : State), s.dev.get DE.STAT_OPSTATE = 2 ∧ s.dev.get (CE.BSTAT_ST 0) ≠ 3 ∧ s.dev.get (CE.BSTAT_ST 1) ≠ 3) ∧
    (∃ (s : State), s.dev.get DE.STAT_OPSTATE = 2 ∧ s.dev.get (CE.BSTAT_ST 0) = 3) ∧
    (∃ (s : State), s.dev.get DE.STAT_OPSTATE = 3) ∧
    (∃ (s : State), s.dev.get DE.STAT_OPSTATE = 6) ∧
    (∃ (s : State), s.dev.get DE.STAT_OPSTATE = 1 ∧ (∀ n : Chan, s.dev.get (GL.CHSTAT_LINK n) = 1)) ∧
    (∃ (s : State), s.dev.get DE.STAT_OPSTATE = 1 ∧ (∃ n : Chan, s.dev.get (GL.CHSTAT_LINK n) ≠ 1)) :=
  ⟨⟨let r : Req := { src := ReqSrc.local 2, op := 2, idx := 24592, sub := 2, n := 1, off := 4, data := [0x00#8] }; mk [fun d => (d.set DE.STAT_OPSTATE 2).modDict fun z => { z with queue := [r] }], { src := ReqSrc.local 2, op := 2, idx := 24592, sub := 2, n := 1, off := 4, data := [0x00#8] }, [], by decide +kernel⟩,
   ⟨let r : Req := { src := ReqSrc.local 2, op := 2, idx := 18433, sub := 4, n := 8, off := 1, data := [0x02#8, 0x40#8] }; mk [fun d => (d.set DE.STAT_OPSTATE 2).modDict fun z => { z with queue := [r] }], { src := ReqSrc.local 2, op := 2, idx := 18433, sub := 4, n := 8, off := 1, data := [0x02#8, 0x40#8] }, [], { ty := 5, acc := 0, gates := 0, pers := 1, dflt := 0, lo := 0, hi := 18446744073709551615, mir := Mirror.held }, by decide +kernel⟩,
   ⟨let r : Req := { src := ReqSrc.local 2, op := 2, idx := 12289, sub := 1, n := 4, off := 1, data := [0x00#8, 0x00#8, 0x00#8, 0x00#8] }; mk [fun d => (d.set DE.STAT_OPSTATE 2).modDict fun z => { z with queue := [r] }], true, { a0 := 0xeb75ec483c2fc3f9#64, a1 := 0x0000000000000005#64, b0 := 0x0000000000000002#64, b1 := 0x0000000000000006#64 }, { src := ReqSrc.local 2, op := 2, idx := 12289, sub := 1, n := 4, off := 1, data := [0x00#8, 0x00#8, 0x00#8, 0x00#8] }, [], { ty := 8, acc := 1, gates := 0, pers := 0, dflt := 0, lo := -2147483648, hi := 2147483647, mir := Mirror.held }, by decide +kernel⟩,
   ⟨mk [fun d => d.modDict fun z => { z with truss := [(0x300101, 7)] }], 3145985, 7, [], by decide +kernel⟩,
   ⟨mk [fun d => d.modDict fun z => { z with truss := [(0x300101, 7)] }, fun d => d.set KS.TSTAT_MODE 3], 3145985, 7, [], by decide +kernel⟩,
   ⟨let k : Nat := 511; let v : Nat := 1; let t : List (Nat × Nat) := []; mk [fun d => d.modDict fun z => { z with stores := (k, v) :: t }], 511, 1, [], by decide +kernel⟩,
   ⟨mk [fun d => d.modDict fun z => { z with stores := [] }], by decide +kernel⟩,
   ⟨mk [fun d => d.modDict fun z => { z with truss := [] }], by decide +kernel⟩,
   ⟨mk [fun d => d.modNet fun z => { z with inbox := [] }], by decide +kernel⟩,
   ⟨let k : KMsg := { port := 3, node := 4571, svc := 18, prio := 7, tag := 1, body := [0x01#8, 0x01#8, 0x30#8, 0x01#8, 0x04#8, 0x00#8, 0x00#8, 0x00#8] }; mk [fun d => (d.set DE.STAT_OPSTATE 2).modNet fun z => { z with inbox := [k] }, fun d => d.set DE.STAT_OPSTATE (1)], { port := 3, node := 4571, svc := 18, prio := 7, tag := 1, body := [0x01#8, 0x01#8, 0x30#8, 0x01#8, 0x04#8, 0x00#8, 0x00#8, 0x00#8] }, [], by decide +kernel⟩,
   ⟨mk [fun d => d.set DE.STAT_OPSTATE (0)], by decide +kernel⟩,
   ⟨mk [fun d => d.set DE.STAT_OPSTATE (2), fun d => d.set LC.LCSTATE_STATE (3)], by decide +kernel⟩,
   ⟨mk [fun d => d.set DE.STAT_OPSTATE (2), fun d => d.set LC.LCSTATE_STATE (3), fun d => d.setAll [(FCOL.STATUS_L 59, 1), (FCOL.BRA_L 59, 1), (FCOL.BRB_L 59, 1)]], by decide +kernel⟩,
   ⟨mk [fun d => d.set DE.STAT_OPSTATE (2), fun d => d.set LC.LCSTATE_STATE (6)], by decide +kernel⟩,
   ⟨mk [fun d => d.set DE.STAT_OPSTATE (2), fun d => d.set (CE.BSTAT_ST 0) (5), fun d => d.set (CE.BSTAT_ST 1) (1)], by decide +kernel⟩,
   ⟨mk [fun d => d.set DE.STAT_OPSTATE (2), fun d => d.set (CE.BSTAT_ST 0) (3)], by decide +kernel⟩,
   ⟨mk [fun d => d.set DE.STAT_OPSTATE (3)], by decide +kernel⟩,
   ⟨mk [fun d => d.set DE.STAT_OPSTATE (6)], by decide +kernel⟩,
   ⟨mk [fun d => d.set DE.STAT_OPSTATE (1), fun d => d.each allChans fun d n => d.set (GL.CHSTAT_LINK n) 1], by decide +kernel⟩,
   ⟨mk [fun d => d.set DE.STAT_OPSTATE (1)], by decide +kernel⟩⟩

theorem test_meets_MirroredWrite :
    (∃ (s : State) (r : Req) (t : List Req) (k : Fin 24) (v : BitVec 32), s.dev.nextReq = some (r, t) ∧ r.op = 2 ∧ r.idx = 0x2600 ∧ r.sub = k.val + 1 ∧ r.n = 4 ∧ r.data = leList 4 v.toNat ∧ s.dev.get DE.STAT_OPSTATE ≠ 3 ∧ s.dev.get DE.STAT_OPSTATE ≠ 6 ∧ s.dev.domainUp 6 = true ∧ s.dev.lands.failN = true ∧ s.dev.get TH.CTL_LOCK = 0) ∧
    (∃ (s : State) (r : Req) (t : List Req) (k : Fin 24) (v : BitVec 32), s.dev.nextReq = some (r, t) ∧ r.op = 2 ∧ r.idx = 0x2600 ∧ r.sub = k.val + 1 ∧ r.n = 4 ∧ r.data = leList 4 v.toNat ∧ s.dev.get DE.STAT_OPSTATE ≠ 3 ∧ s.dev.get DE.STAT_OPSTATE ≠ 6 ∧ s.dev.domainUp 6 = true ∧ s.dev.lands.failN = true ∧ s.dev.get TH.CTL_LOCK = 1) :=
  ⟨⟨mk [fun d => (d.set DE.STAT_OPSTATE 2).modDict fun z => { z with queue := [{ src := .local 2, op := 2, idx := 0x2600, sub := 24, n := 4, off := 0, data := leList 4 0x80007FFF }] }, fun d => { d with lands := { d.lands with failN := true } }, fun d => d.set TH.CTL_LOCK 0], { src := .local 2, op := 2, idx := 0x2600, sub := 24, n := 4, off := 0, data := leList 4 0x80007FFF }, [], 23, 0x80007FFF#32, by decide +kernel⟩,
   ⟨mk [fun d => (d.set DE.STAT_OPSTATE 2).modDict fun z => { z with queue := [{ src := .local 2, op := 2, idx := 0x2600, sub := 24, n := 4, off := 0, data := leList 4 0x80007FFF }] }, fun d => { d with lands := { d.lands with failN := true } }, fun d => d.set TH.CTL_LOCK 1], { src := .local 2, op := 2, idx := 0x2600, sub := 24, n := 4, off := 0, data := leList 4 0x80007FFF }, [], 23, 0x80007FFF#32, by decide +kernel⟩⟩

theorem test_meets_SteppedOperations :
    (∃ (s : State), s.dev.nextReq ≠ none) ∧
    (∃ (s : State) (i : Nat) (t : List (Nat × Bool)), s.dev.nextReq = none ∧ s.dev.vol.dict.ops = (i, false) :: t) ∧
    (∃ (s : State) (i : Nat) (t : List (Nat × Bool)), s.dev.nextReq = none ∧ s.dev.vol.dict.ops = (i, true) :: t) ∧
    (∃ (s : State) (i : BitVec 16), s.dev.get DE.STAT_OPSTATE = 2 ∧ cancellable i.toNat = true) ∧
    (∃ (s : State) (i : BitVec 16), s.dev.get DE.STAT_OPSTATE = 2 ∧ isOp i.toNat = true ∧ cancellable i.toNat = false) ∧
    (∃ (d : Dev) (i : Nat), i < 0x8000 ∧ (i, true) ∈ d.vol.dict.ops) ∧
    (∃ (d : Dev) (i : Nat), i < 0x8000 ∧ (i, true) ∉ d.vol.dict.ops ∧ (i, false) ∈ d.vol.dict.ops) ∧
    (∃ (d : Dev) (i : Nat) (stateOk : Bool), i < 0x8000 ∧ d.opRunning i = false ∧ stateOk = false) ∧
    (∃ (d : Dev) (i : Nat) (stateOk : Bool), i < 0x8000 ∧ d.opRunning i = false ∧ stateOk = true ∧ 4 ≤ d.vol.dict.ops.length) ∧
    (∃ (d : Dev) (i : Nat) (stateOk : Bool) (rangeOk : Bool), i < 0x8000 ∧ d.opRunning i = false ∧ stateOk = true ∧ d.vol.dict.ops.length < 4 ∧ rangeOk = false) ∧
    (∃ (d : Dev) (i : Nat) (args : List (Nat × Nat)) (stateOk : Bool) (rangeOk : Bool) (a : Nat) (v : Nat), i < 0x8000 ∧ d.opRunning i = false ∧ stateOk = true ∧ d.vol.dict.ops.length < 4 ∧ rangeOk = true ∧ a < 256 ∧ args = [(a, v)]) ∧
    (∃ (s : State) (x : BitVec 16), (s.dev.opBegin 0x7001 1 [(1, x.toNat)] (s.dev.opStateOk 0x7001) true).2 = true) ∧
    (∃ (s : State) (x : BitVec 16), (s.dev.opBegin 0x7001 1 [(1, x.toNat)] (s.dev.opStateOk 0x7001) true).2 = false) ∧
    (∃ (s : State), ¬ ((s.dev.opBegin 0x7002 4 [(4, 1)] (s.dev.opStateOk 0x7002) true).2 = true ∧ ((s.dev.opBegin 0x7002 4 [(4, 1)] (s.dev.opStateOk 0x7002) true).1).objVal 0x7002 4 0 = 1)) ∧
    (∃ (s : State), ((s.dev.opBegin 0x7002 4 [(4, 1)] (s.dev.opStateOk 0x7002) true).2 = true ∧ ((s.dev.opBegin 0x7002 4 [(4, 1)] (s.dev.opStateOk 0x7002) true).1).objVal 0x7002 4 0 = 1) ∧ 1 < (((s.dev.opBegin 0x7002 4 [(4, 1)] (s.dev.opStateOk 0x7002) true).1).objVal 0x7002 1 0)) ∧
    (∃ (s : State), ((s.dev.opBegin 0x7002 4 [(4, 1)] (s.dev.opStateOk 0x7002) true).2 = true ∧ ((s.dev.opBegin 0x7002 4 [(4, 1)] (s.dev.opStateOk 0x7002) true).1).objVal 0x7002 4 0 = 1) ∧ (((s.dev.opBegin 0x7002 4 [(4, 1)] (s.dev.opStateOk 0x7002) true).1).objVal 0x7002 1 0) ≤ 1 ∧ (s.dev.get LC.FLCTL_BUSY = 1 ∨ s.dev.bankRuns (0x08000000 + 0x800000 * (((s.dev.opBegin 0x7002 4 [(4, 1)] (s.dev.opStateOk 0x7002) true).1).objVal 0x7002 1 0)) = true)) ∧
    (∃ (s : State) (ok : Bool), ((s.dev.opBegin 0x7002 4 [(4, 1)] (s.dev.opStateOk 0x7002) true).2 = true ∧ ((s.dev.opBegin 0x7002 4 [(4, 1)] (s.dev.opStateOk 0x7002) true).1).objVal 0x7002 4 0 = 1) ∧ (((s.dev.opBegin 0x7002 4 [(4, 1)] (s.dev.opStateOk 0x7002) true).1).objVal 0x7002 1 0) ≤ 1 ∧ s.dev.get LC.FLCTL_BUSY ≠ 1 ∧ s.dev.bankRuns (0x08000000 + 0x800000 * (((s.dev.opBegin 0x7002 4 [(4, 1)] (s.dev.opStateOk 0x7002) true).1).objVal 0x7002 1 0)) = false ∧ ok = true) ∧
    (∃ (s : State), (s.dev.opBegin 0x7002 4 [(4, 1)] (s.dev.opStateOk 0x7002) true).2 = true ∧ (s.dev.opBegin 0x7002 4 [(4, 1)] (s.dev.opStateOk 0x7002) true).1.objVal 0x7002 4 0 = 1 ∧ (s.dev.opBegin 0x7002 4 [(4, 1)] (s.dev.opStateOk 0x7002) true).1.objVal 0x7002 1 0 ≤ 1 ∧ s.dev.get LC.FLCTL_BUSY ≠ 1 ∧ s.dev.bankRuns (0x08000000 + 0x800000 * (s.dev.opBegin 0x7002 4 [(4, 1)] (s.dev.opStateOk 0x7002) true).1.objVal 0x7002 1 0) = false) ∧
    (∃ (s : State), s.mem.wf = true ∧ ¬ ((s.dev.opBegin 0x7002 4 [(4, 2)] (s.dev.opStateOk 0x7002) true).2 = true ∧ ((s.dev.opBegin 0x7002 4 [(4, 2)] (s.dev.opStateOk 0x7002) true).1).objVal 0x7002 4 0 = 2)) ∧
    (∃ (s : State), s.mem.wf = true ∧ ((s.dev.opBegin 0x7002 4 [(4, 2)] (s.dev.opStateOk 0x7002) true).2 = true ∧ ((s.dev.opBegin 0x7002 4 [(4, 2)] (s.dev.opStateOk 0x7002) true).1).objVal 0x7002 4 0 = 2) ∧ (1 < (((s.dev.opBegin 0x7002 4 [(4, 2)] (s.dev.opStateOk 0x7002) true).1).objVal 0x7002 1 0) ∨ ((s.dev.opBegin 0x7002 4 [(4, 2)] (s.dev.opStateOk 0x7002) true).1).stagedOk 0x7002 0x800000 = false)) ∧
    (∃ (s : State), s.mem.wf = true ∧ ((s.dev.opBegin 0x7002 4 [(4, 2)] (s.dev.opStateOk 0x7002) true).2 = true ∧ ((s.dev.opBegin 0x7002 4 [(4, 2)] (s.dev.opStateOk 0x7002) true).1).objVal 0x7002 4 0 = 2) ∧ (((s.dev.opBegin 0x7002 4 [(4, 2)] (s.dev.opStateOk 0x7002) true).1).objVal 0x7002 1 0) ≤ 1 ∧ ((s.dev.opBegin 0x7002 4 [(4, 2)] (s.dev.opStateOk 0x7002) true).1).stagedOk 0x7002 0x800000 = true ∧ (((s.dev.opBegin 0x7002 4 [(4, 2)] (s.dev.opStateOk 0x7002) true).1).domain 0x7002 3) = []) ∧
    (∃ (s : State), s.mem.wf = true ∧ ((s.dev.opBegin 0x7002 4 [(4, 2)] (s.dev.opStateOk 0x7002) true).2 = true ∧ ((s.dev.opBegin 0x7002 4 [(4, 2)] (s.dev.opStateOk 0x7002) true).1).objVal 0x7002 4 0 = 2) ∧ (((s.dev.opBegin 0x7002 4 [(4, 2)] (s.dev.opStateOk 0x7002) true).1).objVal 0x7002 1 0) ≤ 1 ∧ ((s.dev.opBegin 0x7002 4 [(4, 2)] (s.dev.opStateOk 0x7002) true).1).stagedOk 0x7002 0x800000 = true ∧ (((s.dev.opBegin 0x7002 4 [(4, 2)] (s.dev.opStateOk 0x7002) true).1).domain 0x7002 3) ≠ [] ∧ (s.dev.get LC.FLCTL_BUSY = 1 ∨ s.dev.bankRuns (0x08000000 + 0x800000 * (((s.dev.opBegin 0x7002 4 [(4, 2)] (s.dev.opStateOk 0x7002) true).1).objVal 0x7002 1 0) + ((s.dev.opBegin 0x7002 4 [(4, 2)] (s.dev.opStateOk 0x7002) true).1).objVal 0x7002 2 0) = true)) ∧
    (∃ (s : State) (fail : Option (Fin 255)), s.mem.wf = true ∧ ((s.dev.opBegin 0x7002 4 [(4, 2)] (s.dev.opStateOk 0x7002) true).2 = true ∧ ((s.dev.opBegin 0x7002 4 [(4, 2)] (s.dev.opStateOk 0x7002) true).1).objVal 0x7002 4 0 = 2) ∧ (((s.dev.opBegin 0x7002 4 [(4, 2)] (s.dev.opStateOk 0x7002) true).1).objVal 0x7002 1 0) ≤ 1 ∧ ((s.dev.opBegin 0x7002 4 [(4, 2)] (s.dev.opStateOk 0x7002) true).1).stagedOk 0x7002 0x800000 = true ∧ (((s.dev.opBegin 0x7002 4 [(4, 2)] (s.dev.opStateOk 0x7002) true).1).domain 0x7002 3) ≠ [] ∧ s.dev.get LC.FLCTL_BUSY ≠ 1 ∧ s.dev.bankRuns (0x08000000 + 0x800000 * (((s.dev.opBegin 0x7002 4 [(4, 2)] (s.dev.opStateOk 0x7002) true).1).objVal 0x7002 1 0) + ((s.dev.opBegin 0x7002 4 [(4, 2)] (s.dev.opStateOk 0x7002) true).1).objVal 0x7002 2 0) = false ∧ failingLine s.mem (0x08000000 + 0x800000 * (((s.dev.opBegin 0x7002 4 [(4, 2)] (s.dev.opStateOk 0x7002) true).1).objVal 0x7002 1 0) + ((s.dev.opBegin 0x7002 4 [(4, 2)] (s.dev.opStateOk 0x7002) true).1).objVal 0x7002 2 0) ((((s.dev.opBegin 0x7002 4 [(4, 2)] (s.dev.opStateOk 0x7002) true).1).domain 0x7002 3).length / 16) fail = none) ∧
    (∃ (s : State) (fail : Option (Fin 255)) (k : Nat), s.mem.wf = true ∧ ((s.dev.opBegin 0x7002 4 [(4, 2)] (s.dev.opStateOk 0x7002) true).2 = true ∧ ((s.dev.opBegin 0x7002 4 [(4, 2)] (s.dev.opStateOk 0x7002) true).1).objVal 0x7002 4 0 = 2) ∧ (((s.dev.opBegin 0x7002 4 [(4, 2)] (s.dev.opStateOk 0x7002) true).1).objVal 0x7002 1 0) ≤ 1 ∧ ((s.dev.opBegin 0x7002 4 [(4, 2)] (s.dev.opStateOk 0x7002) true).1).stagedOk 0x7002 0x800000 = true ∧ (((s.dev.opBegin 0x7002 4 [(4, 2)] (s.dev.opStateOk 0x7002) true).1).domain 0x7002 3) ≠ [] ∧ s.dev.get LC.FLCTL_BUSY ≠ 1 ∧ s.dev.bankRuns (0x08000000 + 0x800000 * (((s.dev.opBegin 0x7002 4 [(4, 2)] (s.dev.opStateOk 0x7002) true).1).objVal 0x7002 1 0) + ((s.dev.opBegin 0x7002 4 [(4, 2)] (s.dev.opStateOk 0x7002) true).1).objVal 0x7002 2 0) = false ∧ failingLine s.mem (0x08000000 + 0x800000 * (((s.dev.opBegin 0x7002 4 [(4, 2)] (s.dev.opStateOk 0x7002) true).1).objVal 0x7002 1 0) + ((s.dev.opBegin 0x7002 4 [(4, 2)] (s.dev.opStateOk 0x7002) true).1).objVal 0x7002 2 0) ((((s.dev.opBegin 0x7002 4 [(4, 2)] (s.dev.opStateOk 0x7002) true).1).domain 0x7002 3).length / 16) fail = some k) ∧
    (∃ (mem : Mem) (a : Nat) (n : Nat) (k : Nat) (fail : Option (Fin 255)), failingLine mem a n fail = some k) ∧
    (∃ (s : State), ¬ ((s.dev.opBegin 0x7004 4 [(4, 2)] (s.dev.opStateOk 0x7004) true).2 = true ∧ ((s.dev.opBegin 0x7004 4 [(4, 2)] (s.dev.opStateOk 0x7004) true).1).objVal 0x7004 4 0 = 2)) ∧
    (∃ (s : State), ((s.dev.opBegin 0x7004 4 [(4, 2)] (s.dev.opStateOk 0x7004) true).2 = true ∧ ((s.dev.opBegin 0x7004 4 [(4, 2)] (s.dev.opStateOk 0x7004) true).1).objVal 0x7004 4 0 = 2) ∧ ((s.dev.opBegin 0x7004 4 [(4, 2)] (s.dev.opStateOk 0x7004) true).1).stagedOk 0x7004 0x200000 = true ∧ s.dev.domainUp 2 = true) ∧
    (∃ (s : State), ((s.dev.opBegin 0x7004 4 [(4, 2)] (s.dev.opStateOk 0x7004) true).2 = true ∧ ((s.dev.opBegin 0x7004 4 [(4, 2)] (s.dev.opStateOk 0x7004) true).1).objVal 0x7004 4 0 = 2) ∧ ((s.dev.opBegin 0x7004 4 [(4, 2)] (s.dev.opStateOk 0x7004) true).1).stagedOk 0x7004 0x200000 = true ∧ s.dev.domainUp 2 = false) ∧
    (∃ (s : State), ((s.dev.opBegin 0x7004 4 [(4, 2)] (s.dev.opStateOk 0x7004) true).2 = true ∧ ((s.dev.opBegin 0x7004 4 [(4, 2)] (s.dev.opStateOk 0x7004) true).1).objVal 0x7004 4 0 = 2) ∧ ((s.dev.opBegin 0x7004 4 [(4, 2)] (s.dev.opStateOk 0x7004) true).1).stagedOk 0x7004 0x200000 = false) ∧
    (∃ (s : State), ¬ ((s.dev.opBegin 0x7004 4 [(4, 1)] (s.dev.opStateOk 0x7004) true).2 = true ∧ ((s.dev.opBegin 0x7004 4 [(4, 1)] (s.dev.opStateOk 0x7004) true).1).objVal 0x7004 4 0 = 1)) ∧
    (∃ (s : State), ((s.dev.opBegin 0x7004 4 [(4, 1)] (s.dev.opStateOk 0x7004) true).2 = true ∧ ((s.dev.opBegin 0x7004 4 [(4, 1)] (s.dev.opStateOk 0x7004) true).1).objVal 0x7004 4 0 = 1) ∧ s.dev.imageValid s.mem 0x20000000 = true ∧ natBit (s.mem.readLE 0x20000010 4) 0 = false) ∧
    (∃ (s : State), ((s.dev.opBegin 0x7004 4 [(4, 1)] (s.dev.opStateOk 0x7004) true).2 = true ∧ ((s.dev.opBegin 0x7004 4 [(4, 1)] (s.dev.opStateOk 0x7004) true).1).objVal 0x7004 4 0 = 1) ∧ s.dev.imageValid s.mem 0x20000000 = false) ∧
    (∃ (s : State), s.dev.get DE.STAT_OPSTATE = 0) ∧
    (∃ (s : State) (x : BitVec 16), s.dev.get DE.STAT_OPSTATE ≠ 0 ∧ isOp x.toNat = false ∧ maxSub x.toNat = 0) ∧
    (∃ (s : State) (x : BitVec 16), s.dev.get DE.STAT_OPSTATE = 6 ∧ isOp x.toNat = true) :=
  ⟨⟨mk [fun d => (d.set DE.STAT_OPSTATE 2).modDict fun z => { z with queue := [aRead] }], by decide +kernel⟩,
   ⟨let i : Nat := 0; let t : List (Nat × Bool) := []; mk [fun d => d.modDict fun z => { z with ops := (i, false) :: t }], 0, [], by decide +kernel⟩,
   ⟨let i : Nat := 0; let t : List (Nat × Bool) := []; mk [fun d => d.modDict fun z => { z with ops := (i, true) :: t }], 0, [], by decide +kernel⟩,
   ⟨let i : BitVec 16 := 0x7040#16; mk [fun d => d.set DE.STAT_OPSTATE (2), fun d => d.modDict fun z => { z with ops := [(i.toNat, false), (0x7050, false)] }], 0x7040#16, by decide +kernel⟩,
   ⟨mk [fun d => d.set DE.STAT_OPSTATE (2)], 0x7020#16, by decide +kernel⟩,
   ⟨(mk [fun d => d.modDict fun z => { z with ops := [(0x7001,false),(0x7002,true)] }]).dev, 28674, by decide +kernel⟩,
   ⟨(mk [fun d => d.modDict fun z => { z with ops := [(0x7002,false),(0x7001,true)] }]).dev, 28674, by decide +kernel⟩,
   ⟨(mk []).dev, 28676, false, by decide +kernel⟩,
   ⟨(mk [fun d => d.modDict fun z => { z with ops := [(1,false),(2,true),(3,false),(4,false)] }]).dev, 28736, true, by decide +kernel⟩,
   ⟨(mk []).dev, 28736, true, false, by decide +kernel⟩,
   ⟨(mk []).dev, 28674, [(3, 0)], true, true, 3, 0, by decide +kernel⟩,
   ⟨mk [fun d => ((d.modDict fun z => { z with queue := [], start := none, ops := [], dom := [(objKey 0x7002 3, (List.range 32).map fun i => BitVec.ofNat 8 i), (objKey 0x7004 3, (List.range 48).map fun i => BitVec.ofNat 8 i)] }).set DE.STAT_OPSTATE (1)).set LC.FLCTL_BUSY 0], 0x2600#16, by decide +kernel⟩,
   ⟨mk [fun d => ((d.modDict fun z => { z with queue := [], start := none, ops := [], dom := [(objKey 0x7002 3, (List.range 32).map fun i => BitVec.ofNat 8 i), (objKey 0x7004 3, (List.range 48).map fun i => BitVec.ofNat 8 i)] }).set DE.STAT_OPSTATE (1)).set LC.FLCTL_BUSY 0, fun d => (d.set DE.STAT_OPSTATE 2).modDict fun z => { z with ops := [(0x7010, false)] }], 0x2600#16, by decide +kernel⟩,
   ⟨mk [fun d => ((d.modDict fun z => { z with queue := [], start := none, ops := [], dom := [(objKey 0x7002 3, (List.range 32).map fun i => BitVec.ofNat 8 i), (objKey 0x7004 3, (List.range 48).map fun i => BitVec.ofNat 8 i)] }).set DE.STAT_OPSTATE (1)).set LC.FLCTL_BUSY 0, fun d => (d.set DE.STAT_OPSTATE 2).modDict fun z => { z with ops := [(0x7010, false)] }], by decide +kernel⟩,
   ⟨mk [fun d => ((d.modDict fun z => { z with queue := [], start := none, ops := [], dom := [(objKey 0x7002 3, (List.range 32).map fun i => BitVec.ofNat 8 i), (objKey 0x7004 3, (List.range 48).map fun i => BitVec.ofNat 8 i)] }).set DE.STAT_OPSTATE (1)).set LC.FLCTL_BUSY 0, fun d => d.setObjVal 0x7002 1 (2 + 2)], by decide +kernel⟩,
   ⟨mk [fun d => d.set LC.FLCTL_BUSY (1), fun d => ((d.modDict fun z => { z with queue := [], start := none, ops := [], dom := [(objKey 0x7002 3, (List.range 32).map fun i => BitVec.ofNat 8 i), (objKey 0x7004 3, (List.range 48).map fun i => BitVec.ofNat 8 i)] }).set DE.STAT_OPSTATE (1)).set LC.FLCTL_BUSY 0, fun d => (d.setObjVal 0x7002 1 (0)).setObjVal 0x7002 2 (16 * (3)), fun d => d.set LC.FLCTL_BUSY 1], by decide +kernel⟩,
   ⟨mk [fun d => d.set LC.FLCTL_BUSY (1), fun d => ((d.modDict fun z => { z with queue := [], start := none, ops := [], dom := [(objKey 0x7002 3, (List.range 32).map fun i => BitVec.ofNat 8 i), (objKey 0x7004 3, (List.range 48).map fun i => BitVec.ofNat 8 i)] }).set DE.STAT_OPSTATE (1)).set LC.FLCTL_BUSY 0, fun d => (d.setObjVal 0x7002 1 (0)).setObjVal 0x7002 2 (16 * (3))], true, by decide +kernel⟩,
   ⟨mk [fun d => (d.modDict fun z => { z with queue := [], start := none, ops := [] }).set DE.STAT_OPSTATE 2, fun d => (d.setObjVal 0x7002 1 1).set LC.FLCTL_BUSY 0], by decide +kernel⟩,
   ⟨mk [fun d => ((d.modDict fun z => { z with queue := [], start := none, ops := [], dom := [(objKey 0x7002 3, (List.range 32).map fun i => BitVec.ofNat 8 i), (objKey 0x7004 3, (List.range 48).map fun i => BitVec.ofNat 8 i)] }).set DE.STAT_OPSTATE (1)).set LC.FLCTL_BUSY 0, fun d => (d.set DE.STAT_OPSTATE 2).modDict fun z => { z with ops := [(0x7010, false)] }], by decide +kernel⟩,
   ⟨mk [fun d => ((d.modDict fun z => { z with queue := [], start := none, ops := [], dom := [(objKey 0x7002 3, (List.range 32).map fun i => BitVec.ofNat 8 i), (objKey 0x7004 3, (List.range 48).map fun i => BitVec.ofNat 8 i)] }).set DE.STAT_OPSTATE (1)).set LC.FLCTL_BUSY 0, fun d => d.setObjVal 0x7002 1 (2 + 2)], by decide +kernel⟩,
   ⟨mk [fun d => ((d.modDict fun z => { z with queue := [], start := none, ops := [], dom := [(objKey 0x7002 3, (List.range 32).map fun i => BitVec.ofNat 8 i), (objKey 0x7004 3, (List.range 48).map fun i => BitVec.ofNat 8 i)] }).set DE.STAT_OPSTATE (1)).set LC.FLCTL_BUSY 0, fun d => d.setDomain 0x7002 3 []], by decide +kernel⟩,
   ⟨mk [fun d => d.set LC.FLCTL_BUSY (1), fun d => ((d.modDict fun z => { z with queue := [], start := none, ops := [], dom := [(objKey 0x7002 3, (List.range 32).map fun i => BitVec.ofNat 8 i), (objKey 0x7004 3, (List.range 48).map fun i => BitVec.ofNat 8 i)] }).set DE.STAT_OPSTATE (1)).set LC.FLCTL_BUSY 0, fun d => (d.setObjVal 0x7002 1 (0)).setObjVal 0x7002 2 (16 * (3)), fun d => d.set LC.FLCTL_BUSY 1], by decide +kernel⟩,
   ⟨mk [fun d => d.set LC.FLCTL_BUSY (2), fun d => ((d.modDict fun z => { z with queue := [], start := none, ops := [], dom := [(objKey 0x7002 3, (List.range 32).map fun i => BitVec.ofNat 8 i), (objKey 0x7004 3, (List.range 48).map fun i => BitVec.ofNat 8 i)] }).set DE.STAT_OPSTATE (1)).set LC.FLCTL_BUSY 0, fun d => (d.setObjVal 0x7002 1 (0)).setObjVal 0x7002 2 (16 * (3))], some 46, by decide +kernel⟩,
   ⟨mkMem (Mem.writeLE [] (0x08000010 + 0x800000 * (0) + 16 * (3)) 1 5) [fun d => d.set LC.FLCTL_BUSY (2), fun d => ((d.modDict fun z => { z with queue := [], start := none, ops := [], dom := [(objKey 0x7002 3, (List.range 32).map fun i => BitVec.ofNat 8 i), (objKey 0x7004 3, (List.range 48).map fun i => BitVec.ofNat 8 i)] }).set DE.STAT_OPSTATE (1)).set LC.FLCTL_BUSY 0, fun d => (d.setObjVal 0x7002 1 (0)).setObjVal 0x7002 2 (16 * (3))], some 46, 1, by decide +kernel⟩,
   ⟨[], 2, 4, 0, some 171, by decide +kernel⟩,
   ⟨mk [fun d => ((d.modDict fun z => { z with queue := [], start := none, ops := [], dom := [(objKey 0x7002 3, (List.range 32).map fun i => BitVec.ofNat 8 i), (objKey 0x7004 3, (List.range 48).map fun i => BitVec.ofNat 8 i)] }).set DE.STAT_OPSTATE (1)).set LC.FLCTL_BUSY 0, fun d => ((d.set LC.LCSTATE_STATE 1).modStart fun z => { z with bootMode := 1 }).set DE.STAT_OPSTATE 1, fun d => (d.set DE.STAT_OPSTATE 2).modDict fun z => { z with ops := [(0x7010, false)] }], by decide +kernel⟩,
   ⟨mk [fun d => ((d.modDict fun z => { z with queue := [], start := none, ops := [], dom := [(objKey 0x7002 3, (List.range 32).map fun i => BitVec.ofNat 8 i), (objKey 0x7004 3, (List.range 48).map fun i => BitVec.ofNat 8 i)] }).set DE.STAT_OPSTATE (1)).set LC.FLCTL_BUSY 0, fun d => ((d.set LC.LCSTATE_STATE 1).modStart fun z => { z with bootMode := 1 }).set DE.STAT_OPSTATE 1], by decide +kernel⟩,
   ⟨mk [fun d => ((d.modDict fun z => { z with queue := [], start := none, ops := [], dom := [(objKey 0x7002 3, (List.range 32).map fun i => BitVec.ofNat 8 i), (objKey 0x7004 3, (List.range 48).map fun i => BitVec.ofNat 8 i)] }).set DE.STAT_OPSTATE (1)).set LC.FLCTL_BUSY 0, fun d => ((d.set LC.LCSTATE_STATE 1).modStart fun z => { z with bootMode := 1 }).set DE.STAT_OPSTATE 1, fun d => d.set (PIER.PDCTL_ST 2) 2], by decide +kernel⟩,
   ⟨mk [fun d => ((d.modDict fun z => { z with queue := [], start := none, ops := [], dom := [(objKey 0x7002 3, (List.range 32).map fun i => BitVec.ofNat 8 i), (objKey 0x7004 3, (List.range 48).map fun i => BitVec.ofNat 8 i)] }).set DE.STAT_OPSTATE (1)).set LC.FLCTL_BUSY 0, fun d => ((d.set LC.LCSTATE_STATE 1).modStart fun z => { z with bootMode := 1 }).set DE.STAT_OPSTATE 1, fun d => d.setObjVal 0x7004 2 5], by decide +kernel⟩,
   ⟨mk [fun d => ((d.modDict fun z => { z with queue := [], start := none, ops := [], dom := [(objKey 0x7002 3, (List.range 32).map fun i => BitVec.ofNat 8 i), (objKey 0x7004 3, (List.range 48).map fun i => BitVec.ofNat 8 i)] }).set DE.STAT_OPSTATE (1)).set LC.FLCTL_BUSY 0, fun d => ((d.set LC.LCSTATE_STATE 1).modStart fun z => { z with bootMode := 1 }).set DE.STAT_OPSTATE 1, fun d => (d.set DE.STAT_OPSTATE 2).modDict fun z => { z with ops := [(0x7010, false)] }], by decide +kernel⟩,
   ⟨mkMem imgMem [fun d => ((d.modDict fun z => { z with queue := [], start := none, ops := [], dom := [(objKey 0x7002 3, (List.range 32).map fun i => BitVec.ofNat 8 i), (objKey 0x7004 3, (List.range 48).map fun i => BitVec.ofNat 8 i)] }).set DE.STAT_OPSTATE (1)).set LC.FLCTL_BUSY 0, fun d => ((d.set LC.LCSTATE_STATE 1).modStart fun z => { z with bootMode := 1 }).set DE.STAT_OPSTATE 1, fun d => { d with nv := { d.nv with fuses := { d.nv.fuses with maker := imgHash } } }], by decide +kernel⟩,
   ⟨mk [fun d => ((d.modDict fun z => { z with queue := [], start := none, ops := [], dom := [(objKey 0x7002 3, (List.range 32).map fun i => BitVec.ofNat 8 i), (objKey 0x7004 3, (List.range 48).map fun i => BitVec.ofNat 8 i)] }).set DE.STAT_OPSTATE (1)).set LC.FLCTL_BUSY 0, fun d => ((d.set LC.LCSTATE_STATE 1).modStart fun z => { z with bootMode := 1 }).set DE.STAT_OPSTATE 1], by decide +kernel⟩,
   ⟨mk [fun d => d.set DE.STAT_OPSTATE (0)], by decide +kernel⟩,
   ⟨mk [fun d => d.set DE.STAT_OPSTATE (5)], 0x1234#16, by decide +kernel⟩,
   ⟨mk [fun d => d.set DE.STAT_OPSTATE (6)], 0x7020#16, by decide +kernel⟩⟩

theorem test_meets_DomainEntry :
    (∃ (s : State) (m : Master) (p : Fin 9), s.dev.mayWrite m (0x40000200 + 4 * p) = false) ∧
    (∃ (s : State) (m : Master) (p : Fin 9), p ≠ 0 ∧ s.dev.mayWrite m (0x40000200 + 4 * p) = true ∧ s.dev.domSt p ≠ 1 ∧ s.dev.entryBlock p false false = 0) ∧
    (∃ (s : State) (m : Master) (p : Fin 9), p ≠ 0 ∧ s.dev.mayWrite m (0x40000200 + 4 * p) = true ∧ s.dev.domSt p ≠ 2 ∧ s.dev.entryBlock p true false = 0) ∧
    (∃ (s : State) (m : Master) (p : Fin 9), p ≠ 0 ∧ s.dev.mayWrite m (0x40000200 + 4 * p) = true ∧ s.dev.domSt p = 1) ∧
    (∃ (s : State) (m : Master) (p : Fin 9), p ≠ 0 ∧ s.dev.mayWrite m (0x40000200 + 4 * p) = true ∧ s.dev.domSt p = 2) ∧
    (∃ (s : State) (m : Master) (p : Fin 9), p ≠ 0 ∧ s.dev.mayWrite m (0x40000200 + 4 * p) = true ∧ s.dev.domSt p ≠ 2 ∧ s.dev.entryBlock p true false ≠ 0) ∧
    (∃ (s : State) (m : Master) (p : Fin 9), p ≠ 0 ∧ s.dev.mayWrite m (0x40000200 + 4 * p) = true ∧ s.dev.domSt p ≠ 1 ∧ s.dev.entryBlock p false false ≠ 0) ∧
    (∃ (s : State) (m : Master) (a : BitVec 64) (a' : BitVec 64) (b : BitVec 64) (b' : BitVec 64), s.dev.mayWrite m 0x40000208 = true ∧ s.dev.domSt 2 = 0 ∧ ((s.dev.lockstep 0 = true ∧ a ≠ a') ∨ (s.dev.lockstep 1 = true ∧ b ≠ b'))) ∧
    (∃ (d : Dev), d.domSt 2 = 0) ∧
    (∃ (d : Dev) (p : Fin 9), d.domSt p = 0 ∧ d.anyBridgeActive = true ∧ p ∈ ([3, 4, 5, 7] : List (Fin 9))) ∧
    (∃ (s : State) (p : Fin 9), (vget s.dev.pier.entering p).isSome = true) ∧
    (∃ (s : State) (p : Fin 9), (vget s.dev.pier.entering p) = none) ∧
    (∃ (s : State) (p : Fin 4), (vget s.dev.pier.entering 7).isSome = true ∧ (s.dev.canPort p).cur.isSome = true) ∧
    (∃ (s : State), (vget s.dev.pier.entering 7 = none ∨ (∀ p : Fin 4, (s.dev.canPort p).cur = none))) ∧
    (∃ (s : State) (p : Fin 9), vget s.dev.pier.entering p = none) ∧
    (∃ (s : State) (p : Fin 9) (st : Nat), vget s.dev.pier.entering p = some st ∧ (st = 1 ∨ st = 2) ∧ p ∈ sleepDomains ∧ (p = 7 → ∀ c : Fin 4, (s.dev.canPort c).cur = none)) ∧
    (∃ (s : State), (vget s.dev.pier.entering 1).isSome = true) :=
  ⟨⟨mk [], Master.span0, 2, by decide +kernel⟩,
   ⟨mk [], Master.truss, 8, by decide +kernel⟩,
   ⟨mk [], Master.truss, 8, by decide +kernel⟩,
   ⟨let p : Fin 9 := 8; mk [fun d => d.setSt p 1], Master.truss, 8, by decide +kernel⟩,
   ⟨let p : Fin 9 := 8; mk [fun d => d.setSt p 2], Master.truss, 8, by decide +kernel⟩,
   ⟨mk [], Master.truss, 1, by decide +kernel⟩,
   ⟨mk [], Master.truss, 1, by decide +kernel⟩,
   ⟨mk [], Master.truss, 0xfe8f3d40898285b0#64, 0x00000000000186a0#64, 0x0000000000000004#64, 0x0000000000000718#64, by decide +kernel⟩,
   ⟨(mk []).dev, by decide +kernel⟩,
   ⟨(mk [fun d => brActive (0) d]).dev, 3, by decide +kernel⟩,
   ⟨let p : Fin 9 := 8; mk [fun d => d.modPier fun z => { z with entering := vset z.entering p (some (1 + 1)) }], 8, by decide +kernel⟩,
   ⟨mk [], 8, by decide +kernel⟩,
   ⟨let p : Fin 4 := 3; mk [fun d => d.modPier fun z => { z with entering := vset z.entering 7 (some (1 + 1)) }, fun d => (d.modPier fun z => { z with entering := vset z.entering 7 (some 1) }).modPort p fun c => { c with cur := some (1, aFrame) }], 3, by decide +kernel⟩,
   ⟨mk [fun d => d.modPier fun z => { z with entering := vset z.entering 7 (none) }], by decide +kernel⟩,
   ⟨let p : Fin 9 := 8; mk [fun d => d.modPier fun z => { z with entering := vset z.entering p (none) }], 8, by decide +kernel⟩,
   ⟨let p : Fin 9 := 8; let st : Nat := 1; mk [fun d => d.modPier fun z => { z with entering := vset z.entering p (some st) }], 8, 1, by decide +kernel⟩,
   ⟨mk [fun d => d.modPier fun z => { z with entering := vset z.entering 1 (some (1 + 1)) }], by decide +kernel⟩⟩

theorem test_meets_Wakes :
    (∃ (s : State) (k : Fin 4), s.dev.get (PIER.WCFG_EN (k + 1)) ≠ 1) ∧
    (∃ (s : State), (s.dev.get (PIER.WCFG_EN 5) ≠ 1 ∨ s.dev.kaCount ≠ s.dev.get PIER.KAALML_V + 2 ^ 32 * s.dev.get PIER.KAALMH_V)) ∧
    (∃ (s : State) (p : Fin 4), (s.dev.get (PIER.WCFG_EN (p + 6)) ≠ 1 ∨ s.dev.supplyUp .vio = false)) ∧
    (∃ (s : State) (p : Fin 9) (c : Nat) (i : Instr), p ∈ sleepDomains ∧ s.dev.bit (PIER.WCFG_EN c) = true ∧ s.dev.maskDomains c = [1, p] ∧ vget s.dev.pier.entering 1 = none ∧ ((∃ k : Fin 4, i = .wakePin k ∧ c = k.val + 1) ∨ (i = .keepaliveAlarm ∧ c = 5 ∧ s.dev.kaCount = s.dev.get PIER.KAALML_V + 2 ^ 32 * s.dev.get PIER.KAALMH_V) ∨ (∃ q : Fin 4, i = .canWakeActivity q ∧ c = q.val + 6 ∧ s.dev.supplyUp .vio = true)) ∧ s.dev.inShelf = false ∧ s.dev.opRunning 0x7030 = false ∧ s.dev.wakingShelf = false ∧ s.dev.get PIER.WSTAT_WSTATE ≠ 5 ∧ s.dev.anyWaking = false ∧ s.dev.asleep 1 = false ∧ s.dev.domSt p = 1 ∧ vget s.dev.pier.entering p = none ∧ s.dev.pier.episode = []) ∧
    (∃ (s : State) (p : Fin 9) (c : Nat) (i : Instr), p ∈ sleepDomains ∧ s.dev.bit (PIER.WCFG_EN c) = true ∧ s.dev.maskDomains c = [1, p] ∧ vget s.dev.pier.entering 1 = none ∧ ((∃ k : Fin 4, i = .wakePin k ∧ c = k.val + 1) ∨ (i = .keepaliveAlarm ∧ c = 5 ∧ s.dev.kaCount = s.dev.get PIER.KAALML_V + 2 ^ 32 * s.dev.get PIER.KAALMH_V) ∨ (∃ q : Fin 4, i = .canWakeActivity q ∧ c = q.val + 6 ∧ s.dev.supplyUp .vio = true)) ∧ s.dev.inShelf = false ∧ s.dev.opRunning 0x7030 = false ∧ s.dev.wakingShelf = false ∧ s.dev.get PIER.WSTAT_WSTATE ≠ 5 ∧ s.dev.asleep 1 = false ∧ s.dev.domSt p = 0 ∧ vget s.dev.pier.entering p = none) ∧
    (∃ (s : State) (p : Fin 9) (c : Nat) (i : Instr), p ∈ sleepDomains ∧ s.dev.bit (PIER.WCFG_EN c) = true ∧ s.dev.maskDomains c = [1, p] ∧ vget s.dev.pier.entering 1 = none ∧ ((∃ k : Fin 4, i = .wakePin k ∧ c = k.val + 1) ∨ (i = .keepaliveAlarm ∧ c = 5 ∧ s.dev.kaCount = s.dev.get PIER.KAALML_V + 2 ^ 32 * s.dev.get PIER.KAALMH_V) ∨ (∃ q : Fin 4, i = .canWakeActivity q ∧ c = q.val + 6 ∧ s.dev.supplyUp .vio = true)) ∧ s.dev.inShelf = false ∧ s.dev.opRunning 0x7030 = true) ∧
    (∃ (s : State) (p : Fin 9) (c : Nat) (i : Instr), p ∈ sleepDomains ∧ s.dev.bit (PIER.WCFG_EN c) = true ∧ s.dev.maskDomains c = [1, p] ∧ vget s.dev.pier.entering 1 = none ∧ ((∃ k : Fin 4, i = .wakePin k ∧ c = k.val + 1) ∨ (i = .keepaliveAlarm ∧ c = 5 ∧ s.dev.kaCount = s.dev.get PIER.KAALML_V + 2 ^ 32 * s.dev.get PIER.KAALMH_V) ∨ (∃ q : Fin 4, i = .canWakeActivity q ∧ c = q.val + 6 ∧ s.dev.supplyUp .vio = true)) ∧ s.dev.inShelf = false ∧ s.dev.opRunning 0x7030 = false ∧ s.dev.wakingShelf = true ∧ s.dev.domSt p = 2 ∧ vget s.dev.pier.entering p = none ∧ p ∉ s.dev.pier.episode ∧ s.dev.asleep 1 = false) ∧
    (∃ (s : State) (p : Fin 9) (c : Nat) (i : Instr), p ∈ sleepDomains ∧ s.dev.bit (PIER.WCFG_EN c) = true ∧ s.dev.maskDomains c = [1, p] ∧ vget s.dev.pier.entering 1 = none ∧ ((∃ k : Fin 4, i = .wakePin k ∧ c = k.val + 1) ∨ (i = .keepaliveAlarm ∧ c = 5 ∧ s.dev.kaCount = s.dev.get PIER.KAALML_V + 2 ^ 32 * s.dev.get PIER.KAALMH_V) ∨ (∃ q : Fin 4, i = .canWakeActivity q ∧ c = q.val + 6 ∧ s.dev.supplyUp .vio = true)) ∧ s.dev.inShelf = true) ∧
    (∃ (s : State) (m : Master) (p : Fin 9), p ≠ 0 ∧ s.dev.mayWrite m (0x40000200 + 4 * p) = true ∧ vget s.dev.pier.entering p = none ∧ s.dev.domSt p = 3) ∧
    (∃ (s : State) (m : Master) (p : Fin 9), p ≠ 0 ∧ s.dev.mayWrite m (0x40000200 + 4 * p) = true ∧ vget s.dev.pier.entering p = none ∧ s.dev.domSt p = 0 ∧ s.dev.inShelf = false ∧ s.dev.opRunning 0x7030 = false ∧ s.dev.wakingShelf = false ∧ vget s.dev.pier.entering 1 = none) ∧
    (∃ (s : State) (m : Master) (p : Fin 9), p ≠ 0 ∧ s.dev.mayWrite m (0x40000200 + 4 * p) = true ∧ vget s.dev.pier.entering p = none ∧ s.dev.inShelf = false ∧ s.dev.opRunning 0x7030 = false ∧ s.dev.wakingShelf = false ∧ s.dev.get PIER.WSTAT_WSTATE ≠ 5 ∧ s.dev.anyWaking = false ∧ s.dev.pier.episode = [] ∧ vget s.dev.pier.entering 1 = none ∧ p ∈ sleepDomains ∧ s.dev.domSt p = 1) ∧
    (∃ (s : State) (m : Master) (p : Fin 9), p ≠ 0 ∧ s.dev.mayWrite m (0x40000200 + 4 * p) = true ∧ vget s.dev.pier.entering p = none ∧ s.dev.inShelf = false ∧ s.dev.opRunning 0x7030 = false ∧ s.dev.wakingShelf = false ∧ s.dev.get PIER.WSTAT_WSTATE ≠ 5 ∧ s.dev.anyWaking = false ∧ s.dev.pier.episode = [] ∧ vget s.dev.pier.entering 1 = none ∧ p ∈ sleepDomains ∧ s.dev.domSt p = 2) ∧
    (∃ (s : State) (p : Fin 9), vget s.dev.pier.waking p = none) ∧
    (∃ (s : State) (p : Fin 9) (r : Bool), vget s.dev.pier.waking p = some r ∧ s.dev.vol.start.phase = .complete ∧ p ∈ sleepDomains) ∧
    (∃ (s : State) (p : Fin 9), vget s.dev.pier.waking p = some true ∧ s.dev.vol.start.phase = .complete ∧ p ∈ ([6, 8] : List (Fin 9)) ∧ s.dev.listOk s.mem p = true ∧ vget s.dev.pier.saves p = none ∧ s.dev.pier.shelfWake = false ∧ (∀ q ∈ sleepDomains, q ≠ p → vget s.dev.pier.waking q = none) ∧ s.dev.pier.served = 0 ∧ s.dev.pier.laterPend = 0) ∧
    (∃ (s : State), s.dev.get PIER.WSTAT_WSTATE ∉ [0, 4, 5, 6] ∧ (s.dev.anyWaking = true ∨ s.dev.pier.shelfWake = true) ∧ (s.dev.get PIER.WSTAT_ATTEMPT) ≤ 1) ∧
    (∃ (s : State), s.dev.get PIER.WSTAT_WSTATE ∉ [0, 4, 5, 6] ∧ (s.dev.anyWaking = true ∨ s.dev.pier.shelfWake = true) ∧ (s.dev.get PIER.WSTAT_ATTEMPT) = 2) ∧
    (∃ (s : State), s.dev.get PIER.WSTAT_WSTATE ∉ [0, 4, 5, 6] ∧ (s.dev.anyWaking = true ∨ s.dev.pier.shelfWake = true) ∧ (s.dev.get PIER.WSTAT_ATTEMPT) = 3 ∧ s.dev.pier.causes.length = 2 ∧ s.dev.pier.laterPend = 0) ∧
    (∃ (s : State), s.dev.get PIER.WSTAT_WSTATE ∈ [0, 4, 5]) ∧
    (∃ (d : Dev) (n : Nat), n < 4 ∧ d.inShelf = false) ∧
    (∃ (s : State), s.dev.get PIER.WSTAT_WSTATE = 5) ∧
    (∃ (s : State), s.dev.get PIER.WSTAT_WSTATE ≠ 5) ∧
    (∃ (s : State), s.dev.get DE.STAT_OPSTATE ≠ 4) ∧
    (∃ (s : State), s.dev.get DE.STAT_OPSTATE = 4) :=
  ⟨⟨let k : Fin 4 := 3; mk [fun d => d.set (PIER.WCFG_EN (k + 1)) (2)], 3, by decide +kernel⟩,
   ⟨mk [fun d => d.set (PIER.WCFG_EN 5) (2)], by decide +kernel⟩,
   ⟨let p : Fin 4 := 3; mk [fun d => d.set (PIER.WCFG_EN (p + 6)) (2)], 3, by decide +kernel⟩,
   ⟨let p : Fin 9 := 4; let c : Nat := 4; mk [fun d => d.set (PIER.WCFG_EN c) 1, fun d => d.modPier fun z => { z with entering := vset z.entering 1 (none) }, fun d => d.set PIER.WSTAT_WSTATE (2), fun d => d.setSt p 1, fun d => d.modPier fun z => { z with entering := vset z.entering p (none) }, fun d => d.modPier fun z => { z with episode := [] }, fun d => ((d.set (PIER.WCFG_DMASK c) (2 ^ p.val)).set (PIER.WCFG_EN c) 1).modPier fun z => { z with entering := vset (vset z.entering 1 none) p none, episode := [], waking := .replicate 9 none, shelfWake := false }, fun d => (d.set (PIER.PDCTL_ST p) 1).set PIER.WSTAT_WSTATE (1)], 4, 4, Instr.wakePin 3, by decide +kernel⟩,
   ⟨let p : Fin 9 := 4; let c : Nat := 4; mk [fun d => d.set (PIER.WCFG_EN c) 1, fun d => d.modPier fun z => { z with entering := vset z.entering 1 (none) }, fun d => d.set PIER.WSTAT_WSTATE (2), fun d => d.setSt p 0, fun d => d.modPier fun z => { z with entering := vset z.entering p (none) }, fun d => ((d.set (PIER.WCFG_DMASK c) (2 ^ p.val)).set (PIER.WCFG_EN c) 1).modPier fun z => { z with entering := vset (vset z.entering 1 none) p none, episode := [], waking := .replicate 9 none, shelfWake := false }], 4, 4, Instr.wakePin 3, by decide +kernel⟩,
   ⟨let p : Fin 9 := 4; let c : Nat := 4; mk [fun d => d.set (PIER.WCFG_EN c) 1, fun d => d.modPier fun z => { z with entering := vset z.entering 1 (none) }, fun d => ((d.set (PIER.WCFG_DMASK c) (2 ^ p.val)).set (PIER.WCFG_EN c) 1).modPier fun z => { z with entering := vset (vset z.entering 1 none) p none, episode := [], waking := .replicate 9 none, shelfWake := false }, fun d => d.modDict fun z => { z with ops := [(0x7030, false)] }], 4, 4, Instr.wakePin 3, by decide +kernel⟩,
   ⟨let p : Fin 9 := 4; let c : Nat := 4; mk [fun d => d.set (PIER.WCFG_EN c) 1, fun d => d.modPier fun z => { z with entering := vset z.entering 1 (none) }, fun d => d.setSt p 2, fun d => d.modPier fun z => { z with entering := vset z.entering p (none) }, fun d => ((d.set (PIER.WCFG_DMASK c) (2 ^ p.val)).set (PIER.WCFG_EN c) 1).modPier fun z => { z with entering := vset (vset z.entering 1 none) p none, episode := [], waking := .replicate 9 none, shelfWake := false }, fun d => ((d.set (PIER.PDCTL_ST p) 2).set (PIER.PDCTL_ST 1) 0).modPier fun z => { z with shelfWake := true }], 4, 4, Instr.wakePin 3, by decide +kernel⟩,
   ⟨let p : Fin 9 := 4; let c : Nat := 4; mk [fun d => d.set (PIER.WCFG_EN c) 1, fun d => d.modPier fun z => { z with entering := vset z.entering 1 (none) }, fun d => d.setSt 1 2, fun d => ((d.set (PIER.WCFG_DMASK c) (2 ^ p.val)).set (PIER.WCFG_EN c) 1).modPier fun z => { z with entering := vset (vset z.entering 1 none) p none, episode := [], waking := .replicate 9 none, shelfWake := false }, fun d => (d.set (PIER.PDCTL_ST 1) 2).modPier fun z => { z with shelfWake := decide (1 = 0) }], 4, 4, Instr.wakePin 3, by decide +kernel⟩,
   ⟨let p : Fin 9 := 8; mk [fun d => d.modPier fun z => { z with entering := vset z.entering p (none) }, fun d => d.setSt p 3], Master.truss, 8, by decide +kernel⟩,
   ⟨let p : Fin 9 := 4; mk [fun d => d.modPier fun z => { z with entering := vset z.entering p (none) }, fun d => d.setSt p 0, fun d => d.modPier fun z => { z with entering := vset z.entering 1 (none) }, fun d => (d.set PIER.WSTAT_WSTATE (1)).modPier fun z => { z with entering := vset (vset z.entering 1 none) p none, episode := [], waking := .replicate 9 none, shelfWake := false }, fun d => d.set (PIER.PDCTL_ST p) 0], Master.truss, 4, by decide +kernel⟩,
   ⟨let p : Fin 9 := 4; mk [fun d => d.modPier fun z => { z with entering := vset z.entering p (none) }, fun d => d.set PIER.WSTAT_WSTATE (2), fun d => d.modPier fun z => { z with episode := [] }, fun d => d.modPier fun z => { z with entering := vset z.entering 1 (none) }, fun d => d.setSt p 1, fun d => (d.set PIER.WSTAT_WSTATE (1)).modPier fun z => { z with entering := vset (vset z.entering 1 none) p none, episode := [], waking := .replicate 9 none, shelfWake := false }, fun d => d.set (PIER.PDCTL_ST p) 1], Master.truss, 4, by decide +kernel⟩,
   ⟨let p : Fin 9 := 4; mk [fun d => d.modPier fun z => { z with entering := vset z.entering p (none) }, fun d => d.set PIER.WSTAT_WSTATE (2), fun d => d.modPier fun z => { z with episode := [] }, fun d => d.modPier fun z => { z with entering := vset z.entering 1 (none) }, fun d => d.setSt p 2, fun d => (d.set PIER.WSTAT_WSTATE (1)).modPier fun z => { z with entering := vset (vset z.entering 1 none) p none, episode := [], waking := .replicate 9 none, shelfWake := false }, fun d => d.set (PIER.PDCTL_ST p) 2], Master.truss, 4, by decide +kernel⟩,
   ⟨let p : Fin 9 := 8; mk [fun d => d.modPier fun z => { z with waking := vset z.waking p (none) }], 8, by decide +kernel⟩,
   ⟨let p : Fin 9 := 8; let r : Bool := true; mk [fun d => d.modPier fun z => { z with waking := vset z.waking p (some r) }, fun d => d.modStart fun z => { z with phase := .complete }], 8, true, by decide +kernel⟩,
   ⟨let p : Fin 9 := 6; mkMem (Mem.writeLE (Mem.writeLE [] (0x30000000+4*(p.val-1)) 4 1) (0x30000020+4*(p.val-1)) 4 (crc32c [])) [fun d => d.modPier fun z => { z with waking := vset z.waking p (some true) }, fun d => d.modStart fun z => { z with phase := .complete }, fun d => d.modPier fun z => { z with saves := vset z.saves p (none) }, fun d => d.modPier fun z => { z with shelfWake := false }, fun d => d.modPier fun z => { z with served := 0 }, fun d => d.modPier fun z => { z with laterPend := 0 }], 6, by decide +kernel⟩,
   ⟨mk [fun d => d.set PIER.WSTAT_WSTATE (2), fun d => ((d.set PIER.WSTAT_ATTEMPT 1).set PIER.WSTAT_WSTATE 2).modPier fun z => { z with waking := vset z.waking 3 (some true), causes := [3, 5] }], by decide +kernel⟩,
   ⟨mk [fun d => d.set PIER.WSTAT_WSTATE (2), fun d => ((d.set PIER.WSTAT_ATTEMPT 2).set PIER.WSTAT_WSTATE 2).modPier fun z => { z with waking := vset z.waking 3 (some true), causes := [3, 5] }], by decide +kernel⟩,
   ⟨mk [fun d => d.set PIER.WSTAT_WSTATE (2), fun d => d.modPier fun z => { z with causes := [3, 5] }, fun d => d.modPier fun z => { z with laterPend := 0 }, fun d => ((d.set PIER.WSTAT_ATTEMPT 3).set PIER.WSTAT_WSTATE 2).modPier fun z => { z with waking := vset z.waking 3 (some true), causes := [3, 5] }], by decide +kernel⟩,
   ⟨mk [fun d => d.set PIER.WSTAT_WSTATE 5], by decide +kernel⟩,
   ⟨(mk []).dev, 2, by decide +kernel⟩,
   ⟨mk [fun d => d.set PIER.WSTAT_WSTATE (5)], by decide +kernel⟩,
   ⟨mk [fun d => d.set PIER.WSTAT_WSTATE (2)], by decide +kernel⟩,
   ⟨mk [fun d => d.set DE.STAT_OPSTATE (2)], by decide +kernel⟩,
   ⟨mk [fun d => d.set DE.STAT_OPSTATE (4)], by decide +kernel⟩⟩

theorem test_meets_ShelfAndPowerFail :
    (∃ (s : State) (m : Master), s.dev.running = true ∧ s.dev.accessAllowed m 0x40000848 false = true) ∧
    (∃ (s : State) (m : Master), (s.dev.running = false ∨ s.dev.accessAllowed m 0x40000848 false = false)) ∧
    (∃ (s : State), s.dev.running = false) ∧
    (∃ (s : State), s.dev.running = true ∧ s.dev.pier.shutdown = false ∧ s.dev.shelfOk = false) ∧
    (∃ (s : State), s.dev.running = true ∧ (s.dev.shelfOk = true ∨ s.dev.pier.shutdown = true)) ∧
    (∃ (s : State), s.dev.running = true ∧ s.dev.get DE.STAT_OPSTATE ∈ [1, 2, 4, 5, 6] ∧ s.dev.vol.dict.ops = [] ∧ s.dev.nextReq = none) ∧
    (∃ (s : State), s.dev.running = true ∧ s.dev.get DE.STAT_OPSTATE ∈ [1, 2, 4, 5, 6] ∧ s.dev.opFree 0x7030 = true ∧ s.dev.vol.dict.ops ≠ []) ∧
    (∃ (s : State), s.dev.get DE.STAT_OPSTATE ∈ [0, 3] ∧ s.dev.opRunning 0x7030 = false) :=
  ⟨⟨mk [], Master.truss, by decide +kernel⟩,
   ⟨mk [fun d => d.modStart fun z => { z with phase := .held }], Master.truss, by decide +kernel⟩,
   ⟨mk [fun d => d.modStart fun z => { z with phase := .held }], by decide +kernel⟩,
   ⟨mk [fun d => brActive (0) d], by decide +kernel⟩,
   ⟨mk [], by decide +kernel⟩,
   ⟨mk [fun d => d.set DE.STAT_OPSTATE 4, fun d => d.modDict fun z => { z with ops := [] }], by decide +kernel⟩,
   ⟨mk [fun d => d.set DE.STAT_OPSTATE 4, fun d => (d.set DE.STAT_OPSTATE 2).modDict fun z => { z with ops := [(0x7001, false)] }], by decide +kernel⟩,
   ⟨mk [fun d => d.set DE.STAT_OPSTATE 3], by decide +kernel⟩⟩

theorem test_meets_Ledger :
    (∃ (s : State), s.dev.lgRuns = false) ∧
    (∃ (s : State) (st : LgStore), s.dev.lgRuns = true ∧ s.dev.vol.lg.store = some st) ∧
    (∃ (s : State), s.dev.vol.lg.reqs = []) ∧
    (∃ (s : State) (k : Nat) (r : Nat) (t : List (Nat × Nat)), s.dev.vol.lg.reqs = (k, r) :: t ∧ s.dev.lgRuns = true ∧ s.dev.vol.lg.store = none) ∧
    (∃ (s : State), s.dev.vol.lg.store = none) ∧
    (∃ (s : State) (st : LgStore), s.dev.vol.lg.store = some st) ∧
    (∃ (s : State) (m : Master), s.dev.mayWrite m 0x40A0001C = true ∧ s.dev.lgRuns = true) ∧
    (∃ (s : State) (m : Master), s.dev.mayWrite m 0x40A0001C = true ∧ s.dev.lgRuns = false) ∧
    (∃ (s : State) (m : Master), s.dev.mayWrite m 0x40A0001C = false) ∧
    (∃ (s : State) (sel : BitVec 8), s.dev.opRunning 0x7040 = false ∧ s.dev.vol.dict.ops.length < 4 ∧ s.dev.get DE.STAT_OPSTATE ≠ 0 ∧ 3 < sel.toNat) ∧
    (∃ (s : State) (sel : BitVec 8), s.dev.vol.dict.ops = [] ∧ s.dev.nextReq = none ∧ s.dev.get DE.STAT_OPSTATE ≠ 0 ∧ sel = 0 ∧ s.dev.lgRuns = false) ∧
    (∃ (s : State) (sel : BitVec 8), s.dev.vol.dict.ops = [] ∧ s.dev.nextReq = none ∧ s.dev.get DE.STAT_OPSTATE ≠ 0 ∧ sel = 0 ∧ s.dev.lgRuns = true ∧ s.dev.vol.lg.store = none ∧ s.mem.wf = true) ∧
    (∃ (s : State) (sel : BitVec 8), s.dev.vol.dict.ops = [] ∧ s.dev.nextReq = none ∧ s.dev.get DE.STAT_OPSTATE ≠ 0 ∧ sel = 1) ∧
    (∃ (s : State) (sel : BitVec 8), s.dev.vol.dict.ops = [] ∧ s.dev.nextReq = none ∧ s.dev.get DE.STAT_OPSTATE ≠ 0 ∧ sel = 2) ∧
    (∃ (s : State) (sel : BitVec 8), s.dev.vol.dict.ops = [] ∧ s.dev.nextReq = none ∧ s.dev.get DE.STAT_OPSTATE ≠ 0 ∧ sel = 3) :=
  ⟨⟨mk [], by decide +kernel⟩,
   ⟨let st : LgStore := { kind := 1, reason := 0, addr := 270416384, body := List.replicate 192 7#8, flags := 0, cal := [6], calN := 2 }; mk [fun d => d.set LG.CTL_RUN 1, fun d => d.modLg fun z => { z with store := some st }], { kind := 1, reason := 0, addr := 270416384, body := List.replicate 192 7#8, flags := 0, cal := [6], calN := 2 }, by decide +kernel⟩,
   ⟨mk [fun d => d.modLg fun z => { z with reqs := [] }], by decide +kernel⟩,
   ⟨mk [fun d => d.modLg fun z => { z with reqs := [(0, 3)] }, fun d => d.set LG.CTL_RUN 1, fun d => d.modLg fun z => { z with store := none }], 0, 3, [], by decide +kernel⟩,
   ⟨mk [fun d => d.modLg fun z => { z with store := none }], by decide +kernel⟩,
   ⟨let st : LgStore := { kind := 2, reason := 1, addr := 270408704, body := List.replicate 192 7#8, flags := 0, cal := [8], calN := 1 }; mk [fun d => d.modLg fun z => { z with store := some st }], { kind := 2, reason := 1, addr := 270408704, body := List.replicate 192 7#8, flags := 0, cal := [8], calN := 1 }, by decide +kernel⟩,
   ⟨mk [fun d => d.set LG.CTL_RUN 1], Master.truss, by decide +kernel⟩,
   ⟨mk [], Master.truss, by decide +kernel⟩,
   ⟨mk [], Master.dict, by decide +kernel⟩,
   ⟨mk [fun d => d.set DE.STAT_OPSTATE (1)], 0x26#8, by decide +kernel⟩,
   ⟨mk [fun d => d.modDict fun z => { z with ops := [] }, fun d => d.set DE.STAT_OPSTATE (2)], 0x00#8, by decide +kernel⟩,
   ⟨mk [fun d => d.modDict fun z => { z with ops := [] }, fun d => d.set DE.STAT_OPSTATE (2), fun d => d.set LG.CTL_RUN 1, fun d => d.modLg fun z => { z with store := none }], 0x00#8, by decide +kernel⟩,
   ⟨mk [fun d => d.modDict fun z => { z with ops := [] }, fun d => d.set DE.STAT_OPSTATE (4)], 0x01#8, by decide +kernel⟩,
   ⟨mk [fun d => d.modDict fun z => { z with ops := [] }, fun d => d.set DE.STAT_OPSTATE (3)], 0x02#8, by decide +kernel⟩,
   ⟨mk [fun d => d.modDict fun z => { z with ops := [] }, fun d => d.set DE.STAT_OPSTATE (4)], 0x03#8, by decide +kernel⟩⟩

theorem test_meets_Capture :
    (∃ (s : State) (m : Master) (c : Fin 8), s.dev.mayWrite m (0x40A10100 + 0x20 * c.val + 4) = true ∧ s.dev.mayWrite m (0x40A10100 + 0x20 * c.val + 0) = true ∧ s.dev.capActive c = true) ∧
    (∃ (s : State) (m : Master) (c : Fin 8) (v : Word), s.dev.mayWrite m (0x40A10100 + 0x20 * c.val + 4) = true ∧ s.dev.mayWrite m (0x40A10100 + 0x20 * c.val + 0) = true ∧ s.dev.capActive c = false ∧ natBit v.toNat 31 = true ∧ (s.dev.writeFields (capCfgFields c) v.toNat).capStartOk m c = true) ∧
    (∃ (s : State) (m : Master) (c : Fin 8) (v : Word), s.dev.mayWrite m (0x40A10100 + 0x20 * c.val + 4) = true ∧ s.dev.mayWrite m (0x40A10100 + 0x20 * c.val + 0) = true ∧ s.dev.capActive c = false ∧ natBit v.toNat 31 = true ∧ (s.dev.writeFields (capCfgFields c) v.toNat).capStartOk m c = false) ∧
    (∃ (s : State) (m : Master) (c : Fin 8) (v : Word), s.dev.mayWrite m (0x40A10100 + 0x20 * c.val + 4) = true ∧ s.dev.mayWrite m (0x40A10100 + 0x20 * c.val + 0) = true ∧ s.dev.capActive c = false ∧ natBit v.toNat 31 = false) ∧
    (∃ (s : State) (m : Master) (c : Fin 8), s.dev.mayWrite m (0x40A10100 + 0x20 * c.val + 4) = false) ∧
    (∃ (s : State) (c : Fin 8), s.dev.capWorks = true ∧ s.dev.capActive c = true ∧ 512 ≤ (s.dev.capCh c).fifo.length) ∧
    (∃ (s : State) (c : Fin 8), s.dev.capWorks = true ∧ s.dev.capActive c = true ∧ (s.dev.capCh c).fifo.length < 512) ∧
    (∃ (s : State) (c : Fin 8), s.dev.capActive c = false) ∧
    (∃ (s : State) (n : Fin 8), n.val ∉ s.dev.capTrig) ∧
    (∃ (s : State) (n : Fin 8), n.val ∈ s.dev.capTrig ∧ 1 ≤ n.val ∧ n.val ≤ 5 ∧ s.dev.capWorks = true) ∧
    (∃ (s : State) (m : Master) (c : Fin 8), s.dev.mayWrite m (0x40A10118 + 0x20 * c.val) = true ∧ s.dev.get (CAP.STAT_ST c) = 1) ∧
    (∃ (s : State) (m : Master) (c : Fin 8), s.dev.mayWrite m (0x40A10118 + 0x20 * c.val) = true ∧ s.dev.get (CAP.STAT_ST c) ≠ 1) ∧
    (∃ (s : State) (m : Master) (c : Fin 8), s.dev.mayWrite m (0x40A10118 + 0x20 * c.val) = true ∧ s.dev.capActive c = false) ∧
    (∃ (s : State) (m : Master) (c : Fin 8), s.dev.mayWrite m (0x40A10118 + 0x20 * c.val) = true ∧ s.dev.capActive c = true ∧ (s.dev.capCh c).fifo = []) ∧
    (∃ (s : State) (m : Master) (c : Fin 8), s.dev.mayWrite m (0x40A10118 + 0x20 * c.val) = true ∧ s.dev.capActive c = true ∧ 1 ≤ (s.dev.capCh c).fifo.length ∧ (s.dev.capCh c).fifo.length ≤ 512 ∧ s.mem.wf = true) ∧
    (∃ (s : State) (m : Master) (c : Fin 8), s.dev.mayWrite m (0x40A10118 + 0x20 * c.val) = false) ∧
    (∃ (s : State) (m : Master), s.dev.mayWrite m 0x40A10000 = false) ∧
    (∃ (s : State), s.dev.capWorks = true) ∧
    (∃ (s : State) (m : Master), s.dev.mayWrite m 0x40A10000 = true ∧ (∀ c : Fin 8, s.dev.capActive c = false)) ∧
    (∃ (s : State) (c : BitVec 8), s.dev.opRunning 0x7050 = false ∧ s.dev.vol.dict.ops.length < 4 ∧ s.dev.get DE.STAT_OPSTATE ≠ 0 ∧ 7 < c.toNat) ∧
    (∃ (s : State) (c : BitVec 8) (h : c.toNat < 8), s.dev.vol.dict.ops = [] ∧ s.dev.nextReq = none ∧ s.dev.get DE.STAT_OPSTATE ≠ 0 ∧ s.dev.capActive ⟨c.toNat, h⟩ = true) ∧
    (∃ (s : State) (c : BitVec 8) (h : c.toNat < 8), s.dev.vol.dict.ops = [] ∧ s.dev.nextReq = none ∧ s.dev.get DE.STAT_OPSTATE ≠ 0 ∧ s.dev.capActive ⟨c.toNat, h⟩ = false) :=
  ⟨⟨let c : Fin 8 := 7; mk [fun d => d.set (CAP.STAT_ST c) (1 + 1)], Master.truss, 7, by decide +kernel⟩,
   ⟨let c : Fin 8 := 6; mk [fun d => ((d.set (CAP.BUF_FID c) 0x55).set (CAP.BUF_SEGMASK c) 1).set (OWN.R_OWNER 4 0) 0x55], Master.span0, 6, 0x80000008#32, by decide +kernel⟩,
   ⟨mk [], Master.truss, 7, 0xf6285e8a#32, by decide +kernel⟩,
   ⟨mk [], Master.dict, 1, 0x00000003#32, by decide +kernel⟩,
   ⟨mk [], Master.span1h1, 5, by decide +kernel⟩,
   ⟨let c : Fin 8 := 7; mk [fun d => d.set (CAP.STAT_ST c) (1 + 1), fun d => d.modCap c fun k => { k with fifo := (List.range (512 + 1)).map fun (i : Nat) => (Int.ofNat i, i) }], 7, by decide +kernel⟩,
   ⟨let c : Fin 8 := 7; mk [fun d => d.set (CAP.STAT_ST c) (1 + 1)], 7, by decide +kernel⟩,
   ⟨mk [], 7, by decide +kernel⟩,
   ⟨mk [], 7, by decide +kernel⟩,
   ⟨let n : Fin 8 := 1; mk [fun d => ({ d with capTrig := [n.val] } : Dev).setAll [(CAP.BUF_TSRC 2, n.val), (CAP.STAT_ST 2, 1)]], 1, by decide +kernel⟩,
   ⟨let c : Fin 8 := 7; mk [fun d => d.set (CAP.STAT_ST c) (1)], Master.truss, 7, by decide +kernel⟩,
   ⟨let c : Fin 8 := 7; mk [fun d => d.set (CAP.STAT_ST c) (5)], Master.truss, 7, by decide +kernel⟩,
   ⟨mk [], Master.truss, 7, by decide +kernel⟩,
   ⟨let c : Fin 8 := 7; mk [fun d => d.set (CAP.STAT_ST c) (1 + 1), fun d => d.modCap c fun z => { z with fifo := [] }], Master.truss, 7, by decide +kernel⟩,
   ⟨let c : Fin 8 := 7; mk [fun d => d.set (CAP.STAT_ST c) (1 + 1), fun d => ((d.set (CAP.STAT_ST c) 1).set (CAP.BUF_SEGMASK c) 1).modCap c fun k => { k with fifo := [(5, 7), (-3, 8)] }], Master.truss, 7, by decide +kernel⟩,
   ⟨mk [], Master.span1h1, 5, by decide +kernel⟩,
   ⟨mk [], Master.span1h1, by decide +kernel⟩,
   ⟨mk [], by decide +kernel⟩,
   ⟨mk [], Master.truss, by decide +kernel⟩,
   ⟨mk [fun d => d.set DE.STAT_OPSTATE (1)], 0x26#8, by decide +kernel⟩,
   ⟨let c : BitVec 8 := 0x01#8; mk [fun d => d.modDict fun z => { z with ops := [] }, fun d => d.set DE.STAT_OPSTATE (4), fun d => d.set (CAP.STAT_ST c.toNat) (1 + 0)], 0x01#8, by decide, by decide +kernel⟩,
   ⟨mk [fun d => d.modDict fun z => { z with ops := [] }, fun d => d.set DE.STAT_OPSTATE (4)], 0x01#8, by decide, by decide +kernel⟩⟩

end Sys2Proof.Tests
end

section
/-! PROOF. The register map as a whole: every field of a register stands at that register's address, and a lock bit is no
field that REGISTER_WRITE sets. -/

namespace Sys2Proof.Machine

/-! ### Places of fields -/

/-- Do the fields of every register of the run stand at that register's address, in a word of 32 bits? -/
def RegRun.placed (r : RegRun) : Bool :=
  (List.range r.count).all fun i => (r.fields i).all fun f => decide (f.addr = r.first + r.stride * i) && decide (f.lo < 32)

/-- The tables of all windows place their fields at the addresses of their registers. -/
theorem windowRegs_placed (w : Nat) : (windowRegs w).all RegRun.placed = true := by
  unfold windowRegs
  split <;> decide +kernel

/-- A register that a run holds at an address has its fields there. -/
theorem RegRun.addr_of_hit {r : RegRun} {a : Nat} {f : Fld} (hp : r.placed = true) (ha : r.hit a = true)
    (hf : f ∈ r.fields ((a - r.first) / r.stride)) : f.addr = a ∧ f.lo < 32 := by
  simp only [RegRun.hit, Bool.and_eq_true, decide_eq_true_eq] at ha
  obtain ⟨⟨hfirst, hstep⟩, hcount⟩ := ha
  have hall := List.all_eq_true.mp (List.all_eq_true.mp hp _ (List.mem_range.mpr hcount)) f hf
  simp only [Bool.and_eq_true, decide_eq_true_eq] at hall
  have hdiv := Nat.div_add_mod (a - r.first) r.stride
  exact ⟨by omega, hall.2⟩

theorem fieldsIn_addr {l : List RegRun} {a : Nat} {fs : List Fld} {f : Fld} (hp : l.all RegRun.placed = true)
    (hl : fieldsIn l a = some fs) (hf : f ∈ fs) : f.addr = a ∧ f.lo < 32 := by
  induction l with
  | nil => simp [fieldsIn] at hl
  | cons r t ih =>
    simp only [List.all_cons, Bool.and_eq_true] at hp
    by_cases ha : r.hit a = true
    · simp only [fieldsIn, ha, if_true, Option.some.injEq] at hl
      exact RegRun.addr_of_hit hp.1 ha (hl ▸ hf)
    · exact ih hp.2 (by simpa [fieldsIn, ha] using hl)

/-- Every field of the register at an address stands at that address (R10). -/
theorem regFields_addr {a : Nat} {fs : List Fld} {f : Fld} (ha : regFields a = some fs) (hf : f ∈ fs) : f.addr = a ∧ f.lo < 32 :=
  fieldsIn_addr (windowRegs_placed _) ha hf


/-! ### Lock bits -/

/-- The lock bits of all blocks (R13). -/
def lockFlds : List Fld :=
  [AS.CTL_LOCK, POS.CTL_LOCK 0, POS.CTL_LOCK 1, CE.CTL_LOCK, MOD.CTL_LOCK 0, MOD.CTL_LOCK 1, GL.CTL_LOCK, TH.CTL_LOCK, KS.CTL_LOCK,
   FCOL.CTL_LOCK, SIO.CTL_LOCK, CAN.CTL_LOCK 0, CAN.CTL_LOCK 1, CAN.CTL_LOCK 2, CAN.CTL_LOCK 3, KN.CTL_LOCK, DE.CTL_LOCK, LG.CTL_LOCK]

theorem mem_lockFlds_of_lockAt {a : Nat} {l : Fld} (h : lockAt a = some l) : l ∈ lockFlds := by
  revert h
  unfold lockAt
  split
  case h_13 => split <;> (rintro ⟨⟩; decide)
  case h_19 => intro h; cases h
  all_goals rintro ⟨⟩; decide

/-- In the register that holds a lock bit, the field at its place has a behaviour of its own (LOCK_SET). -/
theorem lockFlds_beh : ∀ l ∈ lockFlds, l.lo < 32 ∧ ((regFields l.addr).getD []).all (fun g => g.beh || decide (g.key ≠ l.key)) = true := by
  decide +kernel

/-- A field of any register that stands where a lock bit does has a behaviour of its own: no other write sets a lock bit. -/
theorem beh_of_key_eq_lock {a b : Nat} {fs : List Fld} {g l : Fld} (ha : regFields a = some fs) (hg : g ∈ fs) (hl : lockAt b = some l)
    (hk : g.key = l.key) : g.beh = true := by
  obtain ⟨hlo, hall⟩ := lockFlds_beh l (mem_lockFlds_of_lockAt hl)
  obtain ⟨hga, hglo⟩ := regFields_addr ha hg
  have hla : l.addr = a := by
    simp only [Fld.key] at hk
    omega
  rw [hla, ha] at hall
  have hbeh := List.all_eq_true.mp hall g hg
  simpa [hk] using hbeh

end Sys2Proof.Machine
end

section
/-! PROOF. The frame of the register file: which fields an operation may set, composed from its parts. -/

namespace Sys2Proof.Machine

theorem Dev.sameBut.refl (d : Dev) (l : List Fld) : d.sameBut d l := fun _ _ => rfl

theorem Dev.sameBut.trans {d e c : Dev} {l : List Fld} (h : d.sameBut e l) (h' : e.sameBut c l) : d.sameBut c l :=
  fun f hf => (h' f hf).trans (h f hf)

theorem Dev.sameBut.mono {d e : Dev} {l l' : List Fld} (h : d.sameBut e l) (hl : l ⊆ l') : d.sameBut e l' :=
  fun f hf => h f fun g hg => hf g (hl hg)

/-- Where the register file is the same, every field is. -/
theorem Dev.sameBut.of_regs {d e : Dev} (h : d.regs = e.regs) (l : List Fld) : d.sameBut e l :=
  fun f _ => Dev.get_congr h.symm f

theorem Dev.sameBut.set {d e : Dev} {l : List Fld} (h : d.sameBut e l) {f : Fld} (hf : f ∈ l) (v : Nat) : d.sameBut (e.set f v) l :=
  fun g hg => (e.get_set_ne f g v (hg f hf)).trans (h g hg)

theorem Dev.sameBut.setBit {d e : Dev} {l : List Fld} (h : d.sameBut e l) {f : Fld} (hf : f ∈ l) (b : Bool) :
    d.sameBut (e.setBit f b) l :=
  h.set hf _

theorem Dev.sameBut.countSat {d e : Dev} {l : List Fld} (h : d.sameBut e l) {f : Fld} (hf : f ∈ l) : d.sameBut (e.countSat f) l := by
  unfold Dev.countSat
  split
  · exact h.set hf _
  · exact h

/-- What an operation leaves, doing it under a condition leaves. -/
theorem Dev.sameBut.when {d e : Dev} {l : List Fld} (h : d.sameBut e l) (c : Bool) {F : Dev → Dev} (hF : d.sameBut (F e) l) :
    d.sameBut (e.when c F) l := by
  cases c
  · exact h
  · exact hF

/-- What each round leaves, all rounds leave. -/
theorem Dev.sameBut.each {α : Type} {d e : Dev} {l : List Fld} (h : d.sameBut e l) (xs : List α) {F : Dev → α → Dev}
    (hF : ∀ c : Dev, ∀ x ∈ xs, c.sameBut (F c x) l) : d.sameBut (e.each xs F) l := by
  induction xs generalizing e with
  | nil => exact h
  | cons x t ih => exact ih (h.trans (hF e x List.mem_cons_self)) fun c y hy => hF c y (List.mem_cons_of_mem _ hy)

end Sys2Proof.Machine
end

section
/-! PROOF. What a register write leaves in each field (R11, R13), and what else it changes. -/

namespace Sys2Proof.Machine

/-! ### One field -/

/-- A one-bit field that was set to 1 reads 1. -/
theorem Dev.get_set_one (d : Dev) {f : Fld} (h : f.width = 1) : (d.set f 1).get f = 1 := by
  simp [h]

theorem Dev.set_mod (d : Dev) (f : Fld) (v : Nat) : d.set f (v % 2 ^ f.width) = d.set f v := by
  simp [Dev.set]

/-- What field f holds after a word w was written to its register, where it held `old` (R11). -/
def Fld.taken (f : Fld) (locked : Bool) (old w : Nat) : Nat :=
  let v := natField w f.lo f.width
  if f.beh || fieldFixed f then old
  else
    match f.acc with
    | .rw => storedValue f v % 2 ^ f.width
    | .w1c => (old &&& (2 ^ f.width - 1 - v)) % 2 ^ f.width
    | .w1s => (old ||| v) % 2 ^ f.width
    | .rwl => if locked then old else v
    | .ro | .wo => old

/-- A field that a write reaches changes by a setting, or not at all. -/
theorem Dev.fieldWrite_cases (d : Dev) (m : Master) (w : Nat) (f : Fld) :
    d.fieldWrite m w f = d ∨ f.beh = false ∧ ∃ v, d.fieldWrite m w f = d.set f v := by
  by_cases hb : (f.beh || fieldFixed f) = true
  · exact .inl (by simp [Dev.fieldWrite, hb])
  · have hbeh : f.beh = false := by simp_all
    unfold Dev.fieldWrite
    simp only [hb]
    cases f.acc with
    | ro => exact .inl rfl
    | wo => exact .inl rfl
    | rw => exact .inr ⟨hbeh, _, rfl⟩
    | w1c => exact .inr ⟨hbeh, _, rfl⟩
    | w1s => exact .inr ⟨hbeh, _, rfl⟩
    | rwl =>
      cases d.lockedAt f.addr
      · exact .inr ⟨hbeh, _, rfl⟩
      · exact .inl rfl

/-- A locked field takes nothing of a write (R13). -/
theorem Dev.fieldWrite_locked (d : Dev) (m : Master) (w : Nat) (f : Fld) (hacc : f.acc = .rwl) (hl : d.lockedAt f.addr = true) :
    d.fieldWrite m w f = d := by
  simp [Dev.fieldWrite, hacc, hl]

theorem Dev.get_fieldWrite_same (d : Dev) (m : Master) (w : Nat) (f : Fld) :
    (d.fieldWrite m w f).get f = f.taken (d.lockedAt f.addr) (d.get f) w := by
  by_cases hb : (f.beh || fieldFixed f) = true
  · simp [Dev.fieldWrite, Fld.taken, hb]
  · unfold Dev.fieldWrite Fld.taken
    simp only [hb]
    cases f.acc with
    | ro => rfl
    | wo => rfl
    | rw => exact d.get_set_same f _
    | w1c => exact d.get_set_same f _
    | w1s => exact d.get_set_same f _
    | rwl => cases d.lockedAt f.addr <;> simp [natField]

theorem Dev.get_fieldWrite_ne (d : Dev) (m : Master) (w : Nat) (f g : Fld) (h : g.key ≠ f.key) : (d.fieldWrite m w f).get g = d.get g := by
  obtain e | ⟨-, v, e⟩ := d.fieldWrite_cases m w f
  · rw [e]
  · rw [e, d.get_set_ne f g v h]

/-- A write changes nothing but the register file. -/
theorem Dev.fieldWrite_state (d : Dev) (m : Master) (w : Nat) (f : Fld) : { d.fieldWrite m w f with regs := [] } = { d with regs := [] } := by
  obtain e | ⟨-, v, e⟩ := d.fieldWrite_cases m w f
  · rw [e]
  · rw [e]; rfl

/-- A write of a field of a register locks no block and unlocks none. -/
theorem Dev.lockedAt_fieldWrite (d : Dev) (m : Master) (w : Nat) {a : Nat} {fs : List Fld} {f : Fld} (ha : regFields a = some fs) (hf : f ∈ fs)
    (b : Nat) : (d.fieldWrite m w f).lockedAt b = d.lockedAt b := by
  obtain e | ⟨hbeh, v, e⟩ := d.fieldWrite_cases m w f
  · rw [e]
  · cases hl : lockAt b with
    | none => simp [Dev.lockedAt, hl]
    | some l =>
      have hk : l.key ≠ f.key := fun hk => by simp [beh_of_key_eq_lock ha hf hl hk.symm] at hbeh
      simp [Dev.lockedAt, hl, Dev.bit, e, d.get_set_ne f l v hk]

/-! ### The fields of a register -/

/-- The fields of a register take their bits of a word, one after the other. -/
def Dev.fieldsTake (d : Dev) (m : Master) (w : Nat) (fs : List Fld) : Dev := d.each fs fun d f => d.fieldWrite m w f

theorem Dev.regFieldsWrite_some {a : Nat} {fs : List Fld} (ha : regFields a = some fs) (d : Dev) (m : Master) (v : Nat) :
    d.regFieldsWrite m a v = d.followWrite (d.fieldsTake m v fs) a := by
  simp [Dev.regFieldsWrite, ha, Dev.fieldsTake]

theorem Dev.regFieldsWrite_none {a : Nat} (ha : regFields a = none) (d : Dev) (m : Master) (v : Nat) : d.regFieldsWrite m a v = d := by
  simp [Dev.regFieldsWrite, ha]

theorem Dev.fieldsTake_sameBut (d : Dev) (m : Master) (w : Nat) (fs : List Fld) : d.sameBut (d.fieldsTake m w fs) fs :=
  (Dev.sameBut.refl d fs).each fs fun c f hf g hg => c.get_fieldWrite_ne m w f g (hg f hf)

theorem Dev.fieldsTake_state (d : Dev) (m : Master) (w : Nat) (fs : List Fld) : { d.fieldsTake m w fs with regs := [] } = { d with regs := [] } :=
  Dev.each_keep (fun d => { d with regs := [] }) fs _ (fun d f _ => d.fieldWrite_state m w f) d

/-- The written device is the one before it with the written register file. -/
theorem Dev.fieldsTake_eq (d : Dev) (m : Master) (w : Nat) (fs : List Fld) :
    d.fieldsTake m w fs = { d with regs := (d.fieldsTake m w fs).regs } :=
  congrArg (fun c : Dev => { c with regs := (d.fieldsTake m w fs).regs }) (d.fieldsTake_state m w fs)

/-- After a write every field of the register holds what its access code says, by what it held and by its block's lock bit before. -/
theorem Dev.get_fieldsTake {a : Nat} {fs : List Fld} (ha : regFields a = some fs) (m : Master) (w : Nat) (d : Dev) {f : Fld} :
    ∀ l : List Fld, l ⊆ fs → (l.map Fld.key).Nodup → f ∈ l → (d.fieldsTake m w l).get f = f.taken (d.lockedAt f.addr) (d.get f) w := by
  intro l
  induction l generalizing d with
  | nil => intro _ _ hf; cases hf
  | cons g t ih =>
    intro hsub hnd hf
    obtain ⟨hg, ht⟩ := List.cons_subset.mp hsub
    obtain ⟨hgt, hnd'⟩ := List.nodup_cons.mp hnd
    have hstep : d.fieldsTake m w (g :: t) = (d.fieldWrite m w g).fieldsTake m w t := rfl
    rw [hstep]
    obtain rfl | hft := List.mem_cons.mp hf
    · rw [Dev.fieldsTake_sameBut _ m w t f fun h hh e => hgt (e ▸ List.mem_map_of_mem hh), d.get_fieldWrite_same]
    · have hfg : f.key ≠ g.key := fun e => hgt (e ▸ List.mem_map_of_mem hft)
      rw [ih (d.fieldWrite m w g) ht hnd' hft, d.lockedAt_fieldWrite m w ha hg, d.get_fieldWrite_ne m w g f hfg]

end Sys2Proof.Machine
end

section
/-! PROOF. REGISTER_WRITE: the command, the registers that nothing follows, and what each access code leaves. -/

namespace Sys2Proof.Machine

/-! ### The command -/

theorem exec_registerWrite (s : State) (m : Master) (a d : Word) :
    exec (.registerWrite m a d) s = .next { s with dev := s.dev.regWrite m a.toNat d.toNat } := rfl

theorem Dev.regWrite_allowed {d : Dev} {m : Master} {a v : Nat} (hm : d.mayWrite m a = true) (hw : w1cBarred m a v = false) :
    d.regWrite m a v = (d.regFieldsWrite m a v).busOk 0 := by
  simp [Dev.regWrite, hm, hw]

theorem Dev.regWrite_barred {d : Dev} {m : Master} {a v : Nat} (hw : w1cBarred m a v = true) : d.regWrite m a v = d.busError m a true := by
  simp [Dev.regWrite, hw]

/-- A reserved offset has no field of access code W1C. -/
theorem w1cBarred_of_reserved {m : Master} {a v : Nat} (ha : regFields a = none) : w1cBarred m a v = false := by
  simp [w1cBarred, ha]

/-- Outside the Pier and the domain requests every master clears a W1C field. -/
theorem w1cBarred_of_intc {m : Master} {a v : Nat} (ha : a / 0x10000 = 0x4002) : w1cBarred m a v = false := by
  have hle : ¬ a < 0x40000900 := by omega
  simp [w1cBarred, w1cWriter, hle]

/-- The registers that nothing follows at once. -/
theorem Dev.followWrite_eq_self (d0 d : Dev) {a : Nat}
    (hw : a / 0x10000 ∉ [0x4002, 0x4020, 0x4021, 0x4030, 0x4040, 0x4041, 0x4050, 0x4070, 0x4080, 0x4081, 0x4082, 0x4083])
    (hana : a / 0x10000 = 0x4010 → a % 0x10000 ≠ 0) (hth : a / 0x10000 = 0x4060 → a % 0x10000 < 0x400 ∨ 0xA00 ≤ a % 0x10000) :
    d0.followWrite d a = d := by
  unfold Dev.followWrite
  split
  case h_2 h => exact if_neg (hana h)
  case h_9 h =>
    have hout := hth h
    exact if_neg (by omega)
  case h_15 => rfl
  all_goals simp_all

/-! ### What each access code leaves -/

theorem natField_mod (v lo n : Nat) : natField v lo n % 2 ^ n = natField v lo n := Nat.mod_mod _ _

theorem natField_one_of_bit {v lo : Nat} (h : natBit v lo = true) : natField v lo 1 = 1 := by
  simpa [natField, natBit] using h

section
variable {f : Fld} (hbeh : f.beh = false) (hfix : fieldFixed f = false) (locked : Bool) (old w : Nat)
include hbeh hfix

theorem Fld.taken_rw (hacc : f.acc = .rw) : f.taken locked old w = storedValue f (natField w f.lo f.width) % 2 ^ f.width := by
  simp [Fld.taken, hbeh, hfix, hacc]

theorem Fld.taken_w1c_one (hacc : f.acc = .w1c) (hwd : f.width = 1) (hbit : natBit w f.lo = true) : f.taken locked old w = 0 := by
  simp [Fld.taken, hbeh, hfix, hacc, hwd, natField_one_of_bit hbit]

theorem Fld.taken_w1c_zero (hacc : f.acc = .w1c) (hz : natField w f.lo f.width = 0) (hold : old < 2 ^ f.width) :
    f.taken locked old w = old := by
  simp [Fld.taken, hbeh, hfix, hacc, hz, Nat.and_two_pow_sub_one_eq_mod, Nat.mod_eq_of_lt hold]

theorem Fld.taken_w1s_one (hacc : f.acc = .w1s) (hwd : f.width = 1) (hbit : natBit w f.lo = true) : f.taken locked old w = 1 := by
  simp [Fld.taken, hbeh, hfix, hacc, hwd, natField_one_of_bit hbit, Nat.or_mod_two_eq_one]

theorem Fld.taken_rwl (hacc : f.acc = .rwl) : f.taken locked old w = if locked then old else natField w f.lo f.width := by
  simp [Fld.taken, hbeh, hfix, hacc]

theorem Fld.taken_ro (hacc : f.acc = .ro) : f.taken locked old w = old := by
  simp [Fld.taken, hbeh, hfix, hacc]

end

end Sys2Proof.Machine
end

section
/-! PROOF. REGISTER_WRITE in the window of the interrupt controller (R345, R346), LOCK_SET of the ledger, and the statements O5, O7 and O4. -/

namespace Sys2Proof.Machine

/-! ### What follows a write of the interrupt controller -/

/-- The device without what a write of the interrupt controller may change: its registers and bus answer, the harts' inputs, and the
enables cleared just now. -/
def Dev.exceptIrq (d : Dev) : Dev :=
  { d with regs := [], bus := { error := false, data := 0 },
           vol := { d.vol with ks := { d.vol.ks with irq := .replicate 5 false }, flt := { d.vol.flt with masked := [] } } }

/-- A device that agrees with d in all else is d with its own registers, bus answer, inputs and enables cleared just now. -/
theorem Dev.eq_of_exceptIrq {d e : Dev} (h : e.exceptIrq = d.exceptIrq) :
    e = { d with regs := e.regs, bus := e.bus,
                 vol := { d.vol with ks := { d.vol.ks with irq := e.vol.ks.irq }, flt := { d.vol.flt with masked := e.vol.flt.masked } } } :=
  congrArg (fun c : Dev => { c with
    regs := e.regs, bus := e.bus,
    vol := { c.vol with ks := { c.vol.ks with irq := e.vol.ks.irq }, flt := { c.vol.flt with masked := e.vol.flt.masked } } }) h

theorem Dev.fieldsTake_exceptIrq (d : Dev) (m : Master) (w : Nat) (fs : List Fld) : (d.fieldsTake m w fs).exceptIrq = d.exceptIrq := by
  rw [Dev.fieldsTake_eq]
  rfl

theorem Dev.enFollow_exceptIrq (d0 d : Dev) (o : Nat) : (d0.enFollow d o).exceptIrq = d.exceptIrq := by
  unfold Dev.enFollow
  split <;> rfl

theorem Dev.enFollow_regs (d0 d : Dev) (o : Nat) : (d0.enFollow d o).regs = d.regs := by
  unfold Dev.enFollow
  split <;> rfl

/-- What the pending line alone keeps at every target, the settling of all pending lines keeps. -/
theorem Dev.settleIrq_keep {β : Type} (P : Dev → β) (h : ∀ (d : Dev) t k agree seen, P (d.takeIrq t k none agree seen) = P d) (d : Dev) :
    P d.settleIrq = P d := by
  unfold Dev.settleIrq Dev.takeLines
  iterate 5 refine (Dev.when_keep P _ _ _ (by exact h _ _ _ _ _)).trans ?_
  rfl

theorem Dev.settleIrq_exceptIrq (d : Dev) : d.settleIrq.exceptIrq = d.exceptIrq :=
  d.settleIrq_keep Dev.exceptIrq fun _ _ _ _ _ => rfl

@[simp] theorem Dev.settleIrq_regs (d : Dev) : d.settleIrq.regs = d.regs :=
  d.settleIrq_keep Dev.regs fun _ _ _ _ _ => rfl

theorem Dev.followWrite_intc (d0 d : Dev) {a : Nat} (ha : a / 0x10000 = 0x4002) :
    d0.followWrite d a = (d0.enFollow d (a % 0x10000)).settleIrq := by
  simp [Dev.followWrite, ha]

/-- The fields of the window of the interrupt controller store what is written. -/
theorem storedValue_of_intc {f : Fld} (hf : f.addr / 0x10000 = 0x4002) (v : Nat) : storedValue f v = v := by
  have hrx : ∀ p : Fin 4, f ≠ CAN.RXBASE_BASE p := by
    rintro p rfl
    revert p
    decide
  simp [storedValue, hf, hrx]

/-! ### The three kinds of registers -/

theorem registerWrite_reserved (s : State) (m : Master) (a d : Word) (hm : s.dev.mayWrite m a.toNat = true) (ha : regFields a.toNat = none) :
    Completes (.registerWrite m a d) s (s.dev.busOk 0) := by
  rw [Completes, exec_registerWrite, Dev.regWrite_allowed hm (w1cBarred_of_reserved ha), Dev.regFieldsWrite_none ha]

/-- A written register that nothing follows: the register file and the bus answer change, and of the fields the register's own. -/
theorem State.fieldsTake_regsOnly (s : State) (m : Master) (w : Nat) (fs : List Fld) :
    s.regsOnly { s with dev := (s.dev.fieldsTake m w fs).busOk 0 } fs := by
  refine ⟨?_, fun f hf => ?_⟩
  · rw [Dev.fieldsTake_eq]
    rfl
  · exact (Dev.busOk_get _ _ f).trans (s.dev.fieldsTake_sameBut m w fs f hf)

/-- A written register of the interrupt controller: its fields are taken, and nothing else changes but the bus answer, the harts' inputs and the
enables cleared just now. -/
theorem Dev.regWrite_intc {d : Dev} {m : Master} {a v : Nat} {fs : List Fld} (hm : d.mayWrite m a = true) (ha : regFields a = some fs)
    (hw : a / 0x10000 = 0x4002) :
    (d.regWrite m a v).regs = (d.fieldsTake m v fs).regs ∧ (d.regWrite m a v).bus = { error := false, data := 0 } ∧
      (d.regWrite m a v).exceptIrq = d.exceptIrq := by
  rw [Dev.regWrite_allowed hm (w1cBarred_of_intc hw), Dev.regFieldsWrite_some ha, Dev.followWrite_intc _ _ hw]
  refine ⟨by simp [Dev.enFollow_regs], rfl, ?_⟩
  calc ((d.enFollow (d.fieldsTake m v fs) (a % 0x10000)).settleIrq.busOk 0).exceptIrq
      = (d.enFollow (d.fieldsTake m v fs) (a % 0x10000)).settleIrq.exceptIrq := rfl
    _ = (d.enFollow (d.fieldsTake m v fs) (a % 0x10000)).exceptIrq := Dev.settleIrq_exceptIrq _
    _ = (d.fieldsTake m v fs).exceptIrq := Dev.enFollow_exceptIrq _ _ _
    _ = d.exceptIrq := d.fieldsTake_exceptIrq m v fs

/-! ### Lock bits (R13) -/

theorem Dev.fieldWrite_ro (d : Dev) (m : Master) (w : Nat) {f : Fld} (hacc : f.acc = .ro) : d.fieldWrite m w f = d := by
  simp [Dev.fieldWrite, hacc]

theorem Dev.fieldWrite_beh (d : Dev) (m : Master) (w : Nat) {f : Fld} (hbeh : f.beh = true) : d.fieldWrite m w f = d := by
  simp [Dev.fieldWrite, hbeh]

/-- A field that is not locked takes its bits of a word. -/
theorem Dev.fieldWrite_unlocked (d : Dev) (m : Master) (w : Nat) {f : Fld} (hbeh : f.beh = false) (hfix : fieldFixed f = false)
    (hacc : f.acc = .rwl) (hl : d.lockedAt f.addr = false) : d.fieldWrite m w f = d.set f (w / 2 ^ f.lo) := by
  simp [Dev.fieldWrite, hbeh, hfix, hacc, hl, Dev.set_mod]

/-- The ledger's lock bit governs the RWL fields of its own register. -/
theorem Dev.lockedAt_ledger (d : Dev) : d.lockedAt LG.CTL_LOCK.addr = d.bit LG.CTL_LOCK := rfl

theorem Dev.lockedAt_set_of_ne (d : Dev) {f : Fld} (v : Nat) (h : LG.CTL_LOCK.key ≠ f.key) :
    (d.set f v).lockedAt LG.CTL_LOCK.addr = d.lockedAt LG.CTL_LOCK.addr := by
  simp only [Dev.lockedAt_ledger, Dev.bit, d.get_set_ne f _ v h]

/-- The ledger's lock register, field by field; nothing follows a write of it. -/
theorem Dev.lockWord_ledger (d : Dev) (m : Master) (v : Nat) :
    d.lockWord m .ledger v = d.fieldsTake m v [LG.CTL_ACCT, LG.CTL_TCH, LG.CTL_TSRC, LG.CTL_LOCK, LG.CTL_IPOL, LG.CTL_RUN] := by
  have hfs : regFields LG.CTL_LOCK.addr = some [LG.CTL_ACCT, LG.CTL_TCH, LG.CTL_TSRC, LG.CTL_LOCK, LG.CTL_IPOL, LG.CTL_RUN] := by decide
  show d.regFieldsWrite m LG.CTL_LOCK.addr v = _
  rw [Dev.regFieldsWrite_some hfs, Dev.followWrite_eq_self _ _ (by decide) (by decide) (by decide)]

theorem Dev.lockWord_ledger_locked (d : Dev) (m : Master) (v : Nat) (hl : d.lockedAt LG.CTL_LOCK.addr = true) : d.lockWord m .ledger v = d := by
  simp only [Dev.lockWord_ledger, Dev.fieldsTake, Dev.each]
  rw [d.fieldWrite_ro m v (f := LG.CTL_ACCT) rfl, d.fieldWrite_locked m v LG.CTL_TCH rfl hl, d.fieldWrite_locked m v LG.CTL_TSRC rfl hl,
    d.fieldWrite_beh m v (f := LG.CTL_LOCK) rfl, d.fieldWrite_locked m v LG.CTL_IPOL rfl hl, d.fieldWrite_ro m v (f := LG.CTL_RUN) rfl]

theorem Dev.lockWord_ledger_unlocked (d : Dev) (m : Master) (v : Nat) (hl : d.lockedAt LG.CTL_LOCK.addr = false) :
    d.lockWord m .ledger v = ((d.set LG.CTL_TCH (v / 2 ^ 20)).set LG.CTL_TSRC (v / 2 ^ 16)).set LG.CTL_IPOL (v / 2 ^ 1) := by
  have hl1 := (d.lockedAt_set_of_ne (f := LG.CTL_TCH) (v / 2 ^ LG.CTL_TCH.lo) (by decide)).trans hl
  have hl2 := (Dev.lockedAt_set_of_ne _ (f := LG.CTL_TSRC) (v / 2 ^ LG.CTL_TSRC.lo) (by decide)).trans hl1
  simp only [Dev.lockWord_ledger, Dev.fieldsTake, Dev.each]
  rw [d.fieldWrite_ro m v (f := LG.CTL_ACCT) rfl, d.fieldWrite_unlocked m v (f := LG.CTL_TCH) rfl (by decide) rfl hl,
    Dev.fieldWrite_unlocked _ m v (f := LG.CTL_TSRC) rfl (by decide) rfl hl1, Dev.fieldWrite_beh _ m v (f := LG.CTL_LOCK) rfl,
    Dev.fieldWrite_unlocked _ m v (f := LG.CTL_IPOL) rfl (by decide) rfl hl2, Dev.fieldWrite_ro _ m v (f := LG.CTL_RUN) rfl]
  rfl

theorem exec_lockSet (s : State) (m : Master) (k : LockBlock) (d : Word) (hm : s.dev.mayWrite m (lockFld k).addr = true)
    (hbit : natBit d.toNat (lockFld k).lo = true) :
    Completes (.lockSet m k d) s (((s.dev.lockWord m k d.toNat).set (lockFld k) 1).busOk 0) := by
  show execLockSet m k d s = _
  simp [execLockSet, State.lift, hm, hbit]

theorem lockFld_width (k : LockBlock) : (lockFld k).width = 1 := by cases k <;> rfl

end Sys2Proof.Machine

open Sys2Proof Sys2Proof.Machine

/-- Settles O5: every field of a register is taken once, by its access code (`Dev.get_fieldsTake`), because no write of a register reaches a
lock bit; what follows in the window of the interrupt controller leaves the register file (`Dev.regWrite_intc`). -/
theorem registerWriteByAccessCode : Obligations.RegisterWriteByAccessCode := by
  refine ⟨registerWrite_reserved, ?_, ?_, ?_⟩
  · intro s m a d fs hm ha hw hnd hwin hana hth
    have hdev : s.dev.regWrite m a.toNat d.toNat = (s.dev.fieldsTake m d.toNat fs).busOk 0 := by
      rw [Dev.regWrite_allowed hm hw, Dev.regFieldsWrite_some ha, Dev.followWrite_eq_self _ _ hwin hana hth]
    refine ⟨_, exec_registerWrite s m a d, ?_⟩
    simp only [hdev]
    refine ⟨s.fieldsTake_regsOnly m d.toNat fs, rfl, fun f hf hbeh hfix => ?_⟩
    rw [Dev.busOk_get, Dev.get_fieldsTake ha m _ _ fs (List.Subset.refl _) hnd hf]
    exact ⟨Fld.taken_rw hbeh hfix _ _ _, Fld.taken_w1c_one hbeh hfix _ _ _, Fld.taken_w1c_zero hbeh hfix _ _ _,
      fun hacc hwd hbit _ => Fld.taken_w1s_one hbeh hfix _ _ _ hacc hwd hbit, Fld.taken_rwl hbeh hfix _ _ _, Fld.taken_ro hbeh hfix _ _ _⟩
  · intro s m a d fs hm ha hwin hnd
    obtain ⟨hregs, hbus, hirq⟩ := Dev.regWrite_intc (v := d.toNat) hm ha hwin
    refine ⟨_, exec_registerWrite s m a d, fun f hf => ?_, ?_, fun f hf hbeh hfix => ?_⟩
    · exact (Dev.get_congr hregs f).trans (s.dev.fieldsTake_sameBut m _ fs f hf)
    · rw [← hbus, ← Dev.eq_of_exceptIrq hirq]
    · have hstored := storedValue_of_intc ((regFields_addr ha hf).1 ▸ hwin)
      rw [Dev.get_congr hregs, Dev.get_fieldsTake ha m _ _ fs (List.Subset.refl _) hnd hf]
      refine ⟨fun hacc => ?_, Fld.taken_ro hbeh hfix _ _ _⟩
      rw [Fld.taken_rw hbeh hfix _ _ _ hacc, hstored, natField_mod]
  · intro s m a d hw
    rw [Completes, exec_registerWrite, Dev.regWrite_barred hw]

/-- Settles O7: LOCK_SET ends by setting the lock bit, after the fields of its register took the word (`Dev.lockWord_ledger`); a locked field
takes nothing (`Dev.fieldWrite_locked`). -/
theorem lockSetFreezes : Obligations.LockSetFreezes := by
  refine ⟨fun s m k d hm hbit => ⟨_, exec_lockSet s m k d hm hbit, ?_, rfl, rfl⟩, fun s m d hm hbit => ?_, fun d m w f hacc hl => ?_⟩
  · exact (Dev.busOk_get _ _ _).trans (Dev.get_set_one _ (lockFld_width k))
  · have hlock := exec_lockSet s m .ledger d hm hbit
    cases hl : s.dev.bit LG.CTL_LOCK with
    | true => rwa [Dev.lockWord_ledger_locked _ _ _ hl] at hlock
    | false => rwa [Dev.lockWord_ledger_unlocked _ _ _ hl] at hlock
  · exact d.fieldWrite_locked m w f hacc hl

/-- Settles O4: the register file of the machine right after reset lists the power-on cause alone. -/
theorem resetState : Obligations.ResetState := by
  refine ⟨rfl, rfl, rfl, rfl, fun f hf => ?_, rfl, rfl, rfl⟩
  show rfGet [(LC.RSTCAUSE_POR.key, 1)] f.key f.rst = f.rst
  simp [rfGet, rfFind, Ne.symm hf]

end

section
/-! PROOF. The fields that the output stages, the engine's states and the bridge safe state can reach, and what a refresh pulse keeps. -/

namespace Sys2Proof.Machine

/-! ### The output stages -/

/-- The fields that the output stages set: the interlock's record of both modulators, and the waits for the cross-interlock. -/
def driveFlds : List Fld :=
  ([0, 1] : List Bridge).flatMap (fun x : Bridge => [ MOD.STAT_SHOOT_REJ x, MOD.STAT_SHOOTCNT x]) ++ allChans.map fun n : Chan => GL.CHSUP_INTLKH n

theorem mem_driveFlds_shoot (x : Bridge) : ∀ f ∈ [ MOD.STAT_SHOOT_REJ x, MOD.STAT_SHOOTCNT x], f ∈ driveFlds := by
  revert x
  decide +kernel

theorem mem_driveFlds_intlkh (n : Chan) : GL.CHSUP_INTLKH n ∈ driveFlds :=
  List.mem_append_right _ (List.mem_map_of_mem (List.mem_finRange n))

theorem Dev.modMod_sameBut (d : Dev) (x : Bridge) (f : ModState → ModState) (l : List Fld) : d.sameBut (d.modMod x f) l :=
  .of_regs (d.modMod_regs x f).symm l

theorem Dev.modGl_sameBut (d : Dev) (f : GateLink → GateLink) (l : List Fld) : d.sameBut (d.modGl f) l :=
  .of_regs (d.modGl_regs f).symm l

theorem Dev.judgeConflict_sameBut (d : Dev) (x : Bridge) (p : Fin 3) : d.sameBut (d.judgeConflict x p) driveFlds := by
  have hmem := mem_driveFlds_shoot x
  unfold Dev.judgeConflict
  refine Dev.sameBut.when (d.modMod_sameBut x _ _) _ ?_
  refine Dev.sameBut.trans ?_ (.of_regs (Dev.assertLine_regs _ _ _).symm _)
  exact ((d.modMod_sameBut x _ _).set (hmem _ (by simp)) 1).countSat (hmem _ (by simp))

theorem Dev.launchOff_regs (d : Dev) (n : Chan) (t : Nat) : (d.launchOff n t).regs = d.regs := by
  unfold Dev.launchOff
  split <;> rfl

theorem Dev.launchOn_sameBut (d : Dev) (n : Chan) (t : Nat) : d.sameBut (d.launchOn n t) driveFlds := by
  unfold Dev.launchOn
  split
  · exact .refl d _
  · split
    · exact .of_regs rfl _
    · split
      · exact .refl d _
      · exact Dev.sameBut.countSat (.of_regs rfl _) (mem_driveFlds_intlkh n)

theorem Dev.driveAt_sameBut (d : Dev) (t : Nat) : d.sameBut (d.driveAt t) driveFlds := by
  unfold Dev.driveAt
  refine Dev.sameBut.each (Dev.sameBut.each ?_ _ fun c n _ => ?_) _ fun c n _ => ?_
  · exact ((Dev.sameBut.refl d _).each _ fun c xp _ => c.judgeConflict_sameBut xp.1 xp.2).trans (Dev.modGl_sameBut _ _ _)
  · split
    · exact .refl c _
    · exact .of_regs (c.launchOff_regs n _).symm _
  · split
    · exact c.launchOn_sameBut n _
    · exact .refl c _

theorem Dev.drive_sameBut (d : Dev) : d.sameBut d.drive driveFlds := d.driveAt_sameBut _

theorem Dev.movedAt_sameBut (d : Dev) (t : Nat) : d.sameBut (d.movedAt t) driveFlds := by
  unfold Dev.movedAt
  exact ((Dev.sameBut.refl d _).each _ fun c x _ => c.modMod_sameBut x _ _).trans (Dev.driveAt_sameBut _ t)

theorem Dev.pwmRun_sameBut (d : Dev) (n t : Nat) : d.sameBut (d.pwmRun n t) driveFlds := by
  induction n generalizing d with
  | zero => exact .refl d _
  | succ n ih =>
    unfold Dev.pwmRun
    split
    · exact (d.movedAt_sameBut _).trans (ih _)
    · exact .refl d _

theorem Dev.updateLegs_sameBut (d : Dev) (x : Bridge) (t : Nat) : d.sameBut (d.updateLegs x t) driveFlds :=
  (d.modMod_sameBut x _ _).trans (Dev.driveAt_sameBut _ t)

theorem Dev.commutate_sameBut (d : Dev) (x : Bridge) (t : Nat) : d.sameBut (d.commutate x t) driveFlds := by
  unfold Dev.commutate
  split
  · exact ((d.pwmRun_sameBut 30 _).trans (Dev.modMod_sameBut _ x _ _)).trans (Dev.updateLegs_sameBut _ x _)
  · exact .refl d _

/-! ### What the output stages keep of a modulator -/

theorem Dev.judgeConflict_refresh (d : Dev) (x y : Bridge) (p : Fin 3) : ((d.judgeConflict y p).modS x).refresh = (d.modS x).refresh := by
  have hmod : ((d.modMod y fun m => { m with conflict := vset m.conflict p (d.legBothOn y p) }).modS x).refresh = (d.modS x).refresh := by
    by_cases h : y = x
    · subst h
      simp [Dev.modS, Dev.modMod]
    · simp [Dev.modS, Dev.modMod, vget_vset_ne _ _ _ _ h]
  refine (Dev.when_keep (fun d => (d.modS x).refresh) _ _ _ ?_).trans hmod
  simp [Dev.modS]

theorem Dev.launchOff_mod (d : Dev) (n : Chan) (t : Nat) : (d.launchOff n t).vol.mod = d.vol.mod := by
  unfold Dev.launchOff
  split <;> rfl

theorem Dev.launchOn_mod (d : Dev) (n : Chan) (t : Nat) : (d.launchOn n t).vol.mod = d.vol.mod := by
  unfold Dev.launchOn
  split
  · rfl
  · split
    · rfl
    · split
      · rfl
      · simp

/-- The output stages leave the refresh pulses. -/
theorem Dev.drive_refresh (d : Dev) (x : Bridge) : (d.drive.modS x).refresh = (d.modS x).refresh := by
  have hon : ∀ (c : Dev) (k : Nat), (c.each allChans fun d n => if d.wantOn n then d.launchOn n k else d).vol.mod = c.vol.mod := by
    refine fun c k => Dev.each_keep (fun d => d.vol.mod) _ _ (fun d n _ => ?_) c
    split
    · exact d.launchOn_mod n k
    · rfl
  have hoff : ∀ (c : Dev) (k : Nat), (c.each allChans fun d n => if d.wantOn n then d else d.launchOff n k).vol.mod = c.vol.mod := by
    refine fun c k => Dev.each_keep (fun d => d.vol.mod) _ _ (fun d n _ => ?_) c
    split
    · rfl
    · exact d.launchOff_mod n k
  unfold Dev.drive Dev.driveAt
  simp only [Dev.modS, hon, hoff, Dev.stage6At, Dev.modGl_vol_mod]
  exact Dev.each_keep (fun d => (d.modS x).refresh) _ _ (fun c xp _ => c.judgeConflict_refresh x xp.1 xp.2) d

/-! ### `RUN` and the engine's states -/

/-- The fields that a change of the engine's state sets, of both bridges. -/
def engineFlds : List Fld :=
  ([0, 1] : List Bridge).flatMap (fun b : Bridge =>
    [CE.BSTAT_ST b, CE.TSTCFG_TSTATE b, MOD.CTL_RUN b, MOD.OMASK_OMASK b, MOD.CTL_SRC b, MOD.CTL_OUTEN b]) ++
  [CE.LIMPST_ACTA, CE.LIMPST_ACTB, FCOL.REACT_STOPA, FCOL.REACT_STOPB, GL.DSCSTAT_ST, DE.STAT_OPSTATE] ++ driveFlds

theorem driveFlds_subset_engineFlds : driveFlds ⊆ engineFlds := List.subset_append_right _ _

theorem mem_engineFlds_of_bridge (b : Bridge) : ∀ f ∈ [CE.BSTAT_ST b, CE.TSTCFG_TSTATE b, MOD.CTL_RUN b, MOD.OMASK_OMASK b, MOD.CTL_SRC b,
    MOD.CTL_OUTEN b], f ∈ engineFlds := by
  revert b
  decide +kernel

theorem mem_engineFlds_shared : ∀ f ∈ [CE.LIMPST_ACTA, CE.LIMPST_ACTB, FCOL.REACT_STOPA, FCOL.REACT_STOPB, GL.DSCSTAT_ST, DE.STAT_OPSTATE],
    f ∈ engineFlds :=
  fun _ hf => List.mem_append_left _ (List.mem_append_right _ hf)

theorem Dev.updateRun_sameBut (d : Dev) (x : Bridge) : d.sameBut (d.updateRun x) [ MOD.CTL_RUN x] := by
  have hrun : ∀ b, d.sameBut (d.setBit (MOD.CTL_RUN x) b) [ MOD.CTL_RUN x] := fun b =>
    (Dev.sameBut.refl d _).setBit (List.mem_singleton_self _) b
  unfold Dev.updateRun
  dsimp only
  generalize (if d.bit (MOD.CTL_SRC x) then _ else _ : Bool) = run
  split
  · exact hrun _
  · exact (hrun _).trans ((Dev.modGl_sameBut _ _ _).trans (Dev.modMod_sameBut _ _ _ _))

theorem Dev.drive_engineFlds (d : Dev) : d.sameBut d.drive engineFlds := d.drive_sameBut.mono driveFlds_subset_engineFlds

theorem Dev.updateRun_engineFlds (d : Dev) (x : Bridge) : d.sameBut (d.updateRun x) engineFlds :=
  (d.updateRun_sameBut x).mono (List.cons_subset.mpr ⟨mem_engineFlds_of_bridge x _ (by simp), List.nil_subset _⟩)

theorem Dev.leaveService_sameBut (d : Dev) : d.sameBut d.leaveService engineFlds := by
  unfold Dev.leaveService
  refine Dev.sameBut.trans ((Dev.sameBut.refl d _).each _ fun c x _ => ?_) (Dev.drive_engineFlds _)
  have hmem := mem_engineFlds_of_bridge x
  exact ((((Dev.sameBut.refl c _).set (hmem _ (by simp)) 0).set (hmem _ (by simp)) 0).set (hmem _ (by simp)) 0).trans (Dev.updateRun_engineFlds _ x)

theorem Dev.opTo_sameBut (d : Dev) (st : Nat) : d.sameBut (d.opTo st) engineFlds := by
  unfold Dev.opTo
  split
  · exact .refl d _
  · have hst : d.sameBut ((({ d with vol := { d.vol with dict := { d.vol.dict with readyAsked := false } } } : Dev).set DE.STAT_OPSTATE st).edge 340)
        engineFlds :=
      (Dev.sameBut.set (.of_regs rfl _) (mem_engineFlds_shared _ (by simp)) st).trans (.of_regs (Dev.edge_regs _ _).symm _)
    exact hst.when _ (hst.trans (Dev.leaveService_sameBut _))

theorem Dev.readyEnd_sameBut (d : Dev) : d.sameBut d.readyEnd engineFlds := by
  unfold Dev.readyEnd
  split
  · exact d.opTo_sameBut 2
  · exact .refl d _

theorem Dev.dscTo_sameBut (d : Dev) (st : Nat) : d.sameBut (d.dscTo st) engineFlds := by
  have hst : d.sameBut (d.set GL.DSCSTAT_ST st) engineFlds := (Dev.sameBut.refl d _).set (mem_engineFlds_shared _ (by simp)) st
  exact hst.when _ (hst.trans (.of_regs (Dev.edge_regs _ _).symm _))

theorem Dev.dscFollow_sameBut (d : Dev) : d.sameBut d.dscFollow engineFlds := by
  unfold Dev.dscFollow
  split
  · exact (Dev.modGl_sameBut d _ _).trans (Dev.dscTo_sameBut _ _)
  · exact .refl d _

theorem Dev.modEng_sameBut (d : Dev) (b : Bridge) (f : EngState → EngState) (l : List Fld) : d.sameBut (d.modEng b f) l :=
  .of_regs (d.modEng_regs b f).symm l

theorem Dev.abortTest_sameBut (d : Dev) (b : Bridge) : d.sameBut (d.abortTest b) engineFlds := by
  unfold Dev.abortTest
  refine Dev.sameBut.when (d.modEng_sameBut b _ _) _ ?_
  exact ((d.modEng_sameBut b _ _).set (mem_engineFlds_of_bridge b _ (by simp)) 3).trans (.of_regs (Dev.edge_regs _ _).symm _)

theorem Dev.clearAct_sameBut (d : Dev) (b : Bridge) : d.sameBut (d.clearAct b) engineFlds := by
  refine (Dev.sameBut.refl d _).set (mem_engineFlds_shared _ ?_) 0
  split <;> simp

theorem Dev.engineTo_sameBut (d : Dev) (b : Bridge) (st : Nat) : d.sameBut (d.engineTo b st) engineFlds := by
  unfold Dev.engineTo
  split
  · exact .refl d _
  · have hst : d.sameBut ((d.set (CE.BSTAT_ST b) st).edge (131 + 16 * b)) engineFlds :=
      ((Dev.sameBut.refl d _).set (mem_engineFlds_of_bridge b _ (by simp)) st).trans (.of_regs (Dev.edge_regs _ _).symm _)
    refine Dev.sameBut.trans ?_ (Dev.readyEnd_sameBut _)
    refine Dev.sameBut.trans ?_ (Dev.drive_engineFlds _)
    refine Dev.sameBut.trans ?_ (Dev.dscFollow_sameBut _)
    refine Dev.sameBut.trans ?_ (Dev.updateRun_engineFlds _ b)
    refine Dev.sameBut.set ?_ (mem_engineFlds_shared _ (by split <;> simp)) _
    refine Dev.sameBut.trans ?_ (Dev.sameBut.when (.refl _ _) _ (Dev.modEng_sameBut _ b _ _))
    exact hst.when _ (((hst.trans (Dev.abortTest_sameBut _ b)).trans (Dev.clearAct_sameBut _ b)).trans (Dev.modEng_sameBut _ b _ _))

/-! ### The bridge safe state -/

theorem Dev.ascFollow_sameBut (d0 d : Dev) (b : Bridge) (l : List Fld) : d.sameBut (d0.ascFollow d b) l := by
  unfold Dev.ascFollow
  split
  · exact .refl d l
  · exact d.modEng_sameBut b _ l

/-- The fields that the safe state of bridge x sets beside `APPLIED`. -/
def safeFlds (x : Bridge) : List Fld := [GL.BSTAT_PAT x, GL.BSTAT_ENTRIES x] ++ engineFlds

/-- With a cause set the safe state applies, and what it sets besides is in `safeFlds`. -/
theorem Dev.applySafe_sameBut {d : Dev} {x : Bridge} (h : d.anyCause x = true) :
    (d.set (GL.BSTAT_APPLIED x) 1).sameBut (d.applySafe x) (safeFlds x) := by
  have heng : engineFlds ⊆ safeFlds x := List.subset_append_right _ _
  have happ : (d.set (GL.BSTAT_APPLIED x) 1).sameBut ((d.set (GL.BSTAT_APPLIED x) 1).setBit (GL.BSTAT_PAT x) (vget d.vol.gl.pat x)) (safeFlds x) :=
    (Dev.sameBut.refl _ _).setBit (by simp [safeFlds]) _
  unfold Dev.applySafe
  rw [if_pos h]
  refine Dev.sameBut.trans ?_ (Dev.ascFollow_sameBut _ _ x _)
  refine Dev.sameBut.trans ?_ ((Dev.drive_engineFlds _).mono heng)
  refine Dev.sameBut.trans ?_ (Dev.sameBut.when (.refl _ _) _ ((Dev.engineTo_sameBut _ x 4).mono heng))
  refine happ.when _ ?_
  exact (happ.countSat (by simp [safeFlds])).trans (.of_regs (Dev.edge_regs _ _).symm _)

end Sys2Proof.Machine
end

section
/-! PROOF. Modulator mode, dead time, refresh and heartbeat (O31). -/

namespace Sys2Proof.Machine

/-! ### The write of `CTL` -/

/-- The plain fields of `CTL`, which a write always gives their values. -/
def ctlPlainFlds (x : Bridge) : List Fld :=
  [ MOD.CTL_OUTEN x, MOD.CTL_SV x, MOD.CTL_DITH x, MOD.CTL_RATIO x, MOD.CTL_GRP x, MOD.CTL_RLD x, MOD.CTL_SRC x]

/-- `CTL` after a write, before the counter and the legs follow: the plain fields, `MODEREJ`, `MODE` and `EN` (R201). -/
def Dev.ctlTaken (d : Dev) (x : Bridge) (v : Nat) (modeToo : Bool) : Dev :=
  ((((d.writeFields (ctlPlainFlds x) v).when
    (d.bit (MOD.CTL_RUN x) && ((modeToo && !d.bit (MOD.CTL_LOCK x)) || !natBit v 0)) fun d => d.set (MOD.STAT_MODEREJ x) 1).when
    (!d.bit (MOD.CTL_RUN x) && !d.bit (MOD.CTL_LOCK x) && modeToo) fun d => d.set (MOD.CTL_MODE x) (natField v 1 2)).when
    (natBit v 0 || !d.bit (MOD.CTL_RUN x)) fun d => d.setBit (MOD.CTL_EN x) (natBit v 0))

/-- With `EN` 0 the counter stops at 0 (R205). -/
def Dev.ctlHalt (d : Dev) (x : Bridge) : Dev :=
  d.when (!d.bit (MOD.CTL_EN x)) fun d => ((d.modMod x fun m => { m with running := false }).set (MOD.CNT_CNT x) 0).set (MOD.CNT_DIR x) 0

theorem Dev.modCtlWrite_eq (d : Dev) (x : Bridge) (v : Nat) (modeToo : Bool) :
    d.modCtlWrite x v modeToo = ((d.ctlTaken x v modeToo).ctlHalt x).modCtlFollow x := rfl

/-- The fields that the counter and the legs set after a write of `CTL`. -/
def ctlFollowFlds (x : Bridge) : List Fld := [ MOD.CNT_CNT x, MOD.CNT_DIR x, MOD.CTL_RUN x] ++ driveFlds

theorem Dev.writeFields_sameBut (d : Dev) (fs : List Fld) (v : Nat) : d.sameBut (d.writeFields fs v) fs :=
  (Dev.sameBut.refl d fs).each fs fun c _ hf => (Dev.sameBut.refl c fs).set hf _

theorem Dev.ctlHalt_sameBut (d : Dev) (x : Bridge) : d.sameBut (d.ctlHalt x) (ctlFollowFlds x) :=
  (Dev.sameBut.refl d _).when _ (((d.modMod_sameBut x _ _).set (by simp [ctlFollowFlds]) 0).set (by simp [ctlFollowFlds]) 0)

theorem Dev.modCtlFollow_sameBut (d : Dev) (x : Bridge) : d.sameBut (d.modCtlFollow x) (ctlFollowFlds x) := by
  have hdrive : driveFlds ⊆ ctlFollowFlds x := List.subset_append_right _ _
  have hrun : [ MOD.CTL_RUN x] ⊆ ctlFollowFlds x := by simp [ctlFollowFlds]
  exact (((d.updateRun_sameBut x).mono hrun).trans ((Dev.commutate_sameBut _ x _).mono hdrive)).trans
    ((Dev.updateLegs_sameBut _ x _).mono hdrive)

/-- `MODEREJ`, `MODE` and `EN`: the fields that R201 speaks of. -/
def ctlModeFlds (x : Bridge) : List Fld := [ MOD.STAT_MODEREJ x, MOD.CTL_MODE x, MOD.CTL_EN x]

theorem ctlModeFlds_key_ne_follow (x : Bridge) : ∀ f ∈ ctlModeFlds x, ∀ g ∈ ctlFollowFlds x, f.key ≠ g.key := by
  revert x
  decide +kernel

theorem ctlModeFlds_key_ne_plain (x : Bridge) : ∀ f ∈ ctlModeFlds x, ∀ g ∈ ctlPlainFlds x, f.key ≠ g.key := by
  revert x
  decide +kernel

theorem ctlModeFlds_key_ne (x : Bridge) : (MOD.CTL_MODE x).key ≠ (MOD.STAT_MODEREJ x).key ∧
    (MOD.CTL_EN x).key ≠ (MOD.STAT_MODEREJ x).key ∧ (MOD.CTL_MODE x).key ≠ (MOD.CTL_EN x).key ∧
    (MOD.STAT_MODEREJ x).key ≠ (MOD.CTL_EN x).key := by
  revert x
  decide

/-- `MODEREJ`, `MODE` and `EN` hold after a write of `CTL` what the register took. -/
theorem Dev.get_modCtlWrite (d : Dev) (x : Bridge) (v : Nat) (modeToo : Bool) {f : Fld} (hf : f ∈ ctlModeFlds x) :
    (d.modCtlWrite x v modeToo).get f = (d.ctlTaken x v modeToo).get f := by
  have hne := ctlModeFlds_key_ne_follow x f hf
  rw [Dev.modCtlWrite_eq, Dev.modCtlFollow_sameBut _ x f hne, Dev.ctlHalt_sameBut _ x f hne]

/-- With `RUN` 1 a write of `CTL` that is not locked sets `MODEREJ` and keeps `MODE`; `EN` 0 has no effect (R201). -/
theorem Dev.get_ctlTaken_running {d : Dev} {x : Bridge} (v : Nat) (hrun : d.bit (MOD.CTL_RUN x) = true) (hlock : d.bit (MOD.CTL_LOCK x) = false) :
    (d.ctlTaken x v true).get (MOD.STAT_MODEREJ x) = 1 ∧ (d.ctlTaken x v true).get (MOD.CTL_MODE x) = d.get (MOD.CTL_MODE x) ∧
      (natBit v 0 = false → (d.ctlTaken x v true).get (MOD.CTL_EN x) = d.get (MOD.CTL_EN x)) := by
  have hplain := fun f hf => d.writeFields_sameBut (ctlPlainFlds x) v f (ctlModeFlds_key_ne_plain x f hf)
  obtain ⟨hmr, her, hme, hre⟩ := ctlModeFlds_key_ne x
  have htaken : d.ctlTaken x v true = ((d.writeFields (ctlPlainFlds x) v).set (MOD.STAT_MODEREJ x) 1).when (natBit v 0) fun d =>
      d.setBit (MOD.CTL_EN x) (natBit v 0) := by
    simp [Dev.ctlTaken, hrun, hlock]
  rw [htaken]
  refine ⟨?_, ?_, fun hen => ?_⟩
  · rw [Dev.when_keep (Dev.get · (MOD.STAT_MODEREJ x)) _ _ _ (Dev.get_setBit_ne _ _ _ _ hre)]
    exact Dev.get_set_one _ rfl
  · rw [Dev.when_keep (Dev.get · (MOD.CTL_MODE x)) _ _ _ (Dev.get_setBit_ne _ _ _ _ hme), Dev.get_set_ne _ _ _ _ hmr,
      hplain _ (by simp [ctlModeFlds])]
  · rw [hen, Dev.when_false, Dev.get_set_ne _ _ _ _ her, hplain _ (by simp [ctlModeFlds])]

/-- With `RUN` 0 `MODE` and `EN` of a write of `CTL` that is not locked take their values (R201). -/
theorem Dev.get_ctlTaken_stopped {d : Dev} {x : Bridge} (v : Nat) (hrun : d.bit (MOD.CTL_RUN x) = false) (hlock : d.bit (MOD.CTL_LOCK x) = false) :
    (d.ctlTaken x v true).get (MOD.CTL_MODE x) = natField v 1 2 ∧ (d.ctlTaken x v true).get (MOD.CTL_EN x) = b2n (natBit v 0) := by
  have htaken : d.ctlTaken x v true =
      ((d.writeFields (ctlPlainFlds x) v).set (MOD.CTL_MODE x) (natField v 1 2)).setBit (MOD.CTL_EN x) (natBit v 0) := by
    simp [Dev.ctlTaken, hrun, hlock]
  obtain ⟨-, -, hme, -⟩ := ctlModeFlds_key_ne x
  rw [htaken]
  refine ⟨?_, Dev.get_setBit_same _ _ _ rfl⟩
  rw [Dev.get_setBit_ne _ _ _ _ hme, Dev.get_set_same]
  exact natField_mod v 1 2

theorem exec_modeWrite_ctl {s : State} {m : Master} {x : Bridge} (v : Word) (hm : s.dev.modWritable m x 0 = true) :
    Completes (.modeWrite m x (.ctl v)) s ((s.dev.modCtlWrite x v.toNat true).busOk 0) := by
  show execModeWrite m x (.ctl v) s = _
  simp [execModeWrite, State.lift, hm]

theorem exec_modeWrite_dead {s : State} {m : Master} {x : Bridge} (v : Word) (hm : s.dev.modWritable m x 4 = true) :
    Completes (.modeWrite m x (.dead v)) s ((s.dev.modDeadWrite x v.toNat).busOk 0) := by
  show execModeWrite m x (.dead v) s = _
  simp [execModeWrite, State.lift, hm]

/-- A write of `CTL` or `DEAD` by a master that may not write there is a forbidden access (R34, R202). -/
theorem exec_modeWrite_forbidden (s : State) (m : Master) (x : Bridge) (v : Word) :
    (s.dev.modWritable m x 4 = false → Completes (.modeWrite m x (.dead v)) s (s.dev.busError m (0x40400004 + 0x10000 * x) true)) ∧
    (s.dev.modWritable m x 0 = false → Completes (.modeWrite m x (.ctl v)) s (s.dev.busError m (0x40400000 + 0x10000 * x) true)) := by
  refine ⟨fun hm => ?_, fun hm => ?_⟩
  · show execModeWrite m x (.dead v) s = _
    simp [execModeWrite, State.lift, hm]
  · show execModeWrite m x (.ctl v) s = _
    simp [execModeWrite, State.lift, hm]

/-! ### The dead time -/

theorem Dev.modDeadWrite_locked {d : Dev} {x : Bridge} (v : Nat) (hlock : d.get (MOD.CTL_LOCK x) = 1) : d.modDeadWrite x v = d := by
  simp [Dev.modDeadWrite, Dev.bit, hlock]

theorem Dev.modDeadWrite_running {d : Dev} {x : Bridge} (v : Nat) (hlock : d.get (MOD.CTL_LOCK x) ≠ 1) (hrun : d.get (MOD.CTL_RUN x) = 1) :
    d.modDeadWrite x v = d.set (MOD.STAT_MODEREJ x) 1 := by
  simp [Dev.modDeadWrite, Dev.bit, hlock, hrun]

theorem Dev.modDeadWrite_stopped {d : Dev} {x : Bridge} (v : Nat) (hlock : d.get (MOD.CTL_LOCK x) ≠ 1) (hrun : d.get (MOD.CTL_RUN x) ≠ 1) :
    d.modDeadWrite x v = d.set (MOD.DEAD_DT x) v := by
  simp [Dev.modDeadWrite, Dev.bit, hlock, hrun]

/-! ### Refresh pulses -/

/-- A refresh pulse of leg p begins: it is noted, counted, and a shift by the window rule recorded (R219). -/
def Dev.refreshStart (d : Dev) (x : Bridge) (p : Fin 3) : Dev :=
  (((d.modMod x fun m => { m with refresh := vset m.refresh p true }).set (MOD.STAT_RFINS x) 1).countWrap (MOD.STAT_RFCNT x)).when
    (d.refreshMoved x) fun d => d.set (MOD.STAT_WSHIFT x) 1

theorem exec_refreshPulse_start {s : State} {x : Bridge} {p : Fin 3} (hrun : s.dev.get (MOD.CTL_RUN x) = 1) (hleg : s.dev.refreshLeg x p = true)
    (hhigh : vget (s.dev.modS x).leg p = 2) (hno : vget (s.dev.modS x).refresh p = false)
    (hmask : natField (s.dev.get (MOD.OMASK_OMASK x)) (4 * p) 2 ≠ 2) :
    Completes (.refreshPulse x p true) s (s.dev.refreshStart x p).drive := by
  show execRefreshPulse x p true s = _
  simp [execRefreshPulse, State.lift, Dev.bit, hrun, hleg, hhigh, hno, hmask, Dev.refreshStart]

theorem exec_refreshPulse_none {s : State} {x : Bridge} {p : Fin 3}
    (h : s.dev.get (MOD.CTL_RUN x) ≠ 1 ∨ s.dev.refreshLeg x p = false ∨ vget (s.dev.modS x).leg p ≠ 2) :
    Completes (.refreshPulse x p true) s s.dev := by
  show execRefreshPulse x p true s = _
  obtain h | h | h := h <;> simp [execRefreshPulse, State.lift, Dev.bit, h]

theorem exec_refreshPulse_end (s : State) (x : Bridge) (p : Fin 3) :
    Completes (.refreshPulse x p false) s (s.dev.modMod x fun m => { m with refresh := vset m.refresh p false }).drive := rfl

theorem Dev.modMod_modS (d : Dev) (x : Bridge) (f : ModState → ModState) : (d.modMod x f).modS x = f (d.modS x) :=
  vget_vset_same _ _ _

theorem Dev.refreshStart_refresh (d : Dev) (x : Bridge) (p : Fin 3) : vget ((d.refreshStart x p).modS x).refresh p = true := by
  have hmod : (d.refreshStart x p).modS x = { d.modS x with refresh := vset (d.modS x).refresh p true } :=
    (Dev.when_keep (Dev.modS · x) _ _ _ rfl).trans
      (d.modMod_modS x fun m => { m with refresh := vset m.refresh p true })
  rw [hmod, vget_vset_same]

theorem refresh_key_ne (x : Bridge) : (∀ g ∈ driveFlds, (MOD.STAT_RFINS x).key ≠ g.key ∧ (MOD.STAT_RFCNT x).key ≠ g.key) ∧
    (MOD.STAT_RFINS x).key ≠ (MOD.STAT_RFCNT x).key ∧ (MOD.STAT_RFINS x).key ≠ (MOD.STAT_WSHIFT x).key ∧
    (MOD.STAT_RFCNT x).key ≠ (MOD.STAT_WSHIFT x).key := by
  revert x
  decide +kernel

theorem Dev.get_refreshStart (d : Dev) (x : Bridge) (p : Fin 3) :
    (d.refreshStart x p).get (MOD.STAT_RFINS x) = 1 ∧
      (d.refreshStart x p).get (MOD.STAT_RFCNT x) = (d.get (MOD.STAT_RFCNT x) + 1) % 2 ^ (MOD.STAT_RFCNT x).width := by
  obtain ⟨-, hic, hiw, hcw⟩ := refresh_key_ne x
  constructor
  · refine (Dev.when_keep (Dev.get · (MOD.STAT_RFINS x)) _ _ _ (Dev.get_set_ne _ _ _ _ hiw)).trans ?_
    rw [Dev.countWrap, Dev.get_set_ne _ _ _ _ hic]
    exact Dev.get_set_one _ rfl
  · refine (Dev.when_keep (Dev.get · (MOD.STAT_RFCNT x)) _ _ _ (Dev.get_set_ne _ _ _ _ hcw)).trans ?_
    rw [Dev.countWrap, Dev.get_set_same, Dev.get_set_ne _ _ _ _ hic.symm, Dev.modMod_get]

/-! ### The heartbeat -/

theorem exec_heartbeatLoss {s : State} (x : Bridge) (hup : s.dev.domainUp 5 = true) :
    Completes (.heartbeatLoss x) s ((s.dev.safeCause x (GL.BSTAT_HBEAT x)).assertLine 31 (brMask x)) := by
  show execHeartbeatLoss x s = _
  simp [execHeartbeatLoss, State.lift, hup]

theorem exec_heartbeatLoss_down {s : State} (x : Bridge) (hup : s.dev.domainUp 5 = false) : Completes (.heartbeatLoss x) s s.dev := by
  show execHeartbeatLoss x s = _
  simp [execHeartbeatLoss, State.lift, hup]

theorem Dev.mem_raised_assertLine (d : Dev) (l br : Nat) : (l, br) ∈ (d.assertLine l br).raised := by
  unfold Dev.assertLine
  split
  case isTrue h => simpa using h
  case isFalse => simp

theorem safe_key_ne (x : Bridge) : ∀ f ∈ GL.BSTAT_APPLIED x :: causeBits x, ∀ g ∈ safeFlds x, f.key ≠ g.key := by
  revert x
  decide +kernel

theorem cause_key_ne_applied (x : Bridge) : ∀ f ∈ causeBits x, f.width = 1 ∧ f.key ≠ (GL.BSTAT_APPLIED x).key := by
  revert x
  decide +kernel

/-- A cause of the bridge safe state is recorded, and the safe state applies (R280). -/
theorem Dev.get_safeCause (d : Dev) (x : Bridge) {f : Fld} (hf : f ∈ causeBits x) :
    (d.safeCause x f).get f = 1 ∧ (d.safeCause x f).get (GL.BSTAT_APPLIED x) = 1 := by
  obtain ⟨hwd, hne⟩ := cause_key_ne_applied x f hf
  have hset : (d.set f 1).get f = 1 := d.get_set_one hwd
  have hcause : (d.set f 1).anyCause x = true := List.any_eq_true.mpr ⟨f, hf, by simp [Dev.bit, hset]⟩
  have hsame := Dev.applySafe_sameBut hcause
  refine ⟨?_, ?_⟩
  · rw [Dev.safeCause, hsame f (safe_key_ne x f (List.mem_cons_of_mem _ hf)), Dev.get_set_ne _ _ _ _ hne, hset]
  · rw [Dev.safeCause, hsame _ (safe_key_ne x _ List.mem_cons_self)]
    exact Dev.get_set_one _ rfl

end Sys2Proof.Machine

open Sys2Proof Sys2Proof.Machine

/-- Settles O31: the fields of a write of `CTL` are read off what the register took (`Dev.get_modCtlWrite`), a refresh pulse and a cause of the
safe state off their entries, because the output stages and the engine's states set other fields (`Dev.drive_sameBut`, `Dev.applySafe_sameBut`). -/
theorem modulatorModes : Obligations.ModulatorModes := by
  refine ⟨fun s m x v hm => ?_, exec_modeWrite_forbidden, fun s m x v hm hlock => ?_, fun s x p => ⟨?_, exec_refreshPulse_none, ?_⟩,
    fun s x => ⟨fun hup => ?_, exec_heartbeatLoss_down x⟩⟩
  · have hdead := exec_modeWrite_dead v hm
    refine ⟨fun hrun hlock => ?_, fun hrun hlock => ?_, fun hlock => ?_⟩
    · rwa [Dev.modDeadWrite_running _ hlock hrun] at hdead
    · rwa [Dev.modDeadWrite_stopped _ hlock hrun] at hdead
    · rwa [Dev.modDeadWrite_locked _ hlock] at hdead
  · have hlock' : s.dev.bit (MOD.CTL_LOCK x) = false := decide_eq_false hlock
    have hget := fun f hf => (Dev.busOk_get _ 0 f).trans (s.dev.get_modCtlWrite x v.toNat true hf)
    refine ⟨fun hrun => ⟨_, exec_modeWrite_ctl v hm, ?_⟩, fun hrun => ⟨_, exec_modeWrite_ctl v hm, ?_⟩⟩
    · obtain ⟨hrej, hmode, hen⟩ := Dev.get_ctlTaken_running v.toNat (decide_eq_true hrun) hlock'
      exact ⟨(hget _ (by simp [ctlModeFlds])).trans hrej, (hget _ (by simp [ctlModeFlds])).trans hmode,
        fun h => (hget _ (by simp [ctlModeFlds])).trans (hen h), rfl, rfl⟩
    · obtain ⟨hmode, hen⟩ := Dev.get_ctlTaken_stopped v.toNat (decide_eq_false hrun) hlock'
      exact ⟨(hget _ (by simp [ctlModeFlds])).trans hmode, (hget _ (by simp [ctlModeFlds])).trans hen, rfl, rfl⟩
  · intro hrun hleg hhigh hno hmask
    obtain ⟨hdrive, -⟩ := refresh_key_ne x
    obtain ⟨hins, hcnt⟩ := s.dev.get_refreshStart x p
    refine ⟨_, exec_refreshPulse_start hrun hleg hhigh hno hmask, ?_, ?_, ?_, rfl⟩
    · rw [Dev.drive_refresh, Dev.refreshStart_refresh]
    · rw [Dev.drive_sameBut _ _ fun g hg => (hdrive g hg).1, hins]
    · rw [Dev.drive_sameBut _ _ fun g hg => (hdrive g hg).2, hcnt]
  · refine ⟨_, exec_refreshPulse_end s x p, ?_, rfl⟩
    rw [Dev.drive_refresh, Dev.modMod_modS, vget_vset_same]
  · obtain ⟨hcause, happ⟩ := s.dev.get_safeCause x (f := GL.BSTAT_HBEAT x) (by simp [causeBits])
    exact ⟨_, exec_heartbeatLoss x hup, (Dev.assertLine_get _ _ _ _).trans hcause, (Dev.assertLine_get _ _ _ _).trans happ,
      Dev.mem_raised_assertLine _ _ _, rfl⟩

end

section
/-! PROOF. Accesses that are turned away (O6): the commands that meet R32 to R35, and what a bus error changes. -/

namespace Sys2Proof.Machine

/-! ### The commands -/

theorem exec_unmappedAccess (s : State) (m : Master) (a : Word) (w : Bool) :
    (s.dev.accessAllowed m a.toNat w = false → Completes (.unmappedAccess m a w) s (s.dev.busError m a.toNat w)) ∧
    (s.dev.accessAllowed m a.toNat w = true → Completes (.unmappedAccess m a w) s s.dev) := by
  constructor <;> intro h
  · show execUnmappedAccess m a w s = _
    simp [execUnmappedAccess, State.lift, h]
  · show execUnmappedAccess m a w s = _
    simp [execUnmappedAccess, State.lift, h]

theorem exec_registerWrite_forbidden (s : State) (m : Master) (a d : Word) (h : s.dev.mayWrite m a.toNat = false) :
    Completes (.registerWrite m a d) s (s.dev.busError m a.toNat true) := by
  rw [Completes, exec_registerWrite, Dev.regWrite, h]
  rfl

theorem exec_lockSet_forbidden (s : State) (m : Master) (k : LockBlock) (d : Word) (h : s.dev.mayWrite m (lockFld k).addr = false) :
    Completes (.lockSet m k d) s (s.dev.busError m (lockFld k).addr true) := by
  show execLockSet m k d s = _
  simp [execLockSet, State.lift, h]

theorem exec_ownershipCommit_forbidden (s : State) (m : Master) (pg : Page) (h : s.dev.pageWritable m pg = false) :
    Completes (.ownershipCommit m pg) s (s.dev.busError m (pageBase pg + 0xFFC) true) := by
  show execOwnershipCommit m pg s = _
  simp [execOwnershipCommit, State.lift, h]

/-! ### What a bus error changes -/

/-- A channel that makes a forbidden access takes its error status, the other channels keep theirs; none is aborted by it (R32). -/
theorem Dev.busFault_dma (d : Dev) (m : Master) (a : Nat) (w : Bool) (k : Fin 16) :
    (vget (d.busFault m a w).dma k).err = ((vget d.dma k).err || decide (m = .dma k)) ∧
      (vget (d.busFault m a w).dma k).aborted = (vget d.dma k).aborted := by
  unfold Dev.busFault
  rw [Dev.assertLine_dma]
  cases m with
  | dma c =>
    by_cases h : c = k
    · subst h
      simp
    · simp [h, vget_vset_ne _ _ _ _ h]
  | _ => simp

/-- A forbidden access of a master that is there: the answer, the record, line 3 and the error status of a DMA channel, and no field, no internal
and no nonvolatile state (R32 to R35). -/
theorem Dev.busFault_effect (d : Dev) (m : Master) (a : Nat) (w : Bool) :
    (d.busFault m a w).bus = { error := true, data := 0 } ∧ (d.busFault m a w).access = some { addr := a, master := m, write := w } ∧
      (3, 0) ∈ (d.busFault m a w).raised ∧ d.sameBut (d.busFault m a w) [] ∧ (d.busFault m a w).vol = d.vol ∧ (d.busFault m a w).nv = d.nv :=
  ⟨Dev.assertLine_bus _ _ _, Dev.assertLine_access _ _ _, Dev.mem_raised_assertLine _ _ _, .of_regs (Dev.assertLine_regs _ _ _).symm _,
    Dev.assertLine_vol _ _ _, Dev.assertLine_nv _ _ _⟩

end Sys2Proof.Machine

open Sys2Proof Sys2Proof.Machine

/-- Settles O6: each of the four commands ends in `Dev.busError` where it is turned away, which is `Dev.busFault` of a master that is there and
nothing of one that is not. -/
theorem forbiddenAccess : Obligations.ForbiddenAccess := by
  refine ⟨exec_unmappedAccess, exec_registerWrite_forbidden, exec_lockSet_forbidden, exec_ownershipCommit_forbidden, fun d m a w =>
    ⟨d.busError_absent m a w, fun hm => ?_⟩⟩
  obtain ⟨hbus, haccess, hline, hregs, hvol, hnv⟩ := d.busFault_effect m a w
  rw [d.busError_there m a w hm]
  exact ⟨hbus, haccess, hline, hregs, hvol, hnv, d.busFault_dma m a w⟩

end

section
/-! PROOF. Clock gating, throttling and the root monitor (O9). -/

namespace Sys2Proof.Machine

/-! ### A gated domain -/

/-- A clock domain that is gated, or runs again where its power domain is up (R27). -/
def Dev.gateClock (d : Dev) (n : Fin 9) (v : Bool) : Dev :=
  ((d.setBit (CPM.DOMCTL_GATE n) v).setBit (CPM.DOMCTL_ACTIVE n) (!v && d.domainUp (clockDomain n))).busOk 0

theorem domctl_key_ne_pdctl (n p : Fin 9) :
    (PIER.PDCTL_ST p).key ≠ (CPM.DOMCTL_GATE n).key ∧ (PIER.PDCTL_ST p).key ≠ (CPM.DOMCTL_ACTIVE n).key := by
  simp only [Fld.key, PIER.PDCTL_ST, CPM.DOMCTL_GATE, CPM.DOMCTL_ACTIVE]
  omega

theorem domctl_active_key_ne (n k : Fin 9) (h : k ≠ n) :
    (CPM.DOMCTL_ACTIVE k).key ≠ (CPM.DOMCTL_GATE n).key ∧ (CPM.DOMCTL_ACTIVE k).key ≠ (CPM.DOMCTL_ACTIVE n).key := by
  simp only [Fld.key, CPM.DOMCTL_GATE, CPM.DOMCTL_ACTIVE]
  omega

/-- Gating a clock moves no power domain. -/
theorem Dev.gateClock_domainUp (d : Dev) (n p : Fin 9) (v : Bool) : (d.gateClock n v).domainUp p = d.domainUp p := by
  obtain ⟨hg, ha⟩ := domctl_key_ne_pdctl n p
  have hst : (d.gateClock n v).get (PIER.PDCTL_ST p) = d.get (PIER.PDCTL_ST p) := by
    rw [Dev.gateClock, Dev.busOk_get, Dev.get_setBit_ne _ _ _ _ ha, Dev.get_setBit_ne _ _ _ _ hg]
  simp only [Dev.domainUp, hst]
  rfl

theorem Dev.gateClock_active_same (d : Dev) (n : Fin 9) (v : Bool) :
    (d.gateClock n v).bit (CPM.DOMCTL_ACTIVE n) = (!v && d.domainUp (clockDomain n)) := by
  rw [Dev.gateClock, Dev.busOk_bit, Dev.bit_def, Dev.get_setBit_same _ _ _ rfl]
  cases (!v && d.domainUp (clockDomain n)) <;> rfl

theorem Dev.gateClock_active_ne (d : Dev) (n k : Fin 9) (v : Bool) (h : k ≠ n) :
    (d.gateClock n v).bit (CPM.DOMCTL_ACTIVE k) = d.bit (CPM.DOMCTL_ACTIVE k) := by
  obtain ⟨hg, ha⟩ := domctl_active_key_ne n k h
  rw [Dev.gateClock, Dev.busOk_bit, Dev.bit_def, Dev.get_setBit_ne _ _ _ _ ha, Dev.get_setBit_ne _ _ _ _ hg, ← Dev.bit_def]

/-- NETCLK follows its own gate. -/
theorem Dev.gateClock_netclkRuns_same (d : Dev) (v : Bool) : (d.gateClock 7 v).netclkRuns = (d.running && d.domainUp 7 && !v) := by
  have hrun : (d.gateClock 7 v).running = d.running := rfl
  rw [Dev.netclkRuns, Dev.works, hrun, d.gateClock_domainUp, d.gateClock_active_same]
  show (d.running && d.domainUp 7 && (!v && d.domainUp 7)) = _
  cases d.domainUp 7 <;> simp

/-- Another domain's gate leaves NETCLK. -/
theorem Dev.gateClock_netclkRuns_ne (d : Dev) (n : Fin 9) (v : Bool) (h : 7 ≠ n) : (d.gateClock n v).netclkRuns = d.netclkRuns := by
  have hrun : (d.gateClock n v).running = d.running := rfl
  rw [Dev.netclkRuns, Dev.works, hrun, d.gateClock_domainUp, d.gateClock_active_ne n 7 v h]
  rfl

/-! ### DOMAIN_GATE_WRITE -/

theorem exec_domainGateWrite_forbidden (s : State) (m : Master) (n : Fin 9) (v : Bool)
    (hm : s.dev.accessAllowed m (0x40000100 + 4 * n) true = false) :
    Completes (.domainGateWrite m n v) s (s.dev.busError m (0x40000100 + 4 * n) true) := by
  show execDomainGateWrite m n v s = _
  simp [execDomainGateWrite, State.liftMem, hm]

/-- Is a write of `GATE` refused: a gate of PWMCLK, CECLK, ADCCLK or GLCLK while a bridge is active (R27)? -/
def Dev.gateRefused (d : Dev) (n : Fin 9) (v : Bool) : Bool :=
  v && (decide (n = 0) || decide (n = 3) || decide (n = 5) || decide (n = 6)) && d.anyBridgeActive

/-- What an accepted write of `GATE` does to the device and the memory: a stop of NETCLK latches the time, its start corrects the timebase
(R468). -/
def Dev.gateAndTime (d : Dev) (n : Fin 9) (v : Bool) (mem : Mem) : Dev × Mem :=
  if d.netclkRuns && !(d.gateClock n v).netclkRuns then (d.gateClock n v, latchTime d mem)
  else if !d.netclkRuns && (d.gateClock n v).netclkRuns then ((d.gateClock n v).correctTime mem, mem)
  else (d.gateClock n v, mem)

/-- What a write of `GATE` that the map allows does to the device and the memory: nothing, a refusal, or the gate (R27). -/
def Dev.gateWrite (d : Dev) (n : Fin 9) (v : Bool) (mem : Mem) : Dev × Mem :=
  if n = 2 ∨ n = 4 then (d.busOk 0, mem)
  else if d.gateRefused n v then ((d.set (CPM.DOMCTL_REFUSED n) 1).busOk 0, mem)
  else d.gateAndTime n v mem

theorem exec_domainGateWrite {s : State} {m : Master} {n : Fin 9} (v : Bool) (hm : s.dev.accessAllowed m (0x40000100 + 4 * n) true = true) :
    CompletesMem (.domainGateWrite m n v) s (s.dev.gateWrite n v s.mem).1 (s.dev.gateWrite n v s.mem).2 := by
  show execDomainGateWrite m n v s = _
  unfold execDomainGateWrite State.liftMem
  simp only [hm]
  rfl

theorem Dev.gateWrite_fixed (d : Dev) {n : Fin 9} (v : Bool) (mem : Mem) (hn : n ∈ ([2, 4] : List (Fin 9))) :
    d.gateWrite n v mem = (d.busOk 0, mem) :=
  if_pos (by simpa using hn)

theorem Dev.gateWrite_refused {d : Dev} {n : Fin 9} (mem : Mem) (hn : n ∈ ([0, 3, 5, 6] : List (Fin 9))) (hb : d.anyBridgeActive = true) :
    d.gateWrite n true mem = ((d.set (CPM.DOMCTL_REFUSED n) 1).busOk 0, mem) := by
  have hn' : n = 0 ∨ n = 3 ∨ n = 5 ∨ n = 6 := by simpa using hn
  have hfix : ¬(n = 2 ∨ n = 4) := by omega
  have href : d.gateRefused n true = true := by simp [Dev.gateRefused, hb, or_assoc, hn']
  rw [Dev.gateWrite, if_neg hfix, if_pos href]

theorem Dev.gateWrite_accepted {d : Dev} {n : Fin 9} {v : Bool} (mem : Mem) (hn : n ≠ 2 ∧ n ≠ 4)
    (hv : v = false ∨ n ∈ ([1, 7, 8] : List (Fin 9)) ∨ d.anyBridgeActive = false) : d.gateWrite n v mem = d.gateAndTime n v mem := by
  have hacc : ¬ d.gateRefused n v = true := by
    obtain rfl | hn' | hb := hv
    · exact Bool.false_ne_true
    · have hn3 : n = 1 ∨ n = 7 ∨ n = 8 := by simpa using hn'
      have hne : n ≠ 0 ∧ n ≠ 3 ∧ n ≠ 5 ∧ n ≠ 6 := by omega
      simp [Dev.gateRefused, hne]
    · simp [Dev.gateRefused, hb]
  rw [Dev.gateWrite, if_neg (by omega), if_neg hacc]

/-- A gate of another domain than NETCLK changes that domain alone. -/
theorem Dev.gateWrite_other {d : Dev} {n : Fin 9} {v : Bool} (mem : Mem) (hn : n ∉ ([2, 4, 7] : List (Fin 9)))
    (hv : v = false ∨ n ∈ ([1, 8] : List (Fin 9)) ∨ d.anyBridgeActive = false) : d.gateWrite n v mem = (d.gateClock n v, mem) := by
  have hn' : n ≠ 2 ∧ n ≠ 4 ∧ n ≠ 7 := by simpa using hn
  have hsub : ([1, 8] : List (Fin 9)) ⊆ [1, 7, 8] := by decide
  rw [Dev.gateWrite_accepted mem ⟨hn'.1, hn'.2.1⟩ (hv.imp_right (Or.imp_left fun h => hsub h))]
  simp [Dev.gateAndTime, d.gateClock_netclkRuns_ne n v hn'.2.2.symm]

/-- Gating NETCLK latches the timebase and the keep-alive count (R468). -/
theorem exec_domainGateWrite_netclkOff {s : State} {m : Master} (hm : s.dev.accessAllowed m 0x4000011C true = true) (hrun : s.dev.netclkRuns = true) :
    CompletesMem (.domainGateWrite m 7 true) s (((s.dev.set (CPM.DOMCTL_GATE 7) 1).set (CPM.DOMCTL_ACTIVE 7) 0).busOk 0)
      ((s.mem.writeLE 0x30000040 8 (s.dev.get TB.CNT_W)).writeLE 0x30000048 8 (s.dev.get PIER.KACNT_W)) := by
  have hex := exec_domainGateWrite (n := 7) true hm
  have hoff : s.dev.gateAndTime 7 true s.mem = (s.dev.gateClock 7 true, latchTime s.dev s.mem) := by
    simp [Dev.gateAndTime, s.dev.gateClock_netclkRuns_same, hrun]
  rwa [Dev.gateWrite_accepted s.mem (by decide) (.inr (.inl (by decide))), hoff] at hex

/-- Ungating NETCLK corrects the timebase, with its source 382 (R468). -/
theorem exec_domainGateWrite_netclkOn {s : State} {m : Master} (hm : s.dev.accessAllowed m 0x4000011C true = true) (hrun : s.dev.netclkRuns = false)
    (hup : s.dev.domainUp 7 = true) :
    Completes (.domainGateWrite m 7 false) s
      ((((s.dev.set (CPM.DOMCTL_GATE 7) 0).set (CPM.DOMCTL_ACTIVE 7) 1).busOk 0).correctTime s.mem) := by
  have hout : s.dev.running = true := by
    simp only [Dev.accessAllowed, Dev.masterExists, Bool.and_eq_true] at hm
    exact hm.1.1
  have hex := exec_domainGateWrite (n := 7) false hm
  have hclk : s.dev.gateClock 7 false = ((s.dev.set (CPM.DOMCTL_GATE 7) 0).set (CPM.DOMCTL_ACTIVE 7) 1).busOk 0 := by
    have hup' : s.dev.domainUp (clockDomain 7) = true := hup
    unfold Dev.gateClock
    rw [hup']
    rfl
  have hon : s.dev.gateAndTime 7 false s.mem = ((s.dev.gateClock 7 false).correctTime s.mem, s.mem) := by
    simp [Dev.gateAndTime, s.dev.gateClock_netclkRuns_same, hrun, hup, hout]
  rwa [Dev.gateWrite_accepted s.mem (by decide) (.inl rfl), hon, hclk] at hex

/-! ### THROTTLE_CHANGE and ROOT_CLOCK_CHECK -/

theorem exec_throttleChange {s : State} {n : Fin 9} (hn : n ∈ ([1, 7] : List (Fin 9))) :
    Completes (.throttleChange n) s
      (if s.dev.get (CPM.DOMCTL_EFF_THROT n) = max (s.dev.get (CPM.DOMCTL_THROT n)) (s.dev.get TH.DIE_THROT) then s.dev
       else (s.dev.set (CPM.DOMCTL_EFF_THROT n) (max (s.dev.get (CPM.DOMCTL_THROT n)) (s.dev.get TH.DIE_THROT))).edge 377) := by
  have hn' : n = 1 ∨ n = 7 := by simpa using hn
  show execThrottleChange n s = _
  simp only [execThrottleChange, State.lift, if_pos hn']

theorem exec_throttleChange_none {s : State} {n : Fin 9} (hn : n ∉ ([1, 7] : List (Fin 9))) : Completes (.throttleChange n) s s.dev := by
  have hn' : ¬(n = 1 ∨ n = 7) := by simpa using hn
  show execThrottleChange n s = _
  simp only [execThrottleChange, State.lift, if_neg hn']

theorem exec_rootClockCheck_none {s : State} {c : Nat} (h : s.dev.monitorArmed = false ∨ 235200 ≤ c ∧ c ≤ 244800) :
    Completes (.rootClockCheck c) s s.dev := by
  show execRootClockCheck c s = _
  simp only [execRootClockCheck, State.lift, if_pos h]

theorem exec_rootClockCheck_fault {s : State} {c : Nat} (harm : s.dev.monitorArmed = true) (hc : c < 235200 ∨ 244800 < c) :
    Completes (.rootClockCheck c) s ((s.dev.assertLine 0 0).each bridges fun d b => d.safeCause b (GL.BSTAT_FCOL b)) := by
  have h : ¬(s.dev.monitorArmed = false ∨ 235200 ≤ c ∧ c ≤ 244800) := by
    rintro (h | h)
    · exact Bool.noConfusion (harm.symm.trans h)
    · omega
  show execRootClockCheck c s = _
  simp only [execRootClockCheck, State.lift, if_neg h]

end Sys2Proof.Machine

open Sys2Proof Sys2Proof.Machine

/-- Settles O9: a write of `GATE` is forbidden, ignored, refused or accepted; an accepted one moves NETCLK only with NETCLK's own gate
(`Dev.gateClock_netclkRuns_same`, `Dev.gateClock_netclkRuns_ne`), which is when the time is latched or corrected. -/
theorem clockControl : Obligations.ClockControl := by
  refine ⟨exec_domainGateWrite_forbidden, fun s m n v hm => ?_, fun s m hm => ⟨exec_domainGateWrite_netclkOff hm, exec_domainGateWrite_netclkOn hm⟩,
    fun s n hn => ?_, fun s n => exec_throttleChange_none, fun s c => ⟨fun hlo hhi => exec_rootClockCheck_none (.inr ⟨hlo, hhi⟩),
      fun harm => exec_rootClockCheck_none (.inl harm), exec_rootClockCheck_fault⟩⟩
  · refine ⟨fun hn => ?_, fun hn hb => ?_, fun hn hv => ?_⟩
    · have hex := exec_domainGateWrite v hm
      rwa [Dev.gateWrite_fixed _ v _ hn] at hex
    · have hex := exec_domainGateWrite true hm
      rwa [Dev.gateWrite_refused _ hn hb] at hex
    · have hex := exec_domainGateWrite v hm
      rwa [Dev.gateWrite_other _ hn hv] at hex
  · have hex := exec_throttleChange (s := s) hn
    exact ⟨fun hne => by rwa [if_neg hne] at hex, fun heq => by rwa [if_pos heq] at hex⟩

end

section
/-! PROOF. Ownership requests and page commits (O8). -/

namespace Sys2Proof.Machine

/-! ### One round of several -/

/-- A property that every round keeps, all rounds keep. -/
theorem Dev.each_preserves {α : Type} {P : Dev → Prop} {F : Dev → α → Dev} (l : List α) (h : ∀ c, ∀ x ∈ l, P c → P (F c x)) {d : Dev} (hd : P d) :
    P (d.each l F) := by
  induction l generalizing d with
  | nil => exact hd
  | cons x t ih => exact ih (fun c y hy => h c y (List.mem_cons_of_mem _ hy)) (h d x List.mem_cons_self hd)

/-- What the round of one element establishes from `Q`, all rounds establish, where the rounds of the other elements keep it and `Q`. -/
theorem Dev.each_of_mem {α : Type} {Q P : Dev → Prop} {F : Dev → α → Dev} {i : α} {l : List α} (hnd : l.Nodup) (hi : i ∈ l)
    (hQ : ∀ c, ∀ x ∈ l, x ≠ i → Q c → Q (F c x)) (hP : ∀ c, ∀ x ∈ l, x ≠ i → P c → P (F c x)) (hset : ∀ c, Q c → P (F c i)) {d : Dev} (hd : Q d) :
    P (d.each l F) := by
  induction l generalizing d with
  | nil => cases hi
  | cons x t ih =>
    obtain ⟨hx, hnd'⟩ := List.nodup_cons.mp hnd
    obtain rfl | ht := List.mem_cons.mp hi
    · exact Dev.each_preserves t (fun c y hy => hP c y (List.mem_cons_of_mem _ hy) fun e => hx (e ▸ hy)) (hset d hd)
    · exact ih hnd' ht (fun c y hy => hQ c y (List.mem_cons_of_mem _ hy)) (fun c y hy => hP c y (List.mem_cons_of_mem _ hy))
        (hQ d x List.mem_cons_self (fun e => hx (e ▸ ht)) hd)

/-- Fields that are set one after the other hold what they were set to. -/
theorem Dev.get_each_set {l : List Fld} (hnd : (l.map Fld.key).Nodup) {f : Fld} (hf : f ∈ l) (v : Fld → Nat) (d : Dev) :
    (d.each l fun d f => d.set f (v f)).get f = v f % 2 ^ f.width := by
  induction l generalizing d with
  | nil => cases hf
  | cons g t ih =>
    obtain ⟨hg, hnd'⟩ := List.nodup_cons.mp hnd
    obtain rfl | ht := List.mem_cons.mp hf
    · refine (Dev.each_keep (Dev.get · f) t _ (fun c h hh => c.get_set_ne h f _ fun e => hg (e ▸ List.mem_map_of_mem hh)) _).trans ?_
      exact d.get_set_same f _
    · exact ih hnd' ht _

/-! ### Where the fields of a page stand -/

theorem pageWindow_aligned (pg : Nat) : pageWindow pg % 0x10000 = 0 := by
  unfold pageWindow
  split <;> rfl

/-- The fields that a change of owner of resource i sets beside its owner register: the slice's configuration (R109) and the LIMP_CMD pin's
state (R250). -/
def ownerFollowFlds (i : Nat) : List Fld := slcfgFields i ++ [CE.LIMPST_VALID, CE.LIMPVAL_LVAL, CE.LIMPST_LIMPFLT]

/-- They stand below the owner registers of every page. -/
theorem ownerFollowFlds_place {i : Nat} (hi : i < 32) : ∀ f ∈ ownerFollowFlds i, f.addr % 0x10000 < 0x200 ∧ f.lo < 32 := by
  simp only [ownerFollowFlds, slcfgFields, List.cons_append, List.nil_append, List.forall_mem_cons, AS.SLCFG_ORFL, AS.SLCFG_CMSEL, AS.SLCFG_Q3, AS.SLCFG_Q2,
    AS.SLCFG_Q1, AS.SLCFG_Q0, AS.SLCFG_SMASK, AS.SLCFG_TMASK, AS.SLCFG_MODE, CE.LIMPST_VALID, CE.LIMPVAL_LVAL, CE.LIMPST_LIMPFLT]
  refine ⟨?_, ?_, ?_, ?_, ?_, ?_, ?_, ?_, ?_, ?_, ?_, ?_, fun _ h => nomatch h⟩ <;> omega

/-- A field in the ownership part of a page's window is none that a change of owner sets beside the owner register. -/
theorem key_ne_ownerFollow {pg o i : Nat} {f : Fld} (ha : f.addr = pageBase pg + o) (ho : o < 0x1000) (hlo : f.lo < 32) (hi : i < 32) :
    ∀ g ∈ ownerFollowFlds i, f.key ≠ g.key := by
  intro g hg
  obtain ⟨hga, hglo⟩ := ownerFollowFlds_place hi g hg
  have hw := pageWindow_aligned pg
  simp only [Fld.key, ha, pageBase]
  omega

/-! ### What follows a change of owner -/

/-- A line that is raised under a condition leaves every field. -/
theorem Dev.sameBut.whenLine {d e : Dev} {l : List Fld} (h : d.sameBut e l) (c : Bool) (n br : Nat) :
    d.sameBut (e.when c fun d => d.assertLine n br) l :=
  h.when c (h.trans (.of_regs (Dev.assertLine_regs _ _ _).symm _))

theorem Dev.limpInvalid_sameBut (d : Dev) (i : Nat) : d.sameBut d.limpInvalid (ownerFollowFlds i) := by
  refine Dev.sameBut.whenLine (Dev.sameBut.whenLine (Dev.sameBut.set (Dev.sameBut.set (Dev.sameBut.set (.of_regs rfl _) ?_ 0) ?_ 0) ?_ 1) _ 29 1) _ 29 2
  all_goals simp [ownerFollowFlds]

theorem Dev.limpInvalid_nv (d : Dev) : d.limpInvalid.nv = d.nv := by
  unfold Dev.limpInvalid
  refine (Dev.when_keep Dev.nv _ _ (fun d => d.assertLine 29 2) (Dev.assertLine_nv _ 29 2)).trans ?_
  exact Dev.when_keep Dev.nv _ _ (fun d => d.assertLine 29 1) (Dev.assertLine_nv _ 29 1)

/-- A change of owner sets nothing but the slice's configuration and the pin's state. -/
theorem Dev.ownerChanged_sameBut (d : Dev) (pg i : Nat) : d.sameBut (d.ownerChanged pg i) (ownerFollowFlds i) := by
  unfold Dev.ownerChanged
  split
  · exact (Dev.sameBut.refl d _).each _ fun c f hf => (Dev.sameBut.refl c _).set (List.mem_append_left _ hf) _
  · split
    · exact .of_regs rfl _
    · split
      · exact d.limpInvalid_sameBut i
      · exact .refl d _

theorem Dev.ownerChanged_nv (d : Dev) (pg i : Nat) : (d.ownerChanged pg i).nv = d.nv := by
  unfold Dev.ownerChanged
  split
  · exact Dev.each_keep Dev.nv _ _ (fun c f _ => Dev.set_nv c f _) d
  · split
    · rfl
    · split
      · exact d.limpInvalid_nv
      · rfl

/-- Nothing follows a change of owner on the pages of the position blocks, of capture and of the timebase. -/
theorem Dev.ownerChanged_other (d : Dev) {pg : Nat} (i : Nat) (h : 2 ≤ pg) : d.ownerChanged pg i = d := by
  have h1 : pg ≠ 1 := by omega
  have h0 : pg ≠ 0 := by omega
  simp [Dev.ownerChanged, h1, h0]

theorem slcfgFields_nodup (i : Fin 32) : ((slcfgFields i).map Fld.key).Nodup := by
  revert i
  decide

theorem slcfgFields_rst_lt (i : Fin 32) : ∀ f ∈ slcfgFields i, f.rst < 2 ^ f.width := by
  revert i
  decide

/-- A slice that changes hands has its configuration at reset (R109). -/
theorem Dev.ownerChanged_slcfg (d : Dev) (i : Fin 32) : ∀ f ∈ slcfgFields i, (d.ownerChanged 1 i).get f = f.rst := by
  intro f hf
  show (d.each (slcfgFields i) fun d f => d.set f f.rst).get f = f.rst
  rw [Dev.get_each_set (slcfgFields_nodup i) hf, Nat.mod_eq_of_lt (slcfgFields_rst_lt i f hf)]

/-! ### One resource of a commit -/

/-- The fields that the commit of resource i sets. -/
def commitOneFlds (pg i : Nat) : List Fld := [OWN.R_OWNER pg i, OWN.R_REQBY pg i] ++ ownerFollowFlds i

theorem Dev.commitOne_sameBut (d : Dev) (pg i : Nat) : d.sameBut (d.commitOne pg i) (commitOneFlds pg i) := by
  have hset : d.sameBut ((d.set (OWN.R_OWNER pg i) (d.get (OWN.R_REQ pg i))).set (OWN.R_REQBY pg i) 0) (commitOneFlds pg i) :=
    ((Dev.sameBut.refl d _).set (by simp [commitOneFlds]) _).set (by simp [commitOneFlds]) _
  exact hset.trans ((Dev.ownerChanged_sameBut _ pg i).mono (List.subset_append_right _ _))

theorem Dev.commitOne_nv (d : Dev) (pg i : Nat) : (d.commitOne pg i).nv = d.nv := Dev.ownerChanged_nv _ pg i

/-- The commit of another resource sets no field of an owner register but its own owner and `REQBY`. -/
theorem own_key_ne_commitOne {pg o i : Nat} {f : Fld} (ha : f.addr = pageBase pg + 4 * o) (ho : o < 0x400) (hlo : f.lo < 32) (hi : i < 32)
    (hne : o ≠ i) : ∀ g ∈ commitOneFlds pg i, f.key ≠ g.key := by
  intro g hg
  obtain hg | hg := List.mem_append.mp hg
  · have hga : g.addr = pageBase pg + 4 * i ∧ g.lo < 32 := by
      obtain rfl | rfl : g = OWN.R_OWNER pg i ∨ g = OWN.R_REQBY pg i := by simpa using hg
      · exact ⟨rfl, by simp [OWN.R_OWNER]⟩
      · exact ⟨rfl, by simp [OWN.R_REQBY]⟩
    simp only [Fld.key]
    omega
  · exact key_ne_ownerFollow ha (by omega) hlo hi g hg

theorem slcfgFields_place (i : Nat) : ∀ f ∈ slcfgFields i, f.addr = 0x40100100 + 4 * i ∧ f.lo < 32 := by
  simp [slcfgFields, AS.SLCFG_ORFL, AS.SLCFG_CMSEL, AS.SLCFG_Q3, AS.SLCFG_Q2, AS.SLCFG_Q1, AS.SLCFG_Q0, AS.SLCFG_SMASK, AS.SLCFG_TMASK, AS.SLCFG_MODE]

/-- The commit of another resource leaves a slice's configuration. -/
theorem slcfg_key_ne_commitOne {i x : Nat} (hi : i < 32) (hx : x < 32) (hne : i ≠ x) :
    ∀ f ∈ slcfgFields i, ∀ g ∈ commitOneFlds 1 x, f.key ≠ g.key := by
  intro f hf g hg
  obtain ⟨hfa, hflo⟩ := slcfgFields_place i f hf
  have hga : g.lo < 32 ∧ (g.addr = 0x4010F000 + 4 * x ∨ g.addr = 0x40100100 + 4 * x ∨ g.addr = 0x40300090 ∨ g.addr = 0x40300094) := by
    simp only [commitOneFlds, ownerFollowFlds, List.mem_append] at hg
    obtain hown | hsl | hlimp := hg
    · obtain rfl | rfl : g = OWN.R_OWNER 1 x ∨ g = OWN.R_REQBY 1 x := by simpa using hown
      · exact ⟨by simp [OWN.R_OWNER], .inl rfl⟩
      · exact ⟨by simp [OWN.R_REQBY], .inl rfl⟩
    · obtain ⟨hga, hglo⟩ := slcfgFields_place x g hsl
      exact ⟨hglo, .inr (.inl hga)⟩
    · obtain rfl | rfl | rfl : g = CE.LIMPST_VALID ∨ g = CE.LIMPVAL_LVAL ∨ g = CE.LIMPST_LIMPFLT := by simpa using hlimp
      · simp [CE.LIMPST_VALID]
      · simp [CE.LIMPVAL_LVAL]
      · simp [CE.LIMPST_LIMPFLT]
  simp only [Fld.key]
  omega

/-- A committed resource has its requested owner, and its request is closed (R40). -/
theorem Dev.get_commitOne (d : Dev) (pg : Nat) {i : Nat} (hi : i < 32) :
    (d.commitOne pg i).get (OWN.R_OWNER pg i) = d.get (OWN.R_REQ pg i) % 256 ∧ (d.commitOne pg i).get (OWN.R_REQBY pg i) = 0 := by
  have hown := Dev.ownerChanged_sameBut ((d.set (OWN.R_OWNER pg i) (d.get (OWN.R_REQ pg i))).set (OWN.R_REQBY pg i) 0) pg i
  have hkey : (OWN.R_OWNER pg i).key ≠ (OWN.R_REQBY pg i).key := by
    simp only [Fld.key, OWN.R_OWNER, OWN.R_REQBY]
    omega
  constructor
  · rw [Dev.commitOne, hown _ (key_ne_ownerFollow (o := 4 * i) rfl (by omega) (by simp [OWN.R_OWNER]) hi), Dev.get_set_ne _ _ _ _ hkey, Dev.get_set_same]
    rfl
  · rw [Dev.commitOne, hown _ (key_ne_ownerFollow (o := 4 * i) rfl (by omega) (by simp [OWN.R_REQBY]) hi), Dev.get_set_same]
    rfl

/-- A committed slice has its configuration at reset (R109). -/
theorem Dev.get_commitOne_slcfg (d : Dev) (i : Fin 32) : ∀ f ∈ slcfgFields i, (d.commitOne 1 i).get f = f.rst :=
  Dev.ownerChanged_slcfg _ i

/-! ### The commit of a page -/

theorem Dev.commitSet_nodup (d : Dev) (m : Master) (pg : Nat) : (d.commitSet m pg).Nodup := List.nodup_range.filter _

theorem Dev.lt_of_mem_commitSet {d : Dev} {m : Master} {pg i : Nat} (h : i ∈ d.commitSet m pg) : i < 32 :=
  List.mem_range.mp (List.mem_filter.mp h).1

theorem Dev.mem_commitSet_of_failing {d : Dev} {m : Master} {pg i : Nat} (h : i ∈ d.commitFailing m pg) : i ∈ d.commitSet m pg :=
  (List.mem_filter.mp h).1

theorem Dev.commitFailing_length_le (d : Dev) (m : Master) (pg : Nat) : (d.commitFailing m pg).length ≤ 32 :=
  calc (d.commitFailing m pg).length
      ≤ (d.commitSet m pg).length := List.length_filter_le _ _
    _ ≤ (List.range 32).length := List.length_filter_le _ _
    _ = 32 := List.length_range

/-- All resources of a commit that succeeds take their owners. -/
def Dev.commitTaken (d : Dev) (m : Master) (pg : Nat) : Dev := d.each (d.commitSet m pg) fun d i => d.commitOne pg i

/-- The failing resources of a commit are flagged, and all its requests are closed. -/
def Dev.commitRefused (d : Dev) (m : Master) (pg : Nat) : Dev :=
  (d.each (d.commitFailing m pg) fun d' i => d'.commitFail pg i).each (d.commitSet m pg) fun d' i => d'.commitClose pg i

theorem Dev.commitPage_succeeds {d : Dev} {m : Master} {pg : Nat} (h : d.commitFailing m pg = []) :
    d.commitPage m pg = (d.commitTaken m pg).set (OWN.CMT_NCONF pg) 0 := by
  simp [Dev.commitPage, Dev.commitTaken, h]

theorem Dev.commitPage_fails {d : Dev} {m : Master} {pg : Nat} (h : d.commitFailing m pg ≠ []) :
    d.commitPage m pg = (d.commitRefused m pg).set (OWN.CMT_NCONF pg) (d.commitFailing m pg).length := by
  simp [Dev.commitPage, Dev.commitRefused, h]

theorem nconf_key_ne (pg : Nat) {i : Nat} (hi : i < 32) : (OWN.R_OWNER pg i).key ≠ (OWN.CMT_NCONF pg).key ∧
    (OWN.R_REQ pg i).key ≠ (OWN.CMT_NCONF pg).key ∧ (OWN.R_REQBY pg i).key ≠ (OWN.CMT_NCONF pg).key := by
  simp only [Fld.key, OWN.R_OWNER, OWN.R_REQ, OWN.R_REQBY, OWN.CMT_NCONF]
  omega

/-! ### A commit that succeeds -/

/-- A resource outside the commit keeps its owner register. -/
theorem Dev.get_commitTaken_other {d : Dev} {m : Master} {pg o : Nat} {f : Fld} (ha : f.addr = pageBase pg + 4 * o) (ho : o < 0x400) (hlo : f.lo < 32)
    (h : o ∉ d.commitSet m pg) : (d.commitTaken m pg).get f = d.get f :=
  Dev.each_keep (Dev.get · f) _ _
    (fun c x hx => c.commitOne_sameBut pg x f (own_key_ne_commitOne ha ho hlo (Dev.lt_of_mem_commitSet hx) fun e => h (e ▸ hx))) d

/-- A resource of the commit has its requested owner, and its request is closed (R40). -/
theorem Dev.get_commitTaken {d : Dev} {m : Master} {pg i : Nat} (h : i ∈ d.commitSet m pg) :
    (d.commitTaken m pg).get (OWN.R_OWNER pg i) = d.get (OWN.R_REQ pg i) % 256 ∧ (d.commitTaken m pg).get (OWN.R_REQBY pg i) = 0 := by
  have hi := Dev.lt_of_mem_commitSet h
  have hkeep : ∀ (c : Dev), ∀ x ∈ d.commitSet m pg, x ≠ i → ∀ f : Fld, f.addr = pageBase pg + 4 * i → f.lo < 32 →
      (c.commitOne pg x).get f = c.get f := fun c x hx hne f ha hlo =>
    c.commitOne_sameBut pg x f (own_key_ne_commitOne ha (by omega) hlo (Dev.lt_of_mem_commitSet hx) hne.symm)
  refine Dev.each_of_mem (Q := fun c => c.get (OWN.R_REQ pg i) = d.get (OWN.R_REQ pg i)) (P := fun c =>
    c.get (OWN.R_OWNER pg i) = d.get (OWN.R_REQ pg i) % 256 ∧ c.get (OWN.R_REQBY pg i) = 0) (d.commitSet_nodup m pg) h ?_ ?_ ?_ rfl
  · exact fun c x hx hne hreq => (hkeep c x hx hne (OWN.R_REQ pg i) rfl (by simp [OWN.R_REQ])).trans hreq
  · rintro c x hx hne ⟨hown, hby⟩
    exact ⟨(hkeep c x hx hne (OWN.R_OWNER pg i) rfl (by simp [OWN.R_OWNER])).trans hown,
      (hkeep c x hx hne (OWN.R_REQBY pg i) rfl (by simp [OWN.R_REQBY])).trans hby⟩
  · intro c hreq
    obtain ⟨hown, hby⟩ := c.get_commitOne pg hi
    exact ⟨hown.trans (congrArg (· % 256) hreq), hby⟩

/-- A slice of the commit has its configuration at reset (R109). -/
theorem Dev.commitTaken_slcfg {d : Dev} {m : Master} {i : Fin 32} (h : i.val ∈ d.commitSet m 1) :
    ∀ f ∈ slcfgFields i, (d.commitTaken m 1).get f = f.rst := by
  refine Dev.each_of_mem (Q := fun _ => True) (P := fun c => ∀ f ∈ slcfgFields i, c.get f = f.rst) (d.commitSet_nodup m 1) h
    (fun _ _ _ _ _ => trivial) (fun c x hx hne hc f hf => ?_) (fun c _ => c.get_commitOne_slcfg i) trivial
  exact (c.commitOne_sameBut 1 x f (slcfg_key_ne_commitOne i.isLt (Dev.lt_of_mem_commitSet hx) hne.symm f hf)).trans (hc f hf)

theorem Dev.commitTaken_nv (d : Dev) (m : Master) (pg : Nat) : (d.commitTaken m pg).nv = d.nv :=
  Dev.each_keep Dev.nv _ _ (fun c x _ => c.commitOne_nv pg x) d

/-- On the pages of the position blocks, of capture and of the timebase a commit changes owner registers alone. -/
theorem Dev.commitTaken_other {d : Dev} (m : Master) {pg : Nat} (h : 2 ≤ pg) :
    (d.commitTaken m pg).vol = d.vol ∧ (d.commitTaken m pg).raised = d.raised :=
  Prod.mk.inj (Dev.each_keep (fun c => (c.vol, c.raised)) _ _ (fun c x _ => by rw [Dev.commitOne, Dev.ownerChanged_other _ x h]; rfl) d)

/-! ### A commit that fails -/

theorem own_key_ne (pg i x : Nat) : (OWN.R_OWNER pg i).key ≠ (OWN.R_REQ pg x).key ∧ (OWN.R_OWNER pg i).key ≠ (OWN.R_REQBY pg x).key ∧
    (OWN.R_OWNER pg i).key ≠ (OWN.R_CONFLICT pg x).key ∧ (OWN.R_OWNER pg i).key ≠ (OWN.R_CONFL_BY pg x).key ∧
    (OWN.R_REQ pg i).key ≠ (OWN.R_REQBY pg x).key ∧ (OWN.R_REQ pg i).key ≠ (OWN.R_CONFLICT pg x).key ∧
    (OWN.R_REQ pg i).key ≠ (OWN.R_CONFL_BY pg x).key := by
  simp only [Fld.key, OWN.R_OWNER, OWN.R_REQ, OWN.R_REQBY, OWN.R_CONFLICT, OWN.R_CONFL_BY]
  omega

theorem req_key_ne (pg : Nat) {i x : Nat} (h : i ≠ x) : (OWN.R_REQ pg i).key ≠ (OWN.R_REQ pg x).key ∧
    (OWN.R_REQBY pg i).key ≠ (OWN.R_REQ pg x).key ∧ (OWN.R_REQBY pg i).key ≠ (OWN.R_REQBY pg x).key := by
  simp only [Fld.key, OWN.R_REQ, OWN.R_REQBY]
  omega

/-- The flag of a failed claim leaves the owners and the requests. -/
theorem Dev.get_commitFail (d : Dev) (pg i x : Nat) : (d.commitFail pg x).get (OWN.R_OWNER pg i) = d.get (OWN.R_OWNER pg i) ∧
    (d.commitFail pg x).get (OWN.R_REQ pg i) = d.get (OWN.R_REQ pg i) := by
  obtain ⟨-, -, hoc, hob, -, hrc, hrb⟩ := own_key_ne pg i x
  exact ⟨by rw [Dev.commitFail, Dev.get_set_ne _ _ _ _ hob, Dev.get_set_ne _ _ _ _ hoc],
    by rw [Dev.commitFail, Dev.get_set_ne _ _ _ _ hrb, Dev.get_set_ne _ _ _ _ hrc]⟩

/-- A closed request names the owner, and no requester (R40). -/
theorem Dev.get_commitClose (d : Dev) (pg i : Nat) : (d.commitClose pg i).get (OWN.R_REQ pg i) = d.get (OWN.R_OWNER pg i) % 256 ∧
    (d.commitClose pg i).get (OWN.R_REQBY pg i) = 0 := by
  obtain ⟨-, -, -, -, hrq, -, -⟩ := own_key_ne pg i i
  refine ⟨?_, ?_⟩
  · rw [Dev.commitClose, Dev.get_set_ne _ _ _ _ hrq, Dev.get_set_same]
    rfl
  · rw [Dev.commitClose, Dev.get_set_same]
    rfl

theorem Dev.commitClose_owner (d : Dev) (pg i x : Nat) : (d.commitClose pg x).get (OWN.R_OWNER pg i) = d.get (OWN.R_OWNER pg i) := by
  obtain ⟨hor, hoq, -⟩ := own_key_ne pg i x
  rw [Dev.commitClose, Dev.get_set_ne _ _ _ _ hoq, Dev.get_set_ne _ _ _ _ hor]

theorem Dev.get_commitClose_ne (d : Dev) (pg : Nat) {i x : Nat} (h : i ≠ x) :
    (d.commitClose pg x).get (OWN.R_REQ pg i) = d.get (OWN.R_REQ pg i) ∧ (d.commitClose pg x).get (OWN.R_REQBY pg i) = d.get (OWN.R_REQBY pg i) := by
  obtain ⟨-, -, -, -, hrq, -, -⟩ := own_key_ne pg i x
  obtain ⟨hrr, hqr, hqq⟩ := req_key_ne pg h
  exact ⟨by rw [Dev.commitClose, Dev.get_set_ne _ _ _ _ hrq, Dev.get_set_ne _ _ _ _ hrr],
    by rw [Dev.commitClose, Dev.get_set_ne _ _ _ _ hqq, Dev.get_set_ne _ _ _ _ hqr]⟩

/-- The flags of the failing claims leave the owners and the requests. -/
theorem Dev.get_commitFlagged (d : Dev) (m : Master) (pg i : Nat) :
    (d.each (d.commitFailing m pg) fun d' i => d'.commitFail pg i).get (OWN.R_OWNER pg i) = d.get (OWN.R_OWNER pg i) ∧
    (d.each (d.commitFailing m pg) fun d' i => d'.commitFail pg i).get (OWN.R_REQ pg i) = d.get (OWN.R_REQ pg i) :=
  ⟨Dev.each_keep (Dev.get · (OWN.R_OWNER pg i)) _ _ (fun c x _ => (c.get_commitFail pg i x).1) d,
    Dev.each_keep (Dev.get · (OWN.R_REQ pg i)) _ _ (fun c x _ => (c.get_commitFail pg i x).2) d⟩

/-- No owner changes (R40). -/
theorem Dev.commitRefused_owner (d : Dev) (m : Master) (pg i : Nat) : (d.commitRefused m pg).get (OWN.R_OWNER pg i) = d.get (OWN.R_OWNER pg i) :=
  (Dev.each_keep (Dev.get · (OWN.R_OWNER pg i)) _ _ (fun c x _ => c.commitClose_owner pg i x) _).trans (d.get_commitFlagged m pg i).1

/-- A resource outside the commit keeps its request. -/
theorem Dev.commitRefused_req {d : Dev} {m : Master} {pg i : Nat} (h : i ∉ d.commitSet m pg) :
    (d.commitRefused m pg).get (OWN.R_REQ pg i) = d.get (OWN.R_REQ pg i) := by
  refine (Dev.each_keep (Dev.get · (OWN.R_REQ pg i)) _ _ (fun c x hx => ?_) _).trans (d.get_commitFlagged m pg i).2
  have hne : i ≠ x := fun e => h (e ▸ hx)
  exact (c.get_commitClose_ne pg hne).1

/-- The request of a resource of the commit is closed (R40). -/
theorem Dev.commitRefused_closed {d : Dev} {m : Master} {pg i : Nat} (h : i ∈ d.commitSet m pg) :
    (d.commitRefused m pg).get (OWN.R_REQ pg i) = d.get (OWN.R_OWNER pg i) % 256 ∧ (d.commitRefused m pg).get (OWN.R_REQBY pg i) = 0 := by
  refine Dev.each_of_mem (Q := fun c => c.get (OWN.R_OWNER pg i) = d.get (OWN.R_OWNER pg i)) (P := fun c =>
    c.get (OWN.R_REQ pg i) = d.get (OWN.R_OWNER pg i) % 256 ∧ c.get (OWN.R_REQBY pg i) = 0) (d.commitSet_nodup m pg) h ?_ ?_ ?_
    (d.get_commitFlagged m pg i).1
  · exact fun c x _ _ hown => (c.commitClose_owner pg i x).trans hown
  · rintro c x - hne ⟨hreq, hby⟩
    obtain ⟨hreq', hby'⟩ := c.get_commitClose_ne pg hne.symm
    exact ⟨hreq'.trans hreq, hby'.trans hby⟩
  · intro c hown
    obtain ⟨hreq, hby⟩ := c.get_commitClose pg i
    exact ⟨hreq.trans (congrArg (· % 256) hown), hby⟩

/-- A commit that fails leaves the internal state, the nonvolatile contents and the lines. -/
theorem Dev.commitRefused_state (d : Dev) (m : Master) (pg : Nat) : (d.commitRefused m pg).nv = d.nv ∧ (d.commitRefused m pg).vol = d.vol ∧
    (d.commitRefused m pg).raised = d.raised := by
  have hclose := Dev.each_keep (fun c => (c.nv, c.vol, c.raised)) (d.commitSet m pg) (fun d' i => d'.commitClose pg i) (fun _ _ _ => rfl)
    (d.each (d.commitFailing m pg) fun d' i => d'.commitFail pg i)
  have hfail := Dev.each_keep (fun c => (c.nv, c.vol, c.raised)) (d.commitFailing m pg) (fun d' i => d'.commitFail pg i) (fun _ _ _ => rfl) d
  simpa [Dev.commitRefused] using hclose.trans hfail

/-! ### Both outcomes -/

/-- What a commit leaves in every case: the nonvolatile contents, and the internal state where no block follows its owners. -/
theorem Dev.commitPage_frame (d : Dev) (m : Master) (pg : Nat) :
    (d.commitPage m pg).nv = d.nv ∧ (2 ≤ pg → (d.commitPage m pg).vol = d.vol ∧ (d.commitPage m pg).raised = d.raised) := by
  by_cases h : d.commitFailing m pg = []
  · rw [Dev.commitPage_succeeds h]
    exact ⟨d.commitTaken_nv m pg, fun hpg => Dev.commitTaken_other m hpg⟩
  · rw [Dev.commitPage_fails h]
    obtain ⟨hnv, hvol, hraised⟩ := d.commitRefused_state m pg
    exact ⟨hnv, fun _ => ⟨hvol, hraised⟩⟩

/-- A resource outside the commit keeps its owner and its request. -/
theorem Dev.get_commitPage_other {d : Dev} {m : Master} {pg i : Nat} (hi : i < 32) (h : i ∉ d.commitSet m pg) :
    (d.commitPage m pg).get (OWN.R_OWNER pg i) = d.get (OWN.R_OWNER pg i) ∧ (d.commitPage m pg).get (OWN.R_REQ pg i) = d.get (OWN.R_REQ pg i) := by
  obtain ⟨hown, hreq, -⟩ := nconf_key_ne pg hi
  by_cases hf : d.commitFailing m pg = []
  · rw [Dev.commitPage_succeeds hf, Dev.get_set_ne _ _ _ _ hown, Dev.get_set_ne _ _ _ _ hreq]
    exact ⟨Dev.get_commitTaken_other (f := OWN.R_OWNER pg i) rfl (by omega) (by simp [OWN.R_OWNER]) h,
      Dev.get_commitTaken_other (f := OWN.R_REQ pg i) rfl (by omega) (by simp [OWN.R_REQ]) h⟩
  · rw [Dev.commitPage_fails hf, Dev.get_set_ne _ _ _ _ hown, Dev.get_set_ne _ _ _ _ hreq]
    exact ⟨d.commitRefused_owner m pg i, Dev.commitRefused_req h⟩

/-- Where all claims succeed, `NCONF` is 0 and every resource of the commit has its requested owner (R39, R40). -/
theorem Dev.get_commitPage_succeeds {d : Dev} {m : Master} {pg : Nat} (hf : d.commitFailing m pg = []) :
    (d.commitPage m pg).get (OWN.CMT_NCONF pg) = 0 ∧ ∀ i ∈ d.commitSet m pg,
      (d.commitPage m pg).get (OWN.R_OWNER pg i) = d.get (OWN.R_REQ pg i) % 256 ∧ (d.commitPage m pg).get (OWN.R_REQBY pg i) = 0 := by
  rw [Dev.commitPage_succeeds hf]
  refine ⟨by rw [Dev.get_set_same]; rfl, fun i hi => ?_⟩
  obtain ⟨hown, -, hby⟩ := nconf_key_ne pg (Dev.lt_of_mem_commitSet hi)
  rw [Dev.get_set_ne _ _ _ _ hown, Dev.get_set_ne _ _ _ _ hby]
  exact Dev.get_commitTaken hi

/-- Where all claims succeed, a slice that changes hands has its configuration at reset (R109). -/
theorem Dev.commitPage_slcfg {d : Dev} {m : Master} (hf : d.commitFailing m 1 = []) {i : Fin 32} (hi : i.val ∈ d.commitSet m 1) :
    ∀ f ∈ slcfgFields i, (d.commitPage m 1).get f = f.rst := by
  intro f hmem
  have hkey : f.key ≠ (OWN.CMT_NCONF 1).key :=
    (key_ne_ownerFollow (o := 0xFFC) rfl (by decide) (by decide) i.isLt f (List.mem_append_left _ hmem)).symm
  rw [Dev.commitPage_succeeds hf, Dev.get_set_ne _ _ _ _ hkey]
  exact Dev.commitTaken_slcfg hi f hmem

/-- Where a claim fails, `NCONF` counts the failing ones, no owner changes and the requests of the commit are closed (R40). -/
theorem Dev.get_commitPage_fails {d : Dev} {m : Master} {pg : Nat} (hf : d.commitFailing m pg ≠ []) :
    (d.commitPage m pg).get (OWN.CMT_NCONF pg) = (d.commitFailing m pg).length ∧ ∀ i < 32,
      (d.commitPage m pg).get (OWN.R_OWNER pg i) = d.get (OWN.R_OWNER pg i) ∧ (i ∈ d.commitSet m pg →
        (d.commitPage m pg).get (OWN.R_REQ pg i) = d.get (OWN.R_OWNER pg i) % 256 ∧ (d.commitPage m pg).get (OWN.R_REQBY pg i) = 0) := by
  rw [Dev.commitPage_fails hf]
  have hlen := d.commitFailing_length_le m pg
  refine ⟨?_, fun i hi => ?_⟩
  · rw [Dev.get_set_same]
    exact Nat.mod_eq_of_lt (show _ < 256 by omega)
  · obtain ⟨hown, hreq, hby⟩ := nconf_key_ne pg hi
    rw [Dev.get_set_ne _ _ _ _ hown, Dev.get_set_ne _ _ _ _ hreq, Dev.get_set_ne _ _ _ _ hby]
    exact ⟨d.commitRefused_owner m pg i, Dev.commitRefused_closed⟩

/-! ### The commands -/

theorem exec_ownerReqWrite {s : State} {m : Master} {pg : Page} {i : Fin 32} {id : BitVec 8} (hm : s.dev.pageWritable m pg = true)
    (hown : ownerExists pg i = true) : Completes (.ownerReqWrite m pg i id) s
      (if id.toNat = 0 || s.dev.mayClaimId m id.toNat then
        ((s.dev.set (OWN.R_REQ pg i) id.toNat).set (OWN.R_REQBY pg i) (reqbyCode m)).busOk 0
       else s.dev.busError m (pageBase pg + 4 * i) true) := by
  show execOwnerReqWrite m pg i id s = _
  simp [execOwnerReqWrite, State.lift, Dev.reqWrite, hm, hown]

theorem exec_ownershipCommit {s : State} {m : Master} {pg : Page} (hm : s.dev.pageWritable m pg = true) :
    Completes (.ownershipCommit m pg) s ((s.dev.commitPage m pg).busOk 0) := by
  show execOwnershipCommit m pg s = _
  simp [execOwnershipCommit, State.lift, hm]

end Sys2Proof.Machine

open Sys2Proof Sys2Proof.Machine

/-- Settles O8: a commit takes all of its claims (`Dev.commitTaken`) or closes all of its requests (`Dev.commitRefused`); each round reaches the
owner register of its own resource alone, and what follows a change of owner stands outside the owner registers (`key_ne_ownerFollow`). -/
theorem ownershipClaims : Obligations.OwnershipClaims := by
  refine ⟨fun s m pg i id hm hown => ?_, fun s m pg hm => ⟨_, exec_ownershipCommit hm, rfl, rfl, ?_⟩⟩
  · have hex := exec_ownerReqWrite (id := id) hm hown
    refine ⟨fun hid => ?_, fun hid hno => ?_⟩
    · have hok : (decide (id.toNat = 0) || s.dev.mayClaimId m id.toNat) = true := by
        obtain rfl | hmay := hid
        · rfl
        · simp [hmay]
      rwa [if_pos hok] at hex
    · have hne : id.toNat ≠ 0 := fun h => hid (BitVec.eq_of_toNat_eq h)
      rwa [if_neg (by simp [hne, hno])] at hex
  · obtain ⟨hnv, hother⟩ := s.dev.commitPage_frame m pg
    refine ⟨hnv, hother, ?_, fun i hi => ?_, fun hf => ?_, fun hf => ?_⟩
    · rintro rfl hf i hi f hmem
      exact (Dev.busOk_get _ _ _).trans (Dev.commitPage_slcfg hf hi f hmem)
    · simp only [Dev.busOk_get]
      exact Dev.get_commitPage_other i.isLt hi
    · obtain ⟨hn, hres⟩ := Dev.get_commitPage_succeeds hf
      simp only [Dev.busOk_get]
      exact ⟨hn, fun i => hres i⟩
    · obtain ⟨hn, hres⟩ := Dev.get_commitPage_fails hf
      simp only [Dev.busOk_get]
      exact ⟨hn, fun i => hres i i.isLt⟩

end

section
/-! PROOF. Ticks of the control engine (O25): S4 at the least value of an envelope register. -/

namespace Sys2Proof.Machine

/-- A clamp yields no less than its lower bound, even where that lies above the upper one. -/
theorem le_clampInt (lo hi x : Int) : lo ≤ clampInt lo hi x := Int.le_max_left _ _

/-- The least value of Q4.28 that Truss can write to `LPARN` of loop 6 of bridge A (R181), on a device otherwise as after reset. -/
def leastEnvelope : Dev := State.reset.dev.set (CE.LPARN_LPARN 0 6) 0x80000000

/-- The lower end of its envelope is +8 pu, which Q4.28 does not hold. -/
theorem leastEnvelope_low : -(leastEnvelope.sget (CE.LPARN_LPARN 0 6)) = 2147483648 := by decide

/-- S4 brings the demand up to that end, and `DEM` takes its low 32 bits: -8 pu. -/
theorem leastEnvelope_demand : (leastEnvelope.stage4 0 fun _ => 0).sget (CE.DEM_DEM 0) = -2147483648 := by decide +kernel

end Sys2Proof.Machine

open Sys2Proof Sys2Proof.Machine

/-- Refutes O25: in the clause of S4 for a bridge outside PRESET and without a stop, `DEM` is not the clamped demand where `LPARN` of loop 6 holds
0x8000_0000. The clamp yields its lower end, +8 pu, and `DEM` holds -8 pu. -/
theorem not_ticks : ¬ Obligations.Ticks := by
  rintro ⟨-, -, -, -, hS4, -⟩
  obtain ⟨-, -, -, -, hdem, -⟩ := hS4 leastEnvelope 0 fun _ => 0
  have hclamp := hdem (by decide) (by decide) (by decide)
  have habove : (2147483648 : Int) ≤ -2147483648 := calc
    2147483648 = -(leastEnvelope.sget (CE.LPARN_LPARN 0 6)) := leastEnvelope_low.symm
    _ ≤ clampInt _ _ _ := le_clampInt _ _ _
    _ = (leastEnvelope.stage4 0 fun _ => 0).sget (CE.DEM_DEM 0) := hclamp.symm
    _ = -2147483648 := leastEnvelope_demand
  exact absurd habove (by decide)

end

section
/-! PROOF. The flash controller (O13): what a written command does, and what its end leaves in flash. -/

namespace Sys2Proof.Machine

/-! ### Bytes that stay -/

/-- A program or erase that fails leaves every byte outside its target. -/
theorem Dev.flashOpen_sameOutside (d : Dev) (mem : Mem) (c : FlashCmd) : mem.sameOutside (d.flashOpen mem c).2 c.span.1 c.span.2 := by
  intro a ha
  have hlen : (d.drawBytes c.span.2).1.length = c.span.2 := by simp [Dev.drawBytes]
  exact Mem.read_writeBytes_outside _ mem c.span.1 a (hlen.symm ▸ ha)

theorem Mem.clearRange_sameOutside (mem : Mem) (a n : Nat) : mem.sameOutside (mem.clearRange a (a + n)) a n :=
  fun x hx => Mem.read_clearRange_outside mem a (a + n) x hx

theorem Mem.writeLE_sameOutside (mem : Mem) (a n v : Nat) : mem.sameOutside (mem.writeLE a n v) a n :=
  fun x hx => Mem.read_writeLE_outside mem a n v x hx

/-! ### The targets -/

theorem FlashCmd.span_line {c : FlashCmd} (h : c.code = 1) : c.span = (c.addr, 16) := by
  simp [FlashCmd.span, h]

theorem FlashCmd.span_sector {c : FlashCmd} (h : c.code = 2) : c.span = (c.addr / 8192 * 8192, 8192) := by
  simp [FlashCmd.span, h]

theorem FlashCmd.span_bank {c : FlashCmd} (h : c.code = 3) :
    c.span = (if c.addr < 0x08800000 then 0x08000000 else 0x08800000, 0x800000) := by
  have hbank : 0x08000000 + 0x800000 * bankOf c.addr = if c.addr < 0x08800000 then 0x08000000 else 0x08800000 := by
    unfold bankOf
    split <;> rfl
  simp [FlashCmd.span, h, hbank]

/-- The sector or the bank of an address in flash lies in flash, where unwritten bytes read 0xFF. -/
theorem FlashCmd.memDefault_span {c : FlashCmd} (hcode : c.code = 2 ∨ c.code = 3) (hlo : 0x08000000 ≤ c.addr) (hhi : c.addr < 0x09000000) {a : Nat}
    (ha : c.span.1 ≤ a) (ha' : a < c.span.1 + c.span.2) : memDefault a = 0xFF#8 := by
  have hflash : 0x08000000 ≤ a ∧ a ≤ 0x08FFFFFF := by
    obtain h | h := hcode
    · rw [FlashCmd.span_sector h] at ha ha'
      dsimp only at ha ha'
      omega
    · rw [FlashCmd.span_bank h] at ha ha'
      dsimp only at ha ha'
      split at ha <;> split at ha' <;> omega
  exact if_pos hflash

/-! ### A command is written -/

/-- The line that `FLDATA` holds. -/
def Dev.flashData (d : Dev) : Nat :=
  d.get (LC.FLDATA_V 0) + d.get (LC.FLDATA_V 1) * 2 ^ 32 + d.get (LC.FLDATA_V 2) * 2 ^ 64 + d.get (LC.FLDATA_V 3) * 2 ^ 96

/-- Four numbers put together at four places. -/
theorem foldl_places (g p : Nat → Nat) :
    [0, 1, 2, 3].foldl (fun n i => n + g i * p i) 0 = g 0 * p 0 + g 1 * p 1 + g 2 * p 2 + g 3 * p 3 := by
  simp

theorem Dev.flashData_eq (d : Dev) : [0, 1, 2, 3].foldl (fun n i => n + d.get (LC.FLDATA_V i) * 2 ^ (32 * i)) 0 = d.flashData := by
  have hone : (2 : Nat) ^ (32 * 0) = 1 := rfl
  rw [foldl_places (fun i => d.get (LC.FLDATA_V i)) (fun i => 2 ^ (32 * i)), hone, Nat.mul_one, Dev.flashData]

theorem Dev.flashCommand_forbidden {d : Dev} {m : Master} (code : Nat) (hm : d.accessAllowed m 0x40010400 true = false) :
    d.flashCommand m code = d.busError m 0x40010400 true := by
  simp [Dev.flashCommand, hm]

theorem Dev.flashCommand_busy {d : Dev} {m : Master} (code : Nat) (hm : d.accessAllowed m 0x40010400 true = true) (hbusy : d.get LC.FLCTL_BUSY = 1) :
    d.flashCommand m code = (d.set LC.FLCTL_OVERRUN 1).busOk 0 := by
  simp [Dev.flashCommand, hm, Dev.bit, hbusy]

/-- Is the target of a command of code k one that the controller refuses: outside flash, off the line, or on the bank that runs (R90, R91)? -/
def Dev.flashBarred (d : Dev) (code : Nat) : Prop :=
  d.get LC.FLADDR_V < 0x08000000 ∨ 0x09000000 ≤ d.get LC.FLADDR_V ∨ (code = 1 ∧ d.get LC.FLADDR_V % 16 ≠ 0) ∨ d.bankRuns (d.get LC.FLADDR_V) = true

theorem Dev.flashCommand_refused {d : Dev} {m : Master} {code : Nat} (hm : d.accessAllowed m 0x40010400 true = true) (hbusy : d.get LC.FLCTL_BUSY ≠ 1)
    (hbar : d.flashBarred code) : d.flashCommand m code = (d.set LC.FLCTL_REFUSED 1).busOk 0 := by
  unfold Dev.flashBarred at hbar
  simp [Dev.flashCommand, hm, Dev.bit, hbusy, hbar]

theorem Dev.flashCommand_accepted {d : Dev} {m : Master} {code : Nat} (hm : d.accessAllowed m 0x40010400 true = true) (hbusy : d.get LC.FLCTL_BUSY ≠ 1)
    (hbar : ¬ d.flashBarred code) : d.flashCommand m code =
      ((d.set LC.FLCTL_BUSY 1).modStart fun x => { x with flash := some { code := code, addr := d.get LC.FLADDR_V, line := d.flashData } }).busOk 0 := by
  unfold Dev.flashBarred at hbar
  simp only [Dev.flashCommand, Dev.flashData_eq, hm, Dev.bit, hbusy, hbar, Bool.not_true, Bool.false_eq_true, decide_false, if_false]

/-- The three commands of the controller are one operation, by their code. -/
theorem exec_flashCommand {m : Master} {e : Nat × Instr}
    (he : e ∈ [(1, Instr.flashProgram m), (2, Instr.flashEraseSector m), (3, Instr.flashEraseBank m)]) (s : State) :
    exec e.2 s = .next { s with dev := s.dev.flashCommand m e.1 } := by
  simp only [List.mem_cons, List.not_mem_nil, or_false] at he
  obtain rfl | rfl | rfl := he <;> rfl

/-! ### A command ends -/

/-- No command runs any more. -/
def Dev.flashIdle (d : Dev) : Dev := (d.modStart fun x => { x with flash := none }).set LC.FLCTL_BUSY 0

theorem exec_flashCommandDone_none {s : State} (h : s.dev.vol.start.flash = none) (ok : Bool) : Completes (.flashCommandDone ok) s s.dev := by
  show execFlashCommandDone ok s = _
  simp [execFlashCommandDone, State.liftMem, h]

theorem exec_flashCommandDone_program {s : State} {c : FlashCmd} (h : s.dev.vol.start.flash = some c) (hcode : c.code = 1)
    (hline : lineErased s.mem c.addr = true) : CompletesMem (.flashCommandDone true) s s.dev.flashIdle (s.mem.writeLE c.addr 16 c.line) := by
  show execFlashCommandDone true s = _
  simp [execFlashCommandDone, State.liftMem, h, hcode, hline, Dev.flashIdle]

theorem exec_flashCommandDone_erase {s : State} {c : FlashCmd} (h : s.dev.vol.start.flash = some c) (hcode : c.code ≠ 1) :
    CompletesMem (.flashCommandDone true) s s.dev.flashIdle (s.mem.clearRange c.span.1 (c.span.1 + c.span.2)) := by
  show execFlashCommandDone true s = _
  simp [execFlashCommandDone, State.liftMem, h, hcode, Dev.flashIdle]

theorem exec_flashCommandDone_fails {s : State} {c : FlashCmd} (h : s.dev.vol.start.flash = some c) :
    CompletesMem (.flashCommandDone false) s ((s.dev.flashIdle.set LC.FLCTL_ERR 1).flashOpen s.mem c).1
      ((s.dev.flashIdle.set LC.FLCTL_ERR 1).flashOpen s.mem c).2 := by
  show execFlashCommandDone false s = _
  simp [execFlashCommandDone, State.liftMem, h, Dev.flashIdle]

end Sys2Proof.Machine

open Sys2Proof Sys2Proof.Machine

/-- Settles O13: a written command meets one of the four cases of `Dev.flashCommand`; at its end a line or a span of flash is written, and what is written
stays within the span (`Mem.writeLE_sameOutside`, `Mem.clearRange_sameOutside`, `Dev.flashOpen_sameOutside`). -/
theorem flashController : Obligations.FlashController := by
  refine ⟨?_, fun s h ok => exec_flashCommandDone_none h ok, fun s c hc hwf => ⟨fun hcode hline => ?_, fun hcode hlo hhi => ?_, ?_⟩,
    fun c => ⟨FlashCmd.span_sector, FlashCmd.span_bank⟩⟩
  · intro s m line e he
    have hex := exec_flashCommand he s
    refine ⟨fun hm => ?_, fun hm hbusy => ?_, fun hm hbusy => ⟨fun hbar => ?_, fun hlo hhi hal hrun => ?_⟩⟩
    · rwa [Dev.flashCommand_forbidden _ hm] at hex
    · rwa [Dev.flashCommand_busy _ hm hbusy] at hex
    · rwa [Dev.flashCommand_refused hm hbusy hbar] at hex
    · have hbar : ¬ s.dev.flashBarred e.1 := by
        rintro (h | h | ⟨h, h'⟩ | h)
        · omega
        · omega
        · exact h' (hal h)
        · exact Bool.false_ne_true (hrun.symm.trans h)
      rwa [Dev.flashCommand_accepted hm hbusy hbar] at hex
  · exact ⟨exec_flashCommandDone_program hc hcode hline, Mem.readLE_writeLE s.mem c.addr 16 c.line hwf, s.mem.writeLE_sameOutside c.addr 16 c.line⟩
  · have hne : c.code ≠ 1 := by omega
    refine ⟨_, exec_flashCommandDone_erase hc hne, rfl, fun a ha ha' => ?_, s.mem.clearRange_sameOutside _ _⟩
    exact (Mem.read_clearRange_inside s.mem _ _ a ha ha').trans (FlashCmd.memDefault_span hcode hlo hhi ha ha')
  · refine ⟨_, exec_flashCommandDone_fails hc, ?_, Dev.get_set_one s.dev.flashIdle (f := LC.FLCTL_ERR) rfl, rfl, Dev.flashOpen_sameOutside _ s.mem c⟩
    exact (Dev.get_set_ne s.dev.flashIdle LC.FLCTL_ERR LC.FLCTL_BUSY 1 (by decide)).trans (Dev.get_set_same _ LC.FLCTL_BUSY 0)

end

section
/-! PROOF. Resets (O10): which registers a reset returns to their start, what each reset records, and the lands in the internal reset. -/

namespace Sys2Proof.Machine

/-! ### A register file without some of its keys -/

theorem rfFind_filter_kept {p : Nat → Bool} {k : Nat} (h : p k = true) (rf : RegFile) : rfFind (rf.filter fun kv => p kv.1) k = rfFind rf k := by
  induction rf with
  | nil => rfl
  | cons e t ih =>
    obtain ⟨j, v⟩ := e
    by_cases hj : p j = true
    · simp [hj, rfFind, ih]
    · have hne : j ≠ k := fun e => hj (e ▸ h)
      simp [hj, rfFind, hne, ih]

theorem rfFind_filter_dropped {p : Nat → Bool} {k : Nat} (h : p k = false) (rf : RegFile) : rfFind (rf.filter fun kv => p kv.1) k = none := by
  induction rf with
  | nil => rfl
  | cons e t ih =>
    obtain ⟨j, v⟩ := e
    by_cases hj : p j = true
    · have hne : j ≠ k := fun e => Bool.false_ne_true (h.symm.trans (e ▸ hj))
      simp [hj, rfFind, hne, ih]
    · simp [hj, ih]

/-- The key of a field tells its register. -/
theorem Fld.key_div {f : Fld} (hlo : f.lo < 32) : f.key / 32 = f.addr := by
  simp only [Fld.key]
  omega

theorem Dev.get_resetRegs_kept {d : Dev} {p : Nat → Bool} {f : Fld} (hlo : f.lo < 32) (h : p f.addr = false) : (d.resetRegs p).get f = d.get f := by
  have hkey : (!p (f.key / 32)) = true := by simp [Fld.key_div hlo, h]
  exact congrArg (fun o : Option Nat => o.getD f.rst) (rfFind_filter_kept (p := fun k => !p (k / 32)) hkey d.regs)

theorem Dev.get_resetRegs_reset {d : Dev} {p : Nat → Bool} {f : Fld} (hlo : f.lo < 32) (h : p f.addr = true) : (d.resetRegs p).get f = f.rst := by
  have hkey : (!p (f.key / 32)) = false := by simp [Fld.key_div hlo, h]
  exact congrArg (fun o : Option Nat => o.getD f.rst) (rfFind_filter_dropped (p := fun k => !p (k / 32)) hkey d.regs)

/-! ### The blocks outside the Pier -/

/-- The registers after a reset are those before it without the ones that it returns to their start, and with the wake sequencer idle. -/
theorem Dev.get_resetBlocks (d : Dev) {f : Fld} (h : f.key ≠ PIER.WSTAT_WSTATE.key) : d.resetBlocks.get f = (d.resetRegs fun a => !keptAddr a).get f :=
  Dev.get_set_ne _ PIER.WSTAT_WSTATE f 0 h

/-- A field outside the Pier returns to its reset value (R74). -/
theorem Dev.get_resetBlocks_reset (d : Dev) {f : Fld} (hlo : f.lo < 32) (h : keptAddr f.addr = false) : d.resetBlocks.get f = f.rst := by
  have hpier : f.key ≠ PIER.WSTAT_WSTATE.key := by
    intro hk
    have haddr : f.addr = PIER.WSTAT_WSTATE.addr := by rw [← Fld.key_div hlo, hk]; rfl
    exact absurd (haddr ▸ h) (by decide)
  rw [d.get_resetBlocks hpier, Dev.get_resetRegs_reset hlo (by simp [h])]

/-- A field of the Pier keeps its value, but for the state of the wake sequencer (R74). -/
theorem Dev.get_resetBlocks_kept (d : Dev) {f : Fld} (hlo : f.lo < 32) (h : keptAddr f.addr = true) (hw : f.key ≠ PIER.WSTAT_WSTATE.key) :
    d.resetBlocks.get f = d.get f := by
  rw [d.get_resetBlocks hw, Dev.get_resetRegs_kept hlo (by simp [h])]

/-! ### The latch of R303 -/

theorem Dev.get_clearThLatch (d : Dev) : d.clearThLatch.get TH.LATCH_DIE = 0 ∧ d.clearThLatch.get TH.LATCH_BARRIER = 0 ∧
    d.clearThLatch.get TH.LATCH_ISL = 0 := by
  have hdie := (d.set TH.LATCH_DIE 0).get_set_ne TH.LATCH_BARRIER TH.LATCH_DIE 0 (by decide)
  have hdie' := ((d.set TH.LATCH_DIE 0).set TH.LATCH_BARRIER 0).get_set_ne TH.LATCH_ISL TH.LATCH_DIE 0 (by decide)
  have hbar := ((d.set TH.LATCH_DIE 0).set TH.LATCH_BARRIER 0).get_set_ne TH.LATCH_ISL TH.LATCH_BARRIER 0 (by decide)
  exact ⟨(hdie'.trans hdie).trans (Dev.get_set_same _ _ _), hbar.trans (Dev.get_set_same _ _ _), Dev.get_set_same _ _ _⟩

theorem Dev.clearThLatch_sameBut (d : Dev) : d.sameBut d.clearThLatch [TH.LATCH_DIE, TH.LATCH_BARRIER, TH.LATCH_ISL] :=
  (((Dev.sameBut.refl d _).set (by simp) 0).set (by simp) 0).set (by simp) 0

/-! ### A reset and its record -/

/-- A reset for the causes of a list with no flash command under way: the blocks, the latch of R303 with `VCORE_LOW`, and the record (R77). -/
def Dev.resetRecorded (d : Dev) (cs : List RstCause) : Dev :=
  ((d.resetBlocks.when (cs.contains (.supply .vcore)) Dev.clearThLatch).each (cs.flatMap RstCause.bits) fun d f => d.set f 1).countSat LC.RSTCAUSE_COUNT

theorem Dev.resetAll_idle {d : Dev} (mem : Mem) (cs : List RstCause) (h : d.vol.start.flash = none) : d.resetAll mem cs = (d.resetRecorded cs, mem) := by
  simp only [Dev.resetAll, h]
  rfl

/-- Out of shelf, with no word being burned, a requested reset takes effect at once. -/
theorem Dev.requestReset_now {d : Dev} (mem : Mem) (c : RstCause) (hshelf : d.inShelf = false) (hburn : d.vol.start.burn = none)
    (hflash : d.vol.start.flash = none) : d.requestReset mem c = (d.resetRecorded [c], mem) := by
  simp [Dev.requestReset, hshelf, hburn, Dev.resetAll_idle mem [c] hflash]

/-- In shelf the internal reset is held already (R77). -/
theorem Dev.requestReset_inShelf {d : Dev} (mem : Mem) (c : RstCause) (h : d.inShelf = true) :
    d.requestReset mem c = (d.when (decide (c = .supply .vcore)) Dev.clearThLatch, mem) := by
  simp [Dev.requestReset, h]

/-- A reset waits for the end of a word's burn (R76). -/
theorem Dev.requestReset_burning {d : Dev} (mem : Mem) (c : RstCause) {b : Burn} (hshelf : d.inShelf = false) (hburn : d.vol.start.burn = some b) :
    d.requestReset mem c = ({ d with lands := { d.lands with resetPending := d.lands.resetPending ++ [c] } }, mem) := by
  simp [Dev.requestReset, hshelf, hburn]

/-! ### The commands -/

/-- Command i requests a reset of cause c from device d. -/
def RequestsReset (i : Instr) (s : State) (d : Dev) (c : RstCause) : Prop :=
  exec i s = .next { s with dev := (d.requestReset s.mem c).1, mem := (d.requestReset s.mem c).2 }

theorem RequestsReset.completes {i : Instr} {s : State} {d e : Dev} {c : RstCause} (hreq : RequestsReset i s d c)
    (h : d.requestReset s.mem c = (e, s.mem)) : Completes i s e := by
  rw [RequestsReset, h] at hreq
  exact hreq

theorem requestsReset_pinReset (s : State) : RequestsReset .pinReset s s.dev .pin := rfl

theorem requestsReset_supplyReset (s : State) {v : Supply} (hv : supplyWatched v = true) :
    RequestsReset (.supplyReset v) s (s.dev.setSupply v false) (.supply v) := by
  show execSupplyReset v s = _
  simp [execSupplyReset, State.liftMem, hv]

theorem requestsReset_softwareReset {s : State} (hm : s.dev.accessAllowed .truss 0x40010010 true = true) :
    RequestsReset (.softwareReset .truss 0x5EC00D1E#32) s (s.dev.busOk 0) .soft := by
  show execSoftwareReset .truss 0x5EC00D1E#32 s = _
  simp [execSoftwareReset, State.liftMem, hm]

theorem exec_softwareReset_other {s : State} {m : Master} {v : Word} (hm : s.dev.accessAllowed m 0x40010010 true = true) (hv : v ≠ 0x5EC00D1E#32) :
    Completes (.softwareReset m v) s (s.dev.busOk 0) := by
  show execSoftwareReset m v s = _
  simp [execSoftwareReset, State.liftMem, hm, hv]

theorem exec_softwareReset_forbidden {s : State} {m : Master} (v : Word) (hm : s.dev.accessAllowed m 0x40010010 true = false) :
    Completes (.softwareReset m v) s (s.dev.busError m 0x40010010 true) := by
  show execSoftwareReset m v s = _
  simp [execSoftwareReset, State.liftMem, hm]

/-! ### The power-on reset -/

/-- The device after a power-on reset, with the nonvolatile contents and the count of open values that it leaves. -/
def Dev.poweredOn (d : Dev) (nv : NonVol) (free : Nat) : Dev :=
  { Dev.reset with vol := d.vol.restart, now := d.now, free := free, nv := nv, lands := { d.lands with resetPending := [], rise := [] }, bus := d.bus,
                   resp := d.resp }

/-- Memory after a power-on reset: the SRAMs and the retention memory are cleared. -/
def Mem.poweredOn (m : Mem) : Mem := ([1, 2, 4, 7, 8].foldl clearSram m).clearRange 0x30000000 0x30001000

theorem exec_powerOnReset_idle {s : State} (hburn : s.dev.vol.start.burn = none) (hflash : s.dev.vol.start.flash = none) :
    CompletesMem .powerOnReset s (s.dev.poweredOn s.dev.nv (s.dev.free + 1)) s.mem.poweredOn := by
  show execPowerOnReset s = _
  simp only [execPowerOnReset, State.liftMem, hburn, hflash]
  rfl

/-- No SRAM lies below 0x2000_0000 (Table 1-5). -/
theorem read_clearSram_low (m : Mem) (p : Fin 9) {a : Nat} (ha : a < 0x20000000) : (clearSram m p).read a = m.read a := by
  unfold clearSram
  split
  case h_6 => rfl
  all_goals exact Mem.read_clearRange_outside _ _ _ _ (.inl (by omega))

theorem read_foldl_clearSram_low (l : List (Fin 9)) (m : Mem) {a : Nat} (ha : a < 0x20000000) : (l.foldl clearSram m).read a = m.read a := by
  induction l generalizing m with
  | nil => rfl
  | cons p t ih => exact (ih (clearSram m p)).trans (read_clearSram_low m p ha)

/-- Flash and MRAM stay (R74). -/
theorem Mem.read_poweredOn_low (m : Mem) {a : Nat} (ha : a < 0x20000000) : m.poweredOn.read a = m.read a :=
  (Mem.read_clearRange_outside _ _ _ _ (.inl (by omega))).trans (read_foldl_clearSram_low _ m ha)

/-- The retention memory is cleared (R74). -/
theorem Mem.read_poweredOn_retention (m : Mem) {a : Nat} (ha : 0x30000000 ≤ a) (ha' : a < 0x30001000) : m.poweredOn.read a = 0#8 :=
  (Mem.read_clearRange_inside _ _ _ _ ha ha').trans (if_neg (by omega))

/-! ### The lands in the internal reset (R68) -/

section
variable {d : Dev} (h : d.running = false)
include h

theorem Dev.works_held (p clk : Fin 9) : d.works p clk = false := by
  simp [Dev.works, h]

theorem Dev.canTx_held (p : Fin 4) : d.canTx p = .high := by
  simp [Dev.canTx, Dev.portUp, Dev.netWorks, Dev.works_held h]

theorem Dev.ctrDrv_held (k : Fin 4) : d.ctrDrv k = .low := by
  simp [Dev.ctrDrv, h, Land.level]

theorem Dev.tpOut_held (k : Fin 4) : d.tpOut k = .low := by
  simp [Dev.tpOut, h, Land.level]

theorem Dev.dscEn_held : d.dscEn = .low := by
  simp [Dev.dscEn, h, Land.level]

theorem Dev.emuOut_held (i : Fin 3) : d.emuOut i = .float := by
  simp [Dev.emuOut, Dev.posOn, Dev.ceWorks, Dev.works_held h]

theorem Dev.resExc_held (p : Fin 2) : d.resExc p = .float := by
  simp [Dev.resExc, Dev.works_held h]

/-- FAULT_N is low while the module has not completed its start (R67). -/
theorem Dev.faultN_held (hshelf : d.inShelf = false) : d.faultN = .low := by
  have hphase : d.vol.start.phase = .held := Decidable.not_not.mp (of_decide_eq_false h)
  have hon : d.get (PIER.PDCTL_ST 1) ≠ 2 := of_decide_eq_false hshelf
  have hlow : d.faultNLow = true := by simp [Dev.faultNLow, hphase, hon]
  simp [Dev.faultN, hlow]

end

end Sys2Proof.Machine

open Sys2Proof Sys2Proof.Machine

/-- Settles O10: each reset is requested (`RequestsReset`), and a request takes effect at once, changes nothing but the latch of R303 in shelf, or waits for a
burn; what it leaves is read off `Dev.resetBlocks`, whose register file is the one before it without the keys outside the Pier. -/
theorem resets : Obligations.Resets := by
  refine ⟨⟨fun s hshelf hburn hflash => ⟨?_, ?_, ?_, ?_, fun hm => ?_⟩, fun s hshelf => ⟨?_, ?_⟩, fun d => ?_,
    fun s m v => exec_softwareReset_other, fun s m v => exec_softwareReset_forbidden v, fun s b hshelf hburn => ?_⟩,
    fun d f hlo => ⟨rfl, rfl, rfl, rfl, d.get_resetBlocks_reset hlo, d.get_resetBlocks_kept hlo⟩, fun s hburn hflash => ?_, fun d h => ?_⟩
  · exact (requestsReset_pinReset s).completes (Dev.requestReset_now s.mem .pin hshelf hburn hflash)
  · exact (requestsReset_supplyReset s rfl).completes (Dev.requestReset_now s.mem (.supply .vana) hshelf hburn hflash)
  · exact (requestsReset_supplyReset s rfl).completes (Dev.requestReset_now s.mem (.supply .vio) hshelf hburn hflash)
  · exact (requestsReset_supplyReset s rfl).completes (Dev.requestReset_now s.mem (.supply .vcore) hshelf hburn hflash)
  · exact (requestsReset_softwareReset hm).completes (Dev.requestReset_now s.mem .soft hshelf hburn hflash)
  · exact (requestsReset_pinReset s).completes (Dev.requestReset_inShelf s.mem .pin hshelf)
  · exact (requestsReset_supplyReset s rfl).completes (Dev.requestReset_inShelf s.mem (.supply .vcore) hshelf)
  · obtain ⟨hdie, hbar, hisl⟩ := d.get_clearThLatch
    exact ⟨hdie, hbar, hisl, d.clearThLatch_sameBut⟩
  · exact (requestsReset_pinReset s).completes (Dev.requestReset_burning s.mem .pin hshelf hburn)
  · exact ⟨_, exec_powerOnReset_idle hburn hflash, rfl, rfl, rfl, rfl, fun a => s.mem.read_poweredOn_retention, fun a => s.mem.read_poweredOn_low⟩
  · exact ⟨Dev.canTx_held h, fun k => ⟨Dev.ctrDrv_held h k, Dev.tpOut_held h k⟩, Dev.dscEn_held h, Dev.emuOut_held h, Dev.resExc_held h,
      Dev.faultN_held h⟩

end

section
/-! PROOF. Transitions of the life-cycle state (O14): what a stepped operation leaves, the checks of a start, and the burn of both words. -/

namespace Sys2Proof.Machine

/-! ### What a stepped operation leaves -/

/-- What the dictionary engine's bookkeeping of requests and stepped operations leaves: the nonvolatile contents, the Pier, and the start. -/
def Dev.outsideDict (d : Dev) : NonVol × PierState × StartState := (d.nv, d.pier, d.vol.start)

theorem Dev.outsideDict_eq {d e : Dev} (h : d.outsideDict = e.outsideDict) : d.nv = e.nv ∧ d.pier = e.pier ∧ d.vol.start = e.vol.start := by
  simpa [Dev.outsideDict] using h

@[simp] theorem Dev.abort_outsideDict (d : Dev) (i s code cause : Nat) : (d.abort i s code cause).outsideDict = d.outsideDict :=
  Dev.when_keep Dev.outsideDict _ _ _ (by simp [Dev.outsideDict])

@[simp] theorem Dev.opStart_outsideDict (d : Dev) (i : Nat) : (d.opStart i).outsideDict = d.outsideDict := rfl

@[simp] theorem Dev.opEnd_outsideDict (d : Dev) (i st result : Nat) : (d.opEnd i st result).outsideDict = d.outsideDict := by
  simp [Dev.opEnd, Dev.outsideDict, Dev.showOps, Dev.setHandle]

@[simp] theorem Dev.opFail_outsideDict (d : Dev) (i code : Nat) : (d.opFail i code).outsideDict = d.outsideDict := d.opEnd_outsideDict i 3 code

@[simp] theorem Dev.opDone_outsideDict (d : Dev) (i : Nat) : (d.opDone i).outsideDict = d.outsideDict := d.opEnd_outsideDict i 2 0

theorem Dev.opAdmit_outsideDict (d : Dev) (i sub : Nat) (stateOk rangeOk : Bool) : (d.opAdmit i sub stateOk rangeOk).1.outsideDict = d.outsideDict := by
  unfold Dev.opAdmit
  split
  · exact d.abort_outsideDict _ _ _ _
  · split
    · exact d.abort_outsideDict _ _ _ _
    · split
      · exact d.abort_outsideDict _ _ _ _
      · exact d.opStart_outsideDict i

theorem Dev.setArgs_outsideDict (i : Nat) (args : List (Nat × Nat)) (d : Dev) :
    (args.foldl (fun d x => d.setObjVal i x.1 x.2) d).outsideDict = d.outsideDict := by
  induction args generalizing d with
  | nil => rfl
  | cons x t ih => exact ih (d.setObjVal i x.1 x.2)

theorem Dev.opBegin_outsideDict (d : Dev) (i sub : Nat) (args : List (Nat × Nat)) (stateOk rangeOk : Bool) :
    (d.opBegin i sub args stateOk rangeOk).1.outsideDict = d.outsideDict := by
  have hadmit := d.opAdmit_outsideDict i sub stateOk rangeOk
  unfold Dev.opBegin
  split
  · exact d.opEnd_outsideDict _ _ _
  · split
    · rfl
    · dsimp only
      split
      · exact (Dev.setArgs_outsideDict i args _).trans hadmit
      · exact hadmit

/-- The handle of an operation that ends (Table 15-13). -/
theorem Dev.handle_opEnd (d : Dev) (i st result : Nat) :
    (d.opEnd i st result).handle i = st * 2 ^ 29 + (if st = 2 then 100 else d.handle i / 2 ^ 16 % 256) * 2 ^ 16 + result := by
  simp only [Dev.handle, Dev.opEnd, Dev.edge_vol, Dev.showOps, Dev.set_vol, Dev.setHandle, Dev.modDict_vol_dict]
  exact rfGet_set_same _ _ _ _

theorem Dev.handle_opDone (d : Dev) (i : Nat) : (d.opDone i).handle i = 2 * 2 ^ 29 + 100 * 2 ^ 16 :=
  (d.handle_opEnd i 2 0).trans (by simp)

/-- The handle of a failed operation shows state 3 and the code. -/
theorem Dev.handle_opFail (d : Dev) (i : Nat) {code : Nat} (hcode : code < 2 ^ 16) :
    (d.opFail i code).handle i / 2 ^ 29 = 3 ∧ (d.opFail i code).handle i % 2 ^ 16 = code := by
  have h : (d.opFail i code).handle i = 3 * 2 ^ 29 + d.handle i / 2 ^ 16 % 256 * 2 ^ 16 + code := d.handle_opEnd i 3 code
  omega

/-! ### The checks of an accepted start (R95) -/

/-- The signatures that a transition needs verify over a nonce. -/
def Dev.transSigned (d : Dev) (dst : Nat) (n : Bool × Bool) (v : Nonce) : Prop :=
  (n.1 = true → d.customerSigned dst v.value = true) ∧ (n.2 = true → d.makerSigned dst v.value = true)

theorem Dev.transition_none {d : Dev} {dst : Nat} (h : d.transAuth dst = none) : d.transition dst = d.spendNonce.opFail 0x7010 0x0630 := by
  simp only [Dev.transition, h]

/-- What a transition does once its signatures are judged (R95). -/
def Dev.transOutcome (d : Dev) (dst : Nat) (n : Bool × Bool) (cust maker : Bool) : Dev :=
  if (n.1 && !cust) || (n.2 && !maker) then d.spendNonce.sigFailed
  else if dst = d.get LC.LCSTATE_STATE then (d.spendNonce.authenticate n.1 n.2).opDone 0x7010
  else ((d.spendNonce.modStart fun x => { x with burn := some { target := dst, word := 0 } }).set LC.LCSTATE_PEND 1).set LC.LCSTATE_PEND_TO dst

theorem Dev.transition_some {d : Dev} {dst : Nat} {n : Bool × Bool} (hn : d.transAuth dst = some n) :
    ∃ cust maker, d.transition dst = d.transOutcome dst n cust maker ∧
      ∀ v : Nonce, d.vol.start.nonce = some v → cust = d.customerSigned dst v.value ∧ maker = d.makerSigned dst v.value := by
  refine ⟨_, _, by simp only [Dev.transition, hn]; rfl, fun v hv => ?_⟩
  simp only [hv, and_self]

section
variable {d : Dev} {dst : Nat} {n : Bool × Bool} {v : Nonce} (hn : d.transAuth dst = some n) (hv : d.vol.start.nonce = some v)
include hn hv

theorem Dev.transition_unsigned (h : (n.1 = true ∧ d.customerSigned dst v.value = false) ∨ (n.2 = true ∧ d.makerSigned dst v.value = false)) :
    d.transition dst = d.spendNonce.sigFailed := by
  obtain ⟨cust, maker, htrans, hsigs⟩ := Dev.transition_some hn
  obtain ⟨rfl, rfl⟩ := hsigs v hv
  rw [htrans]
  exact if_pos (by simpa using h)

theorem Dev.transition_signed (hsig : d.transSigned dst n v) : d.transition dst =
    if dst = d.get LC.LCSTATE_STATE then (d.spendNonce.authenticate n.1 n.2).opDone 0x7010
    else ((d.spendNonce.modStart fun x => { x with burn := some { target := dst, word := 0 } }).set LC.LCSTATE_PEND 1).set LC.LCSTATE_PEND_TO dst := by
  obtain ⟨hc, hm⟩ := hsig
  obtain ⟨cust, maker, htrans, hsigs⟩ := Dev.transition_some hn
  obtain ⟨rfl, rfl⟩ := hsigs v hv
  rw [htrans]
  exact if_neg (by simpa using ⟨hc, hm⟩)

end

/-- A failed check is counted, and ends the operation with 0x0660. -/
theorem Dev.sigFailed_effect (d : Dev) : d.sigFailed.nv = d.nv ∧ d.sigFailed.pier.sigFails = d.pier.sigFails + 1 ∧ d.sigFailed.vol.start = d.vol.start ∧
    d.sigFailed.handle 0x7010 / 2 ^ 29 = 3 ∧ d.sigFailed.handle 0x7010 % 2 ^ 16 = 0x0660 := by
  obtain ⟨hnv, hpier, hstart⟩ := Dev.outsideDict_eq ((d.modPier fun q => { q with sigFails := q.sigFails + 1 }).opFail_outsideDict 0x7010 0x0660)
  obtain ⟨hst, hres⟩ := (d.modPier fun q => { q with sigFails := q.sigFails + 1 }).handle_opFail 0x7010 (code := 0x0660) (by decide)
  exact ⟨hnv, congrArg PierState.sigFails hpier, hstart, hst, hres⟩

/-- A verified authentication opens what it stands for; beside that only the key store may be cleared (R100). -/
theorem Dev.authenticate_effect (d : Dev) (cust maker : Bool) :
    ((d.authenticate cust maker).vol.start.custAuth = (d.vol.start.custAuth || cust)) ∧
    ((d.authenticate cust maker).vol.start.makerAuth = (d.vol.start.makerAuth || maker)) ∧
    (d.authenticate cust maker).vol.start.burn = d.vol.start.burn ∧ (d.authenticate cust maker).vol.start.nonce = d.vol.start.nonce ∧
    (d.authenticate cust maker).pier = d.pier ∧ (d.authenticate cust maker).nv = d.nv :=
  ⟨Dev.when_keep (fun c => c.vol.start.custAuth) _ _ _ rfl, Dev.when_keep (fun c => c.vol.start.makerAuth) _ _ _ rfl,
    Dev.when_keep (fun c => c.vol.start.burn) _ _ _ rfl, Dev.when_keep (fun c => c.vol.start.nonce) _ _ _ rfl,
    Dev.when_keep Dev.pier _ _ _ rfl, Dev.when_keep Dev.nv _ _ _ rfl⟩

/-! ### LC_NONCE_READ and LC_TRANSITION_START -/

theorem exec_lcNonceRead_running {s : State} (n : BitVec 128) (h : s.dev.running = true) : Completes (.lcNonceRead n) s
    ((s.dev.modStart fun x => { x with nonce := some { value := n.toNat, readAt := s.dev.now } }).answer n.toNat 16) := by
  show execLcNonceRead n s = _
  simp [execLcNonceRead, State.lift, h]

theorem exec_lcNonceRead_held {s : State} (n : BitVec 128) (h : s.dev.running = false) : Completes (.lcNonceRead n) s s.dev := by
  show execLcNonceRead n s = _
  simp [execLcNonceRead, State.lift, h]

theorem exec_lcTransitionStart_burning {s : State} (target : BitVec 8) {b : Burn} (h : s.dev.vol.start.burn = some b) :
    Completes (.lcTransitionStart target) s (s.dev.abort 0x7010 5 0x0640 2) := by
  show execLcTransitionStart target s = _
  simp [execLcTransitionStart, State.lift, h]

theorem exec_lcTransitionStart_barred {s : State} (target : BitVec 8) (hburn : s.dev.vol.start.burn = none) (hfails : 8 ≤ s.dev.pier.sigFails)
    (hrun : s.dev.opRunning 0x7010 = false) :
    Completes (.lcTransitionStart target) s ((s.dev.abort 0x7010 5 0x0660 0).modStart fun x => { x with nonce := none }) := by
  show execLcTransitionStart target s = _
  simp [execLcTransitionStart, State.lift, hburn, Dev.sigBarred, hfails, hrun, Dev.spendNonce]

section
variable {s : State} {target : BitVec 8} {d1 : Dev} (hburn : s.dev.vol.start.burn = none) (hfails : s.dev.pier.sigFails < 8)
include hburn hfails

theorem exec_lcTransitionStart_turn (h : s.dev.opBegin 0x7010 5 [(2, target.toNat)] s.dev.transState true = (d1, true)) :
    Completes (.lcTransitionStart target) s (d1.transition (d1.objVal 0x7010 2 0)) := by
  have hbar : ¬ 8 ≤ s.dev.pier.sigFails := by omega
  show execLcTransitionStart target s = _
  simp [execLcTransitionStart, State.lift, hburn, Dev.sigBarred, hbar, h]

theorem exec_lcTransitionStart_noTurn (h : s.dev.opBegin 0x7010 5 [(2, target.toNat)] s.dev.transState true = (d1, false)) :
    Completes (.lcTransitionStart target) s (if d1.opRunning 0x7010 then d1 else d1.modStart fun x => { x with nonce := none }) := by
  have hbar : ¬ 8 ≤ s.dev.pier.sigFails := by omega
  show execLcTransitionStart target s = _
  simp [execLcTransitionStart, State.lift, hburn, Dev.sigBarred, hbar, h, Dev.spendNonce]

end

/-! ### FUSE_BURN_COMPLETE -/

/-- Word w of state k is programmed. -/
def NonVol.burnWord (n : NonVol) (k : Fin 7) (w : Fin 2) : NonVol :=
  if w = 0 then { n with fuses := { n.fuses with word1 := vset n.fuses.word1 k true } }
  else { n with fuses := { n.fuses with word2 := vset n.fuses.word2 k true } }

/-- The device with its nonvolatile contents changed and no reset waiting. -/
def Dev.burned (d : Dev) (nv : NonVol) : Dev := { d with lands := { d.lands with resetPending := [] }, nv := nv }

theorem Dev.burned_noReset {d : Dev} (h : d.lands.resetPending = []) (nv : NonVol) : d.burned nv = { d with nv := nv } := by
  have hl : { d.lands with resetPending := [] } = d.lands := by rw [← h]
  rw [Dev.burned, hl]

/-- The first word is burned: the second follows, or the resets that wait take effect (R76, R96). -/
theorem exec_fuseBurnComplete_first {s : State} {k : Fin 7} (h : s.dev.vol.start.burn = some { target := k, word := 0 }) :
    CompletesMem (.fuseBurnComplete 0) s
      (if s.dev.lands.resetPending.isEmpty then
        (s.dev.burned (s.dev.nv.burnWord k 0)).modStart fun x => { x with burn := some { target := k, word := 1 } }
       else ((s.dev.burned (s.dev.nv.burnWord k 0)).resetAll s.mem s.dev.lands.resetPending).1)
      (if s.dev.lands.resetPending.isEmpty then s.mem else ((s.dev.burned (s.dev.nv.burnWord k 0)).resetAll s.mem s.dev.lands.resetPending).2) := by
  show execFuseBurnComplete 0 s = _
  cases hw : s.dev.lands.resetPending.isEmpty <;> simp [execFuseBurnComplete, State.liftMem, h, hw, Dev.burned, NonVol.burnWord]

/-- The second word is burned: the effect of the state and the life-cycle-transition reset follow (R96). -/
theorem exec_fuseBurnComplete_second {s : State} {k : Fin 7} (h : s.dev.vol.start.burn = some { target := k, word := 1 }) :
    CompletesMem (.fuseBurnComplete 1) s
      ((s.dev.burned ((s.dev.nv.burnWord k 1).lifeEffect k)).resetAll s.mem (s.dev.lands.resetPending ++ [RstCause.lct])).1
      ((s.dev.burned ((s.dev.nv.burnWord k 1).lifeEffect k)).resetAll s.mem (s.dev.lands.resetPending ++ [RstCause.lct])).2 := by
  show execFuseBurnComplete 1 s = _
  simp [execFuseBurnComplete, State.liftMem, h, Dev.burned, NonVol.burnWord]

/-- What a state does to the material leaves the words of the states. -/
theorem NonVol.lifeEffect_words (n : NonVol) (k : Nat) :
    (n.lifeEffect k).fuses.word1 = n.fuses.word1 ∧ (n.lifeEffect k).fuses.word2 = n.fuses.word2 := by
  unfold NonVol.lifeEffect
  split <;> exact ⟨rfl, rfl⟩

/-- A reset leaves the nonvolatile contents, and the internal state at its start (R74). -/
theorem Dev.resetRecorded_state (d : Dev) (cs : List RstCause) : (d.resetRecorded cs).nv = d.nv ∧ (d.resetRecorded cs).vol = d.vol.restart := by
  have hset := Dev.each_keep (fun c => (c.nv, c.vol)) (cs.flatMap RstCause.bits) (fun d f => d.set f 1) (fun _ _ _ => rfl)
    (d.resetBlocks.when (cs.contains (.supply .vcore)) Dev.clearThLatch)
  have hlatch := Dev.when_keep (fun c => (c.nv, c.vol)) d.resetBlocks (cs.contains (.supply .vcore)) Dev.clearThLatch rfl
  obtain ⟨hnv, hvol⟩ := Prod.mk.inj (hset.trans hlatch)
  exact ⟨(Dev.countSat_nv _ _).trans hnv, (Dev.countSat_vol _ _).trans hvol⟩

/-- The life-cycle-transition reset sets its own cause bit (R77). -/
theorem Dev.get_resetRecorded_lct (d : Dev) : (d.resetRecorded [.lct]).get LC.RSTCAUSE_LCT = 1 := by
  have hcount := (Dev.sameBut.refl (d.resetBlocks.set LC.RSTCAUSE_LCT 1) [LC.RSTCAUSE_COUNT]).countSat (List.mem_singleton_self _)
  exact (hcount LC.RSTCAUSE_LCT (by decide)).trans (Dev.get_set_one _ rfl)

end Sys2Proof.Machine

open Sys2Proof Sys2Proof.Machine

/-- Settles O14: a start is refused while a word is burned, barred after eight failures, waits for its turn, or is judged by `Dev.transition`, whose four
outcomes are read off their equations; the dictionary's bookkeeping leaves start, Pier and fuses (`Dev.opBegin_outsideDict`). -/
theorem lifeCycleTransition : Obligations.LifeCycleTransition := by
  refine ⟨fun s n => ⟨exec_lcNonceRead_running n, exec_lcNonceRead_held n⟩, fun s => rfl,
    fun s target hburn => ⟨exec_lcTransitionStart_barred target hburn, fun hfails d1 hb v n dst hdst hv hn => ?_⟩, fun s k hburn hwait => ?_,
    fun s k hburn hwait hflash => ?_, fun s target hburn hfails => ⟨fun d1 hb hnone => ?_, fun d1 => exec_lcTransitionStart_noTurn hburn hfails,
      fun d1 v n hb hdst hv hn hc hm => ?_⟩, fun s target b => exec_lcTransitionStart_burning target⟩
  · have hex := exec_lcTransitionStart_turn hburn hfails hb
    have hkeep := s.dev.opBegin_outsideDict 0x7010 5 [(2, target.toNat)] s.dev.transState true
    rw [hb] at hkeep
    obtain ⟨hnv, hpier, hstart⟩ := Dev.outsideDict_eq hkeep
    rw [hdst] at hex
    refine ⟨fun hc hm hne => ?_, fun hbad => ?_⟩
    · rw [Dev.transition_signed hn hv ⟨hc, hm⟩, if_neg hne] at hex
      refine ⟨_, hex, rfl, rfl, ?_, Dev.get_set_same _ _ _, hnv, rfl⟩
      exact (Dev.get_set_ne _ LC.LCSTATE_PEND_TO LC.LCSTATE_PEND dst (by decide)).trans (Dev.get_set_one _ rfl)
    · rw [Dev.transition_unsigned hn hv hbad] at hex
      obtain ⟨hnv', hfails', hstart', hst, hres⟩ := d1.spendNonce.sigFailed_effect
      refine ⟨_, hex, ?_, ?_, ?_, hst, hres, hnv'.trans hnv, rfl⟩
      · exact (congrArg StartState.burn hstart').trans ((congrArg StartState.burn hstart).trans hburn)
      · exact congrArg StartState.nonce hstart'
      · exact hfails'.trans (congrArg (fun q : PierState => q.sigFails + 1) hpier)
  · have hex := exec_fuseBurnComplete_first hburn
    rwa [hwait, Dev.burned_noReset hwait] at hex
  · have hex := exec_fuseBurnComplete_second hburn
    rw [hwait, List.nil_append, Dev.resetAll_idle (d := s.dev.burned _) s.mem _ hflash] at hex
    obtain ⟨hnv, hvol⟩ := (s.dev.burned ((s.dev.nv.burnWord k 1).lifeEffect k)).resetRecorded_state [.lct]
    refine ⟨_, hex, ?_, Dev.get_resetRecorded_lct _, hvol, rfl⟩
    show vget (Dev.resetRecorded _ _).nv.fuses.word2 k = true
    rw [hnv]
    exact (congrArg (vget · k) (NonVol.lifeEffect_words _ _).2).trans (vget_vset_same _ _ _)
  · have hex := exec_lcTransitionStart_turn hburn hfails hb
    rwa [Dev.transition_none hnone] at hex
  · have hex := exec_lcTransitionStart_turn hburn hfails hb
    have hkeep := s.dev.opBegin_outsideDict 0x7010 5 [(2, target.toNat)] s.dev.transState true
    rw [hb] at hkeep
    obtain ⟨hnv, hpier, hstart⟩ := Dev.outsideDict_eq hkeep
    rw [hdst, Dev.transition_signed hn hv ⟨hc, hm⟩, if_pos rfl] at hex
    obtain ⟨hcust, hmaker, hburn', hnonce, hpier', hnv'⟩ := d1.spendNonce.authenticate_effect n.1 n.2
    obtain ⟨hdnv, hdpier, hdstart⟩ := Dev.outsideDict_eq ((d1.spendNonce.authenticate n.1 n.2).opDone_outsideDict 0x7010)
    refine ⟨_, hex, fun h => ?_, fun h => ?_, ?_, ?_, ?_, ?_, ?_, rfl⟩
    · exact (congrArg StartState.custAuth hdstart).trans (hcust.trans (by simp [h]))
    · exact (congrArg StartState.makerAuth hdstart).trans (hmaker.trans (by simp [h]))
    · exact (congrArg StartState.burn hdstart).trans (hburn'.trans ((congrArg StartState.burn hstart).trans hburn))
    · exact (congrArg StartState.nonce hdstart).trans hnonce
    · exact hdpier.trans (hpier'.trans hpier)
    · exact congrArg (· / 2 ^ 29) (Dev.handle_opDone _ _)
    · exact hdnv.trans (hnv'.trans hnv)

end

section
/-! PROOF. Fuses burn only (O16): what each command that reaches the OTP leaves of the fuses. -/

namespace Sys2Proof.Machine

/-! ### Bits of numbers -/

theorem natBit_eq_testBit (v i : Nat) : natBit v i = v.testBit i := Nat.testBit_eq_decide_div_mod_eq.symm

theorem natBit_or_left {v : Nat} (w : Nat) {j : Nat} (h : natBit v j = true) : natBit (v ||| w) j = true := by
  rw [natBit_eq_testBit] at h ⊢
  simp [h]

/-- A value that returns no bit to 0 has every bit that was set. -/
theorem natBit_of_and_eq {old v j : Nat} (h : old &&& v = old) (hj : natBit old j = true) : natBit v j = true := by
  rw [natBit_eq_testBit] at hj ⊢
  rw [← h, Nat.testBit_and, Bool.and_eq_true] at hj
  exact hj.2

theorem natBit_ones {j : Nat} (hj : j < 256) : natBit (2 ^ 256 - 1) j = true := by
  rw [natBit_eq_testBit, Nat.testBit_two_pow_sub_one]
  exact decide_eq_true hj

/-- Two numbers of 256 bits, one above the other: a bit of the lower, and one of the upper. -/
theorem natBit_pair {lo hi j : Nat} (hlo : lo < 2 ^ 256) (hj : j < 256) :
    natBit (lo + hi * 2 ^ 256) j = natBit lo j ∧ natBit (lo + hi * 2 ^ 256) (256 + j) = natBit hi j := by
  have hsum : lo + hi * 2 ^ 256 = 2 ^ 256 * hi + lo := by rw [Nat.add_comm, Nat.mul_comm]
  have hge : ¬ 256 + j < 256 := by omega
  simp only [natBit_eq_testBit, hsum, Nat.testBit_two_pow_mul_add hi hlo, if_pos hj, if_neg hge, Nat.add_sub_cancel_left, and_self]

theorem natBit_mod {v j : Nat} (hj : j < 256) : natBit (v % 2 ^ 256) j = natBit v j := by
  simp only [natBit_eq_testBit, Nat.testBit_mod_two_pow, hj, decide_true, Bool.true_and]

theorem natBit_div (v j : Nat) : natBit (v / 2 ^ 256) j = natBit v (256 + j) := by
  rw [natBit_eq_testBit, natBit_eq_testBit, Nat.testBit_div_two_pow, Nat.add_comm]

/-! ### Burning -/

/-- Every fuse that is burned in f is burned in g, and the floor of g is no lower (R84, R96). -/
structure Fuses.BurnsTo (f g : Fuses) : Prop where
  words : ∀ k : Fin 7, (vget f.word1 k = true → vget g.word1 k = true) ∧ (vget f.word2 k = true → vget g.word2 k = true)
  opt : ∀ j : Nat, natBit f.opt j = true → natBit g.opt j = true
  slots : ∀ j : Nat, j < 256 → f.slot0 < 2 ^ 256 →
    (natBit f.slot0 j = true → natBit g.slot0 j = true) ∧ (natBit f.slot1 j = true → natBit g.slot1 j = true)
  huk : f.hukGone = true → g.hukGone = true
  floor : f.arb ≤ g.arb

theorem Fuses.BurnsTo.refl (f : Fuses) : f.BurnsTo f :=
  ⟨fun _ => ⟨id, id⟩, fun _ => id, fun _ _ _ => ⟨id, id⟩, id, Nat.le_refl _⟩

theorem Fuses.BurnsTo.of_eq {n m : NonVol} (h : m = n) : n.fuses.BurnsTo m.fuses := h ▸ .refl _

theorem vget_vset_true {n : Nat} {v : Vector Bool n} (i : Fin n) {k : Fin n} (h : vget v k = true) : vget (vset v i true) k = true := by
  by_cases hk : i = k
  · rw [hk, vget_vset_same]
  · rwa [vget_vset_ne _ _ _ _ hk]

theorem NonVol.burnWord_burns (n : NonVol) (k : Fin 7) (w : Fin 2) : n.fuses.BurnsTo (n.burnWord k w).fuses := by
  unfold NonVol.burnWord
  split
  · exact { Fuses.BurnsTo.refl n.fuses with words := fun _ => ⟨vget_vset_true k, id⟩ }
  · exact { Fuses.BurnsTo.refl n.fuses with words := fun _ => ⟨id, vget_vset_true k⟩ }

/-- What a state does to the material burns: erased key slots are all ones, and the unique key's end stays (R98, R101). -/
theorem Fuses.BurnsTo.lifeEffect {f : Fuses} {n : NonVol} (h : f.BurnsTo n.fuses) (k : Nat) : f.BurnsTo (n.lifeEffect k).fuses := by
  have hones : ∀ j : Nat, j < 256 → f.slot0 < 2 ^ 256 →
      (natBit f.slot0 j = true → natBit (2 ^ 256 - 1) j = true) ∧ (natBit f.slot1 j = true → natBit (2 ^ 256 - 1) j = true) :=
    fun j hj _ => ⟨fun _ => natBit_ones hj, fun _ => natBit_ones hj⟩
  unfold NonVol.lifeEffect
  split
  · exact ⟨h.words, h.opt, h.slots, h.huk, h.floor⟩
  · exact ⟨h.words, h.opt, hones, h.huk, h.floor⟩
  · exact ⟨h.words, h.opt, hones, fun _ => rfl, h.floor⟩
  · exact h

/-- A write of the hashes that returns no bit to 0 keeps the bits of both slots. -/
theorem Fuses.burnSlots {f : Fuses} {v : Nat} (h : (f.slot0 + f.slot1 * 2 ^ 256) &&& v = f.slot0 + f.slot1 * 2 ^ 256) :
    f.BurnsTo { f with slot0 := v % 2 ^ 256, slot1 := v / 2 ^ 256 } := by
  refine ⟨fun _ => ⟨id, id⟩, fun _ => id, fun j hj hlo => ⟨fun hbit => ?_, fun hbit => ?_⟩, id, Nat.le_refl _⟩
  · rw [natBit_mod hj]
    exact natBit_of_and_eq h ((natBit_pair hlo hj).1.trans hbit)
  · rw [natBit_div]
    exact natBit_of_and_eq h ((natBit_pair hlo hj).2.trans hbit)

/-! ### What each operation leaves of the nonvolatile contents -/

theorem Dev.flashOpen_nv (d : Dev) (mem : Mem) (c : FlashCmd) : (d.flashOpen mem c).1.nv = d.nv := rfl

theorem Dev.resetAll_nv (d : Dev) (mem : Mem) (cs : List RstCause) : (d.resetAll mem cs).1.nv = d.nv := by
  cases hflash : d.vol.start.flash with
  | none =>
    rw [Dev.resetAll_idle mem cs hflash]
    exact (d.resetRecorded_state cs).1
  | some c =>
    have hres : (d.resetAll mem cs).1 = (d.flashOpen mem c).1.resetRecorded cs := by
      simp only [Dev.resetAll, hflash]
      rfl
    rw [hres]
    exact ((d.flashOpen mem c).1.resetRecorded_state cs).1.trans (d.flashOpen_nv mem c)

theorem Dev.abort_nv (d : Dev) (i s code cause : Nat) : (d.abort i s code cause).nv = d.nv :=
  (Dev.outsideDict_eq (d.abort_outsideDict i s code cause)).1

theorem Dev.opFail_nv (d : Dev) (i code : Nat) : (d.opFail i code).nv = d.nv := (Dev.outsideDict_eq (d.opFail_outsideDict i code)).1

theorem Dev.opDone_nv (d : Dev) (i : Nat) : (d.opDone i).nv = d.nv := (Dev.outsideDict_eq (d.opDone_outsideDict i)).1

theorem Dev.opBegin_nv (d : Dev) (i sub : Nat) (args : List (Nat × Nat)) (stateOk rangeOk : Bool) :
    (d.opBegin i sub args stateOk rangeOk).1.nv = d.nv :=
  (Dev.outsideDict_eq (d.opBegin_outsideDict i sub args stateOk rangeOk)).1

/-- A power-on reset leaves a word that was being burned as it was, or burned (R97). -/
theorem exec_powerOnReset_nv {s t : State} (h : exec .powerOnReset s = .next t) :
    t.dev.nv = s.dev.nv ∨ ∃ k w, t.dev.nv = s.dev.nv.burnWord k w := by
  obtain rfl : _ = t := Host.Outcome.next.inj h
  dsimp only
  cases s.dev.vol.start.burn with
  | none => exact .inl rfl
  | some b =>
    dsimp only
    split
    · split
      · exact .inr ⟨_, 0, rfl⟩
      · exact .inr ⟨_, 1, rfl⟩
    · exact .inl rfl

/-- The end of a burn leaves the nonvolatile contents, or programs the word and, after the second one, does what the state does to the material. -/
theorem exec_fuseBurnComplete_nv {s t : State} {w : Fin 2} (h : exec (.fuseBurnComplete w) s = .next t) :
    t.dev.nv = s.dev.nv ∨ ∃ k : Fin 7, t.dev.nv = s.dev.nv.burnWord k w ∨ t.dev.nv = (s.dev.nv.burnWord k w).lifeEffect k := by
  cases hburn : s.dev.vol.start.burn with
  | none =>
    have hnone : exec (.fuseBurnComplete w) s = .next s := by
      show execFuseBurnComplete w s = _
      simp [execFuseBurnComplete, State.liftMem, hburn]
    exact .inl (congrArg (fun t : State => t.dev.nv) (Host.Outcome.next.inj (h.symm.trans hnone)))
  | some b =>
    obtain ⟨target, word⟩ := b
    by_cases hb : target < 7 ∧ word = w.val
    · obtain ⟨ht, rfl⟩ := hb
      refine .inr ⟨⟨target, ht⟩, ?_⟩
      obtain rfl | rfl : w = 0 ∨ w = 1 := by omega
      · have hex := exec_fuseBurnComplete_first (k := ⟨target, ht⟩) hburn
        refine .inl ((congrArg (fun t : State => t.dev.nv) (Host.Outcome.next.inj (h.symm.trans hex))).trans ?_)
        dsimp only
        split
        · rfl
        · exact Dev.resetAll_nv _ _ _
      · have hex := exec_fuseBurnComplete_second (k := ⟨target, ht⟩) hburn
        exact .inr ((congrArg (fun t : State => t.dev.nv) (Host.Outcome.next.inj (h.symm.trans hex))).trans (Dev.resetAll_nv _ _ _))
    · have hnone : exec (.fuseBurnComplete w) s = .next s := by
        show execFuseBurnComplete w s = _
        simp [execFuseBurnComplete, State.liftMem, hburn, hb]
      exact .inl (congrArg (fun t : State => t.dev.nv) (Host.Outcome.next.inj (h.symm.trans hnone)))

/-- A write of a boot option burns, whatever it is answered. -/
theorem Dev.bootOption_burns (d : Dev) (k v : Nat) : d.nv.fuses.BurnsTo (d.bootOption k v).nv.fuses := by
  have habort : ∀ code cause, d.nv.fuses.BurnsTo (d.abort 0x2010 k code cause).nv.fuses := fun code cause => .of_eq (d.abort_nv 0x2010 k code cause)
  unfold Dev.bootOption
  dsimp only
  split
  · exact habort _ _
  split
  · exact habort _ _
  split
  · exact habort _ _
  split
  · exact habort _ _
  split
  · split
    · exact habort _ _
    case isFalse h => exact Fuses.burnSlots (Decidable.not_not.mp h)
  · split
    · exact habort _ _
    · exact { Fuses.BurnsTo.refl d.nv.fuses with opt := fun _ => natBit_or_left _ }

theorem Dev.burnFloor_burns (d : Dev) (arb : Nat) (rev0 rev1 custOk : Bool) : d.nv.fuses.BurnsTo (d.burnFloor arb rev0 rev1 custOk).nv.fuses := by
  unfold Dev.burnFloor
  dsimp only
  split
  · exact .of_eq (d.opFail_nv _ _)
  · split
    · exact .of_eq (d.opFail_nv _ _)
    case isFalse h =>
      rw [Dev.opDone_nv]
      exact { Fuses.BurnsTo.refl d.nv.fuses with opt := fun _ => natBit_or_left _, floor := Nat.not_lt.mp h }

theorem Dev.transOutcome_nv (d : Dev) (dst : Nat) (n : Bool × Bool) (cust maker : Bool) : (d.transOutcome dst n cust maker).nv = d.nv := by
  obtain ⟨hfail, -⟩ := d.spendNonce.sigFailed_effect
  obtain ⟨-, -, -, -, -, hauth⟩ := d.spendNonce.authenticate_effect n.1 n.2
  unfold Dev.transOutcome
  split
  · exact hfail
  · split
    · exact (Dev.opDone_nv _ _).trans hauth
    · rfl

theorem Dev.transition_nv (d : Dev) (dst : Nat) : (d.transition dst).nv = d.nv := by
  cases hn : d.transAuth dst with
  | none => exact (congrArg Dev.nv (Dev.transition_none hn)).trans (Dev.opFail_nv _ _ _)
  | some n =>
    obtain ⟨cust, maker, htrans, -⟩ := Dev.transition_some hn
    exact (congrArg Dev.nv htrans).trans (d.transOutcome_nv dst n cust maker)

theorem exec_arbRaise_burns {s t : State} {arb : Fin 64} {r0 r1 c : Bool} (h : exec (.arbRaise arb r0 r1 c) s = .next t) :
    s.dev.nv.fuses.BurnsTo t.dev.nv.fuses := by
  obtain rfl : _ = t := Host.Outcome.next.inj h
  have hbegin := s.dev.opBegin_nv 0x7012 3 [(1, arb.val + b2n r0 * 64 + b2n r1 * 128)] (decide (s.dev.get DE.STAT_OPSTATE ≠ 6)) true
  dsimp only
  split
  · exact .of_eq (s.dev.abort_nv _ _ _ _)
  · split
    · exact congrArg NonVol.fuses hbegin ▸ Dev.burnFloor_burns _ _ _ _ _
    · exact .of_eq hbegin

theorem exec_lcTransitionStart_nv {s t : State} {g : BitVec 8} (h : exec (.lcTransitionStart g) s = .next t) : t.dev.nv = s.dev.nv := by
  obtain rfl : _ = t := Host.Outcome.next.inj h
  have hbegin := s.dev.opBegin_nv 0x7010 5 [(2, g.toNat)] s.dev.transState true
  dsimp only
  split
  · exact s.dev.abort_nv _ _ _ _
  · split
    · refine (Dev.modStart_nv _ _).trans ?_
      split
      · exact s.dev.opFail_nv _ _
      · exact s.dev.abort_nv _ _ _ _
    · split
      · exact (Dev.transition_nv _ _).trans hbegin
      · split
        · exact hbegin
        · exact (Dev.modStart_nv _ _).trans hbegin

end Sys2Proof.Machine

open Sys2Proof Sys2Proof.Machine

/-- Settles O16: each of the commands burns (`Fuses.BurnsTo`), because it programs words (`NonVol.burnWord`), erases material to ones, or takes a value
that was checked to return no fuse. -/
theorem fusesOnlyBurn : Obligations.FusesOnlyBurn := by
  intro s t i hi hex
  have hburns : s.dev.nv.fuses.BurnsTo t.dev.nv.fuses := by
    obtain rfl | ⟨w, rfl⟩ | ⟨sub, v, rfl⟩ | ⟨a, r0, r1, c, rfl⟩ | ⟨g, rfl⟩ := hi
    · obtain hnv | ⟨k, w, hnv⟩ := exec_powerOnReset_nv hex
      · exact .of_eq hnv
      · exact hnv ▸ s.dev.nv.burnWord_burns k w
    · obtain hnv | ⟨k, hnv | hnv⟩ := exec_fuseBurnComplete_nv hex
      · exact .of_eq hnv
      · exact hnv ▸ s.dev.nv.burnWord_burns k w
      · exact hnv ▸ (s.dev.nv.burnWord_burns k w).lifeEffect k
    · obtain rfl : _ = t := Host.Outcome.next.inj hex
      exact s.dev.bootOption_burns sub.toNat v.toNat
    · exact exec_arbRaise_burns hex
    · exact .of_eq (exec_lcTransitionStart_nv hex)
  exact ⟨hburns.words, hburns.opt, hburns.slots, hburns.huk, hburns.floor⟩

end

section
/-! PROOF. Boot options in LOCKOUT (O15), and the CAN-ports event of a wake from shelf (O12): the states in which the statements fail. -/

namespace Sys2Proof.Machine

/-! ### Boot options in LOCKOUT -/

/-- In PROVISION a boot option is not burned while the operating state is LOCKOUT: the write is rejected with 0x0622 (R441). -/
theorem Dev.bootOption_lockout {d : Dev} {k : Nat} (v : Nat) (hk : 1 ≤ k) (hk' : k ≤ 6) (hlc : d.get LC.LCSTATE_STATE = 2)
    (hop : d.get DE.STAT_OPSTATE = 6) : d.bootOption k v = d.abort 0x2010 k 0x0622 0 := by
  have hrange : ¬ 6 < k := by omega
  have hsub : k ≠ 0 := by omega
  simp [Dev.bootOption, hrange, hlc, hsub, hop]

theorem exec_bootOptionWrite (s : State) (sub : BitVec 8) (v : BitVec 512) :
    exec (.bootOptionWrite sub v) s = .next { s with dev := s.dev.bootOption sub.toNat v.toNat } := rfl

/-- What a refused request leaves in the answer is its abort code (R431). -/
@[simp] theorem Dev.abort_code (d : Dev) (i s code cause : Nat) : (d.abort i s code cause).resp.code = code :=
  Dev.when_keep (fun c => c.resp.code) _ _ _ (by simp)

/-- A module in PROVISION whose start has stopped in LOCKOUT (R80), otherwise as after reset. -/
def provisionLockout : State :=
  { State.reset with dev := (State.reset.dev.set LC.LCSTATE_STATE 2).set DE.STAT_OPSTATE 6 }

/-! ### The CAN-ports event in shelf -/

/-- What the Pier keeps of a wake from shelf for whose end another event waits (R462). -/
def PierState.wakeWithLater : PierState := { PierState.reset with shelfWake := true, laterPend := 1 }

/-- Such a wake at its dictionary restore, while every domain is off still. No start reaches this state, since shelf holds the internal reset. -/
def restoredInShelf : State :=
  { State.reset with dev := { (State.reset.dev.each [1, 2, 3, 4, 5, 6, 7, 8] fun d p => d.setSt p 2).modStart fun x => { x with phase := .restored } with
      pier := PierState.wakeWithLater } }

/-- The first wake ends with the CAN-ports event; the second begins at once, and in shelf it is a wake from shelf again (`Dev.secondWake`). -/
theorem restoredInShelf_canPortsEvent {t : State} (h : exec .canPortsEvent restoredInShelf = .next t) : t.dev.pier.shelfWake = true := by
  obtain rfl : _ = t := Host.Outcome.next.inj h
  decide +kernel

end Sys2Proof.Machine

open Sys2Proof Sys2Proof.Machine

/-- Refutes O15: in PROVISION the write of a boot option that returns no fuse bit is not burned and answered while the operating state is LOCKOUT, but
rejected with 0x0622 (`Dev.bootOption_lockout`). -/
theorem not_bootOptionFuses : ¬ Obligations.BootOptionFuses := by
  rintro ⟨hopt, -⟩
  obtain ⟨hlc, hop⟩ : provisionLockout.dev.get LC.LCSTATE_STATE = 2 ∧ provisionLockout.dev.get DE.STAT_OPSTATE = 6 := by decide
  obtain ⟨hburn, -⟩ := hopt provisionLockout 1 0#512 (by decide) (by decide) hlc (by rw [BitVec.toNat_zero]; exact Nat.two_pow_pos _)
  replace hburn := hburn (by rw [BitVec.toNat_zero]; decide)
  have hreject := exec_bootOptionWrite provisionLockout 1 0#512
  rw [Dev.bootOption_lockout _ (by decide) (by decide) hlc hop] at hreject
  have hcode : (0 : Nat) = 0x0622 :=
    (congrArg (fun t : State => t.dev.resp.code) (Host.Outcome.next.inj (hburn.symm.trans hreject))).trans (Dev.abort_code _ _ _ _ _)
  exact absurd hcode (by decide)

/-- Refutes O12 in its clause of the CAN-ports event: after it a wake from shelf need not be over. Where another event waits for a second wake, that wake begins with
the end of the first, and where the fabric is off it is one from shelf again (`restoredInShelf`, which the statement does not rule out). -/
theorem not_startSequence : ¬ Obligations.StartSequence := by
  rintro ⟨-, -, hports, -⟩
  obtain ⟨t, hex, -, -, -, hwake, -⟩ := (hports restoredInShelf).1 rfl
  obtain ⟨-, hover⟩ := hwake rfl
  exact absurd (restoredInShelf_canPortsEvent hex) (by simp [hover])

end

section
/-! PROOF. Roles, battery limits, test signals and interleave (O26): the state that an engine enters, and what each of the commands does. -/

namespace Sys2Proof.Machine

/-! ### The state that an engine enters

`Dev.engineTo` sets the state first; the proofs here show that nothing it does after that sets a state of an engine. -/

/-- The fields other than its state that an engine's change of state may set. -/
def stateFollowFlds : List Fld :=
  ([0, 1] : List Bridge).flatMap (fun x : Bridge => [CE.TSTCFG_TSTATE x, MOD.CTL_RUN x, MOD.OMASK_OMASK x, MOD.CTL_SRC x, MOD.CTL_OUTEN x]) ++
  [CE.LIMPST_ACTA, CE.LIMPST_ACTB, FCOL.REACT_STOPA, FCOL.REACT_STOPB, GL.DSCSTAT_ST, DE.STAT_OPSTATE] ++ driveFlds

theorem state_key_ne_follow (b : Bridge) : ∀ g ∈ stateFollowFlds, (CE.BSTAT_ST b).key ≠ g.key := by
  revert b
  decide +kernel

theorem mem_stateFollowFlds_of_bridge (x : Bridge) : ∀ f ∈ [CE.TSTCFG_TSTATE x, MOD.CTL_RUN x, MOD.OMASK_OMASK x, MOD.CTL_SRC x, MOD.CTL_OUTEN x],
    f ∈ stateFollowFlds := by
  revert x
  decide +kernel

/-- What sets fields of `stateFollowFlds` alone keeps the state of each engine. -/
theorem Dev.get_state_of_sameBut {d e : Dev} {l : List Fld} (h : d.sameBut e l) (hl : l ⊆ stateFollowFlds) (b : Bridge) :
    e.get (CE.BSTAT_ST b) = d.get (CE.BSTAT_ST b) :=
  h _ fun g hg => state_key_ne_follow b g (hl hg)

theorem Dev.set_state (d : Dev) {f : Fld} (hf : f ∈ stateFollowFlds) (v : Nat) (b : Bridge) :
    (d.set f v).get (CE.BSTAT_ST b) = d.get (CE.BSTAT_ST b) :=
  d.get_set_ne f _ v (state_key_ne_follow b f hf)

@[simp] theorem Dev.drive_state (d : Dev) (b : Bridge) : d.drive.get (CE.BSTAT_ST b) = d.get (CE.BSTAT_ST b) :=
  Dev.get_state_of_sameBut d.drive_sameBut (List.subset_append_right _ _) b

@[simp] theorem Dev.updateRun_state (d : Dev) (x b : Bridge) : (d.updateRun x).get (CE.BSTAT_ST b) = d.get (CE.BSTAT_ST b) :=
  Dev.get_state_of_sameBut (d.updateRun_sameBut x)
    (List.cons_subset.mpr ⟨mem_stateFollowFlds_of_bridge x _ (by simp), List.nil_subset _⟩) b

theorem Dev.leaveService_state (d : Dev) (b : Bridge) : d.leaveService.get (CE.BSTAT_ST b) = d.get (CE.BSTAT_ST b) := by
  rw [Dev.leaveService, Dev.drive_state]
  refine Dev.each_keep (Dev.get · (CE.BSTAT_ST b)) _ _ (fun c x _ => ?_) d
  have hmem := mem_stateFollowFlds_of_bridge x
  rw [Dev.updateRun_state, Dev.set_state _ (hmem _ (by simp)), Dev.set_state _ (hmem _ (by simp)), Dev.set_state _ (hmem _ (by simp))]

theorem Dev.opTo_state (d : Dev) (st : Nat) (b : Bridge) : (d.opTo st).get (CE.BSTAT_ST b) = d.get (CE.BSTAT_ST b) := by
  unfold Dev.opTo
  split
  · rfl
  · refine (Dev.when_keep (Dev.get · (CE.BSTAT_ST b)) _ _ _ (Dev.leaveService_state _ b)).trans ?_
    exact (Dev.edge_get _ _ _).trans (Dev.set_state _ (by simp [stateFollowFlds]) _ b)

@[simp] theorem Dev.readyEnd_state (d : Dev) (b : Bridge) : d.readyEnd.get (CE.BSTAT_ST b) = d.get (CE.BSTAT_ST b) := by
  unfold Dev.readyEnd
  split
  · exact d.opTo_state 2 b
  · rfl

theorem Dev.dscTo_state (d : Dev) (st : Nat) (b : Bridge) : (d.dscTo st).get (CE.BSTAT_ST b) = d.get (CE.BSTAT_ST b) := by
  have hst : (d.set GL.DSCSTAT_ST st).get (CE.BSTAT_ST b) = d.get (CE.BSTAT_ST b) := d.set_state (by simp [stateFollowFlds]) st b
  exact (Dev.when_keep (Dev.get · (CE.BSTAT_ST b)) _ _ _ (by simp)).trans hst

@[simp] theorem Dev.dscFollow_state (d : Dev) (b : Bridge) : d.dscFollow.get (CE.BSTAT_ST b) = d.get (CE.BSTAT_ST b) := by
  unfold Dev.dscFollow
  split
  · exact (Dev.dscTo_state _ _ b).trans (Dev.modGl_get _ _ _)
  · rfl

@[simp] theorem Dev.abortTest_state (d : Dev) (x b : Bridge) : (d.abortTest x).get (CE.BSTAT_ST b) = d.get (CE.BSTAT_ST b) :=
  Dev.when_keep (Dev.get · (CE.BSTAT_ST b)) _ _ _
    ((Dev.edge_get _ _ _).trans (Dev.set_state _ (mem_stateFollowFlds_of_bridge x _ (by simp)) _ b))

@[simp] theorem Dev.clearAct_state (d : Dev) (x b : Bridge) : (d.clearAct x).get (CE.BSTAT_ST b) = d.get (CE.BSTAT_ST b) :=
  Dev.set_state _ (by split <;> simp [stateFollowFlds]) _ b

/-- An engine sent to a state is in that state afterwards (R168), whatever follows from it. -/
theorem Dev.get_engineTo (d : Dev) (b : Bridge) {st : Nat} (hst : st < 8) : (d.engineTo b st).get (CE.BSTAT_ST b) = st := by
  unfold Dev.engineTo
  split
  case isTrue h => exact of_decide_eq_true h
  case isFalse =>
    simp only [Dev.readyEnd_state, Dev.drive_state, Dev.dscFollow_state, Dev.updateRun_state]
    rw [Dev.set_state _ (by split <;> simp [stateFollowFlds])]
    refine (Dev.when_keep (Dev.get · (CE.BSTAT_ST b)) _ _ _ (Dev.modEng_get _ _ _ _)).trans ?_
    refine (Dev.when_keep (Dev.get · (CE.BSTAT_ST b)) _ _ _ (by simp)).trans ?_
    rw [Dev.edge_get, Dev.get_set_same]
    exact Nat.mod_eq_of_lt hst

/-! ### Roles (R168) -/

theorem Dev.roleWrite_taken {d : Dev} {b : Bridge} (v : Nat) (h : d.get (CE.BSTAT_ST b) = 0 ∨ d.get (CE.BSTAT_ST b) = 1) :
    d.roleWrite b v = d.set (CE.BCFG_ROLE b) v := by
  obtain h | h := h <;> simp [Dev.roleWrite, Dev.engIs, h]

theorem Dev.roleWrite_rejected {d : Dev} {b : Bridge} (v : Nat) (h0 : d.get (CE.BSTAT_ST b) ≠ 0) (h1 : d.get (CE.BSTAT_ST b) ≠ 1) :
    d.roleWrite b v = d.set (CE.BSTAT_ROLEREJ b) 1 := by
  simp [Dev.roleWrite, Dev.engIs, h0, h1]

theorem exec_roleWrite {s : State} {m : Master} {b : Bridge} (v : BitVec 3) (hm : s.dev.accessAllowed m (0x40300100 + 0x800 * b) true = true) :
    Completes (.roleWrite m b v) s ((s.dev.roleWrite b v.toNat).busOk 0) := by
  show execRoleWrite m b v s = _
  simp [execRoleWrite, State.lift, hm]

theorem exec_roleWrite_forbidden {s : State} {m : Master} {b : Bridge} (v : BitVec 3)
    (hm : s.dev.accessAllowed m (0x40300100 + 0x800 * b) true = false) :
    Completes (.roleWrite m b v) s (s.dev.busError m (0x40300100 + 0x800 * b) true) := by
  show execRoleWrite m b v s = _
  simp [execRoleWrite, State.lift, hm]

/-- A bridge in OFF with a role goes to IDLE at its tick. -/
theorem Dev.tickState_off {d : Dev} {b : Bridge} (hst : d.get (CE.BSTAT_ST b) = 0) (hrole : d.role b ≠ 0) : d.tickState b = d.engineTo b 1 := by
  simp [Dev.tickState, Dev.engIs, hst, hrole]

/-- A bridge in IDLE without a role goes to OFF at its tick. -/
theorem Dev.tickState_roleless {d : Dev} {b : Bridge} (hst : d.get (CE.BSTAT_ST b) = 1) (hrole : d.role b = 0) : d.tickState b = d.engineTo b 0 := by
  simp [Dev.tickState, Dev.engIs, hst, hrole]

/-! ### Battery limits (R180) -/

theorem Dev.setBatteryLimits_sameBut (d : Dev) (b : Bridge) (dis chg : Nat) :
    d.sameBut (d.setBatteryLimits b dis chg) [CE.LPARP_LPARP b 4, CE.LPARN_LPARN b 4] :=
  Dev.sameBut.set (Dev.sameBut.set (.of_regs rfl _) (by simp) _) (by simp) _

theorem exec_batteryLimitTimeout_disabled {s : State} {b : Bridge} (h : s.dev.obj (0x3002 + 0x10 * b) 3 200000 = 0) :
    Completes (.batteryLimitTimeout b) s s.dev := by
  show execBatteryLimitTimeout b s = _
  simp [execBatteryLimitTimeout, State.lift, h]

/-- The limits at a timeout: the fallback of the object dictionary, both ways, and the flag. -/
theorem exec_batteryLimitTimeout {s : State} {b : Bridge} (h : s.dev.obj (0x3002 + 0x10 * b) 3 200000 ≠ 0) :
    Completes (.batteryLimitTimeout b) s
      ((s.dev.setBatteryLimits b (s.dev.obj (0x3002 + 0x10 * b) 4 0) (s.dev.obj (0x3002 + 0x10 * b) 4 0)).set (CE.BSTAT_BMS_STALE b) 1) := by
  show execBatteryLimitTimeout b s = _
  simp [execBatteryLimitTimeout, State.lift, h]

/-! ### Test signals (R193) -/

/-- A test start by the master whose access counts: the dictionary for the object, else the one that writes. -/
theorem exec_testStart {s : State} {m : Master} {obj : Bool} {b : Bridge}
    (hm : s.dev.accessAllowed (if obj then .dict else m) (0x40300500 + 0x800 * b) true = true) :
    Completes (.testStart m obj b) s (s.dev.testStart b obj) := by
  show execTestStart m obj b s = _
  simp [execTestStart, State.lift, hm]

theorem Dev.testStart_accepted {d : Dev} {b : Bridge} (h : d.testRefusal b = 0) :
    d.testStart b false = (d.modEng b fun e => { e with test := { e.test with start := true } }).busOk 0 ∧
    d.testStart b true = (d.modEng b fun e => { e with test := { e.test with start := true } }).answer 0 0 := by
  simp [Dev.testStart, h]

theorem Dev.testStart_refused {d : Dev} {b : Bridge} (h : d.testRefusal b ≠ 0) :
    d.testStart b false = d.busOk 0 ∧ d.testStart b true = d.abort (0x3006 + 0x10 * b) 1 (d.testRefusal b) 2 := by
  simp [Dev.testStart, h]

theorem Dev.testRefusal_running {d : Dev} {b : Bridge} (h : d.get (CE.TSTCFG_TSTATE b) = 1) : d.testRefusal b = 0x0640 := by
  simp [Dev.testRefusal, h]

/-- Where no test runs or waits, a start needs an ACTIVE bridge and then a summing point that exists. -/
theorem Dev.testRefusal_idle {d : Dev} {b : Bridge} (hrun : d.get (CE.TSTCFG_TSTATE b) ≠ 1) (hstart : (d.engS b).test.start = false) :
    d.testRefusal b = if d.active b = false then 0x0622 else if d.testPointOk b then 0 else 0x0611 := by
  simp [Dev.testRefusal, hrun, hstart]

theorem Dev.active_eq_false {d : Dev} {b : Bridge} : d.active b = false ↔ d.get (CE.BSTAT_ST b) ≠ 3 := by
  simp [Dev.active, Dev.engIs]

theorem exec_testDone {s : State} {b : Bridge} (hrun : s.dev.get (CE.TSTCFG_TSTATE b) = 1)
    (hlen : (s.dev.snapOf b).tstLen ≤ (s.dev.engS b).test.tick) :
    Completes (.testDone b) s
      (((s.dev.set (CE.TSTCFG_TSTATE b) 2).edge (132 + 16 * b)).modEng b fun e => { e with test := { e.test with value := 0 } }) := by
  show execTestDone b s = _
  simp [execTestDone, State.lift, hrun, hlen]

theorem exec_testDone_none {s : State} {b : Bridge}
    (h : s.dev.get (CE.TSTCFG_TSTATE b) ≠ 1 ∨ (s.dev.engS b).test.tick < (s.dev.snapOf b).tstLen) : Completes (.testDone b) s s.dev := by
  have hno : ¬(s.dev.get (CE.TSTCFG_TSTATE b) = 1 ∧ (s.dev.snapOf b).tstLen ≤ (s.dev.engS b).test.tick) := by omega
  show execTestDone b s = _
  simp only [execTestDone, State.lift, if_neg hno]

/-! ### Interleave (R188) -/

theorem exec_interleaveLoss {s : State} {b : Bridge} (h : 64 ≤ vget (s.dev.engS b).ilvN 1 ∨ 64 ≤ vget (s.dev.engS b).ilvN 2) :
    Completes (.interleaveLoss b) s (s.dev.set (CE.BANDEVT_ILV b) 1) := by
  show execInterleaveLoss b s = _
  simp only [execInterleaveLoss, State.lift, if_pos h]

theorem exec_interleaveLoss_none {s : State} {b : Bridge} (h1 : vget (s.dev.engS b).ilvN 1 < 64) (h2 : vget (s.dev.engS b).ilvN 2 < 64) :
    Completes (.interleaveLoss b) s s.dev := by
  have hno : ¬(64 ≤ vget (s.dev.engS b).ilvN 1 ∨ 64 ≤ vget (s.dev.engS b).ilvN 2) := by omega
  show execInterleaveLoss b s = _
  simp only [execInterleaveLoss, State.lift, if_neg hno]

end Sys2Proof.Machine

open Sys2Proof Sys2Proof.Machine

/-- Settles O26: a role takes the engine to a state that nothing which follows from it changes (`Dev.get_engineTo`); each command has its equations. -/
theorem rolesAndTests : Obligations.RolesAndTests := by
  refine ⟨fun s m b v => ⟨fun hm => ?_, exec_roleWrite_forbidden v⟩, fun d b => ⟨fun hst hrole => ?_, fun hst hrole => ?_⟩,
    fun s b => ⟨exec_batteryLimitTimeout_disabled, fun h => ?_⟩, fun s m b => ⟨fun hm => ?_, fun hm => ?_⟩,
    fun d b => ⟨Dev.testRefusal_running, fun hrun hstart => ?_⟩, fun s b => ⟨exec_testDone, exec_testDone_none⟩,
    fun s b => ⟨exec_interleaveLoss, exec_interleaveLoss_none⟩⟩
  · have hex := exec_roleWrite v hm
    exact ⟨fun h0 h1 => Dev.roleWrite_rejected v.toNat h0 h1 ▸ hex, fun h => Dev.roleWrite_taken v.toNat h ▸ hex⟩
  · rw [Dev.tickState_off hst hrole]
    exact d.get_engineTo b (by decide)
  · rw [Dev.tickState_roleless hst hrole]
    exact d.get_engineTo b (by decide)
  · have hlim := (s.dev.setBatteryLimits_sameBut b (s.dev.obj (0x3002 + 0x10 * b) 4 0) (s.dev.obj (0x3002 + 0x10 * b) 4 0)).mono
      (l' := [CE.LPARP_LPARP b 4, CE.LPARN_LPARN b 4, CE.BSTAT_BMS_STALE b]) (by simp)
    exact ⟨_, exec_batteryLimitTimeout h, Dev.get_set_one _ rfl, rfl, hlim.set (by simp) 1⟩
  · have hex := exec_testStart (obj := false) hm
    exact ⟨fun h => (Dev.testStart_accepted h).1 ▸ hex, fun h => (Dev.testStart_refused h).1 ▸ hex⟩
  · have hex := exec_testStart (m := m) (obj := true) hm
    exact ⟨fun h => (Dev.testStart_accepted h).2 ▸ hex, fun h => (Dev.testStart_refused h).2 ▸ hex⟩
  · have hidle := Dev.testRefusal_idle hrun hstart
    refine ⟨fun hst => ?_, fun hst => ?_⟩
    · rw [hidle, if_pos (Dev.active_eq_false.mpr hst)]
    · rw [hidle, if_neg fun h => Dev.active_eq_false.mp h hst]
      exact ⟨fun hpoint => if_pos hpoint, fun hpoint => if_neg (by simp [hpoint])⟩

end

section
/-! PROOF. The refusals of a bridge start (O46): which flags the failed conditions set, and what the abort leaves. -/

namespace Sys2Proof.Machine

/-! ### The flags of failed conditions -/

/-- The flags of failed conditions reach the register file alone. -/
theorem Dev.flagChecks_vol (d : Dev) (l : List (Bool × Option Fld)) : (d.flagChecks l).vol = d.vol := by
  fun_induction Dev.flagChecks d l with
  | case1 => rfl
  | case2 d f t ih => exact ih.trans (d.set_vol f 1)
  | case3 d c t _ ih => exact ih

/-- The conditions of a list set no field but their flags. -/
theorem Dev.flagChecks_sameBut (d : Dev) {l : List (Bool × Option Fld)} {fs : List Fld} (hl : ∀ c ∈ l, ∀ f ∈ c.2, f ∈ fs) :
    d.sameBut (d.flagChecks l) fs := by
  fun_induction Dev.flagChecks d l with
  | case1 d => exact .refl d fs
  | case2 d f t ih =>
    obtain ⟨hf, ht⟩ := List.forall_mem_cons.mp hl
    exact ((Dev.sameBut.refl d fs).set (hf f rfl) 1).trans (ih ht)
  | case3 d c t _ ih => exact ih (List.forall_mem_cons.mp hl).2

/-- A flag that is set stays set, where no other flag of the list has its place. -/
theorem Dev.flagChecks_keeps_one (d : Dev) {l : List (Bool × Option Fld)} {f : Fld} (hwd : f.width = 1)
    (hl : ∀ c ∈ l, ∀ g ∈ c.2, g.key = f.key → g = f) (h : d.get f = 1) : (d.flagChecks l).get f = 1 := by
  fun_induction Dev.flagChecks d l with
  | case1 => exact h
  | case2 d g t ih =>
    obtain ⟨hg, ht⟩ := List.forall_mem_cons.mp hl
    refine ih ht ?_
    by_cases hk : g.key = f.key
    · obtain rfl := hg g rfl hk
      exact d.get_set_one hwd
    · exact (d.get_set_ne g f 1 (Ne.symm hk)).trans h
  | case3 d c t _ ih => exact ih (List.forall_mem_cons.mp hl).2 h

/-- The flag of a failed condition is set, where no other flag of the list has its place. -/
theorem Dev.get_flagChecks (d : Dev) {l : List (Bool × Option Fld)} {f : Fld} (hwd : f.width = 1)
    (hl : ∀ c ∈ l, ∀ g ∈ c.2, g.key = f.key → g = f) (hf : (false, some f) ∈ l) : (d.flagChecks l).get f = 1 := by
  fun_induction Dev.flagChecks d l with
  | case1 => cases hf
  | case2 d g t ih =>
    obtain ⟨-, ht⟩ := List.forall_mem_cons.mp hl
    obtain heq | hmem := List.mem_cons.mp hf
    · obtain rfl : f = g := by simpa using heq
      exact Dev.flagChecks_keeps_one _ hwd ht (d.get_set_one hwd)
    · exact ih ht hmem
  | case3 d c t hc ih =>
    obtain rfl | hmem := List.mem_cons.mp hf
    · exact absurd rfl (hc f)
    · exact ih (List.forall_mem_cons.mp hl).2 hmem

/-! ### A start that is refused -/

/-- The flags of the conditions of a bridge start. -/
def startFlags (b : Bridge) : List Fld :=
  [CE.BSTAT_MODEMIS b, CE.BSTAT_INVALID b, CE.SAFECTL_NOANGLE b, CE.PLLST_PLLNL b, CE.DCDCST_VBOUT b, GL.BSTAT_NOTARMED b,
    if b = 0 then FCOL.REACT_STREJA else FCOL.REACT_STREJB]

theorem Dev.startChecks_flags (d : Dev) (b : Bridge) : ∀ c ∈ d.startChecks b, ∀ f ∈ c.2, f ∈ startFlags b := by
  simp [Dev.startChecks, startFlags]

/-- The fields in which an abort shows. -/
def abortFlds : List Fld := [DE.LASTAB_INDEX, DE.LASTAB_SUB, DE.LASTCODE_CODE, DE.LASTCODE_DETAIL, DE.CNT_STREJ]

theorem Dev.abort_sameBut (d : Dev) (i s code cause : Nat) : d.sameBut (d.abort i s code cause) abortFlds := by
  have hlast : d.sameBut ((((({ d with resp := { code := code, detail := d.abortDetail code cause, data := 0, len := 0 } } : Dev).set
      DE.LASTAB_INDEX i).set DE.LASTAB_SUB s).set DE.LASTCODE_CODE code).set DE.LASTCODE_DETAIL (d.abortDetail code cause)) abortFlds :=
    ((((Dev.sameBut.of_regs rfl _).set (by simp [abortFlds]) i).set (by simp [abortFlds]) s).set (by simp [abortFlds]) code).set
      (by simp [abortFlds]) _
  exact hlast.when _ ((hlast.countSat (by simp [abortFlds])).trans (.of_regs (Dev.edge_regs _ _).symm _))

theorem Dev.abort_vol (d : Dev) (i s code cause : Nat) : (d.abort i s code cause).vol = d.vol :=
  Dev.when_keep Dev.vol _ _ _ (by simp)

theorem startFlags_key_ne (b : Bridge) : (∀ f ∈ startFlags b, f.width = 1 ∧ (∀ g ∈ startFlags b, g.key = f.key → g = f) ∧
      (∀ g ∈ abortFlds, f.key ≠ g.key) ∧ (CE.BSTAT_ST b).key ≠ f.key) ∧
    ∀ g ∈ abortFlds, (CE.BSTAT_ST b).key ≠ g.key := by
  revert b
  decide +kernel

/-- A start with a failed condition is refused with 0x0622 and the flags of all that fail (R169, R442). -/
theorem exec_bridgeStart_refused {s : State} {b : Bridge} {c : Bool × Option Fld} (hc : c ∈ s.dev.startChecks b) (hfail : c.1 = false) :
    Completes (.bridgeStart b) s ((s.dev.flagChecks (s.dev.startChecks b)).abort (startObj b) 1 0x0622 0) := by
  have hno : ¬ ((s.dev.startChecks b).all fun c => c.1) = true := fun h => by
    simpa [hfail] using List.all_eq_true.mp h c hc
  show execBridgeStart b s = _
  simp only [execBridgeStart, State.lift, if_neg hno]

/-- A failed condition with a flag: the start sets the flag, is refused with 0x0622 and starts nothing. -/
theorem bridgeStart_refused_with_flag {s : State} {b : Bridge} {f : Fld} (hc : (false, some f) ∈ s.dev.startChecks b) :
    Reaches (.bridgeStart b) s fun t =>
      t.dev.get f = 1 ∧ t.dev.resp.code = 0x0622 ∧ t.dev.get (CE.BSTAT_ST b) = s.dev.get (CE.BSTAT_ST b) ∧ t.dev.vol = s.dev.vol ∧ t.mem = s.mem := by
  have hflags := s.dev.startChecks_flags b
  obtain ⟨hkeys, hst⟩ := startFlags_key_ne b
  obtain ⟨hwd, huniq, habort, -⟩ := hkeys f (hflags _ hc f rfl)
  refine ⟨_, exec_bridgeStart_refused hc rfl, ?_, Dev.abort_code _ _ _ _ _, ?_, ?_, rfl⟩
  · rw [Dev.abort_sameBut _ _ _ _ _ f habort]
    exact s.dev.get_flagChecks hwd (fun c hc g hg => huniq g (hflags c hc g hg)) hc
  · rw [Dev.abort_sameBut _ _ _ _ _ _ hst]
    exact s.dev.flagChecks_sameBut hflags _ fun g hg => (hkeys g hg).2.2.2
  · rw [Dev.abort_vol, Dev.flagChecks_vol]

/-! ### The two conditions -/

/-- A control mode that does not agree with its modulator fails the first condition (R203), also of a DCDC bridge, which runs in band mode only (R248). -/
theorem Dev.modeMismatch_mem_startChecks {d : Dev} {b : Bridge} {ctrl mode : Nat} (hpair : (ctrl, mode) ∈ [(0, 2), (1, 1), (2, 3)])
    (hctrl : d.get (CE.BCFG_CTRL b) = ctrl) (h : d.get (MOD.CTL_SRC b) = 1 ∨ d.get (MOD.CTL_MODE b) ≠ mode) :
    (false, some (CE.BSTAT_MODEMIS b)) ∈ d.startChecks b := by
  have hfail : (!d.bit (MOD.CTL_SRC b) && decide (d.get (MOD.CTL_MODE b) = match d.ctrl b with | 0 => 2 | 1 => 1 | _ => 3) &&
      decide (d.role b ≠ 3 ∨ d.ctrlField b = 0)) = false := by
    obtain hsrc | hmode := h
    · simp [Dev.bit, hsrc]
    · simp only [List.mem_cons, Prod.mk.injEq, List.not_mem_nil, or_false] at hpair
      obtain ⟨rfl, rfl⟩ | ⟨rfl, rfl⟩ | ⟨rfl, rfl⟩ := hpair
      · simp [Dev.ctrl, Dev.ctrlField, hctrl, hmode]
      · by_cases hrole : d.role b = 3 <;> simp [Dev.ctrl, Dev.ctrlField, hctrl, hrole, hmode]
      · by_cases hrole : d.role b = 3 <;> simp [Dev.ctrl, Dev.ctrlField, hctrl, hrole, hmode]
  exact List.mem_cons.mpr (.inl (hfail ▸ rfl))

/-- A channel of the bridge that is not ARMED fails the condition of R266. -/
theorem Dev.notArmed_mem_startChecks {d : Dev} {b : Bridge} {n : Chan} (hn : chanBridge n = b) (h : d.get (GL.CHSTAT_ST n) ≠ 2) :
    (false, some (GL.BSTAT_NOTARMED b)) ∈ d.startChecks b := by
  have hmem : n ∈ bridgeChans b := List.mem_filter.mpr ⟨List.mem_finRange n, decide_eq_true hn⟩
  have hfail : (bridgeChans b).all d.armed = false :=
    List.all_eq_false.mpr ⟨n, hmem, by simp [Dev.armed, h]⟩
  simp [Dev.startChecks, hfail]

end Sys2Proof.Machine

open Sys2Proof Sys2Proof.Machine

/-- Settles O46: each of the two faults fails a condition of the start that has a flag, and such a start is refused (`bridgeStart_refused_with_flag`). -/
theorem bridgeStartRefusals : Obligations.BridgeStartRefusals :=
  ⟨fun _ _ _ _ hpair hctrl h => bridgeStart_refused_with_flag (Dev.modeMismatch_mem_startChecks hpair hctrl h),
    fun _ _ _ hn h => bridgeStart_refused_with_flag (Dev.notArmed_mem_startChecks hn h)⟩

end

section
/-! PROOF. Update groups (O30): what goes to pending with a commit, and the commands of the fabric. -/

namespace Sys2Proof.Machine

/-! ### A group taken from another -/

theorem takeRegs_allRegs_prd (g n : ModGroup) : (takeRegs g n allRegs).prd = n.prd := rfl

theorem takeRegs_allRegs_cmp (g n : ModGroup) : (takeRegs g n allRegs).cmp = n.cmp := by
  refine Vector.ext fun i hi => ?_
  have hrange : i + 1 ∈ List.range 8 := List.mem_range.mpr (by omega)
  have hall : i + 1 ∈ allRegs := hrange
  simp [takeRegs, hall, vget]

theorem mem_union_right (a : List Nat) {b : List Nat} {r : Nat} (h : r ∈ b) : r ∈ union a b := by
  by_cases ha : r ∈ a <;> simp [union, ha, h]

/-! ### Shadows go to pending -/

/-- Shadows stand in the pending copy, and wait (R211, R212), before a lost group and a space vector out of range are noted. -/
def Dev.pendingTaken (d : Dev) (x : Bridge) (rs : List Nat) : Dev :=
  (d.modMod x fun m =>
    { m with pend := takeRegs m.pend (d.shadow x) rs, waits := if rs.length = 8 then allRegs else union m.waits rs }).set (MOD.GUARD_PEND x) 1

theorem Dev.toPending_eq (d : Dev) (x : Bridge) (rs : List Nat) :
    d.toPending x rs = ((d.pendingTaken x rs).when (rs.length = 8 && d.bit (MOD.GUARD_PEND x)) fun d =>
      (d.set (MOD.GUARD_GRPLOST x) 1).countSat (MOD.GUARD_LOSTCNT x)).when (d.svSaturates x) fun d => d.set (MOD.STAT_SVSAT x) 1 := rfl

theorem Dev.pendingTaken_modS (d : Dev) (x : Bridge) (rs : List Nat) :
    (d.pendingTaken x rs).modS x = { d.modS x with
      pend := takeRegs (d.modS x).pend (d.shadow x) rs, waits := if rs.length = 8 then allRegs else union (d.modS x).waits rs } :=
  d.modMod_modS x fun m =>
    { m with pend := takeRegs m.pend (d.shadow x) rs, waits := if rs.length = 8 then allRegs else union m.waits rs }

/-- A lost group and a space vector out of range show in registers alone. -/
theorem Dev.toPending_vol (d : Dev) (x : Bridge) (rs : List Nat) : (d.toPending x rs).vol = (d.pendingTaken x rs).vol := by
  rw [Dev.toPending_eq, Dev.when_keep Dev.vol _ _ _ (Dev.set_vol _ _ _), Dev.when_keep Dev.vol _ _ _ (by simp)]

/-- What a modulator holds after shadows went to pending: the pending copy and what of it waits (R211, R212). -/
theorem Dev.toPending_modS (d : Dev) (x : Bridge) (rs : List Nat) :
    (d.toPending x rs).modS x = { d.modS x with
      pend := takeRegs (d.modS x).pend (d.shadow x) rs, waits := if rs.length = 8 then allRegs else union (d.modS x).waits rs } := by
  rw [Dev.modS, Dev.toPending_vol]
  exact d.pendingTaken_modS x rs

theorem Dev.toPending_waits (d : Dev) (x : Bridge) (rs : List Nat) :
    ((d.toPending x rs).modS x).waits = if rs.length = 8 then allRegs else union (d.modS x).waits rs := by
  rw [Dev.toPending_modS]

theorem Dev.toPending_pend (d : Dev) (x : Bridge) (rs : List Nat) :
    ((d.toPending x rs).modS x).pend = takeRegs (d.modS x).pend (d.shadow x) rs := by
  rw [Dev.toPending_modS]

theorem Dev.toPending_act (d : Dev) (x : Bridge) (rs : List Nat) : ((d.toPending x rs).modS x).act = (d.modS x).act := by
  rw [Dev.toPending_modS]

/-- The fields in which a lost group and a space vector out of range show. -/
def pendingNoteFlds (x : Bridge) : List Fld := [ MOD.GUARD_GRPLOST x, MOD.GUARD_LOSTCNT x, MOD.STAT_SVSAT x]

theorem Dev.toPending_sameBut_notes (d : Dev) (x : Bridge) (rs : List Nat) :
    (d.set (MOD.GUARD_PEND x) 1).sameBut (d.toPending x rs) (pendingNoteFlds x) := by
  have hpend : (d.set (MOD.GUARD_PEND x) 1).sameBut (d.pendingTaken x rs) (pendingNoteFlds x) := .of_regs rfl _
  have hlost := (hpend.set (f := MOD.GUARD_GRPLOST x) (by simp [pendingNoteFlds]) 1).countSat (f := MOD.GUARD_LOSTCNT x)
    (by simp [pendingNoteFlds])
  rw [Dev.toPending_eq]
  have hnoted := hpend.when (F := fun d => (d.set (MOD.GUARD_GRPLOST x) 1).countSat (MOD.GUARD_LOSTCNT x))
    (rs.length = 8 && d.bit (MOD.GUARD_PEND x)) hlost
  exact hnoted.when _ (hnoted.set (by simp [pendingNoteFlds]) 1)

theorem pendingNotes_key_ne (x : Bridge) : (∀ g ∈ pendingNoteFlds x, (MOD.GUARD_PEND x).key ≠ g.key) ∧
    ∀ r : Fin 8, (∀ g ∈ pendingNoteFlds x, (groupFld x r).key ≠ g.key) ∧ (groupFld x r).key ≠ (MOD.GUARD_PEND x).key := by
  revert x
  decide +kernel

/-- `PEND` is 1 once shadows went to pending (R211). -/
theorem Dev.get_toPending (d : Dev) (x : Bridge) (rs : List Nat) : (d.toPending x rs).get (MOD.GUARD_PEND x) = 1 :=
  (d.toPending_sameBut_notes x rs _ (pendingNotes_key_ne x).1).trans (d.get_set_one rfl)

/-- The shadows keep their values (R210). -/
theorem Dev.toPending_get_groupFld (d : Dev) (x : Bridge) (rs : List Nat) (r : Fin 8) :
    (d.toPending x rs).get (groupFld x r) = d.get (groupFld x r) := by
  obtain ⟨hnote, hpend⟩ := (pendingNotes_key_ne x).2 r
  exact (d.toPending_sameBut_notes x rs _ hnote).trans (d.get_set_ne _ _ _ hpend)

/-! ### The commands -/

/-- A commit that R202 forbids. -/
theorem exec_groupCommit_forbidden {s : State} {m : Master} {x : Bridge} (g : Bool)
    (h : s.dev.modWritable m x 0x0C = false ∨ s.dev.get (MOD.CTL_SRC x) ≠ 1) :
    Completes (.groupCommit m x g) s (s.dev.busError m (0x4040000C + 0x10000 * x) true) := by
  show execGroupCommit m x g s = _
  obtain h | h := h <;> simp [execGroupCommit, State.lift, Dev.bit, h]

theorem exec_groupCommit {s : State} {m : Master} {x : Bridge} (g : Bool) (hm : s.dev.modWritable m x 0x0C = true)
    (hsrc : s.dev.get (MOD.CTL_SRC x) = 1) (hgrp : s.dev.get (MOD.CTL_GRP x) = 1) :
    Completes (.groupCommit m x g) s ((s.dev.commitRegs x allRegs g).busOk 0) := by
  show execGroupCommit m x g s = _
  simp [execGroupCommit, State.lift, Dev.bit, hm, hsrc, hgrp]

/-- With `GRP` 0 a commit has no effect (R211). -/
theorem exec_groupCommit_ungrouped {s : State} {m : Master} {x : Bridge} (g : Bool) (hm : s.dev.modWritable m x 0x0C = true)
    (hsrc : s.dev.get (MOD.CTL_SRC x) = 1) (hgrp : s.dev.get (MOD.CTL_GRP x) ≠ 1) : Completes (.groupCommit m x g) s (s.dev.busOk 0) := by
  show execGroupCommit m x g s = _
  simp [execGroupCommit, State.lift, Dev.bit, hm, hsrc, hgrp]

/-- A write of a group register that R202 forbids. -/
theorem exec_groupRegisterWrite_forbidden {s : State} {m : Master} {x : Bridge} (r : Fin 8) (v : Word) (g : Bool)
    (h : s.dev.modWritable m x 8 = false ∨ s.dev.get (MOD.CTL_SRC x) ≠ 1) :
    Completes (.groupRegisterWrite m x r v g) s (s.dev.busError m (groupFld x r).addr true) := by
  show execGroupRegisterWrite m x r v g s = _
  obtain h | h := h <;> simp [execGroupRegisterWrite, State.lift, Dev.bit, h]

theorem exec_groupRegisterWrite {s : State} {m : Master} {x : Bridge} (r : Fin 8) (v : Word) (g : Bool) (hm : s.dev.modWritable m x 8 = true)
    (hsrc : s.dev.get (MOD.CTL_SRC x) = 1) : Completes (.groupRegisterWrite m x r v g) s ((s.dev.groupWrite x r v.toNat g).busOk 0) := by
  show execGroupRegisterWrite m x r v g s = _
  simp [execGroupRegisterWrite, State.lift, Dev.bit, hm, hsrc]

/-- What the shadow of group register r takes of a written word: bit 0 of `PRD` is ignored (Table 7-6). -/
def groupWord (r : Fin 8) (v : Nat) : Nat := if r = 0 then v % 16777216 / 2 * 2 else v

theorem Dev.groupWrite_grouped {d : Dev} {x : Bridge} (r : Fin 8) (v : Nat) (g : Bool) (hgrp : d.get (MOD.CTL_GRP x) = 1) :
    d.groupWrite x r v g = d.set (groupFld x r) (groupWord r v) := by
  simp [Dev.groupWrite, Dev.bit, hgrp, groupWord]

/-- With `GRP` 0 a register written outside the guard goes to pending by itself (R212). -/
theorem Dev.groupWrite_ungrouped {d : Dev} {x : Bridge} (r : Fin 8) (v : Nat) (hgrp : d.get (MOD.CTL_GRP x) ≠ 1) :
    d.groupWrite x r v false = (d.set (groupFld x r) (groupWord r v)).toPending x [r.val] := by
  simp [Dev.groupWrite, Dev.bit, hgrp, groupWord, Dev.commitRegs]

end Sys2Proof.Machine

open Sys2Proof Sys2Proof.Machine

/-- Settles O30: the commands have their equations, and what goes to pending is read off `Dev.toPending_modS`; the shadows and `PEND` are other
fields than those in which a lost group shows. -/
theorem updateGroups : Obligations.UpdateGroups := by
  refine ⟨fun s m x g => exec_groupCommit_forbidden g, fun s m x hm hsrc => ⟨fun hgrp g => exec_groupCommit_ungrouped g hm hsrc hgrp,
    fun hgrp => exec_groupCommit true hm hsrc hgrp, fun hgrp => ⟨_, exec_groupCommit false hm hsrc hgrp, ?_⟩⟩,
    fun s m x r v hm hsrc => ⟨fun hgrp g => ?_, fun hgrp => ?_⟩, fun s m x r v g => exec_groupRegisterWrite_forbidden r v g⟩
  · have hpend := s.dev.toPending_pend x allRegs
    exact ⟨s.dev.get_toPending x allRegs, s.dev.toPending_waits x allRegs, (congrArg ModGroup.prd hpend).trans (takeRegs_allRegs_prd _ _),
      (congrArg ModGroup.cmp hpend).trans (takeRegs_allRegs_cmp _ _), s.dev.toPending_act x allRegs, rfl⟩
  · exact s.dev.groupWrite_grouped r v.toNat g hgrp ▸ exec_groupRegisterWrite r v g hm hsrc
  · have hex := exec_groupRegisterWrite r v false hm hsrc
    rw [Dev.groupWrite_ungrouped r v.toNat hgrp] at hex
    refine ⟨_, hex, ?_, Dev.get_toPending _ x _, ?_, Dev.toPending_act _ x _, rfl⟩
    · exact (Dev.toPending_get_groupFld _ x _ r).trans (Dev.get_set_same _ _ _)
    · exact (Dev.toPending_waits _ x _).symm ▸ mem_union_right _ (List.mem_singleton_self _)

end

section
/-! PROOF. The carrier (O29): what the output stages, the events and a reload leave of the counter, the zero and period points, and the compare
points. -/

namespace Sys2Proof.Machine

/-! ### The course of the counter -/

/-- The course of a modulator's counter: whether it runs, the cycle of its last zero or period point, and the half period in force (R205). -/
def ModState.course (m : ModState) : Bool × Nat × Nat := (m.running, m.base, m.half)

theorem ModState.course_eq {m n : ModState} (h : m.course = n.course) : m.running = n.running ∧ m.base = n.base ∧ m.half = n.half := by
  simpa [ModState.course] using h

/-- What P reads of modulator x is in device e what it is in device d: the frame of a modulator's state, as `Dev.sameBut` is that of the registers. -/
def Dev.keepsMod {β : Type} (P : ModState → β) (x : Bridge) (d e : Dev) : Prop := P (e.modS x) = P (d.modS x)

section
variable {β : Type} {P : ModState → β} {x : Bridge} {d e c : Dev}

theorem Dev.keepsMod.refl (P : ModState → β) (x : Bridge) (d : Dev) : d.keepsMod P x d := rfl

theorem Dev.keepsMod.trans (h : Dev.keepsMod P x d e) (h' : Dev.keepsMod P x e c) : Dev.keepsMod P x d c := Eq.trans h' h

/-- Where the modulators are the same, all that is read of them is kept. -/
theorem Dev.keepsMod.of_mod (h : Dev.keepsMod P x d e) (hmod : c.vol.mod = e.vol.mod) : Dev.keepsMod P x d c :=
  h.trans (by simp [Dev.keepsMod, Dev.modS, hmod])

theorem Dev.keepsMod.of_vol (h : Dev.keepsMod P x d e) (hvol : c.vol = e.vol) : Dev.keepsMod P x d c := h.of_mod (congrArg Vol.mod hvol)

theorem Dev.keepsMod.modMod (h : Dev.keepsMod P x d e) (y : Bridge) {f : ModState → ModState} (hf : ∀ m, P (f m) = P m) :
    Dev.keepsMod P x d (e.modMod y f) := by
  refine h.trans ?_
  unfold Dev.keepsMod
  by_cases hy : y = x
  · subst hy
    rw [Dev.modMod_modS, hf]
  · simp [Dev.modS, Dev.modMod, vget_vset_ne _ _ _ _ hy]

theorem Dev.keepsMod.when (h : Dev.keepsMod P x d e) (b : Bool) {F : Dev → Dev} (hF : Dev.keepsMod P x d (F e)) :
    Dev.keepsMod P x d (e.when b F) := by
  cases b
  · exact h
  · exact hF

theorem Dev.keepsMod.each {α : Type} (h : Dev.keepsMod P x d e) (xs : List α) {F : Dev → α → Dev}
    (hF : ∀ c : Dev, ∀ y ∈ xs, Dev.keepsMod P x c (F c y)) : Dev.keepsMod P x d (e.each xs F) := by
  induction xs generalizing e with
  | nil => exact h
  | cons y t ih => exact ih (h.trans (hF e y List.mem_cons_self)) fun c z hz => hF c z (List.mem_cons_of_mem _ hz)

end

/-! ### What the output stages leave -/

theorem Dev.judgeConflict_course (d : Dev) (x y : Bridge) (p : Fin 3) : d.keepsMod ModState.course x (d.judgeConflict y p) := by
  have hmod := (Dev.keepsMod.refl ModState.course x d).modMod y (f := fun m => { m with conflict := vset m.conflict p (d.legBothOn y p) })
    fun _ => rfl
  exact hmod.when _ (hmod.of_mod (by simp))

theorem Dev.driveAt_course (d : Dev) (t : Nat) (x : Bridge) : d.keepsMod ModState.course x (d.driveAt t) := by
  have hjudged := (Dev.keepsMod.refl ModState.course x d).each [((0 : Bridge), (0 : Fin 3)), (0, 1), (0, 2), (1, 0), (1, 1), (1, 2)]
    fun c yp _ => c.judgeConflict_course x yp.1 yp.2
  unfold Dev.driveAt
  refine Dev.keepsMod.each (Dev.keepsMod.each (hjudged.of_mod (Dev.modGl_vol_mod _ _)) _ fun c n _ => ?_) _ fun c n _ => ?_
  · split
    · exact .refl _ x c
    · exact (Dev.keepsMod.refl _ x c).of_mod (c.launchOff_mod n _)
  · split
    · exact (Dev.keepsMod.refl _ x c).of_mod (c.launchOn_mod n _)
    · exact .refl _ x c

theorem Dev.movedAt_course (d : Dev) (t : Nat) (x : Bridge) : d.keepsMod ModState.course x (d.movedAt t) := by
  unfold Dev.movedAt
  exact ((Dev.keepsMod.refl _ x d).each _ fun c y _ => (Dev.keepsMod.refl _ x c).modMod y (by exact fun _ => rfl)).trans
    (Dev.driveAt_course _ t x)

theorem Dev.pwmRun_course (d : Dev) (n t : Nat) (x : Bridge) : d.keepsMod ModState.course x (d.pwmRun n t) := by
  induction n generalizing d with
  | zero => exact .refl _ x d
  | succ n ih =>
    unfold Dev.pwmRun
    split
    · exact (d.movedAt_course _ x).trans (ih _)
    · exact .refl _ x d

theorem Dev.updateLegs_course (d : Dev) (y : Bridge) (t : Nat) (x : Bridge) : d.keepsMod ModState.course x (d.updateLegs y t) :=
  ((Dev.keepsMod.refl _ x d).modMod y (by exact fun _ => rfl)).trans (Dev.driveAt_course _ t x)

/-! ### Events and tick requests -/

theorem Dev.modEvent_course (d : Dev) (y : Bridge) (k : Fin 7) (x : Bridge) : d.keepsMod ModState.course x (d.modEvent y k) := by
  have hocc := (Dev.keepsMod.refl ModState.course x d).of_vol (Dev.countWrap_vol _ (MOD.EV_OCC y k))
  unfold Dev.modEvent
  dsimp only
  split
  · have hpsc := hocc.modMod y (f := fun m => { m with
      psc := vset m.psc k (d.get (MOD.EV_PSC y k)), trig := m.trig || d.bit (MOD.EV_TE y k) }) fun _ => rfl
    have hevf := fun f v => hpsc.of_vol (Dev.set_vol _ f v)
    exact Dev.keepsMod.when (hevf _ _) _ ((hevf _ _).of_vol (Dev.edge_vol _ _))
  · exact hocc.modMod y fun _ => rfl

/-- Beside its count of occurrences an event sets `EVSTAT` alone (R223). -/
theorem Dev.modEvent_sameBut (d : Dev) (x : Bridge) (k : Fin 7) :
    (d.countWrap (MOD.EV_OCC x k)).sameBut (d.modEvent x k) [ MOD.EVSTAT_EVF x] := by
  unfold Dev.modEvent
  dsimp only
  split
  · have hset := fun v => (Dev.modMod_sameBut (d.countWrap (MOD.EV_OCC x k)) x (fun m => { m with
      psc := vset m.psc k (d.get (MOD.EV_PSC x k)), trig := m.trig || d.bit (MOD.EV_TE x k) }) [ MOD.EVSTAT_EVF x]).set
      (List.mem_singleton_self _) v
    exact Dev.sameBut.when (hset _) _ ((hset _).trans (.of_regs (Dev.edge_regs _ _).symm _))
  · exact Dev.modMod_sameBut _ x _ _

theorem Dev.tickRequest_mod (d : Dev) : d.tickRequest.vol.mod = d.vol.mod := by
  unfold Dev.tickRequest
  split
  · rfl
  · split
    · split <;> rfl
    · rfl

theorem Dev.tickRequest_sameBut (d : Dev) : d.sameBut d.tickRequest [CE.TSTAT_DROP] := by
  unfold Dev.tickRequest
  split
  · exact .refl d _
  · split
    · split
      · exact (Dev.sameBut.refl d _).set (List.mem_singleton_self _) 1
      · exact .of_regs rfl _
    · exact .of_regs rfl _

/-! ### A reload -/

/-- What a reload keeps of a counter's course: whether it runs and from which cycle (R214). -/
def ModState.start (m : ModState) : Bool × Nat := (m.running, m.base)

theorem Dev.keepsMod.start_of_course {x : Bridge} {d e : Dev} (h : d.keepsMod ModState.course x e) : d.keepsMod ModState.start x e := by
  obtain ⟨hrun, hbase, -⟩ := ModState.course_eq h
  simp [Dev.keepsMod, ModState.start, hrun, hbase]

theorem Dev.windowRule_start (d : Dev) (x : Bridge) : d.keepsMod ModState.start x (d.windowRule x) := by
  have hmoved : ∀ v, d.keepsMod ModState.start x (d.modMod x fun m => { m with moved := v }) := fun _ =>
    (Dev.keepsMod.refl _ x d).modMod x fun _ => rfl
  unfold Dev.windowRule
  dsimp only
  split
  · exact hmoved _
  · split
    · exact (hmoved _).when _ ((hmoved _).of_vol (Dev.set_vol _ _ _))
    · exact (hmoved _).of_vol (Dev.set_vol _ _ _)

theorem Dev.toPending_start (d : Dev) (x : Bridge) (rs : List Nat) : d.keepsMod ModState.start x (d.toPending x rs) := by
  rw [Dev.keepsMod, Dev.toPending_modS]
  rfl

theorem Dev.reload_start (d : Dev) (x : Bridge) : d.keepsMod ModState.start x (d.reload x) := by
  have hrule : ∀ f : ModState → ModState, (∀ m, (f m).start = m.start) →
      d.keepsMod ModState.start x (((d.modMod x f).set (MOD.GUARD_PEND x) 0).windowRule x) := fun f hf =>
    (((Dev.keepsMod.refl _ x d).modMod x hf).of_vol (Dev.set_vol _ _ _)).trans (Dev.windowRule_start _ x)
  unfold Dev.reload
  dsimp only
  split
  · exact hrule _ fun _ => rfl
  · refine Dev.keepsMod.modMod ((hrule _ ?_).trans (Dev.toPending_start _ x _)) x ?_
    · exact fun _ => rfl
    · exact fun _ => rfl

/-- The fields in which a reload shows. -/
def reloadFlds (x : Bridge) : List Fld := [ MOD.GUARD_PEND x, MOD.STAT_WSHIFT x, MOD.STAT_WLIM x] ++ pendingNoteFlds x

theorem Dev.windowRule_sameBut (d : Dev) (x : Bridge) : d.sameBut (d.windowRule x) (reloadFlds x) := by
  unfold Dev.windowRule
  dsimp only
  split
  · exact d.modMod_sameBut x _ _
  · split
    · exact (d.modMod_sameBut x _ _).when _ ((d.modMod_sameBut x _ _).set (by simp [reloadFlds]) 1)
    · exact (d.modMod_sameBut x _ _).set (by simp [reloadFlds]) 1

theorem Dev.toPending_sameBut (d : Dev) (x : Bridge) (rs : List Nat) : d.sameBut (d.toPending x rs) (reloadFlds x) :=
  ((Dev.sameBut.refl d _).set (by simp [reloadFlds]) 1).trans ((d.toPending_sameBut_notes x rs).mono (List.subset_append_right _ _))

theorem Dev.reload_sameBut (d : Dev) (x : Bridge) : d.sameBut (d.reload x) (reloadFlds x) := by
  have hrule : ∀ f : ModState → ModState, d.sameBut (((d.modMod x f).set (MOD.GUARD_PEND x) 0).windowRule x) (reloadFlds x) := fun f =>
    ((d.modMod_sameBut x f _).set (by simp [reloadFlds]) 0).trans (Dev.windowRule_sameBut _ x)
  unfold Dev.reload
  dsimp only
  split
  · exact hrule _
  · exact ((hrule _).trans (Dev.toPending_sameBut _ x _)).trans (Dev.modMod_sameBut _ x _ _)

/-! ### Zero and period points -/

/-- The counter of modulator x at a zero or period point at PWMCLK cycle t, before the event. -/
def Dev.pointEntered (d : Dev) (x : Bridge) (t : Nat) : Dev := (d.pwmTo t).modMod x fun m => { m with base := t }

/-- The event of a zero or period point. -/
def pointEvent (zero : Bool) : Fin 7 := if zero then 0 else 1

/-- A zero or period point with its event, its tick request and its reload, before the counter and the legs follow. -/
def Dev.pointReloaded (d : Dev) (x : Bridge) (zero : Bool) (t : Nat) : Dev :=
  let d1 := ((d.pointEntered x t).modEvent x (pointEvent zero)).when (d.tickSourceHit x zero) Dev.tickRequest
  d1.when (d1.reloadHere x zero) fun d => d.reload x

theorem Dev.carrierPoint_eq (d : Dev) (x : Bridge) (zero : Bool) (t : Nat) :
    d.carrierPoint x zero t = (((d.pointReloaded x zero t).setBit (MOD.CNT_DIR x) (!zero)).set (MOD.CNT_CNT x)
      (if zero then 0 else ((d.pointReloaded x zero t).modS x).half)).updateLegs x t := rfl

theorem Dev.pointEntered_start (d : Dev) (x : Bridge) (t : Nat) : ((d.pointEntered x t).modS x).start = ((d.modS x).running, t) := by
  obtain ⟨hrun, -, -⟩ := ModState.course_eq (d.pwmRun_course 30 t x)
  rw [Dev.pointEntered, Dev.modMod_modS]
  exact congrArg (·, t) hrun

/-- A point happens at its cycle and leaves the counter running or stopped, as it was (R205). -/
theorem Dev.pointReloaded_start (d : Dev) (x : Bridge) (zero : Bool) (t : Nat) :
    ((d.pointReloaded x zero t).modS x).start = ((d.modS x).running, t) := by
  have hevent := (Dev.modEvent_course (d.pointEntered x t) x (pointEvent zero) x).start_of_course
  have hticked := hevent.when (F := Dev.tickRequest) (d.tickSourceHit x zero) (hevent.of_mod (Dev.tickRequest_mod _))
  have hreloaded : (d.pointEntered x t).keepsMod ModState.start x (d.pointReloaded x zero t) :=
    Dev.keepsMod.when hticked _ (hticked.trans (Dev.reload_start _ x))
  exact Eq.trans hreloaded (d.pointEntered_start x t)

theorem Dev.carrierPoint_course (d : Dev) (x : Bridge) (zero : Bool) (t : Nat) :
    (d.pointReloaded x zero t).keepsMod ModState.course x (d.carrierPoint x zero t) :=
  (((Dev.keepsMod.refl _ x _).of_vol (Dev.setBit_vol _ _ _)).of_vol (Dev.set_vol _ _ _)).trans (Dev.updateLegs_course _ x t x)

/-- The fields that a zero or period point sets after its event. -/
def pointFlds (x : Bridge) : List Fld := [CE.TSTAT_DROP, MOD.CNT_CNT x, MOD.CNT_DIR x] ++ reloadFlds x ++ driveFlds

theorem Dev.carrierPoint_sameBut (d : Dev) (x : Bridge) (zero : Bool) (t : Nat) :
    ((d.pointEntered x t).modEvent x (pointEvent zero)).sameBut (d.carrierPoint x zero t) (pointFlds x) := by
  have hreload : reloadFlds x ⊆ pointFlds x := List.Subset.trans (List.subset_append_right _ _) (List.subset_append_left _ _)
  have hdrive : driveFlds ⊆ pointFlds x := List.subset_append_right _ _
  have htick : [CE.TSTAT_DROP] ⊆ pointFlds x := by simp [pointFlds]
  rw [Dev.carrierPoint_eq]
  refine Dev.sameBut.trans (Dev.sameBut.set (Dev.sameBut.setBit ?_ (by simp [pointFlds]) _) (by simp [pointFlds]) _)
    ((Dev.updateLegs_sameBut _ x t).mono hdrive)
  have hticked := (Dev.sameBut.refl ((d.pointEntered x t).modEvent x (pointEvent zero)) (pointFlds x)).when (d.tickSourceHit x zero)
    ((Dev.tickRequest_sameBut _).mono htick)
  exact hticked.when _ (hticked.trans ((Dev.reload_sameBut _ x).mono hreload))

theorem counter_key_ne (x : Bridge) : (∀ g ∈ driveFlds, (MOD.CNT_CNT x).key ≠ g.key ∧ (MOD.CNT_DIR x).key ≠ g.key) ∧
    (MOD.CNT_CNT x).key ≠ (MOD.CNT_DIR x).key ∧
    ∀ f ∈ [ MOD.CNT_CNT x, MOD.CNT_DIR x, MOD.CNT_FRAME x], f.key ≠ (MOD.EVSTAT_EVF x).key ∧ ∀ k : Fin 7, f.key ≠ (MOD.EV_OCC x k).key := by
  revert x
  decide +kernel

theorem occ_key_ne (x : Bridge) (k : Fin 7) : (∀ g ∈ pointFlds x, (MOD.EV_OCC x k).key ≠ g.key) ∧
    (MOD.EV_OCC x k).key ≠ (MOD.EVSTAT_EVF x).key := by
  revert x k
  decide +kernel

theorem frame_key_ne (x : Bridge) : ∀ g ∈ pointFlds x, (MOD.CNT_FRAME x).key ≠ g.key := by
  revert x
  decide +kernel

/-- The counter and its direction after they are set and the legs follow. -/
theorem Dev.get_counter_updateLegs (d : Dev) (x : Bridge) (n : Nat) (down : Bool) (t : Nat) :
    (((d.setBit (MOD.CNT_DIR x) down).set (MOD.CNT_CNT x) n).updateLegs x t).get (MOD.CNT_CNT x) = n % 2 ^ (MOD.CNT_CNT x).width ∧
      (((d.setBit (MOD.CNT_DIR x) down).set (MOD.CNT_CNT x) n).updateLegs x t).get (MOD.CNT_DIR x) = b2n down := by
  obtain ⟨hdrive, hne, -⟩ := counter_key_ne x
  refine ⟨?_, ?_⟩
  · rw [Dev.updateLegs_sameBut _ x t _ fun g hg => (hdrive g hg).1, Dev.get_set_same]
  · rw [Dev.updateLegs_sameBut _ x t _ fun g hg => (hdrive g hg).2, Dev.get_set_ne _ _ _ _ hne.symm, Dev.get_setBit_same _ _ _ rfl]

/-- An event counts its occurrence (R223). -/
theorem Dev.get_occ_modEvent (d : Dev) (x : Bridge) (k : Fin 7) :
    (d.modEvent x k).get (MOD.EV_OCC x k) = (d.get (MOD.EV_OCC x k) + 1) % 2 ^ (MOD.EV_OCC x k).width := by
  rw [d.modEvent_sameBut x k _ (List.forall_mem_singleton.mpr (occ_key_ne x k).2), Dev.countWrap, Dev.get_set_same]

/-- An event leaves the counter where it is. -/
theorem Dev.get_counter_modEvent (d : Dev) (x : Bridge) (k : Fin 7) {f : Fld} (hf : f ∈ [ MOD.CNT_CNT x, MOD.CNT_DIR x, MOD.CNT_FRAME x]) :
    (d.modEvent x k).get f = d.get f := by
  obtain ⟨hevf, hocc⟩ := (counter_key_ne x).2.2 f hf
  rw [d.modEvent_sameBut x k _ (List.forall_mem_singleton.mpr hevf), Dev.countWrap, Dev.get_set_ne _ _ _ _ (hocc k)]

theorem Dev.pointEntered_sameBut (d : Dev) (x : Bridge) (t : Nat) : d.sameBut (d.pointEntered x t) (pointFlds x) :=
  ((d.pwmRun_sameBut 30 t).mono (List.subset_append_right _ _)).trans (Dev.modMod_sameBut _ x _ _)

/-- The event of a point counts it. -/
theorem Dev.get_occ_carrierPoint (d : Dev) (x : Bridge) (zero : Bool) (t : Nat) :
    (d.carrierPoint x zero t).get (MOD.EV_OCC x (pointEvent zero)) =
      (d.get (MOD.EV_OCC x (pointEvent zero)) + 1) % 2 ^ (MOD.EV_OCC x (pointEvent zero)).width := by
  have hne := (occ_key_ne x (pointEvent zero)).1
  rw [d.carrierPoint_sameBut x zero t _ hne, Dev.get_occ_modEvent, d.pointEntered_sameBut x t _ hne]

/-- A point leaves the frame index. -/
theorem Dev.get_frame_carrierPoint (d : Dev) (x : Bridge) (zero : Bool) (t : Nat) :
    (d.carrierPoint x zero t).get (MOD.CNT_FRAME x) = d.get (MOD.CNT_FRAME x) := by
  rw [d.carrierPoint_sameBut x zero t _ (frame_key_ne x), Dev.get_counter_modEvent _ _ _ (by simp), d.pointEntered_sameBut x t _ (frame_key_ne x)]

/-- A point happens at its cycle and leaves the counter running or stopped, as it was (R205). -/
theorem Dev.carrierPoint_start (d : Dev) (x : Bridge) (zero : Bool) (t : Nat) :
    ((d.carrierPoint x zero t).modS x).running = (d.modS x).running ∧ ((d.carrierPoint x zero t).modS x).base = t := by
  have hstart : ((d.carrierPoint x zero t).modS x).start = ((d.modS x).running, t) :=
    Eq.trans (d.carrierPoint_course x zero t).start_of_course (d.pointReloaded_start x zero t)
  exact Prod.mk.inj hstart

/-- A zero point stands at 0 counting up (R205). -/
theorem Dev.carrierPoint_zero (d : Dev) (x : Bridge) (t : Nat) :
    (d.carrierPoint x true t).get (MOD.CNT_CNT x) = 0 ∧ (d.carrierPoint x true t).get (MOD.CNT_DIR x) = 0 := by
  obtain ⟨hcnt, hdir⟩ := Dev.get_counter_updateLegs (d.pointReloaded x true t) x 0 false t
  exact ⟨hcnt.trans (Nat.zero_mod _), hdir⟩

/-- A period point stands at half the period in force counting down (R205). -/
theorem Dev.carrierPoint_period (d : Dev) (x : Bridge) (t : Nat) :
    (d.carrierPoint x false t).get (MOD.CNT_CNT x) = ((d.carrierPoint x false t).modS x).half % 2 ^ (MOD.CNT_CNT x).width ∧
      (d.carrierPoint x false t).get (MOD.CNT_DIR x) = 1 := by
  obtain ⟨-, -, hhalf⟩ := ModState.course_eq (d.carrierPoint_course x false t)
  rw [hhalf]
  exact Dev.get_counter_updateLegs (d.pointReloaded x false t) x _ true t

/-! ### Compare points -/

/-- Compare i of modulator x reached, before its event: the counter stands at K with the direction of its ramp (R206). -/
def Dev.compareReached (d : Dev) (x : Bridge) (i : Fin 5) (down : Bool) : Dev :=
  let k := vget (d.modS x).k i
  let t := (d.modS x).base + (if down then (d.modS x).half - k else k)
  (((d.pwmTo t).set (MOD.CNT_CNT x) k).setBit (MOD.CNT_DIR x) down).updateLegs x t

/-- The event of compare i. -/
def compareEventNo (i : Fin 5) : Fin 7 := ⟨i.val + 2, by omega⟩

/-- A compare point with its event, where `EDGE` does not rule it out (R223). -/
def Dev.comparePoint (d : Dev) (x : Bridge) (i : Fin 5) (down : Bool) : Dev :=
  let e := d.get (MOD.EV_EDGE x (i.val + 2))
  if (e = 1 ∧ down = true) ∨ (e = 2 ∧ down = false) then d.compareReached x i down
  else (d.compareReached x i down).modEvent x (compareEventNo i)

theorem Dev.get_counter_compareReached (d : Dev) (x : Bridge) (i : Fin 5) (down : Bool) :
    (d.compareReached x i down).get (MOD.CNT_CNT x) = vget (d.modS x).k i % 2 ^ (MOD.CNT_CNT x).width ∧
      (d.compareReached x i down).get (MOD.CNT_DIR x) = b2n down := by
  obtain ⟨hdrive, hne, -⟩ := counter_key_ne x
  unfold Dev.compareReached
  refine ⟨?_, ?_⟩
  · rw [Dev.updateLegs_sameBut _ x _ _ fun g hg => (hdrive g hg).1, Dev.get_setBit_ne _ _ _ _ hne, Dev.get_set_same]
  · rw [Dev.updateLegs_sameBut _ x _ _ fun g hg => (hdrive g hg).2, Dev.get_setBit_same _ _ _ rfl]

theorem Dev.compareReached_sameBut (d : Dev) (x : Bridge) (i : Fin 5) (down : Bool) : d.sameBut (d.compareReached x i down) (pointFlds x) := by
  have hdrive : driveFlds ⊆ pointFlds x := List.subset_append_right _ _
  exact ((((d.pwmRun_sameBut 30 _).mono hdrive).set (by simp [pointFlds]) _).setBit (by simp [pointFlds]) down).trans
    ((Dev.updateLegs_sameBut _ x _).mono hdrive)

theorem Dev.get_counter_comparePoint (d : Dev) (x : Bridge) (i : Fin 5) (down : Bool) {f : Fld}
    (hf : f ∈ [ MOD.CNT_CNT x, MOD.CNT_DIR x, MOD.CNT_FRAME x]) : (d.comparePoint x i down).get f = (d.compareReached x i down).get f := by
  unfold Dev.comparePoint
  dsimp only
  split
  · rfl
  · exact Dev.get_counter_modEvent _ x _ hf

/-- With `EDGE` 0 the event of a compare counts each point (R223). -/
theorem Dev.get_occ_comparePoint {d : Dev} {x : Bridge} {i : Fin 5} (down : Bool) (hedge : d.get (MOD.EV_EDGE x (i.val + 2)) = 0) :
    (d.comparePoint x i down).get (MOD.EV_OCC x (compareEventNo i)) =
      (d.get (MOD.EV_OCC x (compareEventNo i)) + 1) % 2 ^ (MOD.EV_OCC x (compareEventNo i)).width := by
  have hpoint : d.comparePoint x i down = (d.compareReached x i down).modEvent x (compareEventNo i) := by
    simp [Dev.comparePoint, hedge]
  rw [hpoint, Dev.get_occ_modEvent, d.compareReached_sameBut x i down _ (occ_key_ne x _).1]

/-! ### The commands -/

/-- The counter as it starts: it runs with half the active period, frame index 0, and every event acts at its first occurrence (R205, R223). -/
def Dev.carrierStarted (d : Dev) (x : Bridge) : Dev :=
  (d.modMod x fun m => { m with running := true, half := m.act.prd / 2, psc := .replicate 7 0 }).set (MOD.CNT_FRAME x) 0

theorem Dev.carrierStarted_running (d : Dev) (x : Bridge) : ((d.carrierStarted x).modS x).running = true :=
  congrArg ModState.running (d.modMod_modS x fun m => { m with running := true, half := m.act.prd / 2, psc := .replicate 7 0 })

theorem exec_carrierStart {s : State} {x : Bridge} (hworks : s.dev.works 4 0 = true) (hen : s.dev.get (MOD.CTL_EN x) = 1)
    (hstop : (s.dev.modS x).running = false) :
    Completes (.carrierStart x) s ((s.dev.carrierStarted x).carrierPoint x true (6 * s.dev.cycle)) := by
  show execCarrierStart x s = _
  simp [execCarrierStart, State.lift, Dev.bit, hworks, hen, hstop, Dev.carrierStarted]

theorem exec_carrierStart_none {s : State} {x : Bridge}
    (h : s.dev.works 4 0 = false ∨ s.dev.get (MOD.CTL_EN x) ≠ 1 ∨ (s.dev.modS x).running = true) : Completes (.carrierStart x) s s.dev := by
  show execCarrierStart x s = _
  obtain h | h | h := h <;> simp [execCarrierStart, State.lift, Dev.bit, h]

theorem exec_carrierZeroPoint {s : State} {x : Bridge} (hrun : s.dev.carrierRuns x = true) :
    Completes (.carrierZeroPoint x) s ((s.dev.countWrap (MOD.CNT_FRAME x)).carrierPoint x true (s.dev.nextPoint x)) := by
  show execCarrierZeroPoint x s = _
  simp only [execCarrierZeroPoint, State.lift, if_pos hrun]

theorem exec_carrierPeriodPoint {s : State} {x : Bridge} (hrun : s.dev.carrierRuns x = true) :
    Completes (.carrierPeriodPoint x) s (s.dev.carrierPoint x false (s.dev.nextPoint x)) := by
  show execCarrierPeriodPoint x s = _
  simp only [execCarrierPeriodPoint, State.lift, if_pos hrun]

/-- With the counter stopped there is no zero or period point. -/
theorem exec_carrierPoints_none {s : State} {x : Bridge} (hstop : s.dev.carrierRuns x = false) :
    Completes (.carrierZeroPoint x) s s.dev ∧ Completes (.carrierPeriodPoint x) s s.dev := by
  refine ⟨?_, ?_⟩
  · show execCarrierZeroPoint x s = _
    simp [execCarrierZeroPoint, State.lift, hstop]
  · show execCarrierPeriodPoint x s = _
    simp [execCarrierPeriodPoint, State.lift, hstop]

theorem exec_compareEvent {s : State} {x : Bridge} {i : Fin 5} (down : Bool) (hrun : s.dev.carrierRuns x = true)
    (hlow : 1 ≤ vget (s.dev.modS x).k i) (hhigh : vget (s.dev.modS x).k i + 1 ≤ (s.dev.modS x).half) :
    Completes (.compareEvent x i down) s (s.dev.comparePoint x i down) := by
  have hmay : (s.dev.carrierRuns x && decide (1 ≤ vget (s.dev.modS x).k i) && decide (vget (s.dev.modS x).k i + 1 ≤ (s.dev.modS x).half)) = true := by
    simp only [hrun, hlow, hhigh, decide_true, Bool.and_self]
  show execCompareEvent x i down s = _
  simp only [execCompareEvent, State.lift, if_pos hmay]
  rfl

/-- There is no compare point at 0 or at the half period itself (R223), and none with the counter stopped. -/
theorem exec_compareEvent_none {s : State} {x : Bridge} {i : Fin 5} (down : Bool)
    (h : s.dev.carrierRuns x = false ∨ vget (s.dev.modS x).k i = 0 ∨ (s.dev.modS x).half ≤ vget (s.dev.modS x).k i) :
    Completes (.compareEvent x i down) s s.dev := by
  have hno : ¬ (s.dev.carrierRuns x && decide (1 ≤ vget (s.dev.modS x).k i) &&
      decide (vget (s.dev.modS x).k i + 1 ≤ (s.dev.modS x).half)) = true := by
    simp only [Bool.and_eq_true, decide_eq_true_eq]
    rintro ⟨⟨hrun, hlow⟩, hhigh⟩
    obtain h | h | h := h
    · exact absurd (hrun.symm.trans h) (by decide)
    · omega
    · omega
  show execCompareEvent x i down s = _
  simp only [execCompareEvent, State.lift, if_neg hno]

end Sys2Proof.Machine

open Sys2Proof Sys2Proof.Machine

/-- Settles O29: a zero or period point sets the counter after its event and its reload, and the legs that follow leave it (`Dev.carrierPoint_zero`,
`Dev.carrierPoint_period`); a compare point likewise. -/
theorem carrierPoints : Obligations.CarrierPoints := by
  refine ⟨fun s x => ⟨fun hworks hen hstop => ?_, exec_carrierStart_none⟩, fun s x hrun => ⟨?_, ?_⟩,
    fun s x i down => ⟨fun hrun hlow hhigh => ?_, exec_compareEvent_none down⟩, fun s x => exec_carrierPoints_none⟩
  · have hex := exec_carrierStart hworks hen hstop
    obtain ⟨hcnt, hdir⟩ := (s.dev.carrierStarted x).carrierPoint_zero x (6 * s.dev.cycle)
    obtain ⟨hrun, hbase⟩ := (s.dev.carrierStarted x).carrierPoint_start x true (6 * s.dev.cycle)
    have hframe := (s.dev.carrierStarted x).get_frame_carrierPoint x true (6 * s.dev.cycle)
    generalize (s.dev.carrierStarted x).carrierPoint x true (6 * s.dev.cycle) = e at *
    rw [s.dev.carrierStarted_running x] at hrun
    rw [Dev.carrierStarted, Dev.get_set_same] at hframe
    exact ⟨_, hex, hrun, hcnt, hdir, hframe, hbase, rfl⟩
  · have hex := exec_carrierZeroPoint hrun
    obtain ⟨hcnt, hdir⟩ := (s.dev.countWrap (MOD.CNT_FRAME x)).carrierPoint_zero x (s.dev.nextPoint x)
    obtain ⟨-, hbase⟩ := (s.dev.countWrap (MOD.CNT_FRAME x)).carrierPoint_start x true (s.dev.nextPoint x)
    have hframe := (s.dev.countWrap (MOD.CNT_FRAME x)).get_frame_carrierPoint x true (s.dev.nextPoint x)
    have hocc := (s.dev.countWrap (MOD.CNT_FRAME x)).get_occ_carrierPoint x true (s.dev.nextPoint x)
    have hne := ((counter_key_ne x).2.2 (MOD.CNT_FRAME x) (by simp)).2 (pointEvent true)
    generalize (s.dev.countWrap (MOD.CNT_FRAME x)).carrierPoint x true (s.dev.nextPoint x) = e at *
    rw [Dev.countWrap, Dev.get_set_same] at hframe
    rw [Dev.countWrap, Dev.get_set_ne _ _ _ _ hne.symm] at hocc
    exact ⟨_, hex, hcnt, hdir, hframe, hocc, hbase, rfl⟩
  · have hex := exec_carrierPeriodPoint hrun
    obtain ⟨hcnt, hdir⟩ := s.dev.carrierPoint_period x (s.dev.nextPoint x)
    obtain ⟨-, hbase⟩ := s.dev.carrierPoint_start x false (s.dev.nextPoint x)
    have hocc := s.dev.get_occ_carrierPoint x false (s.dev.nextPoint x)
    generalize s.dev.carrierPoint x false (s.dev.nextPoint x) = e at *
    exact ⟨_, hex, hcnt, hdir, hocc, hbase, rfl⟩
  · have hex := exec_compareEvent down hrun hlow hhigh
    obtain ⟨hcnt, hdir⟩ := s.dev.get_counter_compareReached x i down
    rw [← s.dev.get_counter_comparePoint x i down (by simp)] at hcnt hdir
    have hocc := s.dev.get_occ_comparePoint (x := x) (i := i) down
    generalize s.dev.comparePoint x i down = e at *
    exact ⟨_, hex, hcnt, hdir, hocc, rfl⟩

end

section
/-! PROOF. The ASC speed estimate and the grid PLL (O27): the commands, and that a line once raised stays so when the bridge safe state applies. -/

namespace Sys2Proof.Machine

/-! ### Lines that stay raised

Of what follows a cause of the bridge safe state only an interlock conflict raises a line, and nothing takes one back. -/

/-- Every line that d has raised is raised in e. -/
def Dev.keepsRaised (d e : Dev) : Prop := ∀ x ∈ d.raised, x ∈ e.raised

section
variable {d e c : Dev}

theorem Dev.keepsRaised.refl (d : Dev) : d.keepsRaised d := fun _ hx => hx

theorem Dev.keepsRaised.of_eq (h : e.raised = d.raised) : d.keepsRaised e := fun _ hx => h.symm ▸ hx

theorem Dev.keepsRaised.trans (h : d.keepsRaised e) (h' : e.keepsRaised c) : d.keepsRaised c :=
  fun x hx => h' x (h x hx)

theorem Dev.keepsRaised.assertLine (h : d.keepsRaised e) (l br : Nat) : d.keepsRaised (e.assertLine l br) := by
  refine h.trans ?_
  unfold Dev.assertLine
  split
  · exact .refl e
  · exact fun _ hx => List.mem_append_left _ hx

theorem Dev.keepsRaised.when (h : d.keepsRaised e) (b : Bool) {F : Dev → Dev} (hF : d.keepsRaised (F e)) : d.keepsRaised (e.when b F) := by
  cases b
  · exact h
  · exact hF

theorem Dev.keepsRaised.each {α : Type} (h : d.keepsRaised e) (xs : List α) {F : Dev → α → Dev} (hF : ∀ c x, Dev.keepsRaised c (F c x)) :
    d.keepsRaised (e.each xs F) := by
  induction xs generalizing e with
  | nil => exact h
  | cons x t ih => exact ih (h.trans (hF e x))

end

theorem Dev.judgeConflict_keepsRaised (d : Dev) (x : Bridge) (p : Fin 3) : d.keepsRaised (d.judgeConflict x p) := by
  unfold Dev.judgeConflict
  have hconf : d.keepsRaised (d.modMod x fun m => { m with conflict := vset m.conflict p (d.legBothOn x p) }) := .of_eq (Dev.modMod_raised _ _ _)
  refine hconf.when _ (Dev.keepsRaised.assertLine (hconf.trans (.of_eq ?_)) 30 (brMask x))
  exact (Dev.countSat_raised _ _).trans (Dev.set_raised _ _ _)

theorem Dev.launchOff_raised (d : Dev) (n : Chan) (t : Nat) : (d.launchOff n t).raised = d.raised := by
  unfold Dev.launchOff
  split <;> rfl

theorem Dev.launchOn_raised (d : Dev) (n : Chan) (t : Nat) : (d.launchOn n t).raised = d.raised := by
  unfold Dev.launchOn
  split
  · rfl
  · split
    · rfl
    · split
      · rfl
      · exact Dev.countSat_raised _ _

theorem Dev.stage6At_raised (d : Dev) (t : Nat) : (d.stage6At t).raised = d.raised := rfl

theorem Dev.offStage_keepsRaised (d : Dev) (n : Chan) (t : Nat) : d.keepsRaised (if d.wantOn n then d else d.launchOff n t) := by
  split
  · exact .refl d
  · exact .of_eq (d.launchOff_raised n t)

theorem Dev.onStage_keepsRaised (d : Dev) (n : Chan) (t : Nat) : d.keepsRaised (if d.wantOn n then d.launchOn n t else d) := by
  split
  · exact .of_eq (d.launchOn_raised n t)
  · exact .refl d

theorem Dev.driveAt_keepsRaised (d : Dev) (t : Nat) : d.keepsRaised (d.driveAt t) := by
  have hjudged := (Dev.keepsRaised.refl d).each [((0 : Bridge), (0 : Fin 3)), (0, 1), (0, 2), (1, 0), (1, 1), (1, 2)]
    fun c xp => c.judgeConflict_keepsRaised xp.1 xp.2
  have hstage := hjudged.trans (.of_eq (Dev.stage6At_raised _ t))
  have hoff := hstage.each allChans fun c n => c.offStage_keepsRaised n (t / 6)
  have hon := hoff.each allChans fun c n => c.onStage_keepsRaised n (t / 6)
  unfold Dev.driveAt
  exact hon

theorem Dev.drive_keepsRaised (d : Dev) : d.keepsRaised d.drive := d.driveAt_keepsRaised _

theorem Dev.updateRun_raised (d : Dev) (x : Bridge) : (d.updateRun x).raised = d.raised := by
  unfold Dev.updateRun
  dsimp only
  generalize (if d.bit (MOD.CTL_SRC x) then _ else _ : Bool) = run
  split <;> rfl

theorem Dev.leaveService_keepsRaised (d : Dev) : d.keepsRaised d.leaveService := by
  unfold Dev.leaveService
  refine Dev.keepsRaised.trans ((Dev.keepsRaised.refl d).each _ fun c x => .of_eq ?_) (Dev.drive_keepsRaised _)
  rw [Dev.updateRun_raised, Dev.set_raised, Dev.set_raised, Dev.set_raised]

theorem Dev.readyEnd_keepsRaised (d : Dev) : d.keepsRaised d.readyEnd := by
  unfold Dev.readyEnd Dev.opTo
  split
  · split
    · exact .refl d
    · have hst : d.keepsRaised ((({ d with vol := { d.vol with dict := { d.vol.dict with readyAsked := false } } } : Dev).set DE.STAT_OPSTATE 2).edge 340) :=
        .of_eq (Dev.edge_raised _ _)
      exact hst.when _ (hst.trans (Dev.leaveService_keepsRaised _))
  · exact .refl d

theorem Dev.dscFollow_raised (d : Dev) : d.dscFollow.raised = d.raised := by
  unfold Dev.dscFollow
  split
  · exact Dev.when_keep Dev.raised _ _ _ (Dev.edge_raised _ _)
  · rfl

theorem Dev.abortTest_raised (d : Dev) (b : Bridge) : (d.abortTest b).raised = d.raised :=
  Dev.when_keep Dev.raised _ _ _ (Dev.edge_raised _ _)

theorem Dev.engineTo_keepsRaised (d : Dev) (b : Bridge) (st : Nat) : d.keepsRaised (d.engineTo b st) := by
  unfold Dev.engineTo
  split
  · exact .refl d
  · refine Dev.keepsRaised.trans (Dev.keepsRaised.trans (.of_eq ?_) (Dev.drive_keepsRaised _)) (Dev.readyEnd_keepsRaised _)
    rw [Dev.dscFollow_raised, Dev.updateRun_raised, Dev.set_raised]
    refine (Dev.when_keep Dev.raised _ _ _ (Dev.modEng_raised _ _ _)).trans ?_
    refine (Dev.when_keep Dev.raised _ _ _ ?_).trans (Dev.edge_raised _ _)
    rw [Dev.modEng_raised, Dev.clearAct, Dev.set_raised, Dev.abortTest_raised]

theorem Dev.ascFollow_raised (d0 d : Dev) (b : Bridge) : (d0.ascFollow d b).raised = d.raised := by
  unfold Dev.ascFollow
  split <;> rfl

theorem Dev.applySafe_keepsRaised (d : Dev) (x : Bridge) : d.keepsRaised (d.applySafe x) := by
  unfold Dev.applySafe
  split
  · refine Dev.keepsRaised.trans ?_ (.of_eq (Dev.ascFollow_raised _ _ x))
    refine Dev.keepsRaised.trans ?_ (Dev.drive_keepsRaised _)
    refine Dev.keepsRaised.trans ?_ (Dev.keepsRaised.when (.refl _) _ (Dev.engineTo_keepsRaised _ x 4))
    refine .of_eq ((Dev.when_keep Dev.raised _ _ _ ?_).trans ((Dev.setBit_raised _ _ _).trans (Dev.set_raised _ _ _)))
    rw [Dev.edge_raised, Dev.countSat_raised]
  · split
    · refine Dev.keepsRaised.trans (Dev.keepsRaised.trans (.of_eq ?_) (Dev.drive_keepsRaised _)) (.of_eq (Dev.ascFollow_raised _ _ x))
      rw [Dev.modGl_raised, Dev.set_raised, Dev.set_raised]
    · exact .refl d

/-- A cause of the bridge safe state leaves every line raised (R280). -/
theorem Dev.safeCause_keepsRaised (d : Dev) (x : Bridge) (f : Fld) : d.keepsRaised (d.safeCause x f) :=
  Dev.keepsRaised.trans (.of_eq (d.set_raised f 1)) (Dev.applySafe_keepsRaised _ x)

/-! ### The ASC estimate (R242) -/

theorem Dev.modEng_engS (d : Dev) (b : Bridge) (f : EngState → EngState) : (d.modEng b f).engS b = f (d.engS b) := vget_vset_same _ _ _

/-- What the slot-0 current does to the search for a crossing while a short circuit is applied. -/
theorem Dev.ascSample_ascX {d : Dev} {b : Bridge} (x : Int) (happ : d.ascApplied b = true) (hworks : d.works 4 3 = true) :
    ((d.ascSample b 0 x).engS b).ascX = if x < -256 then 1 else if 256 < x ∧ (d.engS b).ascX = 1 then 2 else (d.engS b).ascX := by
  rw [Dev.ascSample, if_pos ⟨rfl, happ, hworks⟩, Dev.modEng_engS]

theorem exec_ascZeroCrossing_none {s : State} {b : Bridge} (t : Nat) (h : s.dev.ascApplied b = false ∨ (s.dev.engS b).ascX ≠ 2) :
    Completes (.ascZeroCrossing b t) s s.dev := by
  show execAscZeroCrossing b t s = _
  obtain h | h := h <;> simp [execAscZeroCrossing, State.lift, h]

/-- The first crossing starts the timer. -/
theorem exec_ascZeroCrossing_first {s : State} {b : Bridge} (t : Nat) (happ : s.dev.ascApplied b = true) (hx : (s.dev.engS b).ascX = 2)
    (hlast : (s.dev.engS b).ascLast = none) :
    Completes (.ascZeroCrossing b t) s (s.dev.modEng b fun e => { e with ascX := 0, ascLast := some t }) := by
  show execAscZeroCrossing b t s = _
  simp [execAscZeroCrossing, State.lift, happ, hx, hlast]

/-- A crossing after another gives the speed from their distance. -/
theorem exec_ascZeroCrossing_next {s : State} {b : Bridge} (t : Nat) {t0 : Nat} (happ : s.dev.ascApplied b = true) (hx : (s.dev.engS b).ascX = 2)
    (hlast : (s.dev.engS b).ascLast = some t0) :
    Completes (.ascZeroCrossing b t) s (s.dev.modEng b fun e =>
      { e with ascX := 0, ascLast := some t, ascEst := some (sat32 (roundDiv (400000000 * 65536) ((t - t0) * s.dev.motPP (s.dev.posSel b)))) }) := by
  show execAscZeroCrossing b t s = _
  simp [execAscZeroCrossing, State.lift, happ, hx, hlast]

theorem exec_ascEstimateTimeout {s : State} {b : Bridge} (happ : s.dev.ascApplied b = true) :
    Completes (.ascEstimateTimeout b) s (s.dev.modEng b fun e => { e with ascEst := some 0 }) := by
  show execAscEstimateTimeout b s = _
  simp only [execAscEstimateTimeout, State.lift, if_pos happ]

theorem exec_ascEstimateTimeout_none {s : State} {b : Bridge} (happ : s.dev.ascApplied b = false) :
    Completes (.ascEstimateTimeout b) s s.dev := by
  show execAscEstimateTimeout b s = _
  simp [execAscEstimateTimeout, State.lift, happ]

/-! ### The PLL (R245, R246) -/

theorem exec_pllLock {s : State} {b : Bridge} (hst : s.dev.get (CE.PLLST_PLLST b) = 1 ∨ s.dev.get (CE.PLLST_PLLST b) = 3)
    (hgood : s.dev.pllLockN b ≤ (s.dev.engS b).pllGood) : Completes (.pllLock b) s (s.dev.set (CE.PLLST_PLLST b) 2) := by
  show execPllLock b s = _
  simp only [execPllLock, State.lift, if_pos (And.intro hst hgood)]

theorem exec_pllLock_none {s : State} {b : Bridge} (hgood : (s.dev.engS b).pllGood < s.dev.pllLockN b) : Completes (.pllLock b) s s.dev := by
  show execPllLock b s = _
  simp only [execPllLock, State.lift, if_neg fun h => Nat.not_le.mpr hgood (And.right h)]

/-- A grid loss of bridge b: the flag, its line and the safe state (R246). -/
def Dev.gridLost (d : Dev) (b : Bridge) : Dev := ((d.set (CE.PLLST_GRIDLOSS b) 1).assertLine 28 (brMask b)).safeCause b (GL.BSTAT_ENGINE b)

theorem exec_pllLost {s : State} {b : Bridge} (hst : s.dev.get (CE.PLLST_PLLST b) = 2) (hbad : s.dev.pllLockN b ≤ (s.dev.engS b).pllBad) :
    Completes (.pllLost b) s
      ((s.dev.set (CE.PLLST_PLLST b) 3).when (s.dev.active b && decide (s.dev.role b = 2)) fun d => d.gridLost b) := by
  show execPllLost b s = _
  simp only [execPllLost, State.lift, if_pos (And.intro hst hbad), Dev.gridLost]

theorem exec_pllLost_none {s : State} {b : Bridge} (h : (s.dev.engS b).pllBad < s.dev.pllLockN b ∨ s.dev.get (CE.PLLST_PLLST b) ≠ 2) :
    Completes (.pllLost b) s s.dev := by
  have hno : ¬(s.dev.get (CE.PLLST_PLLST b) = 2 ∧ s.dev.pllLockN b ≤ (s.dev.engS b).pllBad) := by omega
  show execPllLost b s = _
  simp only [execPllLost, State.lift, if_neg hno]

/-- The safe state sets no field of the PLL. -/
theorem pll_key_ne (b : Bridge) :
    (∀ f ∈ [CE.PLLST_PLLST b, CE.PLLST_GRIDLOSS b], ∀ g ∈ [GL.BSTAT_ENGINE b, GL.BSTAT_APPLIED b] ++ safeFlds b, f.key ≠ g.key) ∧
    (CE.PLLST_PLLST b).key ≠ (CE.PLLST_GRIDLOSS b).key := by
  revert b
  decide +kernel

/-- A cause of the safe state sets its own bit, `APPLIED` and `safeFlds`. -/
theorem Dev.safeCause_sameBut (d : Dev) (x : Bridge) {f : Fld} (hf : f ∈ causeBits x) :
    d.sameBut (d.safeCause x f) ([f, GL.BSTAT_APPLIED x] ++ safeFlds x) := by
  have hcause : (d.set f 1).anyCause x = true :=
    List.any_eq_true.mpr ⟨f, hf, by simp [Dev.bit, d.get_set_one (cause_key_ne_applied x f hf).1]⟩
  have hset : d.sameBut ((d.set f 1).set (GL.BSTAT_APPLIED x) 1) ([f, GL.BSTAT_APPLIED x] ++ safeFlds x) :=
    ((Dev.sameBut.refl d _).set (by simp) 1).set (by simp) 1
  exact hset.trans ((Dev.applySafe_sameBut hcause).mono (List.subset_append_right _ _))

/-- A grid loss is flagged, keeps the state of the PLL, and its line stays raised. -/
theorem Dev.gridLost_shows (d : Dev) (b : Bridge) :
    (d.gridLost b).get (CE.PLLST_PLLST b) = d.get (CE.PLLST_PLLST b) ∧ (d.gridLost b).get (CE.PLLST_GRIDLOSS b) = 1 ∧
      (28, brMask b) ∈ (d.gridLost b).raised := by
  obtain ⟨hsafe, hne⟩ := pll_key_ne b
  have hsame := Dev.safeCause_sameBut ((d.set (CE.PLLST_GRIDLOSS b) 1).assertLine 28 (brMask b)) b (f := GL.BSTAT_ENGINE b) (by simp [causeBits])
  refine ⟨?_, ?_, Dev.safeCause_keepsRaised _ _ _ _ (Dev.mem_raised_assertLine _ _ _)⟩
  · rw [Dev.gridLost, hsame _ (hsafe _ (by simp)), Dev.assertLine_get, Dev.get_set_ne _ _ _ _ hne]
  · rw [Dev.gridLost, hsame _ (hsafe _ (by simp)), Dev.assertLine_get]
    exact Dev.get_set_one _ rfl

end Sys2Proof.Machine

open Sys2Proof Sys2Proof.Machine

/-- Settles O27: the commands have their equations; the safe state of a lost grid sets no field of the PLL (`Dev.safeCause_sameBut`) and takes back no
line (`Dev.safeCause_keepsRaised`). -/
theorem ascAndPll : Obligations.AscAndPll := by
  refine ⟨fun d b x happ hworks => ?_,
    fun s b t => ⟨fun happ => ⟨exec_ascZeroCrossing_none t (.inl happ), exec_ascEstimateTimeout_none happ⟩,
      fun hx => exec_ascZeroCrossing_none t (.inr hx), exec_ascZeroCrossing_first t, fun _ => exec_ascZeroCrossing_next t, exec_ascEstimateTimeout⟩,
    fun s b => ⟨exec_pllLock, exec_pllLock_none, exec_pllLost_none, fun hst hbad hno => ?_, fun hst hbad hact hrole => ?_⟩⟩
  · rw [Dev.ascSample_ascX x happ hworks]
    refine ⟨fun hlow => if_pos hlow, fun hhigh hx => ?_, fun hge hle => ?_⟩
    · rw [if_neg (by omega), if_pos ⟨hhigh, hx⟩]
    · rw [if_neg (by omega), if_neg fun h => absurd h.1 (by omega)]
  · have hex := exec_pllLost hst hbad
    have hidle : (s.dev.active b && decide (s.dev.role b = 2)) = false := by
      obtain h | h := hno <;> simp [h]
    rwa [hidle] at hex
  · have hex := exec_pllLost hst hbad
    rw [hact, decide_eq_true hrole] at hex
    obtain ⟨hpll, hloss, hline⟩ := (s.dev.set (CE.PLLST_PLLST b) 3).gridLost_shows b
    obtain ⟨hcause, happlied⟩ := Dev.get_safeCause
      (((s.dev.set (CE.PLLST_PLLST b) 3).set (CE.PLLST_GRIDLOSS b) 1).assertLine 28 (brMask b)) b (f := GL.BSTAT_ENGINE b) (by simp [causeBits])
    exact ⟨_, hex, hpll.trans (Dev.get_set_same _ _ _), hloss, hline, hcause, happlied, rfl⟩

end

section
/-! PROOF. The LIMP_CMD pin (O28): what an invalid value sets, and the commands. -/

namespace Sys2Proof.Machine

/-! ### The value becomes invalid (R251) -/

/-- The fields that an invalid value sets. -/
def limpFlds : List Fld := [CE.LIMPST_VALID, CE.LIMPVAL_LVAL, CE.LIMPST_LIMPFLT]

/-- The window is emptied and the fields are set, before the line is raised. -/
def Dev.limpCleared (d : Dev) : Dev :=
  (((d.modCe fun c => { c with limp := [], limpFrom := none }).set CE.LIMPST_VALID 0).set CE.LIMPVAL_LVAL 0).set CE.LIMPST_LIMPFLT 1

theorem Dev.limpInvalid_eq (d : Dev) :
    d.limpInvalid = (d.limpCleared.when (d.limpDriven 0) fun d => d.assertLine 29 1).when (d.limpDriven 1) fun d => d.assertLine 29 2 := rfl

/-- What a raised line keeps, an invalid value has from the emptied window and the set fields. -/
theorem Dev.limpInvalid_keep {β : Type} (P : Dev → β) (h : ∀ (c : Dev) l br, P (c.assertLine l br) = P c) (d : Dev) :
    P d.limpInvalid = P d.limpCleared := by
  rw [Dev.limpInvalid_eq]
  exact (Dev.when_keep P _ _ (fun d => d.assertLine 29 2) (h _ _ _)).trans (Dev.when_keep P _ _ (fun d => d.assertLine 29 1) (h _ _ _))

theorem Dev.limpInvalid_get (d : Dev) (f : Fld) : d.limpInvalid.get f = d.limpCleared.get f :=
  d.limpInvalid_keep (Dev.get · f) fun _ _ _ => Dev.assertLine_get _ _ _ _

theorem Dev.limpInvalid_limp (d : Dev) : d.limpInvalid.vol.ce.limp = [] :=
  d.limpInvalid_keep (fun d => d.vol.ce.limp) fun _ _ _ => by rw [Dev.assertLine_vol]

theorem Dev.limpInvalid_sameBut_limpFlds (d : Dev) : d.sameBut d.limpInvalid limpFlds := by
  have hcleared : d.sameBut d.limpCleared limpFlds :=
    (((Dev.sameBut.of_regs rfl _).set (by simp [limpFlds]) 0).set (by simp [limpFlds]) 0).set (by simp [limpFlds]) 1
  exact fun f hf => (d.limpInvalid_get f).trans (hcleared f hf)

theorem Dev.get_limpInvalid (d : Dev) :
    d.limpInvalid.get CE.LIMPST_VALID = 0 ∧ d.limpInvalid.get CE.LIMPVAL_LVAL = 0 ∧ d.limpInvalid.get CE.LIMPST_LIMPFLT = 1 := by
  simp only [Dev.limpInvalid_get, Dev.limpCleared]
  refine ⟨?_, ?_, Dev.get_set_one _ rfl⟩
  · rw [Dev.get_set_ne _ _ _ _ (by decide), Dev.get_set_ne _ _ _ _ (by decide), Dev.get_set_same, Nat.zero_mod]
  · rw [Dev.get_set_ne _ _ _ _ (by decide), Dev.get_set_same, Nat.zero_mod]

/-- The limp-input line is raised for each bridge that the pin commands. -/
theorem Dev.mem_raised_limpInvalid (d : Dev) :
    (d.limpDriven 0 = true → (29, 1) ∈ d.limpInvalid.raised) ∧ (d.limpDriven 1 = true → (29, 2) ∈ d.limpInvalid.raised) := by
  rw [Dev.limpInvalid_eq]
  constructor <;> intro h
  · rw [h, Dev.when_true]
    exact Dev.keepsRaised.when (.refl _) _ (Dev.keepsRaised.assertLine (.refl _) 29 2) _ (Dev.mem_raised_assertLine _ _ _)
  · rw [h, Dev.when_true]
    exact Dev.mem_raised_assertLine _ _ _

/-! ### Measurements (R250, R251) -/

theorem Dev.limpMode_lt (d : Dev) : d.limpMode < 3 := Nat.mod_lt _ (by decide)

/-- The window of each mode (Table 8-9). -/
theorem Dev.limpInside_iff (d : Dev) (v : Nat) : d.limpInside v = true ↔
    (d.limpMode = 0 ∧ 250 ≤ v ∧ v ≤ 4750) ∨ (d.limpMode = 1 ∧ 500 ≤ v ∧ v ≤ 9500) ∨ (d.limpMode = 2 ∧ 50 ≤ v ∧ v ≤ 12000) := by
  have hlt := d.limpMode_lt
  unfold Dev.limpInside
  generalize d.limpMode = k at hlt ⊢
  match k, hlt with
  | 0, _ => simp
  | 1, _ => simp
  | 2, _ => simp

theorem exec_limpMeasurement_inside {s : State} {v : BitVec 16} (hworks : s.dev.works 4 3 = true) (hown : s.dev.limpOwned = true)
    (hin : s.dev.limpInside v.toNat = true) :
    Completes (.limpMeasurement v) s ((s.dev.set CE.LIMPST_RAW v.toNat).modCe fun c =>
      { c with limp := (s.dev.now, v.toNat) :: c.limp, limpFrom := some (c.limpFrom.getD s.dev.now) }) := by
  show execLimpMeasurement v s = _
  simp [execLimpMeasurement, State.lift, hworks, hown, hin]

theorem exec_limpMeasurement_outside {s : State} {v : BitVec 16} (hworks : s.dev.works 4 3 = true) (hown : s.dev.limpOwned = true)
    (hin : s.dev.limpInside v.toNat = false) : Completes (.limpMeasurement v) s (s.dev.set CE.LIMPST_RAW v.toNat).limpInvalid := by
  show execLimpMeasurement v s = _
  simp [execLimpMeasurement, State.lift, hworks, hown, hin]

theorem exec_limpMeasurement_foreign {s : State} {v : BitVec 16} (hworks : s.dev.works 4 3 = true) (hown : s.dev.limpOwned = false) :
    Completes (.limpMeasurement v) s s.dev.limpInvalid := by
  show execLimpMeasurement v s = _
  simp [execLimpMeasurement, State.lift, hworks, hown]

theorem exec_limpMeasurement_none {s : State} {v : BitVec 16} (hworks : s.dev.works 4 3 = false) : Completes (.limpMeasurement v) s s.dev := by
  show execLimpMeasurement v s = _
  simp [execLimpMeasurement, State.lift, hworks]

theorem exec_limpEdgeTimeout {s : State} (hworks : s.dev.works 4 3 = true) (hown : s.dev.limpOwned = true) (hmode : s.dev.limpMode ≠ 0) :
    Completes .limpEdgeTimeout s s.dev.limpInvalid := by
  show execLimpEdgeTimeout s = _
  simp [execLimpEdgeTimeout, State.lift, hworks, hown, hmode]

theorem exec_limpEdgeTimeout_none {s : State} (h : s.dev.works 4 3 = false ∨ s.dev.limpOwned = false ∨ s.dev.limpMode = 0) :
    Completes .limpEdgeTimeout s s.dev := by
  show execLimpEdgeTimeout s = _
  obtain h | h | h := h <;> simp [execLimpEdgeTimeout, State.lift, h]

/-! ### Validity and value (R251) -/

/-- After `LFILT` ms of valid measurements the value is valid, and not before. -/
theorem exec_limpValid {s : State} {t : Nat} (hworks : s.dev.works 4 3 = true) (hown : s.dev.limpOwned = true)
    (hfrom : s.dev.vol.ce.limpFrom = some t) :
    Completes .limpValid s (if t + s.dev.limpWindow ≤ s.dev.now then s.dev.set CE.LIMPST_VALID 1 else s.dev) := by
  show execLimpValid s = _
  simp [execLimpValid, State.lift, hworks, hown, hfrom]

theorem exec_limpValid_none {s : State} (hfrom : s.dev.vol.ce.limpFrom = none) : Completes .limpValid s s.dev := by
  show execLimpValid s = _
  simp [execLimpValid, State.lift, hfrom]

/-- The measurements of the last `LFILT` ms. -/
def Dev.limpKept (d : Dev) : List (Nat × Nat) := d.vol.ce.limp.filter fun x => decide (d.now ≤ x.1 + d.limpWindow)

theorem exec_limpValueUpdate {s : State} (hworks : s.dev.works 4 3 = true) (hown : s.dev.limpOwned = true) (hvalid : s.dev.get CE.LIMPST_VALID = 1)
    (hkept : s.dev.limpKept ≠ []) :
    Completes .limpValueUpdate s ((s.dev.modCe fun c => { c with limp := s.dev.limpKept }).sset CE.LIMPVAL_LVAL
      (s.dev.limpMap (s.dev.limpKept.foldl (fun n x => n + x.2) 0) s.dev.limpKept.length)) := by
  have hne : s.dev.limpKept.isEmpty = false := List.isEmpty_eq_false_iff.mpr hkept
  rw [Dev.limpKept] at hne
  show execLimpValueUpdate s = _
  simp only [execLimpValueUpdate, State.lift, Dev.bit, Dev.limpKept, hworks, hown, hvalid, hne, decide_true, Bool.not_true, Bool.false_eq_true, if_false]

/-- While the value is not valid an update makes it invalid again and keeps the measurements of the window. -/
theorem exec_limpValueUpdate_invalid {s : State} (hworks : s.dev.works 4 3 = true) (hown : s.dev.limpOwned = true)
    (hvalid : s.dev.get CE.LIMPST_VALID ≠ 1) :
    Completes .limpValueUpdate s ((s.dev.modCe fun c => { c with limp := s.dev.limpKept }).limpInvalid.modCe fun c =>
      { c with limp := s.dev.limpKept, limpFrom := s.dev.vol.ce.limpFrom }) := by
  show execLimpValueUpdate s = _
  simp [execLimpValueUpdate, State.lift, Dev.bit, hworks, hown, hvalid, Dev.limpKept]

theorem exec_limpValueUpdate_foreign {s : State} (hworks : s.dev.works 4 3 = true) (hown : s.dev.limpOwned = false) :
    Completes .limpValueUpdate s s.dev.limpInvalid := by
  show execLimpValueUpdate s = _
  simp [execLimpValueUpdate, State.lift, hworks, hown]

/-! ### The command by timeout (R252) -/

theorem exec_commandTimeout {s : State} {b : Bridge} (hauto : s.dev.get CE.LIMPCFG_AUTO = 1) (hlife : s.dev.secondLife = false)
    (hsrc : s.dev.get (CE.BCFG_CMDSRC b) % 3 = 0) (hact : s.dev.active b = true) (htmo : s.dev.get CE.LIMPTMO_CMDTMO ≠ 0) :
    Completes (.commandTimeout b) s (s.dev.set (if b = 0 then CE.LIMPST_ACTA else CE.LIMPST_ACTB) 1) := by
  show execCommandTimeout b s = _
  simp [execCommandTimeout, State.lift, Dev.bit, Dev.cmdSrc, hauto, hlife, hsrc, hact, htmo]

theorem exec_commandTimeout_none {s : State} {b : Bridge}
    (h : s.dev.get CE.LIMPCFG_AUTO ≠ 1 ∨ s.dev.secondLife = true ∨ s.dev.get (CE.BCFG_CMDSRC b) % 3 ≠ 0 ∨ s.dev.active b = false ∨
      s.dev.get CE.LIMPTMO_CMDTMO = 0) : Completes (.commandTimeout b) s s.dev := by
  show execCommandTimeout b s = _
  obtain h | h | h | h | h := h <;> simp [execCommandTimeout, State.lift, Dev.bit, Dev.cmdSrc, h]

end Sys2Proof.Machine

open Sys2Proof Sys2Proof.Machine

/-- Settles O28: an invalid value is the emptied window and the set fields (`Dev.limpInvalid_keep`) with the line raised for each bridge that the pin
commands; the commands have their equations. -/
theorem limpCommand : Obligations.LimpCommand := by
  refine ⟨fun d => ?_,
    fun s v => ⟨fun hworks hown => ⟨exec_limpMeasurement_inside hworks hown, exec_limpMeasurement_outside hworks hown⟩,
      exec_limpMeasurement_foreign, exec_limpMeasurement_none⟩,
    Dev.limpInside_iff, fun s => ⟨exec_limpEdgeTimeout_none, exec_limpEdgeTimeout⟩, fun s t hworks hown hfrom => ?_,
    fun s => exec_limpValid_none, fun s hworks => ⟨exec_limpValueUpdate hworks, fun hown hvalid => ?_, exec_limpValueUpdate_foreign hworks⟩,
    fun s b => ⟨exec_commandTimeout, exec_commandTimeout_none⟩⟩
  · obtain ⟨hvalid, hval, hflt⟩ := d.get_limpInvalid
    obtain ⟨hlineA, hlineB⟩ := d.mem_raised_limpInvalid
    exact ⟨hvalid, hval, hflt, d.limpInvalid_limp, hlineA, hlineB, d.limpInvalid_sameBut_limpFlds⟩
  · have hex := exec_limpValid hworks hown hfrom
    rw [Dev.limpWindow] at hex
    exact ⟨fun hlong => by rwa [if_pos hlong] at hex, fun hshort => by rwa [if_neg (Nat.not_le.mpr hshort)] at hex⟩
  · obtain ⟨-, hval, hflt⟩ := (s.dev.modCe fun c => { c with limp := s.dev.limpKept }).get_limpInvalid
    exact ⟨_, exec_limpValueUpdate_invalid hworks hown hvalid, hval, hflt, rfl, rfl⟩

end

section
/-! PROOF. Confirmed conditions of the thermal block (O37): how many rounds each needs and what it sets, loop 5 under stale values, and an island over its
temperature. -/

namespace Sys2Proof.Machine

/-! ### Thresholds of the housekeeping channels (R291) -/

/-- The rounds running in which a channel has been beyond its upper or lower threshold. -/
def Dev.limitRounds (d : Dev) (c : Fin 24) (high : Bool) : Nat := if high then vget d.vol.th.hiN c else vget d.vol.th.loN c

/-- A confirmed threshold: `HIA` and `HI`, or `LOA` and `LO`, with the housekeeping-limit line. -/
def Dev.limitShown (d : Dev) (c : Fin 24) (high : Bool) : Dev :=
  ((d.set (if high then TH.HKVAL_HIA c else TH.HKVAL_LOA c) 1).set (if high then TH.STAT_HI else TH.STAT_LO) 1).assertLine 40 0

/-- Both thresholds are confirmed alike: in `NFILT` rounds running. -/
theorem execThresholdConfirmed_eq (c : Fin 24) (high : Bool) (s : State) :
    execThresholdConfirmed c high s = s.lift fun d => if d.nfilt ≤ d.limitRounds c high then d.limitShown c high else d := by
  cases high <;> rfl

theorem exec_thresholdConfirmed {s : State} {c : Fin 24} (high : Bool) (h : s.dev.nfilt ≤ s.dev.limitRounds c high) :
    Completes (.thresholdConfirmed c high) s (s.dev.limitShown c high) := by
  show execThresholdConfirmed c high s = _
  rw [execThresholdConfirmed_eq, State.lift_eq, if_pos h]

theorem exec_thresholdConfirmed_early {s : State} {c : Fin 24} (high : Bool) (h : s.dev.limitRounds c high < s.dev.nfilt) :
    Completes (.thresholdConfirmed c high) s s.dev := by
  show execThresholdConfirmed c high s = _
  rw [execThresholdConfirmed_eq, State.lift_eq, if_neg (Nat.not_le.mpr h)]

/-! ### Warnings and stops (R301, Table 10-4) -/

/-- The rounds that a condition needs: `NFILT`, and 10 for the controller die. -/
def Dev.condNeeded (d : Dev) : ThermCond → Nat
  | .dieStop => 10
  | _ => d.nfilt

/-- The rounds running in which a condition has held. -/
def Dev.condRounds (d : Dev) : ThermCond → Nat
  | .tjWarn n => vget d.vol.th.tjWarnN n
  | .islWarn n => vget d.vol.th.islWarnN n
  | .tjStop n => vget d.vol.th.tjStopN n
  | .islStop n => vget d.vol.th.islStopN n
  | .dieStop => d.vol.th.dieN

/-- A confirmed condition: its flag, and its line for the bridge of its channel or for the module. -/
def Dev.condShown (d : Dev) : ThermCond → Dev
  | .tjWarn n | .islWarn n => (d.set TH.STAT_WARN 1).assertLine 42 (Dev.chanMask n)
  | .tjStop n => (d.set TH.STAT_TJSTOP 1).assertLine 43 (Dev.chanMask n)
  | .islStop n => (d.set TH.STAT_ISLSTOP 1).assertLine 43 (Dev.chanMask n)
  | .dieStop => (d.set TH.STAT_DIESTOP 1).assertLine 43 0

/-- Every condition is confirmed alike: it takes effect once it has held for the rounds that it needs. -/
theorem execThermalConditionConfirmed_eq (k : ThermCond) (s : State) :
    execThermalConditionConfirmed k s = s.lift fun d => if d.condNeeded k ≤ d.condRounds k then d.condShown k else d := by
  cases k <;> rfl

theorem exec_thermalConditionConfirmed {s : State} (k : ThermCond) (h : s.dev.condNeeded k ≤ s.dev.condRounds k) :
    Completes (.thermalConditionConfirmed k) s (s.dev.condShown k) := by
  show execThermalConditionConfirmed k s = _
  rw [execThermalConditionConfirmed_eq, State.lift_eq, if_pos h]

theorem exec_thermalConditionConfirmed_early {s : State} (k : ThermCond) (h : s.dev.condRounds k < s.dev.condNeeded k) :
    Completes (.thermalConditionConfirmed k) s s.dev := by
  show execThermalConditionConfirmed k s = _
  rw [execThermalConditionConfirmed_eq, State.lift_eq, if_neg (Nat.not_le.mpr h)]

/-! ### Stale values (R292) -/

/-- A field copied as a two's-complement number into one of its width keeps its bits (R15). -/
theorem ofSigned_toSigned (w v : Nat) : ofSigned w (toSigned w v) = v % 2 ^ w := by
  have hself : ((v % 2 ^ w : Nat) : Int) % ((2 ^ w : Nat) : Int) = ((v % 2 ^ w : Nat) : Int) := by
    rw [← Int.natCast_emod, Nat.mod_mod]
  unfold ofSigned toSigned
  split
  · rw [hself, Int.toNat_natCast]
  · rw [Int.sub_emod_right, hself, Int.toNat_natCast]

/-- A field set to the number in another of its width reads as that field's low bits. -/
theorem Dev.get_sset_sget (d e : Dev) {f g : Fld} (hw : g.width = f.width) : (d.sset f (e.sget g)).get f = e.get g % 2 ^ f.width := by
  rw [Dev.sset, Dev.sget, hw, ofSigned_toSigned, Dev.get_set_same, Nat.mod_mod]

/-- The fields of the loop-5 allowance of bridge b. -/
def loop5Flds (b : Bridge) : List Fld := [CE.LPARP_LPARP b 5, CE.LPARN_LPARN b 5]

theorem loop5_key_ne :
    (∀ b : Bridge, (CE.LPARP_LPARP b 5).key ≠ (CE.LPARN_LPARN b 5).key) ∧
    (∀ f ∈ loop5Flds 0, ∀ g ∈ loop5Flds 1, f.key ≠ g.key) ∧ (∀ b : Bridge, ∀ f ∈ loop5Flds b, f.key ≠ TH.STAT_STALE.key) := by
  decide +kernel

theorem Dev.setLoop5_sameBut (d : Dev) (b : Bridge) (x : Int) : d.sameBut (d.setLoop5 b x) (loop5Flds b) :=
  ((Dev.sameBut.refl d _).set (by simp [loop5Flds]) _).set (by simp [loop5Flds]) _

/-- Loop 5 takes the value of a 32-bit register in both directions. -/
theorem Dev.get_setLoop5 (d e : Dev) (b : Bridge) {g : Fld} (hw : g.width = 32) :
    ∀ f ∈ loop5Flds b, (d.setLoop5 b (e.sget g)).get f = e.get g % 2 ^ 32 := by
  intro f hf
  obtain rfl | rfl : f = CE.LPARP_LPARP b 5 ∨ f = CE.LPARN_LPARN b 5 := by simpa [loop5Flds] using hf
  · rw [Dev.setLoop5, Dev.sset, Dev.get_set_ne _ _ _ _ (loop5_key_ne.1 b)]
    exact d.get_sset_sget e hw
  · exact (d.sset _ _).get_sset_sget e hw

/-- Loop 5 of both bridges at `DMIN`. -/
def Dev.loop5Least (d : Dev) : Dev := (d.setLoop5 0 (d.sget (TH.DERMIN_DMIN 0))).setLoop5 1 (d.sget (TH.DERMIN_DMIN 1))

theorem Dev.get_loop5Least (d : Dev) : ∀ b : Bridge, ∀ f ∈ loop5Flds b, d.loop5Least.get f = d.get (TH.DERMIN_DMIN b) % 2 ^ 32 :=
  Fin.forall_fin_two.mpr
    ⟨fun f hf => (Dev.setLoop5_sameBut _ 1 _ f (loop5_key_ne.2.1 f hf)).trans (d.get_setLoop5 d 0 rfl f hf),
      Dev.get_setLoop5 _ d 1 rfl⟩

theorem Dev.loop5Least_sameBut (d : Dev) : d.sameBut d.loop5Least (loop5Flds 0 ++ loop5Flds 1) :=
  ((d.setLoop5_sameBut 0 _).mono (List.subset_append_left _ _)).trans ((Dev.setLoop5_sameBut _ 1 _).mono (List.subset_append_right _ _))

/-- Stale values: loop 5 of both bridges at `DMIN`, `STALE` and its line. -/
def Dev.hkStale (d : Dev) : Dev := (d.loop5Least.set TH.STAT_STALE 1).assertLine 41 0

theorem Dev.get_hkStale_loop5 (d : Dev) (b : Bridge) : ∀ f ∈ loop5Flds b, d.hkStale.get f = d.get (TH.DERMIN_DMIN b) % 2 ^ 32 := fun f hf => by
  rw [Dev.hkStale, Dev.assertLine_get, Dev.get_set_ne _ _ _ _ (loop5_key_ne.2.2 b f hf), d.get_loop5Least b f hf]

theorem Dev.get_hkStale_stale (d : Dev) : d.hkStale.get TH.STAT_STALE = 1 :=
  (Dev.assertLine_get _ _ _ _).trans (Dev.get_set_one _ rfl)

theorem Dev.hkStale_sameBut (d : Dev) : d.sameBut d.hkStale (loop5Flds 0 ++ loop5Flds 1 ++ [TH.STAT_STALE]) := fun f hf =>
  (Dev.assertLine_get _ _ _ _).trans (((d.loop5Least_sameBut.mono (List.subset_append_left _ _)).set (by simp) 1) f hf)

theorem exec_housekeepingStale {s : State} (hworks : s.dev.works 4 3 = true) (hact : s.dev.anyBridgeActive = true) :
    Completes .housekeepingStale s s.dev.hkStale := by
  show execHousekeepingStale s = _
  simp only [execHousekeepingStale, State.lift, hworks, hact, Bool.and_self, if_true, Dev.hkStale, Dev.loop5Least]

theorem exec_housekeepingStale_none {s : State} (h : s.dev.works 4 3 = false ∨ s.dev.anyBridgeActive = false) :
    Completes .housekeepingStale s s.dev := by
  show execHousekeepingStale s = _
  obtain h | h := h <;> simp [execHousekeepingStale, State.lift, h]

/-! ### An island over its temperature (R302) -/

/-- The island acts on its own: its switch off, its die latch set, and the cause queued for its report. -/
def Dev.islandHot (d : Dev) (n : Chan) : Dev :=
  d.modGate n fun g => { g with sw := 0, dieLatch := true, faultQ := g.faultQ ++ [5] }.applyProt

theorem exec_islandOvertemperature {s : State} {n : Chan} (hworks : s.dev.glWorks = true) (hst : s.dev.get (GL.CHSTAT_ST n) ≠ 7) :
    Completes (.islandOvertemperature n) s (((s.dev.islandHot n).assertLine 44 (Dev.chanMask n)).chanTo n 7) := by
  show execIslandOvertemperature n s = _
  simp [execIslandOvertemperature, State.lift, hworks, hst, Dev.toOtlatch, Dev.islandHot]

theorem exec_islandOvertemperature_unseen {s : State} {n : Chan} (h : s.dev.glWorks = false ∨ s.dev.get (GL.CHSTAT_ST n) = 7) :
    Completes (.islandOvertemperature n) s (s.dev.islandHot n) := by
  show execIslandOvertemperature n s = _
  obtain h | h := h <;> simp [execIslandOvertemperature, State.lift, h, Dev.islandHot]

end Sys2Proof.Machine

open Sys2Proof Sys2Proof.Machine

/-- Settles O37: every threshold and every condition takes effect at its count of rounds and before it does nothing; stale values are read off
`Dev.hkStale`; an island's own turn-off is followed by OTLATCH where the gate link sees it. -/
theorem thermalConditions : Obligations.ThermalConditions :=
  ⟨fun s c => ⟨exec_thresholdConfirmed true, exec_thresholdConfirmed_early true, exec_thresholdConfirmed false, exec_thresholdConfirmed_early false⟩,
    fun s n => ⟨exec_thermalConditionConfirmed (.tjWarn n), exec_thermalConditionConfirmed (.islWarn n), exec_thermalConditionConfirmed (.tjStop n),
      exec_thermalConditionConfirmed (.islStop n), exec_thermalConditionConfirmed_early (.tjWarn n), exec_thermalConditionConfirmed_early (.islWarn n),
      exec_thermalConditionConfirmed_early (.tjStop n), exec_thermalConditionConfirmed_early (.islStop n), exec_thermalConditionConfirmed .dieStop,
      exec_thermalConditionConfirmed_early .dieStop⟩,
    fun s hworks hact => ⟨_, exec_housekeepingStale hworks hact,
      fun b => ⟨s.dev.get_hkStale_loop5 b _ (by simp [loop5Flds]), s.dev.get_hkStale_loop5 b _ (by simp [loop5Flds])⟩,
      s.dev.get_hkStale_stale, Dev.mem_raised_assertLine _ _ _, rfl, s.dev.hkStale_sameBut⟩,
    fun s => exec_housekeepingStale_none,
    fun s n => ⟨exec_islandOvertemperature, exec_islandOvertemperature_unseen⟩⟩

end
